-- ==== Sys2Proof/Word.lean ====
section
/-! DEFINITION. The word and byte types of the QPS-4880 block, the seven quality tags of an image word (R19) and the
two enumerations every chapter names: access codes (R55) and roles of a session (R56). -/

namespace Sys2Proof

/-- R12: a word is 32 bits. -/
abbrev Word := BitVec 32

/-- One byte. -/
abbrev Byte := BitVec 8

/-- R19: the quality tags of an image word. The reserved codes have no constructor, so the module cannot write one
(R20). -/
inductive Tag where
  | good | held | subst | degraded | limited | init | bad
deriving DecidableEq, Repr

/-- R55: the access code of a register. -/
inductive Access where
  | ro | rw | w1c | wo | rwh | rwk | shd
deriving DecidableEq, Repr

/-- R69: the retention class of a register. -/
inductive Kept where
  | sealed | sheaf | overlay | live | local | keep | nv
deriving DecidableEq, Repr

/-- R56: the role of a session. -/
inductive Role where
  | view | operate | engineer | custodian
deriving DecidableEq, Repr

end Sys2Proof
end

