-- ==== Sys2Proof/Machine/Table.lean ====
section
/-! DEFINITION. Sparse tables in one canonical form: a list of (key, value) pairs with strictly rising keys and no entry
equal to what an unlisted key reads as. Registers, image words and every indexed piece of state are held so. -/

namespace Sys2Proof

/-- A sparse table: keys strictly rising, no entry at its default. -/
abbrev Tab (α : Type) := List (Nat × α)

namespace Machine

/-- The value at `k`; an unlisted key reads as `d k`. -/
def tabGet {α : Type} (d : Nat → α) : Tab α → Nat → α
  | [], k => d k
  | (j, v) :: t, k => if j = k then v else if k < j then d k else tabGet d t k

/-- Write `v` at `k`: the entry is removed when `v` is what the unlisted key reads as. -/
def tabSet {α : Type} [DecidableEq α] (d : Nat → α) : Tab α → Nat → α → Tab α
  | [], k, v => if v = d k then [] else [(k, v)]
  | (j, w) :: t, k, v =>
    if j = k then (if v = d k then t else (k, v) :: t)
    else if k < j then (if v = d k then (j, w) :: t else (k, v) :: (j, w) :: t)
    else (j, w) :: tabSet d t k v

/-- Every key of the table is above `b`. -/
def tabAbove {α : Type} (b : Nat) : Tab α → Bool
  | [] => true
  | (j, _) :: _ => decide (b < j)

/-- The canonical form of a sparse table. -/
def tabWf {α : Type} [DecidableEq α] (d : Nat → α) : Tab α → Bool
  | [] => true
  | (j, v) :: t => decide (v ≠ d j) && tabAbove j t && tabWf d t

/-- Keep only the entries whose key satisfies `p`. -/
def tabKeep {α : Type} (p : Nat → Bool) (t : Tab α) : Tab α := t.filter (fun e => p e.1)

end Machine
end Sys2Proof
end

