-- ==== Sys2Proof/Machine/Blocks.lean ====
section
/-! DEFINITION. The state each block holds besides its page registers, as plain data: what the chapters name as running
queues, positions, latches, timers and stored copies. Registers themselves stand in the register table of State. -/

namespace Sys2Proof.Machine

/-- R179: an image word, value and tag. -/
structure ICell where
  val : Word
  tag : Tag
deriving DecidableEq, Repr

/-- R134: a schedule entry, with the slot and position it is dispatched at (R165: 0-7 scheduled, 8 shaft or standstill). -/
structure Entry where
  opcode : Nat
  target : Nat
  arg0 : Nat
  arg1 : Nat
  arg2 : Nat
  arg3 : Nat
  slot : Nat
  pos : Nat
deriving DecidableEq, Repr

/-- An upset of the bits that one lane stores for a word of a physical bank (R188, R190): of one bit, or of two. -/
structure EccHit where
  lane : Nat
  bank : Nat
  word : Nat
  double : Bool
deriving DecidableEq, Repr

/-- What the converters of a universal channel took in one slot (R206, R246): the channel, the eight codes of the main converter,
24 bits signed, in the order of their clocks, the readback sample of the slot's first clock in base units (V or mA, binary64 bits),
whether the output stage was saturated throughout the slot and at any time in it (R257), and whether its secondary reached its
current limit in it (R258). -/
structure AchSample where
  ch : Nat
  codes : List Int := []
  rb : Nat := 0
  satAll : Bool := false
  satAny : Bool := false
  atLimit : Bool := false
deriving DecidableEq, Repr

/-- The supplies as measured: voltage in mV and current in mA of inputs A and B, the input power in mW, and the voltage of the
hold-up bank in mV (R616, R617). -/
structure PwrMeas where
  aMv : Nat
  aMa : Nat
  bMv : Nat
  bMa : Nat
  inMw : Nat
  bankMv : Nat
deriving DecidableEq, Repr

/-- The voltage in mV of a safety input at its terminal, and for how many µs it has stood there with the filter running (R445). -/
structure VoltRun where
  mv : Nat
  us : Nat
deriving DecidableEq, Repr

/-- What the converters measured in a slot, at the boundary that ends it: the codes of the nine grid inputs (R311), the samples of
the universal channels, and, where they were measured in it, the loop power in mW (R275) and the field supply in mV (R304). A
channel without samples took eight codes of 0 and a readback of 0 (log entry 88). -/
structure SlotIo where
  codes : List Int := []
  ach : List AchSample := []
  loopMw : Option Nat := none
  fieldMv : Option Nat := none
deriving DecidableEq, Repr

/-- What the front-end of a universal channel reads besides its windows, at a latch (R223-R228). -/
structure AchMeas where
  /-- cold-junction sensor in °C, binary64 bits, and a failure of its own check (R225) -/
  cj : Nat := 0
  cjFail : Bool := false
  /-- front-end temperature, binary32 bits -/
  feTemp : Nat := 0
  /-- lead resistance found with three wires, in Ω, binary64 bits (R227) -/
  lead : Nat := 0
  /-- the excitation cannot be maintained (R228) -/
  excLost : Bool := false
deriving DecidableEq, Repr

/-- What an entry takes from outside the digital part when it is dispatched: what its block measures or meets at that moment. -/
structure EntryIo where
  /-- the iterations that the job of an SLV_DEADLINE has completed (R405) -/
  iters : Nat := 0
  /-- what the front-end of the channel of an ACH_LATCH reads besides its window (R223-R228) -/
  meas : AchMeas := {}
deriving DecidableEq, Repr

/-- What an entry in progress does at one control clock (R166). -/
inductive Act where
  /-- write a destination word -/
  | put (w : Nat) (c : ICell)
  /-- write a destination word with its previous value (R169) and this tag; where `bad`, a BAD word stays BAD (R534) -/
  | keep (w : Nat) (t : Tag) (bad : Bool)
  /-- copy a source word to a destination word (R136) -/
  | copy (src dst : Nat)
  /-- read a source word for the engine (R397, R498) -/
  | fetch (w : Nat)
  /-- the input words of a solver job are gathered (R398), a collect begins (R412) -/
  | gathered
  | collect
  /-- the frame of an MBC_SEND enters its queue (R498) -/
  | send
  /-- step a loop (R344) -/
  | loop (k : Nat)
  /-- decide what a journal map record, or a marine field map, writes (R512, R542) -/
  | mapRec (k : Nat)
  | fieldMap (k : Nat)
  /-- do the next of what a loop step or a map record has decided -/
  | next
deriving DecidableEq, Repr

/-- An entry in progress (R166), numbered in the order of dispatch: the entry, the clock at which it ends, its destination words,
those not yet written, what it still does at which clock, what it has decided to write, the words it has read, and whether it
has been counted as late (R170). A producer entry is outstanding while it is in progress. -/
structure OutEntry where
  uid : Nat
  e : Entry
  last : Nat
  words : List Nat := []
  left : List Nat := []
  todo : List (Nat × Act) := []
  res : List Act := []
  got : List ICell := []
  late : Bool := false
  /-- its dispatch clock, boundary and generation of the slot in which it was dispatched (R347, R412, R498), and the loop tables
  that a later commit has replaced (R377) -/
  born : Nat := 0
  edge : Nat := 0
  gen : Nat := 0
  tab : Option (Tab (Option Word)) := none
deriving DecidableEq, Repr

/-- The sequencer (R165-R178). The lanes dispatch the same entries at the same clocks (R168), so their common position is kept once;
what one lane's own failure adds to its lag is kept by lane. -/
structure SeqSt where
  /-- 0 none, 1 bring-up schedule, 2 run schedule (SEQ.STAT.SCHED) -/
  sched : Nat := 0
  /-- boundaries of the timebase passed since that of the slot whose entries are dispatched (R174) -/
  behind : Nat := 0
  /-- scheduled entries of that slot taken, the clock from which its clocks count (R165, R176), and whether its shaft or standstill
  entry was dispatched (R105, R147) -/
  pos : Nat := 0
  slotClk : Nat := 0
  extraDone : Bool := false
  /-- the slot begins a minor cycle and its bank swap is still to come (R175, R183) -/
  swapDue : Bool := false
  /-- bank and schedule of the slots before the last change of schedule or of Sheaf, for a lane that is behind it (R161, R167) -/
  past : Option (Nat × Nat) := none
  /-- slot shown in POS (R196) -/
  shown : Nat := 0
  /-- entries in progress, in the order of dispatch, and the number of the next one (R166) -/
  outst : List OutEntry := []
  nextUid : Nat := 0
  /-- entries held back by R173, oldest first -/
  held : List (Entry × EntryIo) := []
  /-- what lanes A, B, C lag besides, in slots; of a stopped lane its whole lag (R174, R196) -/
  lags : List Nat := [0, 0, 0]
  /-- lanes stopped under R177 -/
  stopped : List Bool := [false, false, false]
  /-- dispatching ended: shutdown step 2, planned swap step 1 or STATION_LOST (R619, R602, R610) -/
  halted : Bool := false
  /-- next record of the standstill list running in this major cycle, none when it is not running (R147) -/
  standstill : Option Nat := none
  /-- clock at which CNT_LATE last rose -/
  lateClk : Option Nat := none
  /-- entries dispatched in the present slot, for threshold source 0x0C (R668) -/
  slotEntries : Nat := 0
deriving DecidableEq, Repr

/-- The station image (R179-R192): two banks, line pointers, dirty lines, copy set. -/
structure ImgSt where
  /-- words of both banks, key bank × 262,144 + word index; unlisted: 0 INIT (R180) -/
  words : Tab ICell := []
  /-- bank of a line's completed copy, true for bank 1 -/
  ptr : Tab Bool := []
  /-- lines written in the generation being built (R181) -/
  dirty : Tab Bool := []
  /-- lines of the copy set of the readable generation (R184) -/
  copySet : List Nat := []
  /-- words that one lane stores otherwise than the others (R179, R190): key lane × 524,288 + bank × 262,144 + word -/
  laneDiff : Tab (Option ICell) := []
  /-- what the check bits of a stored word show at its next read (R179, R188, R190, log entry 99), same key: 0 nothing, 1 a
  single-bit error, 2 a double-bit error -/
  upsets : Tab Nat := []
  /-- CNT_ECC_CORR, CNT_ECC_DOUBLE and LAST_ECC of lanes A, B and C (R168, R198) -/
  ecc : Tab (Nat × Nat × Nat) := []
  /-- the generation being built (R175) -/
  gen : Nat := 0
  /-- position in the scrub pass, 0-32,767 (R189) -/
  scrub : Nat := 0
deriving DecidableEq, Repr

/-- The timebase (R81-R114). -/
structure TbuSt where
  running : Bool := false
  /-- slot number 0-4095 (R82) -/
  slot : Nat := 0
  /-- generation counter (R97) -/
  gen : Nat := 0
  /-- control clock at which the present slot began -/
  edge : Nat := 0
  /-- slot length L in units of 2^-16 control clock (R84) -/
  len : Nat := 0
  /-- fraction carried into the next slot, units of 2^-16 clock (R84) -/
  frac : Nat := 0
  /-- frequency in force, binary64 bits (R83) -/
  freq : Nat := 0
  /-- phase error e in 1/256 slot (R88) -/
  err : Int := 0
  /-- stretch s in units of 2^-18 (R89) -/
  stretch : Int := 0
  /-- clock of the last minor-cycle boundary -/
  minorClk : Nat := 0
  /-- rate of ship time, in 2^-32 ns per control clock: 5 ns, or the disciplined rate that HOLDOVER holds (R112); the ship time at
  this rate, in 2^-32 ns, that the present minor cycle had counted at rateClk (R94) -/
  rate : Nat := 21474836480
  rated : Nat := 0
  rateClk : Nat := 0
  /-- clocks and 2^-32 ns of the minor cycle last measured (R94) -/
  ratio : Nat × Nat := (1, 21474836480)
  /-- frequency in force and clock at the last major-cycle boundary (ROCOF) -/
  majFreq : Nat := 0
  majClk : Nat := 0
  /-- shaft angle held at the last slot boundary, in counts from the index (R103); the shaft has moved in reverse since then -/
  angleOld : Nat := 0
  backed : Bool := false
  /-- angle in counts at the last tooth edge, and the clock of that edge -/
  angle : Nat := 0
  edgeClk : Nat := 0
  /-- last tooth interval in control clocks; 0 before two edges were seen (R102) -/
  interval : Nat := 0
  /-- clock from which the angle is interpolated: the last edge or index -/
  angleClk : Nat := 0
  /-- number of the last tooth since the index -/
  tooth : Nat := 0
  /-- edges since the last index (R106, R110) -/
  sinceIndex : Nat := 0
  /-- revolution number (R103) -/
  rev : Nat := 0
  /-- last movement was reverse -/
  reverse : Bool := false
  overspeed : Bool := false
  /-- shaft entries already executed or missed in this revolution (R103, R104) -/
  done : List Nat := []
  /-- queue of due shaft entries, record numbers, oldest first (R105) -/
  queue : List Nat := []
  /-- ship time at shipClk, in ns, and what remains to slew (R112) -/
  ship : Nat := 0
  shipClk : Nat := 0
  slew : Int := 0
  /-- clock of the last valid PTP offset, and the PTP time it gave; none before the first, and after a step -/
  ptpClk : Nat := 0
  ptpTime : Option Nat := none
  /-- the disciplined rate that the last valid offset gave (R112) -/
  ptpRate : Nat := 21474836480
  /-- the present boundary: grid values delivered, minor and major actions taken -/
  ticked : Bool := false
  minorDone : Bool := false
  majorDone : Bool := false
  /-- ship time at which the generation counter started from 0 (R528 EPOCH) -/
  epoch : Nat := 0
deriving DecidableEq, Repr

/-- A Granary snapshot source (R652): register byte address or image word. -/
inductive SnapRef where
  | reg (addr : Nat)
  | img (word : Nat)
deriving DecidableEq, Repr

/-- A Granary record (R648), with the clock of the last counted occurrence and the snapshot words still to be captured. -/
structure GRec where
  seq : Nat
  ship : Nat
  gen : Nat
  slot : Nat
  trig : Nat
  rep : Nat
  lastShip : Nat
  flags : Nat
  source : Nat
  ctx : Nat
  /-- snapshot words captured so far, with their tag codes -/
  snaps : List (Word × Nat)
  /-- clock of the last occurrence counted (R657) -/
  occClk : Nat
  /-- clock of the firing, and the order of R656 within it -/
  fireClk : Nat
  order : Nat
  /-- readable generation at the trigger (R655) -/
  readGen : Nat
  /-- snapshot words still to be captured, one per control clock -/
  todo : List SnapRef
deriving DecidableEq, Repr

/-- The Granary (R648-R663). -/
structure GrnSt where
  /-- committed records by ring slot, SEQ mod 65,536 (R650) -/
  ring : Tab (Option GRec) := []
  headSeq : Nat := 0
  oldestSeq : Nat := 1
  /-- capture queue, oldest first (R655) -/
  queue : List GRec := []
  /-- staging queue of a freeze, oldest first (R660) -/
  staging : List GRec := []
  /-- session slot that holds the freeze, and the clock it began -/
  freeze : Option Nat := none
  freezeClk : Nat := 0
  /-- CNT_RECORDS, CNT_COALESCED, CNT_DROPPED, CNT_STAGE_OVER and CNT_CLEARS (R664) -/
  records : Nat := 0
  coalesced : Nat := 0
  dropped : Nat := 0
  stageOver : Nat := 0
  clears : Nat := 0
  /-- records lost in this freeze (R661) -/
  stageLost : Nat := 0
  /-- a trigger was dropped since the last record was committed (R658) -/
  droppedBefore : Bool := false
  /-- in the condition of R658 -/
  dropping : Bool := false
  /-- a power-loss record was written: nothing more is recorded (R659) -/
  closed : Bool := false
  /-- previous result of image conditions (R653) -/
  condTrue : Tab Bool := []
  /-- reference value of COND 0x4 triggers (R653) -/
  condRef : Tab (Option Word) := []
deriving DecidableEq, Repr

/-- The performance counters (R666-R670). -/
structure PmcSt where
  /-- event counters 1-223 by index; counter 0 is the clock since reset release -/
  cnt : Tab Nat := []
  /-- threshold counters by index -/
  thr : Tab Nat := []
  /-- STICKY0-STICKY7 as one number: bit i of event counter i, bit 224 + k of threshold counter k (R667, R668) -/
  sticky : Nat := 0
  /-- a counter wrapped and WRAP is to be raised at this clock -/
  wrapped : Bool := false
  /-- journal entries written since JNL_HEAD of controller n was last read (threshold sources 0x05-0x08) -/
  jnlFill : Tab Nat := []
deriving DecidableEq, Repr

/-- A QAP session slot (R553-R571). -/
structure Session where
  /-- 0 free, 1 PROVING, 2 open -/
  state : Nat := 0
  role : Nat := 0
  /-- 0 P1, 1 P2, 2 SP -/
  port : Nat := 0
  udp : Nat := 0
  ip : Nat := 0
  nonceH : List Nat := []
  nonceM : List Nat := []
  /-- session key k_s -/
  key : List Nat := []
  /-- clock of the last accepted request, or of the OPEN while PROVING -/
  lastClk : Nat := 0
  /-- highest host SEQ accepted, and which of the 64 below it were seen (bit i: highest - 1 - i) (R557) -/
  seqIn : Nat := 0
  seen : Nat := 0
  /-- last module SEQ sent -/
  seqOut : Nat := 0
  /-- page mask (R565) -/
  mask : Nat := 0
  /-- the last answered request and its stored response (R558) -/
  lastReq : List Nat := []
  lastResp : List Nat := []
  /-- notifications sent in the present 100 ms window, and whether any was dropped since the last (R571) -/
  notes : Nat := 0
  lost : Bool := false
deriving DecidableEq, Repr

/-- The session block (R548-R576). -/
structure SesSt where
  slots : Tab Session := []
  gateOpen : Bool := false
  /-- clock at which the present window began (R559) -/
  winClk : Nat := 0
  /-- OPENs handled in the present window (R559), and whether BUSY was raised in it -/
  handled : Nat := 0
  busyRaised : Bool := false
  dropRaised : Bool := false
  /-- role keys by role code, 32 bytes each; none installed: empty -/
  roleKeys : Tab (List Nat) := []
  /-- Sheaf verification keys by slot -/
  sheafKeys : Tab (List Nat) := []
  /-- FACTORY and the 20-character installation code (R575) -/
  factory : Bool := true
  instCode : List Nat := []
  /-- clocks of the last BAD_PROOF answers per role (R561) -/
  fails : Tab (List Nat) := []
  /-- clock at which a role was locked -/
  locked : Tab (Option Nat) := []
  /-- staged key words, the session and SEQ of the request that wrote each word (R573) -/
  stage : Tab (Nat × Nat × Word) := []
  /-- SEQ of the request being applied, for KEY_STAGE writes -/
  curSeq : Nat := 0
  /-- notifications of the present control clock, by page: the event bits that rose in EVT_PEND (R571) -/
  noteBuf : Tab Nat := []
deriving DecidableEq, Repr

/-- The keep-alive domain (R625): the CRC stands beside the three values it covers. -/
structure KeepSt where
  cycles : Nat := 0
  shut : Nat := 0
  tamper : Bool := false
  crc : Nat := 0
deriving DecidableEq, Repr

/-- The power phases (R614-R623, R629). -/
inductive PwrPhase where
  /-- only the keep-alive domain runs -/
  | keepAlive
  /-- supply valid, reset held below the cold-start limit (R4) -/
  | coldHold
  /-- supply valid or reset ordered, reset not yet released -/
  | resetHeld
  /-- reset released -/
  | running
  /-- a power failure is ridden through (R618) -/
  | rideThrough
  /-- steps 1-5 of the shutdown phase (R619) -/
  | shutdown
  /-- after step 5: only the display and management domain runs -/
  | shed
deriving DecidableEq, Repr

/-- A reset order in progress: RST.CAUSE SOURCE and the UNPROTECTED and SWAPPED flags (R646). -/
structure ResetOrder where
  source : Nat
  unprotected : Bool
  swapped : Bool
deriving DecidableEq, Repr

/-- Power, start-up and reset (R614-R647). -/
structure PwrSt where
  phase : PwrPhase := .keepAlive
  keep : KeepSt := {}
  /-- control clock of supply valid at power-on, or of the reset order (R646) -/
  originClk : Nat := 0
  /-- clocks of reset release, of the start of bring-up service, of the power failure and of the shutdown phase -/
  relClk : Nat := 0
  bringClk : Nat := 0
  failClk : Nat := 0
  shutClk : Nat := 0
  /-- clock of step 5 of the shutdown phase -/
  shedClk : Nat := 0
  /-- byte addresses of the SEALED registers whose check failed at this start (R80) -/
  sealedBad : List Nat := []
  /-- the start in progress is a power-on; otherwise a module reset -/
  powerOn : Bool := true
  /-- RST.CAUSE SOURCE of the start in progress -/
  source : Nat := 1
  /-- flags of RST.CAUSE gathered before reset release -/
  coldHeld : Bool := false
  shutMissing : Bool := false
  unprotected : Bool := false
  swapped : Bool := false
  /-- a module reset is ordered (R636) -/
  order : Option ResetOrder := none
  /-- a power failure was detected and the supply has not become valid again (R721) -/
  failed : Bool := false
  /-- the supply became valid again during the shutdown phase (R622) -/
  supplyReturn : Bool := false
  /-- the lane self-test has ended (R629 step 3) -/
  selfTest : Bool := false
  /-- step 3 of the shutdown phase has ended -/
  copyDone : Bool := false
  /-- output stages and safety unit have let go after step 5 (R621) -/
  stagesFree : Bool := false
  /-- SLOT_ID2-0 as the base straps them (R722) -/
  slotPins : Nat := 7
  /-- clock of the qualified closing of the button -/
  pressClk : Option Nat := none
  /-- clock of the qualified opening of the button -/
  freeClk : Nat := 0
  /-- clock of the first release of an armed unprotected reset (R639) -/
  armClk : Nat := 0
  /-- clock at which the LEDs stop flashing; none when they do not flash (R77) -/
  identify : Option Nat := none
deriving DecidableEq, Repr

/-- The state of a token line (R582). -/
inductive Line where
  | absent | present | released
deriving DecidableEq, Repr

/-- Why a planned swap is requested (R602). -/
inductive SwapWhy where
  | swap | handback | safety | wedged | hold | reset | button
deriving DecidableEq, Repr

/-- A planned swap in progress (R602): its reason, and the step it has reached (0 requested, 1 boundary S passed). -/
structure SwapReq where
  why : SwapWhy
  stage : Nat
deriving DecidableEq, Repr

/-- Pair redundancy and voting (R579-R613). -/
structure RedSt where
  own : Line := .absent
  partner : Line := .absent
  /-- the token supervisor clamps the own line low (R583) -/
  clamped : Bool := false
  /-- a valid partner heartbeat arrived on the network, on the Sluice, since the last check (R587) -/
  hbNet : Bool := false
  hbSluice : Bool := false
  /-- a valid partner heartbeat arrived since the start of bring-up service (R581) -/
  heard : Bool := false
  /-- consecutive checks with the line ABSENT while MISS is 0, with the line present while MISS is 2 (R588) -/
  absentRun : Nat := 0
  silentRun : Nat := 0
  /-- consecutive checks missed on both paths, for the SYNCING row of R581 -/
  missRun : Nat := 0
  /-- serial number of the partner's last heartbeat -/
  serial : Option Nat := none
  /-- REASON of the partner's last heartbeat with RELEASED -/
  reason : Nat := 0
  swap : Option SwapReq := none
  /-- a HOLD order waits for the next minor-cycle boundary (R607) -/
  holdPending : Bool := false
  /-- generation of the last takeover by planned swap, and whether it was a hand-back (R604) -/
  planned : Option Nat := none
  byHandback : Bool := false
  /-- a copy was started in the present minor cycle (R594); a complete copy arrived in it -/
  copyStarted : Bool := false
  copyCame : Bool := false
  /-- next unit of the sweep (R605), and units of the present pass received since STALE arose -/
  sweepNext : Nat := 0
  sweepGot : Nat := 0
  passDone : Bool := false
  /-- FRAME_SEQ of the next frame (R591) -/
  frameSeq : Nat := 0
  /-- FINAL_OUTPUT record that came with the last complete copy: 32 DAC words, OUT_LO, OUT_HI (R600) -/
  final : Option (List Nat) := none
  /-- the own line does not read back as it is driven (R583) -/
  ownFault : Bool := false
  /-- clock at which the copy of a planned swap ends (R602) -/
  sendEnd : Nat := 0
  /-- the safety unit asked for SYNCING until power-on (R602) -/
  barred : Bool := false
  /-- the check of the present minor cycle has been made (R587) -/
  checked : Bool := false
deriving DecidableEq, Repr

/-- R287: what a dispatched DIO_DRIVE asks of an output for the next slot boundary: a level, or a pulse of n slots. -/
inductive DioCmd where
  | level (on : Bool)
  | pulse (n : Nat)
deriving DecidableEq, Repr

/-- The discrete channels (R277-R292); bit n of each number belongs to DIOnn. -/
structure DioSt where
  /-- raw input states (R279), and by channel the microseconds of samples for which the raw state has stood, up to 25,500 (R280) -/
  raw : Nat := 0
  rawUs : Tab Nat := []
  /-- qualified input states, and as they stood at the present slot boundary (R280, R281) -/
  qual : Nat := 0
  qualAtSlot : Nat := 0
  /-- states the outputs are commanded to, in force since the last boundary -/
  cmd : Nat := 0
  /-- outputs switched off by R284 -/
  prot : Nat := 0
  /-- changes for the next slot boundary (R286) -/
  next : Tab (Option DioCmd) := []
  /-- slots left of a running pulse; 0: its end is due (R287) -/
  pulse : Tab (Option Nat) := []
  /-- line conditions that have held for their time (R282): bit 4n OPEN, 4n+1 SHORT, 4n+2 OVERLOAD, 4n+3 EXT_FEED -/
  conds : Nat := 0
  /-- failed test pulses in a row, passed ones in a row, up to 2, by channel (R283) -/
  testFail : Tab Nat := []
  testPass : Tab Nat := []
  /-- clock at which the test pulse of a channel began whose end is still to come (R283) -/
  testClk : Tab (Option Nat) := []
  /-- state that last switched an output off: 0 none, 1 SHORT, 2 OVERLOAD; the clock at which it did, and that of the last retry
  (R284) -/
  offState : Tab Nat := []
  offClk : Tab Nat := []
  retryClk : Tab Nat := []
  /-- in the condition of R289 -/
  cmdFault : Bool := false
  /-- the discrete stages drive the terminals (R584, R600) -/
  connected : Bool := false
deriving DecidableEq, Repr

/-- One pulse input (R293-R302). -/
structure PiuIn where
  count : Nat := 0
  /-- tooth number since the index, revolution, and the index state -/
  tooth : Nat := 0
  rev : Nat := 0
  indexed : Bool := false
  reverse : Bool := false
  stalled : Bool := false
  lineFault : Bool := false
  /-- OVERFREQ shown, and an edge rate above 55 kHz seen in the present major cycle -/
  overfreq : Bool := false
  overNow : Bool := false
  /-- clock of the last edge, and the last tooth interval in clocks (0: none yet) -/
  lastClk : Option Nat := none
  interval : Nat := 0
  /-- since the last PIU_LATCH: edges, clock of the first, a rate above 55 kHz seen, a line fault seen -/
  edges : Nat := 0
  firstClk : Nat := 0
  overLatch : Bool := false
  faultLatch : Bool := false
  /-- frequency of the last latch, binary64 bits -/
  fPrev : Nat := 0
  /-- count and angle word at the present slot boundary (R297) -/
  countAtSlot : Nat := 0
  angleAtSlot : Nat := 0
deriving DecidableEq, Repr

/-- The grid measurement (R309-R325); phasors and frequencies as binary64 bits. -/
structure GmuSt where
  /-- the last 257 samples, newest first: the clock, and nine codes (VA, VB, IA, L1-L3 each) (R311) -/
  hist : List (Nat × List Int) := []
  /-- fundamental RMS and angle of the nine inputs at the last minor-cycle boundary (R313) -/
  inputs : List (Nat × Nat) := []
  /-- of VA and of VB: the angle of the reference phase in the middle of that boundary's window, the clock of the middle, and the
  frequency found -/
  fit : List (Nat × Nat × Nat) := []
  /-- values delivered at the last minor-cycle boundary (R313, R314): reference angles, frequencies, fundamental RMS -/
  phiA : Nat := 0
  phiB : Nat := 0
  freqA : Nat := 0
  freqB : Nat := 0
  uA : Nat := 0
  uB : Nat := 0
  /-- f_B - f_A at the last boundary and at the one before -/
  slip : Nat := 0
  slipPrev : Nat := 0
  /-- length of the minor cycle just ended, in control clocks -/
  minorLen : Nat := 0
  /-- boundaries in a row, up to 8: timebase LOCKED; reference of VA, of VB at 5 % of nominal or more -/
  lockRun : Nat := 0
  refRunA : Nat := 0
  refRunB : Nat := 0
  /-- passing checks that a converter still needs in a row for its fault to end, by input (R324) -/
  passNeed : Tab Nat := []
  /-- generation of minor cycle 0 of the present major cycle -/
  genStart : Nat := 0
  /-- the result set of the last completed major cycle: 496 words in group order (R315, R319) -/
  result : Tab ICell := []
deriving DecidableEq, Repr

/-- The synchroniser (R325-R338). -/
structure SynSt where
  /-- the six configuration words latched at arming (R327) -/
  cfg : List Nat := []
  /-- minor-cycle boundaries since arming, and the clock of arming -/
  settle : Nat := 0
  armClk : Nat := 0
  /-- slots since the last SYN_ARM of the armed set -/
  idleSlots : Nat := 0
  /-- block word and mode of each set's last decision -/
  block : Tab Nat := []
  mode : Tab Nat := []
  /-- a present request of set n was refused and counted (R326) -/
  refused : Nat := 0
  /-- clock since which a side reads below DEAD_LEVEL at every boundary: key 2 × set + side -/
  deadSince : Tab (Option Nat) := []
  /-- the issue whose feedback is timed: set, its feedback channel and TCB, and the clock of the issue -/
  timing : Option (Nat × Nat × Nat × Nat) := none
deriving DecidableEq, Repr

/-- A conversion window (R207): slots since it opened, the sums of its main codes and of its readback samples, its declared length,
the timebase LOCKED throughout, a clamped command in force (0 none, 1 above, 2 below), opened in the listening state, and to be
discarded at its latch (R238). -/
structure AchWin where
  slots : Nat := 0
  sum : Int := 0
  rbSum : Rat := 0
  decl : Nat := 0
  coherent : Bool := true
  clamp : Nat := 0
  listen : Bool := false
  void : Bool := false
deriving DecidableEq, Repr

/-- A universal channel (R200-R273), besides its registers. -/
structure AchCh where
  win : Option AchWin := none
  /-- the window that an ACH_START of the present slot found open, until that slot's ACH_LATCH (R208) -/
  prev : Option AchWin := none
  /-- last bring-up conversion: mean in base units (mV in TC, Ω in RTD) as binary64 bits, and the front-end with it (R236); whether
  a latch has counted it -/
  conv : Option (Nat × AchMeas) := none
  convSeen : Bool := false
  /-- gain and offset of the last calibration that passed, binary64 bits; none is factory calibration (R235-R238) -/
  cal : Option (Nat × Nat) := none
  /-- the calibration that runs is the one of the start (R237, R255) -/
  startCal : Bool := false
  /-- tag of the last latched result -/
  tag : Tag := .init
  /-- DAC code in force, and the code for the next slot boundary (R219) -/
  code : Nat := 0
  next : Option Nat := none
  /-- clock of the last code change; the readback samples of the comparison interval so far, their sum, and saturation of the stage
  throughout it and at any time in it (R248, R257) -/
  codeClk : Option Nat := none
  rbCount : Nat := 0
  rbSum : Rat := 0
  satAll : Bool := true
  satAny : Bool := false
  /-- command value of the ACH_START in force, in engineering units, with its tag; whether it was clamped (0, 1, 2) -/
  cmd : ICell := ⟨0, .init⟩
  clamp : Nat := 0
  /-- clock at which COMPLIANCE was set; comparisons in a row that count towards its clearing (R262, R263) -/
  complClk : Nat := 0
  clearRun : Nat := 0
  /-- RESTORE was written and waits for the next minor-cycle boundary (R254) -/
  restore : Bool := false
  /-- the output stage is connected to its terminals (R600) -/
  connected : Bool := false
  /-- the secondary has failed (R259); clock of its last switch-off; it has been switched off since it last ran below its limit for
  1 s, and since which clock it runs below it (R258) -/
  railFail : Bool := false
  offClk : Nat := 0
  overloadSeen : Bool := false
  restClk : Option Nat := none
  /-- the characters of the HART frame being sent, and the clock of the first (R266, R270) -/
  hartOut : List Nat := []
  hartClk : Nat := 0
deriving DecidableEq, Repr

/-- What a loop keeps between its steps (R355-R373); numbers as binary32 bits. -/
structure LoopSt where
  first : Bool := true
  /-- the next step is the first after a takeover (R347) -/
  resumed : Bool := false
  status : Nat := 0
  r : Nat := 0
  yf : Nat := 0
  e : Nat := 0
  ed : Nat := 0
  i : Nat := 0
  d : Nat := 0
  ff : Nat := 0
  fl : Nat := 0
  v : Nat := 0
  u : Nat := 0
  m : Nat := 0
  h : Nat := 0
  region : Nat := 0
  /-- gain set of the last step that was not held -/
  gset : Nat := 0
  /-- effective mode of the last step: 0 MANUAL, 1 AUTO, 2 HOLD -/
  mode : Nat := 0
  schedBad : Bool := false
  /-- gain sets that a page commit has changed since the last step, one bit each (R365) -/
  changed : Nat := 0
  osc : Bool := false
  /-- sign of the half-cycle (0 none, 1 positive, 2 negative), its peak, the ring of generations newest first, the count -/
  half : Nat := 0
  peak : Nat := 0
  ring : List Nat := []
  oscCount : Nat := 0
  /-- boundary of the slot whose CLE_RUN made the last step; generation and slot of that step -/
  edge : Nat := 0
  gen : Nat := 0
  slot : Nat := 0
deriving DecidableEq, Repr

/-- The control engine (R344-R385). -/
structure CleSt where
  loops : Tab LoopSt := []
  /-- states of loops that differ in one lane from the others' (R40, R190): key lane × 256 + loop -/
  laneLoops : Tab (Option LoopSt) := []
  /-- effective and shadow words that differ from the Sheaf's record, and from the effective table: key loop × 128 + word -/
  eff : Tab (Option Word) := []
  shd : Tab (Option Word) := []
  /-- a page commit is armed (R66) -/
  armed : Bool := false
  /-- clock at which the entry that runs ends; entries that wait are in progress and end at no clock yet (R345) -/
  busy : Nat := 0
deriving DecidableEq, Repr

/-- An iterate of a solver job, binary64 bits: results, equality and inequality multipliers, slacks (R401). -/
structure JobIter where
  x : List Nat := []
  lam : List Nat := []
  mu : List Nat := []
  slack : List Nat := []
deriving DecidableEq, Repr

/-- A job slot (R397-R415), besides SLOTj_STATE. -/
structure JobSlot where
  /-- descriptor, and the image words of its operands as gathered (R397) -/
  desc : Nat := 0
  got : List ICell := []
  /-- the gathering has ended, and the job may run -/
  ready : Bool := false
  startClk : Nat := 0
  endClk : Nat := 0
  /-- the last completed iterate (R405) -/
  iter : Option JobIter := none
  /-- the lane check is outstanding, or done with this residual, binary64 bits (R407) -/
  checkDue : Bool := false
  rho : Nat := 0
  /-- last iterate published GOOD or DEGRADED, for WARM (R401) -/
  warm : Option JobIter := none
  /-- a solver result or a fallback has been published since start or activation (R410) -/
  published : Bool := false
deriving DecidableEq, Repr

/-- The solver engine (R386-R416). -/
structure SlvSt where
  slots : Tab JobSlot := []
  running : Option Nat := none
  /-- queued jobs, in the order of their SLV_START entries (R400) -/
  queue : List Nat := []
  /-- clock from which the engine is free after an abandonment, and the clock of an abandonment that no later job has
  followed (R405) -/
  freeClk : Nat := 0
  abandonClk : Option Nat := none
deriving DecidableEq, Repr

/-- A safe brake (R464-R469). -/
structure Brake where
  /-- 0 APPLIED, 1 RELEASING, 2 RELEASED, 3 TEST_WAIT, 4 TESTING; LOCKED is `locked` while APPLIED -/
  state : Nat := 0
  locked : Bool := false
  due : Bool := false
  relFail : Bool := false
  appFail : Bool := false
  swFault : Bool := false
  btReq : Bool := false
  /-- LAST_RESULT, and the largest distance of the last test -/
  last : Nat := 0
  move : Nat := 0
  /-- the test was started by BT_START -/
  byStart : Bool := false
  /-- RELEASE_IN must be off and on again (R465, R467) -/
  needCycle : Bool := false
  /-- switch Y opens first at the next application (R464) -/
  yFirst : Bool := false
  /-- the checks of R465 after an application are still to come -/
  applying : Bool := false
  coilMa : Nat := 0
  /-- clocks until DUE, at the clock from which they count; none while they do not count -/
  left : Nat := 0
  since : Option Nat := none
  /-- clock of the last release or application, and of the present test step -/
  opClk : Nat := 0
  testClk : Nat := 0
  /-- edge count from the start position (R467) -/
  dist : Int := 0
deriving DecidableEq, Repr

/-- The safety unit (R440-R481); masks are one bit per input position, group, pair or output. -/
structure SafSt where
  /-- UNIT_STATE.STATE: 0 NO_CONFIG, 1 COLD, 2 LIVE, 3 FAULT_WAIT, 4 FAULT -/
  unit : Nat := 0
  chFault : Bool := false
  /-- self-test done, with the outputs whose switch test passed (R476) and the coils found wired (R737) -/
  tested : Bool := false
  swPass : Nat := 0
  wired : Nat := 0
  /-- a safety section is accepted; its digest -/
  accepted : Bool := false
  dig : List Nat := []
  /-- raw on, and the µs for which the raw level has stood (R445, R447); qualified on; clock since which an input is off; clock of the
  active edge of a press -/
  raw : Nat := 0
  rawUs : Tab Nat := []
  q : Nat := 0
  offClk : Tab Nat := []
  press : Tab (Option Nat) := []
  latch : Nat := 0
  passed : Nat := 0
  opened : Nat := 0
  disc : Nat := 0
  /-- pairs whose members have demanded together since their DISCREPANCY; clock since which a pair differs -/
  discSeen : Nat := 0
  pairSince : Tab (Option Nat) := []
  cross : Nat := 0
  /-- pulses of its own source that an input has followed in a row (R449) -/
  followed : Tab Nat := []
  /-- where in each 40 ms the pulse of ST0 starts, from which the pulses of all sources count, and the last switch test of an output
  (R449, R463); none before the first since the unit entered LIVE -/
  pulseClk : Option Nat := none
  soClk : Tab (Option Nat) := []
  stuck : Nat := 0
  outFault : Nat := 0
  /-- OUT_FAULT latches that came from overcurrent; terminals found above 12 V with both switches open -/
  overcur : Nat := 0
  term : Nat := 0
  brakes : Tab Brake := []
  /-- own store, the newest record first, at most two (R471); REC_SEQ; bytes 0x14-0x1D of the last record written -/
  store : List (List Nat) := []
  seq : Nat := 0
  lastKey : List Nat := []
  /-- the store is CURRENT; clocks of the last valid record, of the last periodic record and of FAULT_WAIT -/
  current : Bool := false
  recClk : Nat := 0
  perClk : Nat := 0
  faultClk : Nat := 0
  /-- safety-section keys by slot -/
  keys : Tab (List Nat) := []
deriving DecidableEq, Repr

/-- A CAN frame (R482): payload in bus order; `bits` is the length of its frame on the bus in bit times. -/
structure CanFrame where
  ide : Bool
  id : Nat
  rtr : Bool := false
  fd : Bool := false
  brs : Bool := false
  esi : Bool := false
  dlc : Nat := 0
  data : List Nat := []
  bits : Nat := 0
deriving DecidableEq, Repr

/-- A start of frame: its control clock and its angle stamp (R100, R493). -/
structure SofStamp where
  clk : Nat
  gen : Nat
  slot : Nat
deriving DecidableEq, Repr

/-- How an attempt ends (R503): acknowledge error with or without a dominant bit seen during the passive error flag (R504). -/
inductive TxEnd where
  | ok | arbLost | ack (quiet : Bool) | bit | stuff | form | aborted
deriving DecidableEq, Repr

/-- A queued instance of a transmit descriptor (R500): a number of its own, and the clock at which it is in the queue (R498). -/
structure TxInst where
  desc : Nat
  uid : Nat
  ready : Nat
  frame : CanFrame
deriving DecidableEq, Repr

/-- A message-bus controller (R482-R517), besides its counters. -/
structure MbcSt where
  /-- journal entries by ring index, eight words each (R491); an empty list was never written -/
  jnl : Tab (List Nat) := []
  tec : Nat := 0
  rxc : Nat := 0
  /-- 0 error-active, 1 error-passive, 2 bus-off -/
  err : Nat := 0
  recovering : Bool := false
  warning : Bool := false
  alone : Bool := false
  /-- mode in force, coded as CFG.MODE, and forced (R490) -/
  mode : Nat := 1
  forced : Bool := false
  /-- a mode change waits for the end of the attempt (R487) -/
  modeDue : Bool := false
  /-- a change of NBT or DBT waits for the end of the attempt (R516) -/
  timingDue : Bool := false
  queue : List TxInst := []
  /-- the instance being attempted, and its start of frame -/
  att : Option (TxInst × SofStamp) := none
  nextUid : Nat := 0
deriving DecidableEq, Repr

/-- A map record's latch and marks (R511, R512); used for MBC map records and MSL field maps. -/
structure MapSt where
  /-- payload of the latch, none while it is empty, and the stamp of its frame (R511) -/
  data : Option (List Nat) := none
  stamp : Option SofStamp := none
  /-- received after the record's last copy -/
  fresh : Bool := false
  /-- minor-cycle boundaries since the latch last received; 256: no frame since start -/
  age : Nat := 256
  /-- in the stale condition at the last copy -/
  stale : Bool := false
deriving DecidableEq, Repr

/-- A publication being copied into the transmit buffer (R526): its group and 802.1Q tag, the clock at which the copy ends, and
its datagrams. -/
structure PubJob where
  group : Nat
  vlan : Nat
  done : Nat
  grams : List (List Nat)
deriving DecidableEq, Repr

/-- A received instance of a segment (R531): EPOCH, GENERATION, LINE_COUNT and its lines of 72 bytes. -/
structure SubInst where
  epoch : Nat
  gen : Nat
  lines : Nat
  data : List (List Nat)
deriving DecidableEq, Repr

/-- A subscription record (R530-R534). -/
structure SubSt where
  /-- the instance being assembled, and its fragments by index -/
  asm : Option (Nat × Nat) := none
  frags : Tab (List (List Nat)) := []
  stored : Option SubInst := none
  /-- completed after the record's last NET_ACCEPT -/
  ready : Bool := false
  /-- EPOCH and GENERATION of the last accepted instance -/
  accepted : Option (Nat × Nat) := none
  age : Nat := 0
  /-- in the SUB_LEN and in the SUB_STALE condition -/
  lenBad : Bool := false
  staleBad : Bool := false
deriving DecidableEq, Repr

/-- The plant network (R518-R545). -/
structure NetSt where
  subs : Tab SubSt := []
  pubs : List PubJob := []
  /-- peer-log entries written -/
  logSeq : Nat := 0
  /-- clock of the last delay measurement of each port, and clock since which P1 delivers valid offsets (R525) -/
  delay : Tab (Option Nat) := []
  p1Since : Option Nat := none
  /-- multicast groups joined (R523) -/
  groups : List Nat := []
deriving DecidableEq, Repr

/-- A marine serial line (R537-R543): its journal, 32 words an entry. -/
structure MslSt where
  jnl : Tab (List Nat) := []
deriving DecidableEq, Repr

/-- A QAP request as it reaches the session gate (R550): the port it came in by (0 P1, 1 P2, 2 SP), the address and UDP port it
came from, the SESSION, SEQ and REQ_ID fields of its header, its body and its tag, and whether the datagram's length differs
from what BODY_LEN and the tag ask for. Its OP is that of its command. -/
structure QapMsg where
  port : Nat := 0
  ip : Nat := 0
  udp : Nat := 0
  slot : Nat := 0
  seq : Nat := 0
  req : Nat := 0
  body : List Nat := []
  tag : List Nat := []
  wrongLen : Bool := false
deriving DecidableEq, Repr

/-- A word of a WRITE or MODIFY request: its address, value and mask; the mask of a WRITE is all ones (R53). -/
structure ReqWord where
  a : Nat
  v : Nat
  m : Nat
deriving DecidableEq, Repr

/-- A word that fails a check of R60: its position in the request, the page that counts it (R61), and the cause. -/
structure WordFail where
  pos : Nat
  page : Nat
  cause : Nat
deriving DecidableEq, Repr

/-- A program slot (R675-R678), besides its registers. -/
structure ProgSt where
  /-- clocks of its stops under R677, newest first -/
  stops : List Nat := []
  /-- clock at which it is restarted (R677) -/
  restartAt : Option Nat := none
  /-- the image in use is newly named, and the clock of its first start, once it has started (R691) -/
  newImage : Bool := false
  fresh : Option Nat := none
  /-- datagrams that the NET block dropped and counted against it (R678) -/
  dropped : Nat := 0
deriving DecidableEq, Repr

/-- The management subsystem (R673-R681). -/
structure MgtSt where
  progs : Tab ProgSt := []
  /-- in the conditions of TEMP_HIGH, HUMIDITY_HIGH and VIBRATION_HIGH, one bit each -/
  cond : Nat := 0
  /-- clock since which the values of a condition are 5 % of the limit below it -/
  okSince : Tab (Option Nat) := []
deriving DecidableEq, Repr

/-- What one piece of the engine-state store holds (R595, R596): the store is laid out by the hardware, and the model numbers its
pieces itself. Clocks in it are clocks of the sending module. -/
inductive EngRec where
  /-- a register, with the live value of the pair it begins -/
  | reg (addr v pair : Nat)
  | tbu (t : TbuSt)
  /-- DAC code in force, RB_STAT, and the timers of COMPLIANCE -/
  | ach (n code rb complClk clearRun : Nat)
  /-- output states, and running pulses by channel -/
  | dio (cmd : Nat) (pulse : Tab (Option Nat))
  | piu (n count tooth rev : Nat) (indexed : Bool)
  | syn (y : SynSt)
  /-- a loop's state, and the words of its effective and shadow records that differ from the Sheaf -/
  | loop (k : Nat) (x : LoopSt) (eff shd : List (Nat × Word))
  | armed (b : Bool)
  | job (j : Nat) (warm : Option JobIter) (published : Bool)
  | queue (n : Nat) (q : List TxInst)
  | map (k age : Nat) (fresh stale : Bool)
  | mslMap (k age : Nat) (fresh stale : Bool)
  | sub (k age : Nat) (accepted : Option (Nat × Nat))
deriving DecidableEq, Repr

/-- The records of a Sluice frame (R591), as they stand in it. -/
inductive SluBody where
  | heartbeat (bytes : List Nat)
  /-- line index, and its 16 values with their tag codes -/
  | lines (l : List (Nat × List (Word × Nat)))
  /-- pieces of the engine-state store by number -/
  | engine (l : List (Nat × EngRec))
  /-- counts of line records, engine records and frames, SWEEP_NEXT, bytes 0-7 of the Sheaf digest; and the sender's control
  clock, from which the clocks of engine records are counted -/
  | commit (lines engines frames next : Nat) (dig : List Nat) (clk : Nat)
  | final (words : List Nat)
  | safety (bytes : List Nat)
  | nak (seq : Nat)
deriving DecidableEq, Repr

/-- A Sluice frame as it arrives: SWEEP flag, FRAME_SEQ, GENERATION, whether its CRC is correct, and its records. -/
structure SluFrame where
  sweep : Bool := false
  seq : Nat := 0
  gen : Nat := 0
  crcOk : Bool := true
  body : SluBody
deriving DecidableEq, Repr

/-- The Sluice (R590-R605). -/
structure SluSt where
  /-- the engine-state store as it stood at the last minor-cycle boundary, and the pieces that the minor cycle before it changed -/
  store : List EngRec := []
  changed : List (Nat × EngRec) := []
  /-- clock of the first frame of the copy being received -/
  startClk : Nat := 0
  /-- the copy being received: frames, lines, engine pieces, sweep records, FINAL_OUTPUT -/
  frames : Nat := 0
  lines : List (Nat × List (Word × Nat)) := []
  engines : List (Nat × EngRec) := []
  swept : Bool := false
  final : Option (List Nat) := none
  /-- FRAME_SEQ of frames answered by NAK, and whether a frame of this copy failed twice (R592, R593) -/
  nak : List Nat := []
  failed : Bool := false
  /-- bytes 0-7 of the partner's Sheaf digest as last heard (R586, R591) -/
  dig : List Nat := []
  /-- bank of the Sheaf that was in force before an activation in STANDBY or SYNCING whose effects wait for takeover (R692) -/
  due : Option Nat := none
deriving DecidableEq, Repr

/-- The update path (R684-R692), besides its registers. -/
structure UpdSt where
  /-- NEXT as it stood before this staging changed it -/
  oldNext : Option Nat := none
  /-- the target bank was erased or written by this staging -/
  wrote : Bool := false
  /-- generation of the last activation boundary, and the owner then (R689 TOO_LATE) -/
  actAt : Option (Nat × Nat) := none
deriving DecidableEq, Repr

/-- A running update of the panel (R706, R707): its region (4: the NO_SHEAF image), rectangle, frames left, and the levels it
brings, by pixel 240 y + x. -/
structure PanelUpd where
  region : Nat
  rect : Nat × Nat × Nat × Nat
  left : Nat
  target : List (Nat × Nat)
deriving DecidableEq, Repr

/-- The faceplate (R695-R713). -/
structure FpdSt where
  /-- FPD.LAST_FAULT: page × 256 + bit of the last event raised at severity fault -/
  lastFault : Nat := 0
  /-- clock of the last composition of the LCD by FPD_REFRESH or by the module -/
  lcdClk : Nat := 0
  /-- shown image and next image, levels 0-3 by pixel 240 y + x -/
  shown : Tab Nat := []
  next : Tab Nat := []
  /-- running updates, oldest first; requests by region: 1 starts at the next frame, 2 pending -/
  updates : List PanelUpd := []
  pend : Tab Nat := []
  /-- marker: 0 white, 1 clearing, 2 writing, 3 black; its frames left -/
  marker : Nat := 0
  markerLeft : Nat := 0
  /-- band of the last update start -/
  band : Nat := 0
  /-- power sequence: 0 off, 1-4 waiting for the logic, +22 V, -20 V and source rails, 5 full clear, 6 on with front-light -/
  rail : Nat := 0
  railFault : Bool := false
  /-- frames left of a full clear; a clear ordered by CTRL.CLEAR that waits for running updates, or is running -/
  clearing : Option Nat := none
  clearDue : Bool := false
  /-- system text that stands: 0 none, 1 unprotected reset, 2 shutdown -/
  sysText : Nat := 0
deriving DecidableEq, Repr

/-- What leaves the module, newest first in State: datagrams, frames and sentences as the bytes or fields their chapters
give. -/
inductive Out where
  /-- a UDP datagram of the named port (0 P1, 1 P2, 2 SP, 3 both plant ports) to an address and UDP port -/
  | udp (port ip dst : Nat) (bytes : List Nat)
  /-- a Sluice frame: TYPE, FLAGS, FRAME_SEQ, GENERATION and records, each a list of bytes (R591) -/
  | sluice (ty flags seq gen : Nat) (recs : List (List Nat))
  /-- an ENGINE frame: SWEEP flag, FRAME_SEQ, GENERATION and its pieces of the engine-state store -/
  | engine (sweep : Bool) (seq gen : Nat) (recs : List (Nat × EngRec))
  /-- HART characters sent on a channel -/
  | hart (ch : Nat) (bytes : List Nat)
  /-- a CAN frame sent by a controller: identifier word, flags and payload -/
  | can (n id flags : Nat) (bytes : List Nat)
  /-- an interrupt of the management processor by a page (R73) -/
  | mgtIrq (page : Nat)
  /-- a datagram handed to a program (R678) -/
  | prog (n ip port : Nat) (bytes : List Nat)
  /-- a publication datagram to a multicast group, with its IEEE 802.1Q tag (2^16 and priority and VLAN, 0 untagged) -/
  | pub (group vlan : Nat) (bytes : List Nat)
  /-- an IGMPv2 report (join) or leave of a multicast group on the plant ports (R523) -/
  | igmp (join : Bool) (group : Nat)
  /-- PRP (false) or HSR (true) supervision frames on both plant ports (R519) -/
  | supervision (hsr : Bool)
  /-- a frame shown on the segment LCD (R697) -/
  | lcd (bits : Nat)
deriving DecidableEq, Repr

end Sys2Proof.Machine
end

