-- ==== Sys2Proof/Syntax.lean ====
section
/-! DEFINITION. The commands of the block: one constructor per row of spec/opcode_table.json, in the table's order, with
the operands that reach the block from outside (measured values, received messages, entry arguments). -/

namespace Sys2Proof


open Machine in
/-- The commands (log entry 1). -/
inductive Instr where
  /-- R615. The combined input has stayed at or above 31.5 V for 1 ms, which starts power-on or ends a ride-through. -/
  | supplyValid (aMv bMv cellMv : Nat) (temp : Int)
  /-- R4. The lowest board temperature reaches the variant's cold-start limit and the held reset is released, recorded as a cold-hold cause. -/
  | coldHoldRelease (temp : Int)
  /-- R629. Reset is released: slot identity is read, the lane self-test and management processor start, and the START record is written. -/
  | resetRelease (pins : Fin 8) (closed : Bool) (bad : List Nat)
  /-- R629. The 150 ms lane self-test ends and Sheaf bank selection and checking begin. -/
  | laneSelfTestDone (pass : Fin 8)
  /-- R630. The module checks the Sheaf bank named for the next start, falls back to the other bank if it is rejected, and enters NO_SHEAF when both are rejected. -/
  | sheafBankCheck
  /-- R629. Bring-up service begins: section 12 and the overlay are applied, the timebase starts, the role is decided, outputs drive start values, and the panel powers on. -/
  | bringupStart (va : Bool) (p : Fin 1048576) (freq : Nat) (cap bankMv : Nat)
  /-- R581. A slot-B module that has heard no partner heartbeat for 40 ms from the start of bring-up service becomes SOLO and asserts its token. -/
  | slotBHeartbeatWaitEnd
  /-- R559. The session gate opens 475 ms after reset release and admission counting in 100 ms windows begins. -/
  | sessionGateOpen
  /-- R559. A new 100 ms admission window begins and the count of handled OPENs restarts. -/
  | admissionWindow
  /-- R632. At the first major-cycle boundary at which timebase, calibration and role conditions hold, the module enters full service. -/
  | fullService
  /-- R633. 2.0 s after bring-up service began with conditions still missing, the module enters full service at the next major-cycle boundary anyway. -/
  | startLate
  /-- R618. The combined input has stayed below 30.0 V for 50 us; the module raises POWER_FAIL and rides through on the hold-up bank. -/
  | powerFail
  /-- R619. The ride-through ends after 20 ms or at 0.6 J, and the shutdown phase begins with SERVICE set to 2. -/
  | shutdownStart
  /-- R619. At the first minor-cycle boundary of the shutdown phase the module stops dispatching and sends its final copy to a present partner. -/
  | shutdownBoundary
  /-- R619. After the final copy ends, the power-loss record and shutdown time are written, the token is clamped, and the ASIC and loop supply stop. -/
  | shutdownShed
  /-- R621. Output stages that still hold 10 ms after the shed without a partner token let go. -/
  | stageLetGoTimeout
  /-- R619. 1.5 s after the shed the display and management domain stops and only the keep-alive domain remains. -/
  | domainOff (aMv bMv cellMv : Nat) (temp : Int)
  /-- R616. An expected supply input has stayed below 33 V for 10 ms and SUPPLY_A_LOW or SUPPLY_B_LOW is raised. -/
  | supplyLow (b : Bool) (mv ma : Nat)
  /-- R616. An input has stayed above 80 V for 1 ms and SURGE is raised. -/
  | surge (b : Bool) (mv ma : Nat)
  /-- R645. INPUT_POWER has exceeded 72,000 mW for 1 s without interruption and POWER_HIGH is raised. -/
  | inputPowerHigh (mw : Nat)
  /-- R635. An internal rail has stayed outside its window for 10 us and a module reset is ordered. -/
  | brownOut
  /-- R636. A module reset is ordered: queues are committed, ship time is saved to keep-alive, and lanes, engines and the management processor restart after 1 ms. -/
  | moduleReset
  /-- R625. The cover switch opens and sets the keep-alive tamper latch. -/
  | tamper
  /-- R628. A CUSTODIAN write of PWR.KEEP_CTRL.TAMPER_CLR clears the tamper latch. -/
  | tamperClr (sess : Fin 17)
  /-- R638. A qualified reset-button press ends and acts by its length and the module's role. -/
  | buttonRelease
  /-- R637. The reset button has been held for 5.0 s (or reads closed at reset release), and STUCK is set and raised. -/
  | buttonStuck
  /-- R637. The button has stayed released for 1.0 s and STUCK clears. -/
  | buttonStuckClear
  /-- R639. Without a second press within 5.0 s the unprotected arming clears and the panel text is removed. -/
  | unprotArmExpire
  /-- R78. A write of SYS.CTRL.RESET with the key resets the module, after a role swap when a standby is available, or with UNPROTECTED in SOLO. -/
  | sysReset (sess : Fin 17) (key : Fin 65536) (unprotected : Bool)
  /-- R77. A write of SYS.CTRL.IDENTIFY flashes all four status LEDs at 2 Hz. -/
  | identify (sess : Fin 17)
  /-- R77. 10 s after IDENTIFY the LEDs return to their normal states. -/
  | identifyEnd
  /-- R82. The slot number advances by one at the end of each slot, which carries the slot-length fraction and compares the shaft angle. -/
  | slotBoundary (lagA lagB lagC : Nat) (hits : List EccHit) (io : SlotIo)
  /-- R89. At each minor-cycle boundary the TBU takes the delivered VA phase and frequency, computes the phase error and sets f and the stretch for the next minor cycle. -/
  | minorCycleBoundary (supply : Option PwrMeas)
  /-- R87. At each major-cycle boundary the TBU judges VA valid or invalid over the cycle just ended and takes the resulting timebase transition. -/
  | majorCycleBoundary (fails : Fin 512)
  /-- R95. A register write deferred to the next major-cycle boundary takes effect, such as NOM, SHAFT_CFG, MODE, FUNC, SUPPLY_EN, CFG or bit timing. -/
  | configTakeEffect
  /-- R66. A write of 1 to CTRL.COMMIT arms a page commit for the next major-cycle boundary. -/
  | pageCommitArm (sess : Fin 17)
  /-- R66. At the major-cycle boundary after arming, every SHD register of the page is copied from shadow to effective in one step. -/
  | pageCommitApply
  /-- R294. A tooth edge on a pulse input is filtered, stamped and counted, which updates COUNTn, ANGLEn, FREQn and SPEEDn and the TBU shaft angle. -/
  | toothEdge (n : Fin 4) (clk : Nat) (aLeads both : Bool)
  /-- R110. An index edge increments the revolution, re-arms shaft entries and checks the tooth count since the last index. -/
  | indexEdge (n : Fin 4) (clk : Nat) (aLeads : Bool)
  /-- R299. A used pair has shown less than 200 mV for 10 us, or a VR coil shows more than 50 kOhm, and LINE_FAULT is raised. -/
  | piLineFault (n : Fin 4) (stands : Bool)
  /-- R296. 10 s pass without an edge, so FREQn and SPEEDn read 0 and STALLED is set. -/
  | piStall (n : Fin 4)
  /-- R105. A queued shaft entry is dispatched at clock 10 of a slot that has no standstill entry. -/
  | shaftQueueDispatch (io : EntryIo)
  /-- R147. The standstill list dispatches one entry per slot from START_SLOT in each major cycle that begins in STANDSTILL or UNREFERENCED. -/
  | standstillListRun (io : EntryIo)
  /-- R525. A valid PTP offset arrives; ship time steps or slews and the port in use may change. -/
  | ptpSync (p : Fin 2) (off : Int) (slave : Bool)
  /-- R112. No valid PTP offset has arrived for HOLDOVER_AFTER seconds and ship time enters HOLDOVER. -/
  | shipHoldover
  /-- R183. At clock 0 of the minor-cycle boundary of each lane, outstanding words are tagged HELD, the dirty set goes to the Sluice, and the line pointers flip. -/
  | bankSwap
  /-- R177. A lane whose lag exceeds 64 slots stops dispatching; this is a lane fault. -/
  | laneStop (lane : Fin 3)
  /-- R173. An entry held back because 32 producer entries were outstanding is dispatched once one completes. -/
  | dispatchAfterWait
  /-- R136. The NOP entry does nothing and keeps its position in the slot. -/
  | nop (pos : Nat)
  /-- R207. ACH_START opens a conversion window on a channel and, in output modes, loads the DAC from its command word. -/
  | achStart (pos : Nat) (ch : Fin 32) (window cmd : Nat)
  /-- R207. ACH_LATCH closes the open window and writes the result and status words with their tags at clock 100. -/
  | achLatch (pos : Nat) (ch : Fin 32) (dst status : Nat) (meas : AchMeas)
  /-- R213. A window reaches 262,656 slots without a latch and is discarded. -/
  | windowOverrun (ch : Fin 32)
  /-- R236. During bring-up service the readback converter completes a 20 ms conversion on factory calibration. -/
  | bringupConversion (ch : Fin 32) (conv : Nat × AchMeas)
  /-- R233. The mis-wire condition has held for 1 ms; the channel switches off its stages and HART and tags results BAD. -/
  | miswire (ch : Fin 32)
  /-- R234. No mis-wire condition has been present for 1 s, so MISWIRE clears and the channel restores its function. -/
  | miswireClear (ch : Fin 32)
  /-- R238. A write of ACHn.CTRL.RECAL in HOLD starts a recalibration. -/
  | recal (sess : Fin 17) (ch : Fin 32)
  /-- R238. A start calibration or recalibration ends, passed or failed, and CAL_STATE and FACTORY_CAL follow the outcome. -/
  | calibrationEnd (ch : Fin 32) (cal : Option (Nat × Nat))
  /-- R263. COMPLIANCE has stood for COMPL_TIME seconds and FIELD_ALARM is raised. -/
  | fieldAlarm (ch : Fin 32)
  /-- R254. A write of OUT_RESTORE.RESTORE asks for the OUT_MISMATCH latch to be cleared. -/
  | outRestore (sess : Fin 17) (ch : Fin 32)
  /-- R254. At the next minor-cycle boundary the latch and its run are cleared, and the channel drives its command again. -/
  | mismatchClearApply (ch : Fin 32)
  /-- R258. A secondary has stayed at its current limit for LIMIT_TIME and is switched off. -/
  | loopOverload (ch : Fin 32)
  /-- R258. After RETRY seconds the switched-off secondary is switched on again. -/
  | overloadRetry (ch : Fin 32)
  /-- R259. An active secondary has lain outside 24.0-28.0 V for 10 ms and RAIL_FAIL is raised. -/
  | railFail (ch : Fin 32)
  /-- R259. The secondary has lain within 24.0-28.0 V for 100 ms and the failure ends. -/
  | railRecover (ch : Fin 32)
  /-- R276. LOAD_POWER has exceeded 20,500 mW for 1 s and POWER_HIGH is raised. -/
  | lspPowerHigh (mw : Nat)
  /-- R266. A write of HART_CTRL.SEND starts a HART transaction, or completes at once with RESULT EMPTY when the length is 0. -/
  | hartSend (sess : Fin 17) (ch : Fin 32)
  /-- R270. A write of HART_CTRL.ABORT ends the transaction with RESULT ABORTED. -/
  | hartAbort (sess : Fin 17) (ch : Fin 32)
  /-- R266. The line has been free of carrier for 33 or 41 characters and the modem starts sending. -/
  | hartBusFree (ch : Fin 32)
  /-- R266. The check byte has been sent and the modem waits for a response. -/
  | hartTxDone (ch : Fin 32)
  /-- R269. A HART frame ends; a correct frame is stored and RESULT is set. -/
  | hartFrameReceived (ch : Fin 32) (bytes : List Nat) (framing : Bool)
  /-- R267. No start character arrives within 28 characters and the transaction ends with NO_RESPONSE. -/
  | hartNoResponse (ch : Fin 32)
  /-- R269. A read of HART_RX_LEN clears RX_NEW and RX_BURST. -/
  | hartRxLenRead (ch : Fin 32)
  /-- R281. DIO_SAMPLE writes the qualified states of its masked inputs as two tagged words. -/
  | dioSample (pos mask0 mask1 dst : Nat)
  /-- R287. DIO_DRIVE sets masked outputs at level or starts pulses from its source words, or applies the fault action. -/
  | dioDrive (pos len mask0 mask1 src : Nat)
  /-- R280. A raw discrete input level has held for FILTER and the qualified state changes. -/
  | diQualify (ch : Fin 48) (mv : Int) (us : Nat)
  /-- R278. FS+ has stayed below 18.0 V for 1 ms and FS_LOW is set and raised. -/
  | fsLow (mv : Nat)
  /-- R278. FS+ has stayed at or above 19.0 V for 100 ms and FS_LOW clears. -/
  | fsLowClear (mv : Nat)
  /-- R283. The test supply of a monitored input is switched off for 150 us and the pulse passes or fails. -/
  | testPulse (ch : Fin 48) (mv : Int)
  /-- R282. A line-state condition has held or been absent for its time and the channel's line state changes. -/
  | lineStateChange (ch : Fin 48) (cond : Fin 4) (holds : Bool)
  /-- R284. An output in SHORT or OVERLOAD is switched off within 10 us. -/
  | outputShort (ch : Fin 48) (overload : Bool)
  /-- R284. After OUT_RETRY.SECONDS the output is switched on again if it is still commanded on. -/
  | outputRetry (ch : Fin 48)
  /-- R287. A discrete output pulse reaches its slot count and the output turns off. -/
  | pulseEnd (ch : Fin 48)
  /-- R297. PIU_LATCH writes count, frequency, speed and angle words for one pulse input. -/
  | piuLatch (pos input dst : Nat)
  /-- R319. GMU_SNAP writes the selected groups of major-cycle grid results with their tags. -/
  | gmuSnap (pos mask dst : Nat)
  /-- R326. SYN_ARM reads the close request of a breaker set, arms or withdraws it, and writes its status word. -/
  | synArm (pos set req status : Nat)
  /-- R328. The 10th minor-cycle boundary after arming moves the set from SETTLING to CHECKING. -/
  | synSettled
  /-- R334. At the boundary of the planned slot, the close pulse starts on the close channel. -/
  | closeIssued
  /-- R328. The close pulse ends and the set becomes CLOSED. -/
  | closeDone
  /-- R328. The arming timer expires and the set goes to FAILED. -/
  | synTimeout
  /-- R328. No SYN_ARM of the armed set has come for 4,096 slots and it goes to FAILED. -/
  | armStale
  /-- R328. A write of SYN.CTRL.DISARM sends the armed set to FAILED. -/
  | disarm (sess : Fin 17)
  /-- R336. The feedback input turns on after an issue; the closing time is recorded and checked against TCB. -/
  | synFeedback
  /-- R136. IMG_COPY copies values and tags from source words to destination words. -/
  | imgCopy (pos count src dst : Nat) (hits : List EccHit)
  /-- R344. CLE_RUN steps a run of loops in ascending order, 32 clocks each. -/
  | cleRun (pos first count : Nat)
  /-- R345. A CLE_RUN that had to wait starts on the clock after the earlier run ends. -/
  | cleRunDeferredStart
  /-- R373. A write of CLE.OSC_ACK clears OSC for a loop and ends its action. -/
  | oscAck (sess : Fin 17) (loop : Fin 256)
  /-- R397. SLV_START gathers the image operands of a descriptor and queues the job in its slot. -/
  | slvStart (pos slot d : Nat)
  /-- R400. A queued job starts running when the engine becomes free. -/
  | solverJobStart
  /-- R401. A running job ends by itself as CONVERGED, ITER_CAP, NUMERIC or EMPTY. -/
  | solverJobEnd (cycles : Nat) (upset : Option (List Nat))
  /-- R405. SLV_DEADLINE abandons a running or queued job of its slot. -/
  | slvDeadline (pos slot iters : Nat)
  /-- R407. Each lane's independent residual computation over the iterate completes. -/
  | laneCheckDone (slot : Fin 8) (clocks : Nat)
  /-- R409. SLV_COLLECT decides the outcome and publishes the iterate, holds it, or applies the fallback. -/
  | slvCollect (pos slot : Nat)
  /-- R405. The engine has not become free 1,024 solver cycles after an abandonment and is wedged. -/
  | wedged
  /-- R480. SAF_EXPORT copies eight safety-state words into the image. -/
  | safExport (pos dst : Nat)
  /-- R447. A safety input's qualified state changes after FILTER, and the trip matrix, latches, brakes and outputs are re-evaluated. -/
  | safetyInputChange (n : Fin 16) (run : VoltRun) (clk mid : Nat)
  /-- R448. The members of a pair have differed for longer than DISC_TIME and DISCREPANCY is latched. -/
  | discrepancy (k : Fin 8)
  /-- R449. A test source switches off for 300 us and its tested inputs are checked for cross-feed. -/
  | safetyTestSourcePulse (src : Fin 4) (on : Nat)
  /-- R460. A reset input is released after a press, and the MANUAL groups that name it clear or refuse. -/
  | resetPressRelease (n : Fin 16) (clk : Nat)
  /-- R459. A reset input has been active for 3.0 s, or is active at start or takeover, and RESET_STUCK is set. -/
  | resetStuck (n : Fin 16)
  /-- R461. The reset input has stayed inactive for 1.0 s and RESET_STUCK clears. -/
  | resetStuckClear (n : Fin 16)
  /-- R443. Every 10 us channels X and Y compare inputs, latches and commands; a long difference is a channel fault. -/
  | channelCompare (inUs outUs : Nat)
  /-- R444. 12 ms after FAULT_WAIT began, all safety outputs and brakes are de-energised and the unit enters FAULT. -/
  | faultWaitExpire
  /-- R463. A channel opens its switch of an energised output for up to 300 us, once per second, and checks the cut. -/
  | soPulseTest (o : Fin 6) (cut : Bool)
  /-- R465. At RELEASE_TIME after a release, coil current and feedback are verified, and RELEASE_FAIL re-applies the brake. -/
  | brakeReleaseTimeout (n : Fin 2) (ma : Nat)
  /-- R465. At APPLY_TIME after an application, current and feedback are verified; APPLY_FAIL locks the brake. -/
  | brakeApplyTimeout (n : Fin 2) (ma : Nat) (first : Bool)
  /-- R466. BT_INTERVAL hours have passed since the last passing test and the brake becomes DUE. -/
  | btDue (n : Fin 2)
  /-- R466. A write of SAF.CTRL.BT_STARTn starts a brake test when its conditions hold. -/
  | btStart (sess : Fin 17) (n : Fin 2)
  /-- R467. CONFIRM_IN is not on within CONFIRM_TIME and the test ends ABORT NO_TORQUE. -/
  | btConfirmTimeout (n : Fin 2)
  /-- R467. BT_TIME ends with the distance below BT_COUNTS and the test passes. -/
  | btTimeEnd (n : Fin 2)
  /-- R467. The safety unit's decoder counts a tooth edge during a test; reaching BT_COUNTS fails it at once. -/
  | safetyPiEdge (pi : Fin 4) (aLeads : Bool)
  /-- R471. Every 1 ms the active safety unit writes and sends a saved-state record with refreshed counts. -/
  | safetyRecordPeriodic
  /-- R471. A partner safety record arrives and is stored when its checks, SEQ and digest are good. -/
  | safetyRecordReceived (bytes : List Nat)
  /-- R472. No valid record has arrived for 5 ms and the cold unit's store becomes STALE. -/
  | storeStale
  /-- R473. The safety unit senses its own token and not the partner's and enters LIVE, restoring or resetting its state. -/
  | safetyTakeover
  /-- R474. The former active safety unit senses the partner's token, de-energises 1 ms later and enters COLD. -/
  | safetyHandover
  /-- R476. The channels complete their power-on self-test and switch test, and the unit enters LIVE or COLD once a section is accepted. -/
  | safetySelfTestDone (pass : Nat) (fs : Bool) (x0 y0 x1 y1 : Nat)
  /-- R479. A write of SAF.KEY_CTRL.INSTALL installs the staged safety-section key in HOLD. -/
  | safKeyInstall (sess : Fin 17) (slot : Fin 2)
  /-- R479. A write of SAF.KEY_CTRL.ERASE erases a safety-section key in HOLD. -/
  | safKeyErase (sess : Fin 17) (slot : Fin 2)
  /-- R498. MBC_SEND assembles a frame from its source words and queues it, superseding an earlier instance. -/
  | mbcSend (pos : Nat) (n : Fin 4) (d : Nat)
  /-- R512. MBC_MAP copies latched payloads of its map records into image words with tags by freshness and length. -/
  | mbcMap (pos : Nat) (n : Fin 4) (first count : Nat)
  /-- R502. With the bus idle, the controller attempts the queued frame that arbitration places first. -/
  | txAttempt (n : Fin 4)
  /-- R503. An attempt ends successful, by lost arbitration, by error or by bus-off. -/
  | txAttemptEnd (n : Fin 4) (e : TxEnd) (data : Bool) (extra tdc bits : Nat)
  /-- R494. A valid frame is journaled at the end of its end-of-frame field and copied into matching map latches. -/
  | canFrameReceived (n : Fin 4) (f : CanFrame) (sof : SofStamp)
  /-- R496. A bus error event updates the counters and writes or coalesces a chaff record, which can move the error state. -/
  | busError (n : Fin 4) (code : Fin 5) (data : Bool) (extra bits : Nat)
  /-- R506. Bus-off recovery completes after 128 occurrences of 11 recessive bits, and FAILOVER frames return. -/
  | recovered (n : Fin 4)
  /-- R506. A write of MBCn.CTRL.RECOVER starts bus-off recovery. -/
  | recover (sess : Fin 17) (n : Fin 4)
  /-- R542. MSL_MAP converts the latched sentence fields of its maps into image words with freshness tags. -/
  | mslMap (pos : Nat) (n : Fin 2) (first count : Nat)
  /-- R539. A sentence ends at LF or in an error and is journaled; a valid one fills the matching map latches. -/
  | mslSentence (n : Fin 2) (chars : List Nat) (framing tag : Bool) (sof : SofStamp)
  /-- R547. An enabled line has received no character for 1 s and SILENT is raised. -/
  | mslSilent (n : Fin 2)
  /-- R526. NET_PUBLISH copies a segment of the readable generation and sends it as datagrams, or drops it when split. -/
  | netPublish (pos k : Nat)
  /-- R534. NET_ACCEPT writes a subscribed segment into the image from a fresh instance, or HELD or BAD by age. -/
  | netAccept (pos k : Nat)
  /-- R531. A publication datagram is checked, assembled into an instance, logged, or counted as a clash. -/
  | pubDatagramRx (ports : Fin 4) (b : List Nat)
  /-- R518. An SFP module is fitted and accepted, or refused with SFP_BAD. -/
  | sfpInsert (p : Fin 2) (kind : Fin 4) (mw : Nat)
  /-- R545. A port's link goes up or down. -/
  | linkChange (p : Fin 2) (up : Bool)
  /-- R519. A port has received no frame for 2 s while the other receives, and RED_FAULT is set. -/
  | pathFault (p : Fin 2)
  /-- R519. Every 2 s the node sends its PRP or HSR supervision frames. -/
  | supervisionFrame
  /-- R553. An OPEN is admitted or refused and allocates a PROVING slot with a fresh nonce. -/
  | qapOpen (m : QapMsg)
  /-- R554. A PROVE opens the slot when the proof verifies, and is answered BAD_PROOF otherwise. -/
  | qapProve (m : QapMsg)
  /-- R561. 300 s after a lock the role is unlocked. -/
  | lockoutExpire (r : Fin 4)
  /-- R553. No PROVE arrives within 5 s and the PROVING slot is freed. -/
  | provingTimeout (k : Fin 16)
  /-- R562. A READ samples its words at one slot boundary and returns them with the stamp and readable generation. -/
  | qapRead (m : QapMsg) (hits : List EccHit)
  /-- R60. A WRITE is checked word by word and applied whole at one boundary, or rejected whole. -/
  | qapWrite (m : QapMsg)
  /-- R53. A MODIFY applies value-and-mask updates to each word as one step, or rejects them whole. -/
  | qapModify (m : QapMsg)
  /-- R565. SUBSCRIBE replaces the session's page mask for notifications. -/
  | qapSubscribe (m : QapMsg)
  /-- R566. FREEZE stops Granary commits for the session, or is answered BUSY when another session holds the freeze. -/
  | qapFreeze (m : QapMsg)
  /-- R660. UNFREEZE from the holder ends the freeze and commits the staged records. -/
  | qapUnfreeze (m : QapMsg)
  /-- R67. COMMIT stores every changed OVERLAY register in the overlay, or is refused FULL. -/
  | qapCommit (m : QapMsg)
  /-- R569. CLOSE is answered OK and the slot is freed. -/
  | qapClose (m : QapMsg)
  /-- R569. 60 s without an accepted request closes the session silently. -/
  | idleTimeout (k : Fin 16)
  /-- R75. A W1C write of EVT_RAW clears event bits unless a new occurrence falls on the same clock. -/
  | evtRawClear (sess : Fin 17) (page : Fin 64) (v : Word)
  /-- R73. A write of EVT_EN enables events, and a pending raw bit rises in EVT_PEND with a notification. -/
  | evtEnWrite (sess : Fin 17) (page : Fin 64) (v : Word)
  /-- R59. A write of LOCK raises or lowers the page's lock level within the floor and role rules. -/
  | lockWrite (sess : Fin 17) (page : Fin 64) (v : Word)
  /-- R187. A write through the IMG tag window sets the tags of changed fields for operator words. -/
  | tagWindowWrite (sess : Fin 17) (k : Fin 512) (v : Word)
  /-- R32. A host write of an operator word through the image window lands in the next generation tagged GOOD. -/
  | operatorWordWrite (sess : Fin 17) (w : Fin 262144) (v : Word)
  /-- R60. A write to a register with no row of its own is checked and applied. -/
  | registerWrite (sess : Fin 17) (page : Fin 64) (word : Fin 1024) (v : Word)
  /-- R573. A write of SES.KEY_CTRL.INSTALL installs a role key, unwrapped, or a Sheaf verification key, in HOLD. -/
  | sesKeyInstall (sess : Fin 17) (sheaf : Bool) (slot : Fin 4)
  /-- R574. A write of SES.KEY_CTRL.ERASE erases a role key or Sheaf key, unless it is refused. -/
  | sesKeyErase (sess : Fin 17) (sheaf : Bool) (slot : Fin 4)
  /-- R586. A partner heartbeat arrives on a path, and a valid one marks the partner present. -/
  | heartbeatRx (path : Fin 2) (bytes : List Nat)
  /-- R587. At slot 256 of each minor cycle, missed heartbeats are counted on each path and MISS is updated. -/
  | heartbeatCheck
  /-- R582. A token line changes between present, RELEASED and ABSENT, and is acted on by stages and supervisors. -/
  | tokenLineChange (mine : Bool) (l : Line)
  /-- R583. The control clock stops for 200 ns and the supervisor clamps the token low. -/
  | clockStop
  /-- R588. At a minor-cycle boundary a STANDBY module whose partner's token is RELEASED, or ABSENT with MISS 2, asserts its token and resumes from its last copy. -/
  | takeover
  /-- R594. SLU_COPY starts the Sluice copy of the completed generation with lines, engine records, sweep units and COMMIT. -/
  | sluCopy (pos : Nat)
  /-- R591. A Sluice frame arrives; a bad CRC is answered by NAK, and a COMMIT applies the whole copy. -/
  | sluiceFrameRx (lane : Fin 2) (f : SluFrame)
  /-- R593. No COMMIT has arrived before the next boundary, or the copy fails, and the standby discards it and becomes stale. -/
  | copyLost
  /-- R590. A Sluice lane goes down and all frames use the other lane. -/
  | sluiceLane (lane : Fin 2)
  /-- R606. A SYNCING module with a completed sweep pass, a CURRENT store and two lanes becomes STANDBY at a boundary. -/
  | syncDone
  /-- R602. A write of RED.CTRL.SWAP requests a planned swap. -/
  | swap (sess : Fin 17)
  /-- R602. At the first boundary after a swap request the active module stops dispatching and sends copy, FINAL_OUTPUT and COMMIT. -/
  | plannedSwapBoundary
  /-- R602. At the end of the final copy the module clamps its token, sends RELEASED, and takes its post-swap role. -/
  | plannedSwapRelease
  /-- R607. A write of RED.CTRL.HOLD enters maintenance hold at the next boundary, by swap when driving. -/
  | hold (sess : Fin 17) (unprotected : Bool)
  /-- R607. A write of RED.CTRL.RESUME leaves HOLD. -/
  | resume (sess : Fin 17)
  /-- R604. A write of RED.CTRL.CLR_LATENT clears the LATENT flag. -/
  | clrLatent (sess : Fin 17)
  /-- R603. A powered non-driving hour passes, RED.IDLE is updated, and SWAP_DUE is evaluated. -/
  | idleHour
  /-- R653. GRN_TICK evaluates image-condition triggers against the readable generation. -/
  | grnTick (pos first count : Nat)
  /-- R655. A captured record is committed to MRAM with its SEQ, or staged during a freeze. -/
  | recordCommit
  /-- R660. A freeze reaches 10 s, ends, and the staged records and FREEZE_EXPIRED record are committed. -/
  | freezeExpired
  /-- R663. A CUSTODIAN write of CLEAR_CONFIRM equal to COUNT clears the Granary with a CLEARED record. -/
  | grnClear (sess : Fin 17) (count : Fin 131072)
  /-- R663. The background erasure of discarded records ends and ERASING clears. -/
  | grnEraseDone
  /-- R669. A write of PMC.CTRL.SNAP copies all counters and sticky bits into the snapshot registers. -/
  | pmcSnap (sess : Fin 17)
  /-- R670. PMC_MARK records counter 0 and the dispatch slot in a mark register. -/
  | pmcMark (pos k : Nat)
  /-- R667. A performance counter wraps from 2^48-1 to 0, and its sticky bit is set with WRAP raised. -/
  | counterWrap (k : Fin 240)
  /-- R677. A program has not signalled its watchdog within WD_MS and is stopped. -/
  | progWatchdog (p : Fin 4)
  /-- R676. A program accesses memory outside its partition and is stopped. -/
  | progMemoryFault (p : Fin 4)
  /-- R677. 100 ms after a fault stop the program restarts, or enters FAILED at the third stop in 600 s. -/
  | progRestart (p : Fin 4)
  /-- R675. A write of MGT.CTRL.START starts a program under the role and RAM rules. -/
  | progStart (sess : Fin 17) (mask : Fin 16)
  /-- R682. A write of MGT.CTRL.STOP stops a program with cause HOST. -/
  | progStop (sess : Fin 17) (mask : Fin 16)
  /-- R678. A program sends or receives a UDP datagram on ports 6000-6063 within the rate limit. -/
  | progDatagram (p : Fin 4) (tx : Bool) (ip port far : Nat) (bytes : List Nat) (tooMany : Bool)
  /-- R681. A temperature, humidity or vibration value crosses its limit and its event is raised. -/
  | sensorLimit (k : Fin 11) (v : Int) (peak : Nat)
  /-- R686. BEGIN starts a staging for a target and clears the staging buffer. -/
  | updBegin (sess : Fin 17) (target : Fin 16)
  /-- R686. The owner writes words into the staging window during LOADING. -/
  | stagingWrite (sess : Fin 17) (w : Fin 2097152) (v : Word)
  /-- R688. CHECK starts the check of the staged image. -/
  | updCheck (sess : Fin 17)
  /-- R686. The staged check ends, passed into CHECKED or failed into IDLE. -/
  | updCheckDone
  /-- R686. PROGRAM writes the checked buffer into the target bank. -/
  | updProgram (sess : Fin 17)
  /-- R687. Writing and read-back of the bank end; the bank becomes PROGRAMMED or stays EMPTY. -/
  | updProgramDone (ok : Bool)
  /-- R690. ACTIVATE_AT starts the preload and arms activation at a boundary, or arms it for reset. -/
  | activateAt (sess : Fin 17)
  /-- R690. The preload of the target bank into shadow configuration memory completes or fails. -/
  | preloadDone (ok : Bool)
  /-- R161. At the activation boundary the new Sheaf or program takes effect with HELD words, section 12 and carried-over loop state. -/
  | sheafActivate
  /-- R686. ACTIVATE_RESET names the target bank for the next start. -/
  | activateReset (sess : Fin 17)
  /-- R686. ABORT discards the staging and restores NEXT. -/
  | updAbort (sess : Fin 17)
  /-- R691. A newly named program image fails to load or reaches FAILED within 60 s and is restarted from the other bank. -/
  | progActivationFail (p : Fin 4) (load : Bool)
  /-- R699. FPD_REFRESH composes the segment LCD or requests a panel region update. -/
  | fpdRefresh (pos target : Nat)
  /-- R699. In AUTO, 250 ms without an LCD refresh makes the module compose the frame memory itself. -/
  | lcdAutoCompose
  /-- R698. At each 12.5 ms LCD frame boundary the frame memory is scanned as it stands. -/
  | lcdFrame
  /-- R705. A write of FPD.CTRL.UPDATE requests a panel region update. -/
  | fpdUpdate (sess : Fin 17) (mask : Fin 16)
  /-- R710. A write of FPD.CTRL.CLEAR discards pending requests, clears the panel and requests every region. -/
  | fpdClear (sess : Fin 17)
  /-- R707. At each 20 ms panel frame, waveforms advance, pending requests start, updates and marker finish, and shutdown stops are judged. -/
  | panelFrame (temp : Int) (mj : Nat)
  /-- R709. A panel rail misses its window in the power sequence; all rails are removed and RAIL_FAULT is raised. -/
  | panelRailFault
  /-- R266. Carrier and a start character arrive while the modem is WAITING, and STATE becomes RECEIVING. -/
  | hartStartCharacter (ch : Fin 32)
  /-- R525. A delay measurement completes on a port, which keeps that port's offsets valid for the next 16 s. -/
  | ptpDelayResponse (p : Fin 2)
  /-- R590. A Sluice lane that was down comes up, and frames alternate over both lanes again. -/
  | sluiceLaneUp (lane : Fin 2)
  /-- R635. The safety unit's own supply leaves its window, and the safety unit restarts as at power-on. -/
  | safetySupplyBrownOut
  /-- R463. A safety output carries more than 1.5 A for 100 us, and OUT_FAULT latches and the output is de-energised. -/
  | soOvercurrent (o : Fin 6)
  /-- R463. A safety output terminal stays above 12 V for 2 ms after both switches open, and OUT_FAULT latches. -/
  | soTerminalStuck (o : Fin 6)
  /-- R465. The coil current of a released brake leaves I_MIN-I_MAX, so RELEASE_FAIL is set and the brake is applied again. -/
  | coilCurrentLost (n : Fin 2) (ma : Nat)
  /-- R608. Lane C's self-test of its engines in their idle clocks fails, and lane C goes offline. -/
  | laneCEngineTest
  /-- R681. A management sensor fails its own check, reads 0, and sets its SENSOR_FAULT bit. -/
  | sensorFault (k : Fin 9)
  /-- R709. A panel rail reaches its window, and the power sequence moves on to the next rail, the full clear and the front-light. -/
  | panelRailUp
  /-- R600. 100 us after sensing the new token, the former active module's discrete output stages let go. -/
  | discreteStageLetGo
  /-- R637. The reset button is qualified closed, PRESSED is set, and press timing starts. -/
  | buttonPress
deriving DecidableEq, Repr

end Sys2Proof
end

