-- ==== Sys2Proof/Decode.lean ====
section
/-! DEFINITION. The commands of this block reach it as messages, measurements and events: spec/opcode_table.json gives no bits for
any row, so no word spells a command. -/

namespace Sys2Proof

/-- The command that a word of the table's bits spells: none, because no row of the table has bits. -/
def decodeTableWord (_nbits _w : Nat) : Option Instr := none

end Sys2Proof
end

