-- ==== Sys2Proof/Config.lean ====
section
/-! DEFINITION. What the manual leaves open and one machine fixes: every constant here is opaque, without a body, so that
no statement can rest on its value. Each is named in the assumption log. -/

namespace Sys2Proof.Config

/-- Payload bits of a quiet NaN result; the manual states none (log entry 10). -/
opaque nanPayload : Nat

/-- The voltage in mV of a thermocouple type at a cold-junction temperature at which the standard defines no reference function
(type B below 0 °C, type S below −50 °C), binary64 bits (R222, R223, log entry 24). Arguments: TC_TYPE, and the temperature. -/
opaque tcVoltage : Nat → Nat → Nat

/-- How far the Ni120 characteristic is bent at a resistance in Ω, in °C, binary64 bits; the manual gives two points of it
(R227, log entry 24). -/
opaque ni120 : Nat → Nat

/-- Factory calibration of the main converter of a channel in a mode, with an RTD element: gain and offset, binary64 bits (R235,
log entry 88). Arguments: channel, mode, ELEMENT. -/
opaque factoryCal : Nat → Nat → Nat → Nat × Nat

/-- Gain and offset that a channel applies in a mode for which it has not calibrated since its mode changed at an activation,
binary64 bits (R238, log entry 88). The argument is State's draw counter. -/
opaque carriedCal : Nat → Nat × Nat

/-- One predictor-corrector step of a type-2 job (R401): from FLOOR_EXP, the six operands and the iterate (x, equality and
inequality multipliers, slacks), binary64 bits, to the next iterate, and the pivots it replaces; and the slacks that a warm start
re-centres. The manual names the method and not its formulas (log entry 27). -/
opaque qpIterate : Nat → List (List Nat) → List (List Nat) → List (List Nat)
opaque qpClamps : Nat → List (List Nat) → List (List Nat) → Nat
opaque qpCentre : List (List Nat) → List (List Nat) → List Nat

/-- Bytes of work area that a job needs, from its TYPE, N, P and M (R393): the manual says what they hold and gives no numbers
(log entry 34). -/
opaque workNeed : Nat → Nat → Nat → Nat → Nat

/-- A word of a work area of the solver job memory as a host reads it, by byte offset in the work region: the manual says what a
work area holds, not where (R389, R393, log entry 34). The first argument is State's draw counter. -/
opaque workWord : Nat → Nat → Nat

/-- FMA issues, and divide and square-root issues, of a solver job (PMC counters 33 and 34): the manual gives no operation
sequence (log entry 27). The argument is State's draw counter. -/
opaque fmaIssues : Nat → Nat
opaque divIssues : Nat → Nat

/-- The value of a word that a rule writes with tag BAD without giving it a value (log entry 28). The argument is State's draw
counter. -/
opaque badValue : Nat → BitVec 32

/-- Where REC returns to when an error-passive receiver receives a frame: ISO 11898-1 allows 119 to 127; the value taken is the
remainder by 9, added to 119 (log entry 30). The argument is State's draw counter. -/
opaque recAfter : Nat → Nat

/-- Records of the engine-state store that a minor cycle changes; the hardware lays the store out (R595, log entry 36). The
argument is State's draw counter. -/
opaque engineRecs : Nat → Nat

/-- Frames of the factory waveform of a pixel, from temperature band, shown level and target level; of the marker's waveform, to
white or to black; and of the clear waveform: factory tables of the panel (R707-R709, log entry 37). -/
opaque panelWave : Nat → Nat → Nat → Nat
opaque markerWave : Nat → Bool → Nat
opaque clearWave : Nat → Nat

/-- The pixels of the built-in font 0: character, row, column (R702, log entry 37). -/
opaque font0 : Nat → Nat → Nat → Bool

/-- Where the k-th line of the NO_SHEAF image begins: x and y (R710, log entry 37). -/
opaque noSheafPen : Nat → Nat × Nat

/-- Occupancies of R668 by control clock: iterations that a running solver job has completed, QAP requests waiting at the session
gate, and Sluice frames waiting to be sent. The manual bounds the speeds behind them and states none (log entry 20). -/
opaque iterationsNow : Nat → Nat
opaque gateWaiting : Nat → Nat
opaque framesWaiting : Nat → Nat

/-- The module's random generator (R553, R559): a 128-bit draw. The argument is State's draw counter (log entry 31). -/
opaque randomBits : Nat → Nat

end Sys2Proof.Config
end

