-- ==== Sys2Proof/Machine/Bits.lean ====
section
/-! DEFINITION. Bit fields, sign extension, little-endian bytes (R11), the two CRCs the spec names (CRC-32C and the
ISO/IEC 8802-3 CRC-32), SHA-256, SHA-512 and HMAC-SHA-256, over lists of bytes held as natural numbers 0-255. -/

namespace Sys2Proof.Machine

/-- Bits [hi:lo] of a natural number, as a natural number (R9). -/
def bitsOf (w hi lo : Nat) : Nat := (w >>> lo) % 2 ^ (hi + 1 - lo)

/-- Bit i of a natural number. -/
def bitOf (w i : Nat) : Bool := w.testBit i

/-- `w` with bits [hi:lo] replaced by the low bits of `v`. -/
def putBits (w hi lo v : Nat) : Nat :=
  let n := 2 ^ (hi + 1 - lo)
  w - (((w >>> lo) % n) <<< lo) + ((v % n) <<< lo)

/-- One bit as 0 or 1. -/
def b2n (b : Bool) : Nat := if b then 1 else 0

/-- `w` with bit i set to `b`. -/
def putBit (w i : Nat) (b : Bool) : Nat := putBits w i i (b2n b)

/-- The value of an n-bit two's complement field. -/
def signedOf (n w : Nat) : Int := if w % 2 ^ n < 2 ^ (n - 1) then (w % 2 ^ n : Nat) else ((w % 2 ^ n : Nat) : Int) - 2 ^ n

/-- The n-bit two's complement code of an integer. -/
def toSigned (n : Nat) (i : Int) : Nat := (i % (2 ^ n : Int)).toNat

/-- An integer limited to the range lo..hi. -/
def clampI (lo hi i : Int) : Int := if i < lo then lo else if hi < i then hi else i

/-- A count that stops at `top`. -/
def satAdd (top a b : Nat) : Nat := min top (a + b)

/-- The little-endian value of a byte list (R11). -/
def leNat : List Nat → Nat
  | [] => 0
  | b :: t => b % 256 + 256 * leNat t

/-- The n little-endian bytes of a value (R11). -/
def leBytes : Nat → Nat → List Nat
  | 0, _ => []
  | n + 1, v => v % 256 :: leBytes n (v / 256)

/-- The big-endian value of a byte list. -/
def beNat (l : List Nat) : Nat := leNat l.reverse

/-- The n big-endian bytes of a value. -/
def beBytes (n v : Nat) : List Nat := (leBytes n v).reverse

/-- The words of a byte list, little-endian; a short last word is padded with zero bytes. -/
def wordsLe : Nat → List Nat → List Nat
  | 0, _ => []
  | n + 1, l => leNat (l.take 4) :: wordsLe n (l.drop 4)

/-- One bit step of a reflected CRC with the given reversed polynomial. -/
def crcBit (poly c : Nat) : Nat := if c % 2 = 1 then (c / 2) ^^^ poly else c / 2

/-- One byte step of a reflected CRC. -/
def crcByte (poly c b : Nat) : Nat :=
  (List.range 8).foldl (fun a _ => crcBit poly a) (c ^^^ (b % 256))

/-- A reflected 32-bit CRC with all-ones start and final inversion. -/
def crcOf (poly : Nat) (l : List Nat) : Nat := (l.foldl (crcByte poly) 0xFFFFFFFF) ^^^ 0xFFFFFFFF

/-- CRC-32C (Castagnoli). -/
def crc32c (l : List Nat) : Nat := crcOf 0x82F63B78 l

/-- CRC-32 of ISO/IEC 8802-3. -/
def crc32 (l : List Nat) : Nat := crcOf 0xEDB88320 l

/-! ### SHA-256 and SHA-512 (FIPS 180-4), one definition over the word width -/

/-- The first 80 primes: the numbers up to 409 that no smaller number from 2 to 20 divides. -/
def primes80 : List Nat :=
  ((List.range 410).drop 2).filter (fun n => ((List.range 21).drop 2).all (fun d => d ≥ n || n % d != 0))

/-- The largest r below 2^n with r to the power e at most x, given r's bits above n. -/
def rootOf (e x : Nat) : Nat → Nat → Nat
  | 0, r => r
  | n + 1, r => rootOf e x n (if (r + 2 ^ n) ^ e ≤ x then r + 2 ^ n else r)

/-- The first w bits of the fraction of the e-th root of p. -/
def rootFrac (e w p : Nat) : Nat := rootOf e (p * 2 ^ (e * w)) (w + 5) 0 % 2 ^ w

/-- What sets the two hashes apart: the word width, the number of rounds, the rotations of the four mixing functions (the third
amount of the last two is a shift). -/
structure ShaKind where
  width : Nat
  rounds : Nat
  mixA : Nat × Nat × Nat
  mixE : Nat × Nat × Nat
  near : Nat × Nat × Nat
  far : Nat × Nat × Nat
deriving DecidableEq, Repr

def sha2of32 : ShaKind := { width := 32, rounds := 64, mixA := (2, 13, 22), mixE := (6, 11, 25), near := (7, 18, 3), far := (17, 19, 10) }
def sha2of64 : ShaKind := { width := 64, rounds := 80, mixA := (28, 34, 39), mixE := (14, 18, 41), near := (1, 8, 7), far := (19, 61, 6) }

/-- The sum of a list of words, modulo the word width. -/
def ShaKind.sum (k : ShaKind) (l : List Nat) : Nat := l.sum % 2 ^ k.width

/-- A rotation to the right by n places. -/
def ShaKind.turn (k : ShaKind) (x n : Nat) : Nat := x / 2 ^ n + x % 2 ^ n * 2 ^ (k.width - n)

/-- The exclusive or of three rotations, or of two and a shift. -/
def ShaKind.turns (k : ShaKind) (m : Nat × Nat × Nat) (x : Nat) : Nat := k.turn x m.1 ^^^ k.turn x m.2.1 ^^^ k.turn x m.2.2
def ShaKind.turnsShift (k : ShaKind) (m : Nat × Nat × Nat) (x : Nat) : Nat := k.turn x m.1 ^^^ k.turn x m.2.1 ^^^ x / 2 ^ m.2.2

/-- n further words of the message schedule; the list holds the newest word first. -/
def ShaKind.extend (k : ShaKind) : Nat → List Nat → List Nat
  | 0, l => l
  | n + 1, l =>
    k.extend n (k.sum [k.turnsShift k.far (l.getD 1 0), l.getD 6 0, k.turnsShift k.near (l.getD 14 0), l.getD 15 0] :: l)

/-- One round. The eight working variables are the last four values of each of two sequences, newest first; `kw` is the sum of the
round's constant and its schedule word. -/
def ShaKind.round (k : ShaKind) (v : List Nat × List Nat) (kw : Nat) : List Nat × List Nat :=
  let p := v.1.getD 0 0
  let q := v.1.getD 1 0
  let x := v.2.getD 0 0
  let choice := v.2.getD 2 0 ^^^ (x &&& (v.2.getD 1 0 ^^^ v.2.getD 2 0))
  let major := (p &&& q) ||| (v.1.getD 2 0 &&& (p ||| q))
  let t := v.2.getD 3 0 + k.turns k.mixE x + choice + kw
  (k.sum [t, k.turns k.mixA p, major] :: v.1.take 3, k.sum [t, v.1.getD 3 0] :: v.2.take 3)

/-- The hash values before the first block. -/
def ShaKind.start (k : ShaKind) : List Nat × List Nat :=
  (((primes80.take 4).map (rootFrac 2 k.width)), (((primes80.drop 4).take 4).map (rootFrac 2 k.width)))

/-- The round constants. -/
def ShaKind.consts (k : ShaKind) : List Nat := (primes80.take k.rounds).map (rootFrac 3 k.width)

/-- One block, 16 words long, against the round constants `ks`. -/
def ShaKind.block (k : ShaKind) (ks : List Nat) (v : List Nat × List Nat) (b : List Nat) : List Nat × List Nat :=
  let n := k.width / 8
  let m := (List.range 16).map (fun i => beNat ((b.drop (n * i)).take n))
  let z := (List.zipWith (· + ·) ks (k.extend (k.rounds - 16) m.reverse).reverse).foldl k.round v
  (List.zipWith (fun x y => k.sum [x, y]) v.1 z.1, List.zipWith (fun x y => k.sum [x, y]) v.2 z.2)

/-- n whole blocks. -/
def ShaKind.blocks (k : ShaKind) (ks : List Nat) : Nat → List Nat × List Nat → List Nat → List Nat × List Nat
  | 0, v, _ => v
  | n + 1, v, m => k.blocks ks n (k.block ks v (m.take (2 * k.width))) (m.drop (2 * k.width))

/-- The hash of a byte list, as bytes: the message is padded with one bit, zeros and its length in bits. -/
def ShaKind.hash (k : ShaKind) (m : List Nat) : List Nat :=
  let size := 2 * k.width
  let tail := k.width / 4
  let blocks := (m.length + tail + size) / size
  let p := m ++ 128 :: (List.replicate (blocks * size - m.length - 1 - tail) 0 ++ beBytes tail (8 * m.length))
  let v := k.blocks k.consts blocks k.start p
  (v.1 ++ v.2).flatMap (beBytes (k.width / 8))

/-- SHA-256 of a byte list, as 32 bytes, and SHA-512, as 64 bytes. -/
def sha256 (m : List Nat) : List Nat := sha2of32.hash m
def sha512 (m : List Nat) : List Nat := sha2of64.hash m

/-- HMAC-SHA-256. -/
def hmac256 (key m : List Nat) : List Nat :=
  let k0 := if key.length > 64 then sha256 key else key
  let k := k0 ++ List.replicate (64 - k0.length) 0
  sha256 (k.map (· ^^^ 0x5C) ++ sha256 (k.map (· ^^^ 0x36) ++ m))

end Sys2Proof.Machine
end

