-- ==== Sys2Proof/Machine/Float.lean ====
section
/-! DEFINITION. IEEE 754 binary32 and binary64 arithmetic: every operation computes the exact value and rounds it once,
to nearest, ties to even. A value is kept apart from its bits, so that a NaN stays a NaN whatever its payload. -/

namespace Sys2Proof.Machine

/-- A floating-point value: a NaN, a signed infinity, or sign, integer significand and exponent (±m·2^e). -/
inductive FVal where
  | nan
  | inf (neg : Bool)
  | fin (neg : Bool) (m : Nat) (e : Int)
deriving DecidableEq, Repr

/-- A binary interchange format: precision, and the least and greatest exponent of the last place. -/
structure Fmt where
  p : Nat
  qmin : Int
  qmax : Int
  expBits : Nat
deriving DecidableEq, Repr

/-- binary32. -/
def f32 : Fmt := ⟨24, -149, 104, 8⟩

/-- binary64. -/
def f64 : Fmt := ⟨53, -1074, 971, 11⟩

/-- +0. -/
def FVal.zero : FVal := .fin false 0 0

/-- +1. -/
def FVal.one : FVal := .fin false 1 0

/-- Is the value finite. -/
def FVal.isFin : FVal → Bool
  | .fin _ _ _ => true
  | _ => false

/-- Is the value a NaN. -/
def FVal.isNan : FVal → Bool
  | .nan => true
  | _ => false

/-- The sign bit (a NaN has none). -/
def FVal.isNeg : FVal → Bool
  | .nan => false
  | .inf n => n
  | .fin n _ _ => n

/-- Is the value a zero. -/
def FVal.isZero : FVal → Bool
  | .fin _ m _ => m == 0
  | _ => false

/-- Round ±m·2^e to the format: nearest, ties to even; beyond the largest number, infinity. -/
def fRound (f : Fmt) (neg : Bool) (m : Nat) (e : Int) : FVal :=
  if m = 0 then .fin neg 0 0
  else
    let q := max (e + ((Nat.log2 m + 1 : Nat) : Int) - (f.p : Int)) f.qmin
    let m' : Nat :=
      if q ≤ e then m <<< (e - q).toNat
      else
        let k := (q - e).toNat
        let b := m >>> k
        let r := m % 2 ^ k
        let h := 2 ^ (k - 1)
        if r > h ∨ (r = h ∧ b % 2 = 1) then b + 1 else b
    if m' ≥ 2 ^ f.p ∧ q ≥ f.qmax then .inf neg
    else if q > f.qmax then .inf neg
    else .fin neg m' q

/-- Round an exact signed integer times 2^e; an exact zero takes the sign `z`. -/
def fRoundI (f : Fmt) (z : Bool) (m : Int) (e : Int) : FVal :=
  if m = 0 then .fin z 0 0 else fRound f (decide (m < 0)) m.natAbs e

/-- Round a value to a format (the conversion between binary64 and binary32). -/
def fConv (f : Fmt) : FVal → FVal
  | .fin n m e => fRound f n m e
  | x => x

/-- Negation. -/
def fNeg : FVal → FVal
  | .nan => .nan
  | .inf n => .inf !n
  | .fin n m e => .fin (!n) m e

/-- Absolute value. -/
def fAbs : FVal → FVal
  | .nan => .nan
  | .inf _ => .inf false
  | .fin _ m e => .fin false m e

/-- The signed significand. -/
def sgnM (n : Bool) (m : Nat) : Int := if n then -(m : Int) else m

/-- The exact sum of two scaled integers, as significand and exponent. -/
def addScaled (a : Int) (ea : Int) (b : Int) (eb : Int) : Int × Int :=
  let e := min ea eb
  (a * 2 ^ (ea - e).toNat + b * 2 ^ (eb - e).toNat, e)

/-- Addition. -/
def fAdd (f : Fmt) : FVal → FVal → FVal
  | .nan, _ => .nan
  | _, .nan => .nan
  | .inf a, .inf b => if a = b then .inf a else .nan
  | .inf a, _ => .inf a
  | _, .inf b => .inf b
  | .fin na ma ea, .fin nb mb eb =>
    let r := addScaled (sgnM na ma) ea (sgnM nb mb) eb
    fRoundI f (na && nb) r.1 r.2

/-- Subtraction. -/
def fSub (f : Fmt) (a b : FVal) : FVal := fAdd f a (fNeg b)

/-- Multiplication. -/
def fMul (f : Fmt) : FVal → FVal → FVal
  | .nan, _ => .nan
  | _, .nan => .nan
  | .inf a, .inf b => .inf (a != b)
  | .inf a, .fin n m _ => if m = 0 then .nan else .inf (a != n)
  | .fin n m _, .inf b => if m = 0 then .nan else .inf (n != b)
  | .fin na ma ea, .fin nb mb eb => fRound f (na != nb) (ma * mb) (ea + eb)

/-- Fused multiply-add a·b + c, rounded once. -/
def fFma (f : Fmt) : FVal → FVal → FVal → FVal
  | .fin na ma ea, .fin nb mb eb, .fin nc mc ec =>
    let r := addScaled (sgnM (na != nb) (ma * mb)) (ea + eb) (sgnM nc mc) ec
    fRoundI f ((na != nb) && nc) r.1 r.2
  | a, b, c => fAdd f (fMul f a b) c

/-- Division. -/
def fDiv (f : Fmt) : FVal → FVal → FVal
  | .nan, _ => .nan
  | _, .nan => .nan
  | .inf _, .inf _ => .nan
  | .inf a, .fin n _ _ => .inf (a != n)
  | .fin n _ _, .inf b => .fin (n != b) 0 0
  | .fin na ma ea, .fin nb mb eb =>
    if mb = 0 then (if ma = 0 then .nan else .inf (na != nb))
    else
      let k := 2 * f.p + 4 + Nat.log2 mb
      let q := (ma <<< k) / mb
      let r := (ma <<< k) % mb
      fRound f (na != nb) (2 * q + b2n (r != 0)) (ea - eb - (k : Int) - 1)

/-- Square root. -/
def fSqrt (f : Fmt) : FVal → FVal
  | .nan => .nan
  | .inf n => if n then .nan else .inf false
  | .fin n m e =>
    if m = 0 then .fin n 0 0
    else if n then .nan
    else
      let k := 2 * f.p + 8 + (if (e % 2 : Int) = 0 then 0 else 1)
      let s := Nat.sqrt (m <<< k)
      let r := (m <<< k) - s * s
      fRound f false (2 * s + b2n (r != 0)) ((e - (k : Int)) / 2 - 1)

/-- Three-way comparison of two numbers: none when either is a NaN. -/
def fCmp : FVal → FVal → Option Ordering
  | .nan, _ => none
  | _, .nan => none
  | .inf a, .inf b => some (compare (b2n b) (b2n a))
  | .inf a, _ => some (if a then .lt else .gt)
  | _, .inf b => some (if b then .gt else .lt)
  | .fin na ma ea, .fin nb mb eb =>
    some (compare (addScaled (sgnM na ma) ea (-(sgnM nb mb)) eb).1 0)

/-- a < b (false when either is a NaN). -/
def fLt (a b : FVal) : Bool := fCmp a b == some .lt

/-- a ≤ b (false when either is a NaN). -/
def fLe (a b : FVal) : Bool := fCmp a b == some .lt || fCmp a b == some .eq

/-- a = b as numbers (false when either is a NaN). -/
def fEq (a b : FVal) : Bool := fCmp a b == some .eq

/-- The lesser of two values. -/
def fMin (a b : FVal) : FVal := if fLt b a then b else a

/-- The greater of two values. -/
def fMax (a b : FVal) : FVal := if fLt a b then b else a

/-- R349: clamp(x, lo, hi) = min(max(x, lo), hi). -/
def fClamp (lo hi x : FVal) : FVal := fMin (fMax x lo) hi

/-- An integer as a value of the format. -/
def fOfInt (f : Fmt) (i : Int) : FVal := fRoundI f false i 0

/-- The exact quotient of two integers, rounded once to the format. -/
def fOfRat (f : Fmt) (n : Int) (d : Nat) : FVal :=
  fDiv f (.fin (decide (n < 0)) n.natAbs 0) (.fin false d 0)

/-- The integer part toward minus infinity; none for a NaN or an infinity. -/
def fFloor : FVal → Option Int
  | .fin n m e => some (if 0 ≤ e then sgnM n m * 2 ^ e.toNat else sgnM n m / 2 ^ (-e).toNat)
  | _ => none

/-- The nearest integer, ties to even; none for a NaN or an infinity. -/
def fNearest : FVal → Option Int
  | .fin n m e =>
    if 0 ≤ e then some (sgnM n m * 2 ^ e.toNat)
    else
      let k := (-e).toNat
      let b := m >>> k
      let r := m % 2 ^ k
      let h := 2 ^ (k - 1)
      some (sgnM n (if r > h ∨ (r = h ∧ b % 2 = 1) then b + 1 else b))
  | _ => none

/-- The nearest integer, a tie away from zero; none for a NaN or an infinity. -/
def fNearestAway : FVal → Option Int
  | .fin n m e =>
    if 0 ≤ e then some (sgnM n m * 2 ^ e.toNat)
    else
      let k := (-e).toNat
      some (sgnM n ((m + 2 ^ (k - 1)) >>> k))
  | _ => none

/-- The value of the bits of a format. -/
def fOfBits (f : Fmt) (w : Nat) : FVal :=
  let fb := f.p - 1
  let frac := w % 2 ^ fb
  let ex := (w >>> fb) % 2 ^ f.expBits
  let neg := w.testBit (fb + f.expBits)
  if ex = 2 ^ f.expBits - 1 then (if frac = 0 then .inf neg else .nan)
  else if ex = 0 then .fin neg frac f.qmin
  else .fin neg (2 ^ fb + frac) (f.qmin + (ex : Int) - 1)

/-- The bits of a value already in the format. A NaN is a quiet NaN whose payload the spec leaves open. -/
def fToBits (f : Fmt) : FVal → Nat
  | .nan => (2 ^ (f.expBits + 1) - 1) <<< (f.p - 2) ||| (Config.nanPayload % 2 ^ (f.p - 2))
  | .inf n => b2n n <<< (f.p - 1 + f.expBits) ||| (2 ^ f.expBits - 1) <<< (f.p - 1)
  | .fin n m e =>
    match fRound f n m e with
    | .fin _ m' q =>
      if m' = 0 then b2n n <<< (f.p - 1 + f.expBits)
      else
        -- normalise: move the significand up to p bits unless the exponent is at its least
        let k := min (f.p - (Nat.log2 m' + 1)) (q - f.qmin).toNat
        let m2 := m' <<< k
        let q2 := q - (k : Int)
        let m3 := if m2 ≥ 2 ^ f.p then m2 / 2 else m2
        let q3 := if m2 ≥ 2 ^ f.p then q2 + 1 else q2
        if m3 < 2 ^ (f.p - 1) then b2n n <<< (f.p - 1 + f.expBits) ||| m3
        else b2n n <<< (f.p - 1 + f.expBits) ||| ((q3 - f.qmin).toNat + 1) <<< (f.p - 1) ||| (m3 - 2 ^ (f.p - 1))
    | _ => b2n n <<< (f.p - 1 + f.expBits) ||| (2 ^ f.expBits - 1) <<< (f.p - 1)

/-- The binary32 value of a word. -/
def w32 (w : Word) : FVal := fOfBits f32 w.toNat

/-- The word of a binary32 value. -/
def toW32 (x : FVal) : Word := BitVec.ofNat 32 (fToBits f32 x)

/-- The binary64 value of a 64-bit pattern. -/
def b64 (w : Nat) : FVal := fOfBits f64 w

/-- The 64-bit pattern of a binary64 value. -/
def toB64 (x : FVal) : Nat := fToBits f64 x

/-- The exact value of a finite number. -/
def fRat : FVal → Option Rat
  | .fin n m e => some (if 0 ≤ e then ((sgnM n m * 2 ^ e.toNat : Int) : Rat) else Rat.divInt (sgnM n m) (2 ^ (-e).toNat : Int))
  | _ => none

/-- An exact value, rounded once to a format. -/
def fOfQ (f : Fmt) (q : Rat) : FVal := fOfRat f q.num q.den

/-- The nearest integer to an exact value, halves up. -/
def roundHalfUp (q : Rat) : Int := (q + 1 / 2).floor

/-- The exact value of a number, 0 for a NaN or an infinity. -/
def fRat0 (x : FVal) : Rat := (fRat x).getD 0

end Sys2Proof.Machine
end

