-- ==== Sys2Proof/Machine/Sensors.lean ====
section
/-! DEFINITION. Sensor characteristics of the universal channels (R222, R227). The manual names IEC 60584-1 and IEC 60751 and
prints no coefficient: the coefficients here are those of the standards' reference functions (PRESUMED, log entry 24). -/

namespace Sys2Proof.Machine

/-! ### Thermocouples: the reference functions of IEC 60584-1 -/

/-- The value at t of a polynomial whose coefficients, from degree 0 on, are m / 10^k. -/
def polyDec (t : Rat) : List (Int × Nat) → Rat
  | [] => 0
  | c :: l => Rat.divInt c.1 (10 ^ c.2 : Nat) + t * polyDec t l

/-- Type J, −210 to 760 °C, in mV. -/
def tcJ1 : List (Int × Nat) :=
  [(0, 0), (50381187815, 12), (3047583693, 14), (-8568106572, 17), (13228195295, 20), (-17052958337, 23),
   (20948090697, 26), (-12538395336, 29), (15631725697, 33)]

/-- Type J, 760 to 1200 °C, in mV. -/
def tcJ2 : List (Int × Nat) :=
  [(29645625681, 8), (-14976127786, 10), (31787103924, 13), (-31847686701, 16), (15720819004, 19), (-30691369056, 23)]

/-- Type K, −270 to 0 °C, in mV. -/
def tcK1 : List (Int × Nat) :=
  [(0, 0), (39450128025, 12), (23622373598, 15), (-32858906784, 17), (-49904828777, 19), (-67509059173, 21),
   (-57410327428, 23), (-31088872894, 25), (-10451609365, 27), (-19889266878, 30), (-16322697486, 33)]

/-- Type K, 0 to 1372 °C, in mV. -/
def tcK2 : List (Int × Nat) :=
  [(-17600413686, 12), (38921204975, 12), (18558770032, 15), (-99457592874, 18), (31840945719, 20),
   (-56072844889, 23), (56075059059, 26), (-32020720003, 29), (97151147152, 33), (-12104721275, 36)]

/-- Type N, −270 to 0 °C, in mV. -/
def tcN1 : List (Int × Nat) :=
  [(0, 0), (26159105962, 12), (10957484228, 15), (-93841111554, 18), (-46412039759, 21), (-26303357716, 22),
   (-22653438003, 24), (-76089300791, 27), (-93419667835, 30)]

/-- Type N, 0 to 1300 °C, in mV. -/
def tcN2 : List (Int × Nat) :=
  [(0, 0), (25929394601, 12), (1571014188, 14), (43825627237, 18), (-25261169794, 20), (64311819339, 23),
   (-10063471519, 25), (99745338992, 29), (-60863245607, 32), (20849229339, 35), (-30682196151, 39)]

/-- Type T, −270 to 0 °C, in mV. -/
def tcT1 : List (Int × Nat) :=
  [(0, 0), (38748106364, 12), (44194434347, 15), (11844323105, 17), (20032973554, 18), (90138019559, 20),
   (22651156593, 21), (36071154205, 23), (38493939883, 25), (28213521925, 27), (14251594779, 29), (48768662286, 32),
   (1079553927, 33), (13945027062, 37), (79795153927, 41)]

/-- Type T, 0 to 400 °C, in mV. -/
def tcT2 : List (Int × Nat) :=
  [(0, 0), (38748106364, 12), (3329222788, 14), (20618243404, 17), (-21882256846, 19), (10996880928, 21),
   (-30815758772, 24), (4547913529, 26), (-27512901673, 30)]

/-- Type E, −270 to 0 °C, in mV. -/
def tcE1 : List (Int × Nat) :=
  [(0, 0), (58665508708, 12), (45410977124, 15), (-77998048686, 17), (-25800160843, 18), (-59452583057, 20),
   (-93214058667, 22), (-10287605534, 23), (-80370123621, 26), (-43979497391, 28), (-16414776355, 30),
   (-39673619516, 33), (-55827328721, 36), (-34657842013, 39)]

/-- Type E, 0 to 1000 °C, in mV. -/
def tcE2 : List (Int × Nat) :=
  [(0, 0), (5866550871, 11), (45032275582, 15), (28908407212, 18), (-33056896652, 20), (6502440327, 22),
   (-19197495504, 26), (-12536600497, 28), (21489217569, 31), (-14388041782, 34), (35960899481, 38)]

/-- Type S, −50 to 1064.18 °C, in mV. -/
def tcS1 : List (Int × Nat) :=
  [(0, 0), (540313308631, 14), (12593428974, 15), (-232477968689, 19), (322028823036, 22), (-331465196389, 25),
   (255744251786, 28), (-125068871393, 31), (271443176145, 35)]

/-- Type S, 1064.18 to 1664.5 °C, in mV. -/
def tcS2 : List (Int × Nat) :=
  [(132900444085, 11), (334509311344, 14), (654805192818, 17), (-164856259209, 20), (129989605174, 25)]

/-- Type S, 1664.5 to 1768.1 °C, in mV. -/
def tcS3 : List (Int × Nat) :=
  [(146628232636, 9), (-258430516752, 12), (163693574641, 15), (-330439046987, 19), (-943223690612, 26)]

/-- Type B, 0 to 630.615 °C, in mV. -/
def tcB1 : List (Int × Nat) :=
  [(0, 0), (-24650818346, 14), (59040421171, 16), (-13257931636, 19), (15668291901, 22), (-1694452924, 24),
   (62990347094, 29)]

/-- Type B, 630.615 to 1820 °C, in mV. -/
def tcB2 : List (Int × Nat) :=
  [(-38938168621, 10), (2857174747, 11), (-84885104785, 15), (15785280164, 17), (-16835344864, 20),
   (11109794013, 23), (-44515431033, 27), (98975640821, 31), (-93791330289, 35)]

/-- n further terms of the series of exp(−z), z and the terms scaled by 2^120, from the term `t` of index k on. -/
def expTerms (z : Int) : Nat → Nat → Int → Int
  | 0, _, _ => 0
  | n + 1, k, t => t + expTerms z n (k + 1) (-(t * z) / 2 ^ 120 / (k + 1 : Nat))

/-- exp(−y) for y ≥ 0, to about 30 decimal places: the 256th power of the series at y/256. -/
def expNeg (y : Rat) : Rat :=
  let e := expTerms (y / 256 * (2 ^ 120 : Nat)).floor 32 0 (2 ^ 120)
  Rat.divInt ((List.range 8).foldl (fun v _ => v * v / 2 ^ 120) e) (2 ^ 120 : Nat)

/-- The voltage in mV of a thermocouple at t °C against 0 °C, where the reference function of its type is defined (TC_TYPE as in
R222). -/
def tcRef (ty : Nat) (t : Rat) : Option Rat :=
  match ty with
  | 0 => some (polyDec t (if t ≤ 760 then tcJ1 else tcJ2))
  | 1 => some (if t < 0 then polyDec t tcK1
      else polyDec t tcK2 + 1185976 / 10000000 * expNeg (1183432 / 10000000000 * (t - 1269686 / 10000) * (t - 1269686 / 10000)))
  | 2 => some (polyDec t (if t < 0 then tcN1 else tcN2))
  | 3 => some (polyDec t (if t < 0 then tcT1 else tcT2))
  | 4 => some (polyDec t (if t < 0 then tcE1 else tcE2))
  | 5 => if t < -50 then none
    else some (polyDec t (if t ≤ 106418 / 100 then tcS1 else if t ≤ 33290 / 20 then tcS2 else tcS3))
  | 6 => if t < 0 then none else some (polyDec t (if t ≤ 630615 / 1000 then tcB1 else tcB2))
  | _ => none

/-- R222: the measurement range of a thermocouple type. -/
def tcRange (ty : Nat) : Option (Rat × Rat) :=
  match ty with
  | 0 => some (-200, 1200) | 1 => some (-200, 1372) | 2 => some (-200, 1300) | 3 => some (-200, 400)
  | 4 => some (-200, 1000) | 5 => some (0, 1768) | 6 => some (250, 1820) | _ => none

/-- R223: E(T), the voltage of a type at a temperature in °C; where the standard defines none, a free value (log entry 24). -/
def tcVoltage (ty : Nat) (t : FVal) : FVal :=
  match tcRef ty (fRat0 t) with
  | some v => fOfQ f64 v
  | none => b64 (Config.tcVoltage ty (toB64 t))

/-- The temperature of lo..hi at which the reference function takes v, by bisection. -/
def tcSolve (ty : Nat) (v : Rat) : Nat → Rat → Rat → Rat
  | 0, lo, _ => lo
  | k + 1, lo, hi =>
    let m := (lo + hi) / 2
    if (tcRef ty m).getD 0 ≤ v then tcSolve ty v k m hi else tcSolve ty v k lo m

/-- R223: E⁻¹(v) within the measurement range of the type; beyond it a value beyond the range end. -/
def tcTemperature (ty : Nat) (v : FVal) : FVal :=
  match tcRange ty with
  | none => .nan
  | some (lo, hi) =>
    let q := fRat0 v
    if q < (tcRef ty lo).getD 0 then fOfQ f64 (lo - 1)
    else if (tcRef ty hi).getD 0 < q then fOfQ f64 (hi + 1)
    else fOfQ f64 (tcSolve ty q 64 lo hi)

/-! ### Resistance thermometers: IEC 60751, and Ni120 -/

/-- R(T)/R0 of the Callendar-Van Dusen equations of IEC 60751 for α = 0.00385. -/
def cvd (t : Rat) : Rat :=
  1 + Rat.divInt 39083 10000000 * t - Rat.divInt 5775 10000000000 * t * t
    - (if t < 0 then Rat.divInt 4183 1000000000000000 * (t - 100) * t * t * t else 0)

/-- The temperature at which cvd takes a value, by bisection of lo..hi. -/
def cvdInv (r : Rat) : Nat → Rat → Rat → Rat
  | 0, lo, _ => lo
  | k + 1, lo, hi => let m := (lo + hi) / 2; if cvd m ≤ r then cvdInv r k m hi else cvdInv r k lo m

/-- R227: the temperature of a Ni120 element of R ohms. The manual gives R(0 °C) = 120 Ω and α = 0.00672, that is R(100 °C) =
200.64 Ω, and nothing else of the characteristic: between and beyond these points it is bent by a free amount. -/
def ni120Temp (r : Rat) : Rat :=
  let x := r / 120 - 1
  x / Rat.divInt 672 100000 + x * (x - Rat.divInt 672 1000) * fRat0 (b64 (Config.ni120 (toB64 (fOfQ f64 r))))

/-- R227: the temperature of an RTD from its resistance; `element` is SENSOR.ELEMENT. -/
def rtdTemp (element : Nat) (r : Rat) : FVal :=
  fOfQ f64 (if element = 2 then ni120Temp r else cvdInv (r / (if element = 1 then 1000 else 100)) 60 (-250) 1100)

end Sys2Proof.Machine
end

