-- ==== Sys2Proof/Machine/Trig.lean ====
section
/-! DEFINITION. Sines, cosines and angles in fixed point with 60 binary places, for the discrete Fourier transform of the grid
quantities (R316). -/

namespace Sys2Proof.Machine

/-- cos(2πk/256) × 2^60 for k = 0-64, rounded to nearest. -/
def cosQuarter : List Int :=
  [1152921504606846976, 1152574266204915294, 1151532760162549490, 1149797613844045067,
   1147369872436662991, 1144250998321047972, 1140442870190345041, 1135947781918545051,
   1130768441178740757, 1124907967812125795, 1118369891948718997, 1111158151880946079,
   1103277091691359535, 1094731458635925751, 1085526400284455520, 1075667461419900464,
   1065160580698383124, 1054012087071972566, 1042228695976360312, 1029817505285732987,
   1016785991037278313, 1003142002927899856, 988893759585853128, 974049843620151246,
   958619196450722178, 942611112922431727, 926035235706216538, 908901549490699688,
   891220374967787610, 873002362615871209, 854258486284375919, 835000036583525154] ++
  [815238614083298888, 794986122325684078, 774254760654426065, 753057016866600074,
   731405659690429196, 709313731093879966, 686794538428668529, 663861646414409556,
   640528868967736374, 616810260881314114, 592720109357758155, 568272925403557503,
   543483435088187080, 518366570673674118, 492937461619961867, 467211425471488651,
   441203958630471860, 414930727022454700, 388407556659738432, 361650424108384337,
   334675446864527722, 307498873645800920, 280137074603713366, 252606531462884448,
   224923827593068887, 197105638019954891, 169168719380752196, 141129899830620387,
   113006068906017470, 84814167351074653, 56571176913125535, 28294110113536504,
   0]

/-- cos(2πk/256) × 2^60. -/
def cosTab (k : Nat) : Int :=
  let j := k % 256
  if j ≤ 64 then cosQuarter.getD j 0
  else if j ≤ 128 then -cosQuarter.getD (128 - j) 0
  else if j ≤ 192 then -cosQuarter.getD (j - 128) 0
  else cosQuarter.getD (256 - j) 0

/-- sin(2πk/256) × 2^60. -/
def sinTab (k : Nat) : Int := cosTab (k + 192)

/-- sin 120° × 2^60. -/
def sin120 : Int := 998459311558907194

/-- Terms of the Taylor series of sine (`odd`) or cosine: n terms from the term `t` of index k on, all × 2^60. -/
def taylorSum (x2 : Int) : Nat → Nat → Int → Int
  | 0, _, _ => 0
  | n + 1, k, t => t + taylorSum x2 n (k + 2) (-(t * x2 / 2 ^ 60) / ((k + 1) * (k + 2) : Nat))

/-- An angle in degrees as radians × 2^60. -/
def radFix (deg : Rat) : Int := (deg * ((57952155664616982739 : Int) : Rat) / 180 / 16).floor

/-- cos of an angle in degrees × 2^60, for angles within ±180. -/
def cosFix (deg : Rat) : Int :=
  let x := radFix deg
  taylorSum (x * x / 2 ^ 60) 16 0 (2 ^ 60)

/-- sin of an angle in degrees × 2^60, for angles within ±180. -/
def sinFix (deg : Rat) : Int :=
  let x := radFix deg
  taylorSum (x * x / 2 ^ 60) 16 1 x

/-- π, to 62 decimal places. -/
def piRat : Rat := Rat.divInt 314159265358979323846264338327950288419716939937510582097494459 (10 ^ 62)

/-- The arc tangent of t × 2^-160, 0 ≤ t ≤ 2^160, in radians × 2^160. -/
def atanFix (t : Nat) : Int :=
  let half (u : Nat) : Nat := u * 2 ^ 160 / (2 ^ 160 + Nat.sqrt (2 ^ 320 + u * u))
  let u : Int := (half (half t) : Nat)
  let u2 := u * u / 2 ^ 160
  let r := (List.range 40).foldl (fun (a : Int × Int) n =>
    (a.1 + a.2 / (2 * n + 1 : Nat), -(a.2 * u2 / 2 ^ 160))) (0, u)
  4 * r.1

/-- The angle of (x, y) in degrees, within -180 to +180; 0 for the zero vector. -/
def atan2Deg (y x : Int) : Rat :=
  let a := y.natAbs
  let b := x.natAbs
  if a = 0 ∧ b = 0 then 0
  else
    let deg (t : Nat) : Rat := Rat.divInt (atanFix t) (2 ^ 160) * 180 / piRat
    let base : Rat := if a ≤ b then deg (a * 2 ^ 160 / b) else 90 - deg (b * 2 ^ 160 / a)
    let q := if x < 0 then 180 - base else base
    if y < 0 then -q else q

/-- Terms of the Taylor series of sine or cosine × 2^160. -/
def taylor160 (x2 : Int) : Nat → Nat → Int → Int
  | 0, _, _ => 0
  | n + 1, k, t => t + taylor160 x2 n (k + 2) (-(t * x2 / 2 ^ 160) / ((k + 1) * (k + 2) : Nat))

/-- An angle in radians reduced to within ±π, × 2^160. -/
def radReduce (q : Rat) : Int :=
  let n : Int := ((q / (2 * piRat)) + 1 / 2).floor
  ((q - 2 * piRat * (n : Rat)) * (2 ^ 160 : Nat)).floor

/-- sine and cosine of an angle in radians, binary64. -/
def sin64 (x : FVal) : FVal :=
  let r := radReduce (fRat0 x)
  fOfQ f64 (Rat.divInt (taylor160 (r * r / 2 ^ 160) 40 1 r) (2 ^ 160))
def cos64 (x : FVal) : FVal :=
  let r := radReduce (fRat0 x)
  fOfQ f64 (Rat.divInt (taylor160 (r * r / 2 ^ 160) 40 0 (2 ^ 160)) (2 ^ 160))

end Sys2Proof.Machine
end

