-- ==== Sys2Proof/Machine/Linear.lean ====
section
/-! DEFINITION. The binary64 arithmetic of the solver engine and of the lanes' check: vectors, the LDLᵀ factorisation with
replaced pivots (R402), the residuals (R406), and the kinematics and dynamics of linkages (R434-R438). The manual gives the
formulas and not the order of the single operations; the order here is log entry 26. -/

namespace Sys2Proof.Machine

/-! ### Vectors and dense matrices (row-major) -/

/-- A binary64 vector. -/
abbrev Vec := List FVal

/-- Element i of a vector, +0 beyond its end. -/
def vat (v : Vec) (i : Nat) : FVal := v.getD i FVal.zero

/-- Element (i, j) of a dense row-major matrix of c columns. -/
def mat (m : Vec) (c i j : Nat) : FVal := vat m (i * c + j)

/-- Element (i, j) of a symmetric matrix packed as its lower triangle by rows (R391). -/
def sym (m : Vec) (i j : Nat) : FVal := if j ≤ i then vat m (i * (i + 1) / 2 + j) else vat m (j * (j + 1) / 2 + i)

/-- The sum of n products, accumulated by fused multiply-adds from index 0. -/
def dotN (n : Nat) (a b : Nat → FVal) : FVal :=
  (List.range n).foldl (fun acc k => fFma f64 (a k) (b k) acc) FVal.zero

/-- Short names for binary64 operations. -/
def dAdd (a b : FVal) : FVal := fAdd f64 a b
def dSub (a b : FVal) : FVal := fSub f64 a b
def dMul (a b : FVal) : FVal := fMul f64 a b
def dDiv (a b : FVal) : FVal := fDiv f64 a b
def dInt (i : Int) : FVal := fOfInt f64 i

/-- The maximum norm of a vector; a NaN makes it a NaN. -/
def normInf (v : Vec) : FVal := v.foldl (fun m x => if x.isNan || m.isNan then .nan else fMax m (fAbs x)) FVal.zero

/-- Elementwise sum and difference of two vectors. -/
def vAdd (a b : Vec) : Vec := (List.range a.length).map (fun i => dAdd (vat a i) (vat b i))
def vSub (a b : Vec) : Vec := (List.range a.length).map (fun i => dSub (vat a i) (vat b i))

/-- Matrix by vector, the matrix given by its elements. -/
def mulVec (r c : Nat) (m : Nat → Nat → FVal) (x : Vec) : Vec := (List.range r).map (fun i => dotN c (m i) (vat x))

/-- The same with the transposed matrix. -/
def mulVecT (r c : Nat) (m : Nat → Nat → FVal) (x : Vec) : Vec :=
  (List.range c).map (fun j => dotN r (fun i => m i j) (vat x))

/-- A quotient whose zero denominator makes it 0 (R406). -/
def quot0 (a b : FVal) : FVal := if b.isZero then FVal.zero else dDiv a b

/-! ### LDLᵀ (R402) -/

/-- R402: the floor of a factorisation of dimension n with pivot exponent e. -/
def pivotFloor (n e : Nat) (a : Nat → Nat → FVal) : FVal :=
  let m := normInf ((List.range n).map (fun i => a i i))
  let f : FVal := .fin false 1 (-(e : Int))
  if m.isZero then f else dMul f m

/-- R402: the pivot used, and whether it was replaced. -/
def pivotOf (floor d : FVal) : FVal × Bool :=
  if d.isZero then (floor, true)
  else if fLe (fAbs d) floor then (if d.isNeg then fNeg floor else floor, true)
  else (d, false)

/-- A factorisation: the rows of L below its unit diagonal, the pivots, and the replacements. -/
structure Ldl where
  rows : List Vec := []
  d : Vec := []
  clamps : Nat := 0

/-- Row i of the factorisation, from the rows before it. -/
def ldlRow (floor : FVal) (a : Nat → Nat → FVal) (f : Ldl) (i : Nat) : Ldl :=
  let row : Vec := (List.range i).foldl (fun (r : Vec) j =>
    let lj := f.rows.getD j []
    let s := (List.range j).foldl (fun acc k => fFma f64 (fNeg (dMul (vat r k) (vat lj k))) (vat f.d k) acc) (a i j)
    r ++ [dDiv s (vat f.d j)]) []
  let s := (List.range i).foldl (fun acc k => fFma f64 (fNeg (dMul (vat row k) (vat row k))) (vat f.d k) acc) (a i i)
  let p := pivotOf floor s
  { rows := f.rows ++ [row], d := f.d ++ [p.1], clamps := f.clamps + b2n p.2 }

/-- R402: the LDLᵀ factorisation of a symmetric matrix of dimension n. -/
def ldl (n e : Nat) (a : Nat → Nat → FVal) : Ldl :=
  (List.range n).foldl (ldlRow (pivotFloor n e a) a) {}

/-- Solve L·D·Lᵀ·x = b. -/
def ldlSolve (n : Nat) (f : Ldl) (b : Vec) : Vec :=
  let y : Vec := (List.range n).foldl (fun (y : Vec) i =>
    let r := f.rows.getD i []
    y ++ [(List.range i).foldl (fun acc k => fFma f64 (fNeg (vat r k)) (vat y k) acc) (vat b i)]) []
  let z : Vec := (List.range n).map (fun i => dDiv (vat y i) (vat f.d i))
  (List.range n).foldl (fun (x : Vec) q =>
    let i := n - 1 - q
    let v := (List.range q).foldl (fun acc k =>
      fFma f64 (fNeg (vat (f.rows.getD (i + 1 + k) []) i)) (vat x k) acc) (vat z i)
    v :: x) []

/-- Are all numbers finite. -/
def allFin (v : Vec) : Bool := v.all FVal.isFin

/-- Every number of a factorisation. -/
def Ldl.nums (f : Ldl) : Vec := f.rows.flatten ++ f.d

/-! ### Rigid bodies -/

/-- A vector of three, and a rotation matrix by rows. -/
abbrev V3 := FVal × FVal × FVal
abbrev M3 := V3 × V3 × V3

def v3 (v : Vec) (i : Nat) : V3 := (vat v i, vat v (i + 1), vat v (i + 2))
def V3.list (a : V3) : Vec := [a.1, a.2.1, a.2.2]
def M3.list (m : M3) : Vec := V3.list m.1 ++ V3.list m.2.1 ++ V3.list m.2.2
def v3Add (a b : V3) : V3 := (dAdd a.1 b.1, dAdd a.2.1 b.2.1, dAdd a.2.2 b.2.2)
def v3Sub (a b : V3) : V3 := (dSub a.1 b.1, dSub a.2.1 b.2.1, dSub a.2.2 b.2.2)
def v3Neg (a : V3) : V3 := (fNeg a.1, fNeg a.2.1, fNeg a.2.2)
def v3Scale (k : FVal) (a : V3) : V3 := (dMul k a.1, dMul k a.2.1, dMul k a.2.2)
def v3Dot (a b : V3) : FVal := fFma f64 a.2.2 b.2.2 (fFma f64 a.2.1 b.2.1 (dMul a.1 b.1))
def v3Cross (a b : V3) : V3 :=
  (fFma f64 a.2.1 b.2.2 (fNeg (dMul a.2.2 b.2.1)), fFma f64 a.2.2 b.1 (fNeg (dMul a.1 b.2.2)),
   fFma f64 a.1 b.2.1 (fNeg (dMul a.2.1 b.1)))
def m3Mul (m : M3) (a : V3) : V3 := (v3Dot m.1 a, v3Dot m.2.1 a, v3Dot m.2.2 a)
def m3T (m : M3) : M3 :=
  ((m.1.1, m.2.1.1, m.2.2.1), (m.1.2.1, m.2.1.2.1, m.2.2.2.1), (m.1.2.2, m.2.1.2.2, m.2.2.2.2))
def m3Comp (m n : M3) : M3 :=
  let t := m3T n
  ((v3Dot m.1 t.1, v3Dot m.1 t.2.1, v3Dot m.1 t.2.2), (v3Dot m.2.1 t.1, v3Dot m.2.1 t.2.1, v3Dot m.2.1 t.2.2),
   (v3Dot m.2.2 t.1, v3Dot m.2.2 t.2.1, v3Dot m.2.2 t.2.2))
def m3Id : M3 := ((.one, .zero, .zero), (.zero, .one, .zero), (.zero, .zero, .one))
def m3OfList (v : Vec) (i : Nat) : M3 := (v3 v i, v3 v (i + 3), v3 v (i + 6))

/-- Rotations about x, y and z. -/
def rotX (q : FVal) : M3 := ((.one, .zero, .zero), (.zero, cos64 q, fNeg (sin64 q)), (.zero, sin64 q, cos64 q))
def rotY (q : FVal) : M3 := ((cos64 q, .zero, sin64 q), (.zero, .one, .zero), (fNeg (sin64 q), .zero, cos64 q))
def rotZ (q : FVal) : M3 := ((cos64 q, fNeg (sin64 q), .zero), (sin64 q, cos64 q, .zero), (.zero, .zero, .one))

/-- The rotation matrix of a unit quaternion w, x, y, z. -/
def quatMat (w x y z : FVal) : M3 :=
  let two := dInt 2
  let p (a b : FVal) : FVal := dMul two (dMul a b)
  ((dSub (dSub .one (p y y)) (p z z), dSub (p x y) (p w z), dAdd (p x z) (p w y)),
   (dAdd (p x y) (p w z), dSub (dSub .one (p x x)) (p z z), dSub (p y z) (p w x)),
   (dSub (p x z) (p w y), dAdd (p y z) (p w x), dSub (dSub .one (p x x)) (p y y)))

/-! ### The joint table (R434) -/

/-- Column c of row j of a joint table. -/
def jt (t : Vec) (j c : Nat) : FVal := mat t 24 j c

/-- KIND of row j as an integer. -/
def jtKind (t : Vec) (j : Nat) : Int := (fNearest (jt t j 0)).getD 0

/-- Revolute kinds, and kinds that a type-4 job solves. -/
def jtRev (t : Vec) (j : Nat) : Bool := jtKind t j == 0 || jtKind t j == 3
def jtSolved (t : Vec) (j : Nat) : Bool := jtKind t j == 0 || jtKind t j == 1

/-- The rotation and the origin of row j's frame in the frame of the previous row, with the joint at q. -/
def jtFrame (t : Vec) (j : Nat) (q : FVal) : M3 × V3 :=
  let r := quatMat (jt t j 4) (jt t j 5) (jt t j 6) (jt t j 7)
  let o : V3 := (jt t j 1, jt t j 2, jt t j 3)
  if jtKind t j = 2 then (r, o)
  else
    let a := dAdd q (jt t j 20)
    if jtRev t j then (m3Comp r (rotZ a), o) else (r, v3Add o (m3Mul r (.zero, .zero, a)))

/-- The frames of rows 0..n in the root frame: rotation and origin. -/
def chain (t q : Vec) (n : Nat) (base : M3 × V3) : List (M3 × V3) :=
  ((List.range (n + 1)).foldl (fun (acc : List (M3 × V3) × (M3 × V3)) j =>
    let f := jtFrame t j (vat q j)
    let g : M3 × V3 := (m3Comp acc.2.1 f.1, v3Add acc.2.2 (m3Mul acc.2.1 f.2))
    (acc.1 ++ [g], g)) ([], base)).1

/-- The end frame. -/
def endFrame (t q : Vec) (n : Nat) (base : M3 × V3) : M3 × V3 := (chain t q n base).getD n (m3Id, (.zero, .zero, .zero))

/-! ### Type 3: inverse dynamics (R436, R437) -/

/-- What the outward pass leaves of a link: its frame in the previous one, and the force and moment of its motion. -/
structure Link where
  r : M3
  o : V3
  fl : V3
  nl : V3
  com : V3

/-- Motion of a frame: angular velocity and acceleration, and specific force at its origin. -/
structure Motion where
  w : V3
  al : V3
  a : V3

/-- R437: the outward pass over row j. -/
def outward (t q qd qdd : Vec) (acc : List Link × Motion) (j : Nat) : List Link × Motion :=
  let fr := jtFrame t j (vat q j)
  let rt := m3T fr.1
  let m := acc.2
  let z : V3 := (.zero, .zero, .one)
  let w0 := m3Mul rt m.w
  let al0 := m3Mul rt m.al
  let a0 := m3Mul rt (v3Add (v3Add m.a (v3Cross m.al fr.2)) (v3Cross m.w (v3Cross m.w fr.2)))
  let zq := v3Scale (vat qd j) z
  let zqq := v3Scale (vat qdd j) z
  let m1 : Motion :=
    if jtRev t j then ⟨v3Add w0 zq, v3Add (v3Add al0 zqq) (v3Cross w0 zq), a0⟩
    else ⟨w0, al0, v3Add (v3Add a0 (v3Scale (dInt 2) (v3Cross w0 zq))) zqq⟩
  let c : V3 := (jt t j 9, jt t j 10, jt t j 11)
  let ac := v3Add (v3Add m1.a (v3Cross m1.al c)) (v3Cross m1.w (v3Cross m1.w c))
  let i : M3 := ((jt t j 12, jt t j 15, jt t j 16), (jt t j 15, jt t j 13, jt t j 17), (jt t j 16, jt t j 17, jt t j 14))
  let nl := v3Add (m3Mul i m1.al) (v3Cross m1.w (m3Mul i m1.w))
  (acc.1 ++ [⟨fr.1, fr.2, v3Scale (jt t j 8) ac, nl, c⟩], m1)

/-- R437: the inward pass: the joint torques, from the last link to the first. -/
def inward (t qd : Vec) : List Link → Nat → V3 × V3 → Vec → Vec
  | [], _, _, taus => taus
  | l :: rest, j, fn, taus =>
    let f := v3Add l.fl fn.1
    let n := v3Add (v3Add l.nl (v3Cross l.com l.fl)) fn.2
    let v := vat qd j
    let sg : FVal := if v.isZero then .zero else if v.isNeg then dInt (-1) else .one
    let tau := dAdd (dAdd (if jtRev t j then n.2.2 else f.2.2) (dMul (jt t j 18) v)) (dMul (jt t j 19) sg)
    let f' := m3Mul l.r f
    inward t qd rest (j - 1) (f', v3Add (m3Mul l.r n) (v3Cross l.o f')) (tau :: taus)

/-- R437: the joint torques for joint table, q, q̇, q̈, base motion and payload wrench. -/
def invDyn (n : Nat) (t q qd qdd b pay : Vec) : Vec :=
  let w := v3 b 0
  let al := v3 b 3
  let r := v3Neg (v3 b 15)
  let a0 := v3Add (v3Add (v3 b 6) (v3Cross al r)) (v3Cross w (v3Cross w r))
  let links := ((List.range n).foldl (outward t q qd qdd) ([], ⟨w, al, a0⟩)).1
  let e := jtFrame t n .zero
  let f := m3Mul e.1 (v3Neg (v3 pay 0))
  let m := v3Add (m3Mul e.1 (v3Neg (v3 pay 3))) (v3Cross e.2 f)
  inward t qd links.reverse (n - 1) (f, m) []

/-- R435, R437: the end-frame pose in the reference frame. -/
def basePose (b : Vec) : M3 × V3 :=
  (m3Comp (m3Comp (rotZ (vat b 11)) (rotY (vat b 10))) (rotX (vat b 9)), v3 b 12)
def endPose (n : Nat) (t q b : Vec) : Vec :=
  let f := endFrame t q n (basePose b)
  V3.list f.2 ++ M3.list f.1

/-! ### Type 4: inverse kinematics (R438) -/

/-- R438: the weighted task error. -/
def taskError (n : Nat) (t q target w : Vec) : Vec :=
  let f := endFrame t q n (m3Id, (.zero, .zero, .zero))
  let ep := v3Sub (v3 target 0) f.2
  let rt := m3OfList target 3
  let s := m3Comp rt (m3T f.1)
  let u := m3T s
  let half : FVal := .fin false 1 (-1)
  let eo : V3 := v3Scale half (dSub s.2.2.2.1 u.2.2.2.1, dSub s.1.2.2 u.1.2.2, dSub s.2.1.1 u.2.1.1)
  let e := V3.list ep ++ V3.list eo
  (List.range 6).map (fun i => dMul (vat w i) (vat e i))

/-- The weighted Jacobian, one column of six per joint; the column of a driven joint is zero. -/
def jacobian (n : Nat) (t q w : Vec) : List Vec :=
  let fs := chain t q n (m3Id, (.zero, .zero, .zero))
  let pe := (fs.getD n (m3Id, (.zero, .zero, .zero))).2
  (List.range n).map (fun j =>
    let f := fs.getD j (m3Id, (.zero, .zero, .zero))
    let z := m3Mul f.1 (.zero, .zero, .one)
    let col := if jtSolved t j = false then List.replicate 6 FVal.zero
      else if jtRev t j then V3.list (v3Cross z (v3Sub pe f.2)) ++ V3.list z
      else V3.list z ++ List.replicate 3 FVal.zero
    (List.range 6).map (fun i => dMul (vat w i) (vat col i)))

/-- R438: one damped least-squares step: the new joint positions, the pivots replaced, and every number computed. -/
def ikStep (n e : Nat) (t q target lam w lim : Vec) : Vec × Nat × Vec :=
  let ew := taskError n t q target w
  let jw := jacobian n t q w
  let l2 := dMul (vat lam 0) (vat lam 0)
  let a (i j : Nat) : FVal :=
    let s := dotN n (fun k => vat (jw.getD k []) i) (fun k => vat (jw.getD k []) j)
    if i = j then dAdd s l2 else s
  let f := ldl 6 e a
  let y := ldlSolve 6 f ew
  let q1 := (List.range n).map (fun k =>
    if jtSolved t k then
      fClamp (vat lim (2 * k)) (vat lim (2 * k + 1)) (dAdd (vat q k) (dotN 6 (vat (jw.getD k [])) (vat y)))
    else vat q k)
  (q1, f.clamps, ew ++ jw.flatten ++ f.nums ++ y ++ q1)

end Sys2Proof.Machine
end

