-- ==== Sys2Proof/Machine/Regs.lean ====
section
/-! DEFINITION. The byte address of every named register (R47, R62 and the page table of each chapter), so that a meaning
names a register as the manual does. A register that repeats takes its number; MBC and ACH registers take the instance
number first. -/

namespace Sys2Proof.Machine.Reg

abbrev pageId (p : Nat) : Nat := 0x100000 + 0x1000 * p
abbrev ctrl (p : Nat) : Nat := 0x100008 + 0x1000 * p
abbrev stat (p : Nat) : Nat := 0x10000c + 0x1000 * p
abbrev evtRaw (p : Nat) : Nat := 0x100010 + 0x1000 * p
abbrev evtEn (p : Nat) : Nat := 0x100014 + 0x1000 * p
abbrev evtPend (p : Nat) : Nat := 0x100018 + 0x1000 * p
abbrev lock (p : Nat) : Nat := 0x10001c + 0x1000 * p
abbrev writeRej (p : Nat) : Nat := 0x100020 + 0x1000 * p
abbrev evtSev (p : Nat) : Nat := 0x100024 + 0x1000 * p
abbrev sysHwissue : Nat := 0x100040
abbrev sysSerialLo : Nat := 0x100044
abbrev sysSerialHi : Nat := 0x100048
abbrev sysVariant : Nat := 0x10004c
abbrev sysStation : Nat := 0x100050
abbrev sysRole : Nat := 0x100054
abbrev sysService : Nat := 0x100058
abbrev sysSheafBank : Nat := 0x10005c
abbrev sysSheafDig (k : Nat) : Nat := 0x100060 + 4 * k
abbrev sysGenLo : Nat := 0x100080
abbrev sysGenHi : Nat := 0x100084
abbrev sysPendMapLo : Nat := 0x100088
abbrev sysPendMapHi : Nat := 0x10008c
abbrev sysUptime : Nat := 0x100090
abbrev sysOverlayUse : Nat := 0x100094
abbrev sysLabel (k : Nat) : Nat := 0x100100 + 4 * k
abbrev tbuBusState : Nat := 0x103040
abbrev tbuSlotNow : Nat := 0x103044
abbrev tbuSlotLen : Nat := 0x103048
abbrev tbuStretch : Nat := 0x10304c
abbrev tbuPhaseErr : Nat := 0x103050
abbrev tbuFreq : Nat := 0x103054
abbrev tbuRocof : Nat := 0x103058
abbrev tbuVaLevel : Nat := 0x10305c
abbrev tbuShaftState : Nat := 0x103060
abbrev tbuShaftAngle : Nat := 0x103064
abbrev tbuShaftSpeed : Nat := 0x103068
abbrev tbuShipLo : Nat := 0x10306c
abbrev tbuShipHi : Nat := 0x103070
abbrev tbuShipState : Nat := 0x103074
abbrev tbuPtpOffset : Nat := 0x103078
abbrev tbuCntLockLost : Nat := 0x103080
abbrev tbuCntFreeRun : Nat := 0x103084
abbrev tbuCntShaftMissed : Nat := 0x103088
abbrev tbuCntShaftToothErr : Nat := 0x10308c
abbrev tbuCntShipStep : Nat := 0x103090
abbrev tbuBusCfg : Nat := 0x103100
abbrev tbuShaftCfg : Nat := 0x103104
abbrev tbuShaftIndexOfs : Nat := 0x103108
abbrev tbuShipCfg : Nat := 0x10310c
abbrev seqPos : Nat := 0x104040
abbrev seqLag : Nat := 0x104044
abbrev seqLagMax : Nat := 0x104048
abbrev seqCntLate : Nat := 0x10404c
abbrev seqLastLate : Nat := 0x104050
abbrev seqLastLateWord : Nat := 0x104054
abbrev seqCntSlip : Nat := 0x104058
abbrev imgGenReadLo : Nat := 0x105040
abbrev imgGenReadHi : Nat := 0x105044
abbrev imgDirtyLast : Nat := 0x105048
abbrev imgDirtyMax : Nat := 0x10504c
abbrev imgCntDirtyOver : Nat := 0x105050
abbrev imgCntEccCorr : Nat := 0x105054
abbrev imgCntEccDouble : Nat := 0x105058
abbrev imgLastEcc : Nat := 0x10505c
abbrev imgScrubPasses : Nat := 0x105060
abbrev imgCntHeldSwap : Nat := 0x105064
abbrev imgTagBase : Nat := 0x105100
abbrev imgEccCfg : Nat := 0x105104
abbrev imgTag (k : Nat) : Nat := 0x105800 + 4 * k
abbrev achValue (n : Nat) : Nat := 0x120040 + 0x1000 * n
abbrev achStatus (n : Nat) : Nat := 0x120044 + 0x1000 * n
abbrev achRaw (n : Nat) : Nat := 0x120048 + 0x1000 * n
abbrev achCjTemp (n : Nat) : Nat := 0x12004c + 0x1000 * n
abbrev achFeTemp (n : Nat) : Nat := 0x120050 + 0x1000 * n
abbrev achWinLast (n : Nat) : Nat := 0x120054 + 0x1000 * n
abbrev achCalState (n : Nat) : Nat := 0x120058 + 0x1000 * n
abbrev achCntWinMismatch (n : Nat) : Nat := 0x12005c + 0x1000 * n
abbrev achCntWinAbandoned (n : Nat) : Nat := 0x120060 + 0x1000 * n
abbrev achCntMiswire (n : Nat) : Nat := 0x120064 + 0x1000 * n
abbrev achCntOpenShort (n : Nat) : Nat := 0x120068 + 0x1000 * n
abbrev achCntRange (n : Nat) : Nat := 0x12006c + 0x1000 * n
abbrev achCfg (n : Nat) : Nat := 0x120100 + 0x1000 * n
abbrev achScaleA (n : Nat) : Nat := 0x120104 + 0x1000 * n
abbrev achScaleB (n : Nat) : Nat := 0x120108 + 0x1000 * n
abbrev achSensor (n : Nat) : Nat := 0x12010c + 0x1000 * n
abbrev achLeadRes (n : Nat) : Nat := 0x120110 + 0x1000 * n
abbrev achCjFixed (n : Nat) : Nat := 0x120114 + 0x1000 * n
abbrev achStartValue (n : Nat) : Nat := 0x120118 + 0x1000 * n
abbrev achTrimCfg (n : Nat) : Nat := 0x120180 + 0x1000 * n
abbrev achTrimGain (n : Nat) : Nat := 0x120184 + 0x1000 * n
abbrev achTrimOfs (n : Nat) : Nat := 0x120188 + 0x1000 * n
abbrev achCalDate (n : Nat) : Nat := 0x12018c + 0x1000 * n
abbrev achRbValue (n : Nat) : Nat := 0x120070 + 0x1000 * n
abbrev achRbStat (n : Nat) : Nat := 0x120074 + 0x1000 * n
abbrev achCntOutMismatch (n : Nat) : Nat := 0x120078 + 0x1000 * n
abbrev achCntCompliance (n : Nat) : Nat := 0x12007c + 0x1000 * n
abbrev achOutCfg (n : Nat) : Nat := 0x120140 + 0x1000 * n
abbrev achFaultValue (n : Nat) : Nat := 0x120144 + 0x1000 * n
abbrev achOutRestore (n : Nat) : Nat := 0x120148 + 0x1000 * n
abbrev achHartCfg (n : Nat) : Nat := 0x120200 + 0x1000 * n
abbrev achHartCtrl (n : Nat) : Nat := 0x120204 + 0x1000 * n
abbrev achHartTxLen (n : Nat) : Nat := 0x120208 + 0x1000 * n
abbrev achHartStat (n : Nat) : Nat := 0x12020c + 0x1000 * n
abbrev achHartRxLen (n : Nat) : Nat := 0x120210 + 0x1000 * n
abbrev achCntHartTx (n : Nat) : Nat := 0x120214 + 0x1000 * n
abbrev achCntHartNoresp (n : Nat) : Nat := 0x120218 + 0x1000 * n
abbrev achCntHartErr (n : Nat) : Nat := 0x12021c + 0x1000 * n
abbrev achCntHartOverrun (n : Nat) : Nat := 0x120220 + 0x1000 * n
abbrev achHartTx (n : Nat) (k : Nat) : Nat := 0x120800 + 0x1000 * n + 4 * k
abbrev achHartRx (n : Nat) (k : Nat) : Nat := 0x120a00 + 0x1000 * n + 4 * k
abbrev lspLoadPower : Nat := 0x106040
abbrev lspRailOk : Nat := 0x106044
abbrev lspOverload : Nat := 0x106048
abbrev lspActive : Nat := 0x10604c
abbrev lspCntOverload : Nat := 0x106050
abbrev lspCntRailFail : Nat := 0x106054
abbrev lspSupplyEn : Nat := 0x106100
abbrev lspOvlCfg : Nat := 0x106104
abbrev dioInLo : Nat := 0x107040
abbrev dioInHi : Nat := 0x107044
abbrev dioOutLo : Nat := 0x107048
abbrev dioOutHi : Nat := 0x10704c
abbrev dioFaultLo : Nat := 0x107050
abbrev dioFaultHi : Nat := 0x107054
abbrev dioFsVolt : Nat := 0x107058
abbrev dioCntLineFault : Nat := 0x10705c
abbrev dioCntShort : Nat := 0x107060
abbrev dioCntPulseRetrig : Nat := 0x107064
abbrev dioCntCmdFault : Nat := 0x107068
abbrev dioLine (k : Nat) : Nat := 0x107080 + 4 * k
abbrev dioTestCfg : Nat := 0x107100
abbrev dioOutRetry : Nat := 0x107104
abbrev dioChCfg (k : Nat) : Nat := 0x107200 + 4 * k
abbrev piuCount (k : Nat) : Nat := 0x108040 + 32 * k
abbrev piuFreq (k : Nat) : Nat := 0x108044 + 32 * k
abbrev piuSpeed (k : Nat) : Nat := 0x108048 + 32 * k
abbrev piuAngle (k : Nat) : Nat := 0x10804c + 32 * k
abbrev piuStatus (k : Nat) : Nat := 0x108050 + 32 * k
abbrev piuCntErr (k : Nat) : Nat := 0x108054 + 32 * k
abbrev piuCfg (k : Nat) : Nat := 0x108100 + 16 * k
abbrev piuTeeth (k : Nat) : Nat := 0x108104 + 16 * k
abbrev gmuSetState : Nat := 0x109040
abbrev gmuResGenLo : Nat := 0x109044
abbrev gmuResGenHi : Nat := 0x109048
abbrev gmuFreqA : Nat := 0x10904c
abbrev gmuFreqB : Nat := 0x109050
abbrev gmuUA : Nat := 0x109054
abbrev gmuUB : Nat := 0x109058
abbrev gmuDelta : Nat := 0x10905c
abbrev gmuSlip : Nat := 0x109060
abbrev gmuCntOverRange : Nat := 0x109064
abbrev gmuCntConvFault : Nat := 0x109068
abbrev gmuCntRotRev : Nat := 0x10906c
abbrev gmuCfg : Nat := 0x109100
abbrev gmuNomU : Nat := 0x109104
abbrev gmuNomI : Nat := 0x109108
abbrev gmuRatioVa : Nat := 0x10910c
abbrev gmuRatioVb : Nat := 0x109110
abbrev gmuRatioIa : Nat := 0x109114
abbrev gmuPhaseTrimVb : Nat := 0x109118
abbrev gmuPhaseTrimIa : Nat := 0x10911c
abbrev gmuResult (k : Nat) : Nat := 0x109800 + 4 * k
abbrev synSetState : Nat := 0x10a040
abbrev synArmed : Nat := 0x10a044
abbrev synBlock : Nat := 0x10a048
abbrev synPlanSlot : Nat := 0x10a04c
abbrev synLastIssueLo : Nat := 0x10a050
abbrev synLastIssueHi : Nat := 0x10a054
abbrev synLastIssueSlot : Nat := 0x10a058
abbrev synLastPred : Nat := 0x10a05c
abbrev synLastTcb : Nat := 0x10a060
abbrev synCntClose : Nat := 0x10a064
abbrev synCntRefused : Nat := 0x10a068
abbrev synCntTimeout : Nat := 0x10a06c
abbrev synSetIo (k : Nat) : Nat := 0x10a200 + 32 * k
abbrev synSetTime (k : Nat) : Nat := 0x10a204 + 32 * k
abbrev synSetAngle (k : Nat) : Nat := 0x10a208 + 32 * k
abbrev synSetVolt (k : Nat) : Nat := 0x10a20c + 32 * k
abbrev synSetSlip (k : Nat) : Nat := 0x10a210 + 32 * k
abbrev synSetMode (k : Nat) : Nat := 0x10a214 + 32 * k
abbrev cleCntSteps : Nat := 0x10b040
abbrev cleCntRunWait : Nat := 0x10b044
abbrev cleCntRegionChg : Nat := 0x10b048
abbrev cleCntOsc : Nat := 0x10b04c
abbrev cleCntPvBad : Nat := 0x10b050
abbrev cleCntNumeric : Nat := 0x10b054
abbrev cleCntHSubst : Nat := 0x10b058
abbrev cleCntCommitFail : Nat := 0x10b05c
abbrev cleCommitGenLo : Nat := 0x10b060
abbrev cleCommitGenHi : Nat := 0x10b064
abbrev cleCommitResult : Nat := 0x10b068
abbrev cleOscMap (k : Nat) : Nat := 0x10b080 + 4 * k
abbrev cleHoldMap (k : Nat) : Nat := 0x10b0a0 + 4 * k
abbrev cleLoopSel : Nat := 0x10b100
abbrev cleOscAck : Nat := 0x10b104
abbrev cleMode (k : Nat) : Nat := 0x10b300 + 4 * k
abbrev cleSp (k : Nat) : Nat := 0x10b400 + 4 * k
abbrev cleLoopEff (k : Nat) : Nat := 0x10b800 + 4 * k
abbrev cleLoopShd (k : Nat) : Nat := 0x10ba00 + 4 * k
abbrev cleLoopState (k : Nat) : Nat := 0x10bc00 + 4 * k
abbrev slvCntJobs : Nat := 0x10c040
abbrev slvCntConverged : Nat := 0x10c044
abbrev slvCntAbandoned : Nat := 0x10c048
abbrev slvCntIterCap : Nat := 0x10c04c
abbrev slvCntNumeric : Nat := 0x10c050
abbrev slvCntPivotClamp : Nat := 0x10c054
abbrev slvCntDegraded : Nat := 0x10c058
abbrev slvCntHeld : Nat := 0x10c05c
abbrev slvCntFallback : Nat := 0x10c060
abbrev slvCntDisagree : Nat := 0x10c064
abbrev slvCntInputBad : Nat := 0x10c068
abbrev slvCntStartWait : Nat := 0x10c06c
abbrev slvSlotState (k : Nat) : Nat := 0x10c080 + 16 * k
abbrev slvSlotRho (k : Nat) : Nat := 0x10c084 + 16 * k
abbrev slvSlotSolverRho (k : Nat) : Nat := 0x10c088 + 16 * k
abbrev slvSlotRun (k : Nat) : Nat := 0x10c08c + 16 * k
abbrev slvForceFb : Nat := 0x10c100
abbrev safInState : Nat := 0x10d040
abbrev safGroupState : Nat := 0x10d044
abbrev safOutState : Nat := 0x10d048
abbrev safGuardState : Nat := 0x10d04c
abbrev safFaultState : Nat := 0x10d050
abbrev safResetState : Nat := 0x10d054
abbrev safLastRefused : Nat := 0x10d058
abbrev safUnitState : Nat := 0x10d05c
abbrev safBk0State : Nat := 0x10d060
abbrev safBk1State : Nat := 0x10d064
abbrev safBk0Due : Nat := 0x10d068
abbrev safBk1Due : Nat := 0x10d06c
abbrev safBk0Move : Nat := 0x10d070
abbrev safBk1Move : Nat := 0x10d074
abbrev safRecSeq : Nat := 0x10d078
abbrev safSafetyDigLo : Nat := 0x10d07c
abbrev safSafetyDigHi : Nat := 0x10d080
abbrev safCntTrip : Nat := 0x10d084
abbrev safCntReset : Nat := 0x10d088
abbrev safCntResetRefused : Nat := 0x10d08c
abbrev safCntResetStuck : Nat := 0x10d090
abbrev safCntDiscrepancy : Nat := 0x10d094
abbrev safCntCross : Nat := 0x10d098
abbrev safCntOutFault : Nat := 0x10d09c
abbrev safCntBtPass : Nat := 0x10d0a0
abbrev safCntBtFail : Nat := 0x10d0a4
abbrev safCntBtAbort : Nat := 0x10d0a8
abbrev safCntChannelFault : Nat := 0x10d0ac
abbrev safInCfg (k : Nat) : Nat := 0x10d100 + 4 * k
abbrev safGroupCfg (k : Nat) : Nat := 0x10d140 + 4 * k
abbrev safOutCfg (k : Nat) : Nat := 0x10d160 + 4 * k
abbrev safBkIo (k : Nat) : Nat := 0x10d180 + 16 * k
abbrev safBkTest (k : Nat) : Nat := 0x10d184 + 16 * k
abbrev safBkCoil (k : Nat) : Nat := 0x10d188 + 16 * k
abbrev safKeyStage (k : Nat) : Nat := 0x10d200 + 4 * k
abbrev safKeyCtrl : Nat := 0x10d220
abbrev safKeyResult : Nat := 0x10d224
abbrev safKeyId (k : Nat) : Nat := 0x10d228 + 4 * k
abbrev mbcState (n : Nat) : Nat := 0x10e040 + 0x1000 * n
abbrev mbcJnlHead (n : Nat) : Nat := 0x10e044 + 0x1000 * n
abbrev mbcJnlSeq (n : Nat) : Nat := 0x10e048 + 0x1000 * n
abbrev mbcQueue (n : Nat) : Nat := 0x10e04c + 0x1000 * n
abbrev mbcLastTx (n : Nat) : Nat := 0x10e050 + 0x1000 * n
abbrev mbcNoackRun (n : Nat) : Nat := 0x10e054 + 0x1000 * n
abbrev mbcTdcMeas (n : Nat) : Nat := 0x10e058 + 0x1000 * n
abbrev mbcCntRx (n : Nat) : Nat := 0x10e060 + 0x1000 * n
abbrev mbcCntTxOk (n : Nat) : Nat := 0x10e064 + 0x1000 * n
abbrev mbcCntTxErr (n : Nat) : Nat := 0x10e068 + 0x1000 * n
abbrev mbcCntArbLost (n : Nat) : Nat := 0x10e06c + 0x1000 * n
abbrev mbcCntRxErr (n : Nat) : Nat := 0x10e070 + 0x1000 * n
abbrev mbcCntBusOff (n : Nat) : Nat := 0x10e074 + 0x1000 * n
abbrev mbcCntFailover (n : Nat) : Nat := 0x10e078 + 0x1000 * n
abbrev mbcCntSuperseded (n : Nat) : Nat := 0x10e07c + 0x1000 * n
abbrev mbcCntSrcBad (n : Nat) : Nat := 0x10e080 + 0x1000 * n
abbrev mbcCntMapStale (n : Nat) : Nat := 0x10e084 + 0x1000 * n
abbrev mbcCntMapLen (n : Nat) : Nat := 0x10e088 + 0x1000 * n
abbrev mbcCntChaff (n : Nat) : Nat := 0x10e08c + 0x1000 * n
abbrev mbcCfg (n : Nat) : Nat := 0x10e100 + 0x1000 * n
abbrev mbcLimits (n : Nat) : Nat := 0x10e104 + 0x1000 * n
abbrev mbcNbt (n : Nat) : Nat := 0x10e108 + 0x1000 * n
abbrev mbcDbt (n : Nat) : Nat := 0x10e10c + 0x1000 * n
abbrev netLink : Nat := 0x113040
abbrev netPtpState : Nat := 0x113044
abbrev netMacLo : Nat := 0x113048
abbrev netMacHi : Nat := 0x11304c
abbrev netCntPub : Nat := 0x113050
abbrev netCntPubSplit : Nat := 0x113054
abbrev netCntRxDrop : Nat := 0x113058
abbrev netCntSubOld : Nat := 0x11305c
abbrev netCntSubLen : Nat := 0x113060
abbrev netCntSubStale : Nat := 0x113064
abbrev netCntClash : Nat := 0x113068
abbrev netCntOnlyP1 : Nat := 0x11306c
abbrev netCntOnlyP2 : Nat := 0x113070
abbrev netPeerHead : Nat := 0x113074
abbrev netOwnIp : Nat := 0x113078
abbrev netOwnSp : Nat := 0x11307c
abbrev netCfg : Nat := 0x113100
abbrev netIpAddr : Nat := 0x113104
abbrev netIpMask : Nat := 0x113108
abbrev netSpAddr : Nat := 0x11310c
abbrev netPtpCfg : Nat := 0x113110
abbrev netPeerLog (k : Nat) : Nat := 0x113800 + 4 * k
abbrev mslJnlHead (k : Nat) : Nat := 0x112040 + 32 * k
abbrev mslJnlSeq (k : Nat) : Nat := 0x112044 + 32 * k
abbrev mslCntSentence (k : Nat) : Nat := 0x112048 + 32 * k
abbrev mslCntChecksum (k : Nat) : Nat := 0x11204c + 32 * k
abbrev mslCntFormat (k : Nat) : Nat := 0x112050 + 32 * k
abbrev mslCntParse (k : Nat) : Nat := 0x112054 + 32 * k
abbrev mslCntMapStale (k : Nat) : Nat := 0x112058 + 32 * k
abbrev mslCfg (k : Nat) : Nat := 0x112100 + 4 * k
abbrev sesSessions : Nat := 0x114040
abbrev sesLockout : Nat := 0x114044
abbrev sesKeyState : Nat := 0x114048
abbrev sesGate : Nat := 0x11404c
abbrev sesCntOpen : Nat := 0x114050
abbrev sesCntBusy : Nat := 0x114054
abbrev sesCntProofFail : Nat := 0x114058
abbrev sesCntLockout : Nat := 0x11405c
abbrev sesCntTagFail : Nat := 0x114060
abbrev sesCntReplay : Nat := 0x114064
abbrev sesCntResend : Nat := 0x114068
abbrev sesCntTimeout : Nat := 0x11406c
abbrev sesCntFormat : Nat := 0x114070
abbrev sesCntNotifyDrop : Nat := 0x114074
abbrev sesSheafKeyIdLo (k : Nat) : Nat := 0x114080 + 8 * k
abbrev sesSheafKeyIdHi (k : Nat) : Nat := 0x114084 + 8 * k
abbrev sesIntRole : Nat := 0x114100
abbrev sesIntSubLo : Nat := 0x114104
abbrev sesIntSubHi : Nat := 0x114108
abbrev sesKeyStage (k : Nat) : Nat := 0x114200 + 4 * k
abbrev sesKeyCtrl : Nat := 0x114220
abbrev sesKeyResult : Nat := 0x114224
abbrev sesSession (k : Nat) : Nat := 0x114800 + 4 * k
abbrev redState : Nat := 0x115040
abbrev redLanes : Nat := 0x115044
abbrev redPartner : Nat := 0x115048
abbrev redCopyGenLo : Nat := 0x11504c
abbrev redCopyGenHi : Nat := 0x115050
abbrev redCopyTime : Nat := 0x115054
abbrev redSyncProgress : Nat := 0x115058
abbrev redIdle : Nat := 0x11505c
abbrev redSwitchGenLo : Nat := 0x115060
abbrev redSwitchGenHi : Nat := 0x115064
abbrev redSwitchCause : Nat := 0x115068
abbrev redLatent : Nat := 0x11506c
abbrev redCntTakeover : Nat := 0x115070
abbrev redCntGiveUp : Nat := 0x115074
abbrev redCntCopyLost : Nat := 0x115078
abbrev redCntCopyLong : Nat := 0x11507c
abbrev redCntHbMiss : Nat := 0x115080
abbrev redCntLaneFault : Nat := 0x115084
abbrev redCntHandback : Nat := 0x115088
abbrev redCntDualActive : Nat := 0x11508c
abbrev redCntNak : Nat := 0x115090
abbrev redCfg : Nat := 0x115100
abbrev pwrSupplyA : Nat := 0x101040
abbrev pwrSupplyB : Nat := 0x101044
abbrev pwrInputPower : Nat := 0x101048
abbrev pwrHoldup : Nat := 0x10104c
abbrev pwrHoldupCap : Nat := 0x101050
abbrev pwrKeepCyclesLo : Nat := 0x101054
abbrev pwrKeepCyclesHi : Nat := 0x101058
abbrev pwrKeepShutLo : Nat := 0x10105c
abbrev pwrKeepShutHi : Nat := 0x101060
abbrev pwrKeepState : Nat := 0x101064
abbrev pwrCntDip : Nat := 0x101068
abbrev pwrCntLowA : Nat := 0x10106c
abbrev pwrCntLowB : Nat := 0x101070
abbrev pwrCntSurge : Nat := 0x101074
abbrev pwrCfg : Nat := 0x101100
abbrev pwrKeepCtrl : Nat := 0x101104
abbrev rstCause : Nat := 0x102040
abbrev rstPrevCause : Nat := 0x102044
abbrev rstState : Nat := 0x102048
abbrev rstTRelease : Nat := 0x10204c
abbrev rstTSheaf : Nat := 0x102050
abbrev rstTBringup : Nat := 0x102054
abbrev rstTGate : Nat := 0x102058
abbrev rstTFull : Nat := 0x10205c
abbrev rstButton : Nat := 0x102060
abbrev rstCntButtonShort : Nat := 0x102064
abbrev rstCntButtonStuck : Nat := 0x102068
abbrev rstCntModuleReset : Nat := 0x10206c
abbrev grnHeadSeqLo : Nat := 0x116040
abbrev grnHeadSeqHi : Nat := 0x116044
abbrev grnOldestSeqLo : Nat := 0x116048
abbrev grnOldestSeqHi : Nat := 0x11604c
abbrev grnCount : Nat := 0x116050
abbrev grnQueues : Nat := 0x116054
abbrev grnFreeze : Nat := 0x116058
abbrev grnCntRecords : Nat := 0x11605c
abbrev grnCntCoalesced : Nat := 0x116060
abbrev grnCntDropped : Nat := 0x116064
abbrev grnCntStageOver : Nat := 0x116068
abbrev grnCntClears : Nat := 0x11606c
abbrev grnClearConfirm : Nat := 0x116100
abbrev grnTrigSel : Nat := 0x116104
abbrev grnTrigCfg (k : Nat) : Nat := 0x116400 + 4 * k
abbrev grnTrigDef (k : Nat) : Nat := 0x116800 + 4 * k
abbrev pmcSnapGenLo : Nat := 0x117040
abbrev pmcSnapGenHi : Nat := 0x117044
abbrev pmcSnapSlot : Nat := 0x117048
abbrev pmcSticky (k : Nat) : Nat := 0x117080 + 4 * k
abbrev pmcSticky7 : Nat := 0x11709c
abbrev pmcThrCfg (k : Nat) : Nat := 0x117100 + 4 * k
abbrev pmcMarkLo (k : Nat) : Nat := 0x117200 + 8 * k
abbrev pmcMarkHi (k : Nat) : Nat := 0x117204 + 8 * k
abbrev pmcSnapLo (k : Nat) : Nat := 0x117800 + 8 * k
abbrev pmcSnapHi (k : Nat) : Nat := 0x117804 + 8 * k
abbrev pmcThrSnapLo (k : Nat) : Nat := 0x117f00 + 8 * k
abbrev pmcThrSnapHi (k : Nat) : Nat := 0x117f04 + 8 * k
abbrev mgtCpu : Nat := 0x118040
abbrev mgtProgState (k : Nat) : Nat := 0x118050 + 16 * k
abbrev mgtProgVer (k : Nat) : Nat := 0x118054 + 16 * k
abbrev mgtCntWdog (k : Nat) : Nat := 0x118058 + 16 * k
abbrev mgtCntMemfault (k : Nat) : Nat := 0x11805c + 16 * k
abbrev mgtTemp (k : Nat) : Nat := 0x118090 + 4 * k
abbrev mgtHumidity : Nat := 0x1180a8
abbrev mgtVib (k : Nat) : Nat := 0x1180ac + 4 * k
abbrev mgtHoldupEsr : Nat := 0x1180b8
abbrev mgtSensorFault : Nat := 0x1180bc
abbrev mgtTempLimit : Nat := 0x118100
abbrev mgtHumLimit : Nat := 0x118104
abbrev mgtVibLimit : Nat := 0x118108
abbrev mgtEsrLimit : Nat := 0x11810c
abbrev updState : Nat := 0x119040
abbrev updStagedLen : Nat := 0x119044
abbrev updBanks : Nat := 0x119048
abbrev updNext : Nat := 0x11904c
abbrev updReject : Nat := 0x119050
abbrev updRejectIndex : Nat := 0x119054
abbrev updRefused : Nat := 0x119058
abbrev updActGenLo : Nat := 0x11905c
abbrev updActGenHi : Nat := 0x119060
abbrev updCntChecks : Nat := 0x119064
abbrev updCntRejects : Nat := 0x119068
abbrev updCntActivations : Nat := 0x11906c
abbrev updCntActFail : Nat := 0x119070
abbrev updCntRefused : Nat := 0x119074
abbrev updCntAborts : Nat := 0x119078
abbrev updAtGenLo : Nat := 0x119100
abbrev updAtGenHi : Nat := 0x119104
abbrev fpdPanelState : Nat := 0x11a040
abbrev fpdPanelTemp : Nat := 0x11a044
abbrev fpdLastFault : Nat := 0x11a048
abbrev fpdCntUpdates : Nat := 0x11a04c
abbrev fpdCntStopped : Nat := 0x11a050
abbrev fpdCntReplaced : Nat := 0x11a054
abbrev fpdCntWaited : Nat := 0x11a058
abbrev fpdRegionState (k : Nat) : Nat := 0x11a060 + 4 * k
abbrev fpdLcdCfg : Nat := 0x11a100
abbrev fpdFpCfg : Nat := 0x11a104
abbrev fpdFlLevel : Nat := 0x11a108
abbrev fpdPixRow : Nat := 0x11a10c
abbrev fpdLcdFrame (k : Nat) : Nat := 0x11a110 + 4 * k
abbrev fpdRegionRect (k : Nat) : Nat := 0x11a140 + 8 * k
abbrev fpdRegionSrc (k : Nat) : Nat := 0x11a144 + 8 * k
abbrev fpdPix (k : Nat) : Nat := 0x11a800 + 4 * k

end Sys2Proof.Machine.Reg
end

