-- ==== Sys2Proof/Machine/RegTable.lean ====
section
/-! DEFINITION. The register tables of the 25 blocks (R62, R76 and the page table of every chapter): for each register its
offset, its number of copies and their spacing, access code (R55), retention class (R69), whether its reset value comes from
Sheaf section 12, and the bits its field map defines; the page numbers of R40; and the reset value of every register. -/

namespace Sys2Proof.Machine

/-- One row of a register table: `cnt` registers from `off` in steps of `step` bytes. -/
structure RegRow where
  off : Nat
  cnt : Nat
  step : Nat
  acc : Access
  kept : Kept
  sheaf : Bool
  mask : Nat
deriving DecidableEq, Repr

/-- The registers of the common header (R62). -/
def hdrRows : List RegRow :=
  [⟨0x000, 1, 0x4, .ro, .sealed, false, 0x0⟩,
   ⟨0x004, 1, 0x4, .ro, .sealed, false, 0x0⟩,
   ⟨0x00C, 1, 0x4, .ro, .local, false, 0x0⟩,
   ⟨0x010, 1, 0x4, .w1c, .local, false, 0xFFFF⟩,
   ⟨0x014, 1, 0x4, .rw, .overlay, true, 0xFFFF⟩,
   ⟨0x018, 1, 0x4, .ro, .local, false, 0x0⟩,
   ⟨0x01C, 1, 0x4, .rw, .sheaf, true, 0x33⟩,
   ⟨0x020, 1, 0x4, .ro, .local, false, 0x0⟩,
   ⟨0x024, 1, 0x4, .rw, .overlay, true, 0xFFFFFFFF⟩]

/-- The registers of the SYS page. -/
def sysRows : List RegRow :=
  [⟨0x040, 1, 0x4, .ro, .sealed, false, 0x0⟩,
   ⟨0x044, 1, 0x4, .ro, .sealed, false, 0x0⟩,
   ⟨0x048, 1, 0x4, .ro, .sealed, false, 0x0⟩,
   ⟨0x04C, 1, 0x4, .ro, .sealed, false, 0x0⟩,
   ⟨0x050, 1, 0x4, .ro, .sheaf, false, 0x0⟩,
   ⟨0x054, 1, 0x4, .ro, .local, false, 0x0⟩,
   ⟨0x058, 1, 0x4, .ro, .local, false, 0x0⟩,
   ⟨0x05C, 1, 0x4, .ro, .local, false, 0x0⟩,
   ⟨0x060, 8, 0x4, .ro, .local, false, 0x0⟩,
   ⟨0x080, 1, 0x4, .ro, .live, false, 0x0⟩,
   ⟨0x084, 1, 0x4, .ro, .live, false, 0x0⟩,
   ⟨0x088, 1, 0x4, .ro, .local, false, 0x0⟩,
   ⟨0x08C, 1, 0x4, .ro, .local, false, 0x0⟩,
   ⟨0x090, 1, 0x4, .ro, .local, false, 0x0⟩,
   ⟨0x094, 1, 0x4, .ro, .nv, false, 0x0⟩,
   ⟨0x100, 8, 0x4, .rw, .overlay, true, 0xFFFFFFFF⟩,
   ⟨0x008, 1, 0x4, .wo, .local, false, 0xFFFF07⟩]

/-- The registers of the PWR page. -/
def pwrRows : List RegRow :=
  [⟨0x040, 1, 0x4, .ro, .local, false, 0x0⟩,
   ⟨0x044, 1, 0x4, .ro, .local, false, 0x0⟩,
   ⟨0x048, 1, 0x4, .ro, .local, false, 0x0⟩,
   ⟨0x04C, 1, 0x4, .ro, .local, false, 0x0⟩,
   ⟨0x050, 1, 0x4, .ro, .local, false, 0x0⟩,
   ⟨0x054, 1, 0x4, .ro, .keep, false, 0x0⟩,
   ⟨0x058, 1, 0x4, .ro, .keep, false, 0x0⟩,
   ⟨0x05C, 1, 0x4, .ro, .local, false, 0x0⟩,
   ⟨0x060, 1, 0x4, .ro, .local, false, 0x0⟩,
   ⟨0x064, 1, 0x4, .ro, .local, false, 0x0⟩,
   ⟨0x068, 1, 0x4, .ro, .local, false, 0x0⟩,
   ⟨0x06C, 1, 0x4, .ro, .local, false, 0x0⟩,
   ⟨0x070, 1, 0x4, .ro, .local, false, 0x0⟩,
   ⟨0x074, 1, 0x4, .ro, .local, false, 0x0⟩,
   ⟨0x100, 1, 0x4, .rw, .overlay, true, 0x3⟩,
   ⟨0x104, 1, 0x4, .rwk, .local, false, 0x1⟩]

/-- The registers of the RST page. -/
def rstRows : List RegRow :=
  [⟨0x040, 1, 0x4, .ro, .nv, false, 0x0⟩,
   ⟨0x044, 1, 0x4, .ro, .nv, false, 0x0⟩,
   ⟨0x048, 1, 0x4, .ro, .local, false, 0x0⟩,
   ⟨0x04C, 1, 0x4, .ro, .local, false, 0x0⟩,
   ⟨0x050, 1, 0x4, .ro, .local, false, 0x0⟩,
   ⟨0x054, 1, 0x4, .ro, .local, false, 0x0⟩,
   ⟨0x058, 1, 0x4, .ro, .local, false, 0x0⟩,
   ⟨0x05C, 1, 0x4, .ro, .local, false, 0x0⟩,
   ⟨0x060, 1, 0x4, .ro, .local, false, 0x0⟩,
   ⟨0x064, 1, 0x4, .ro, .local, false, 0x0⟩,
   ⟨0x068, 1, 0x4, .ro, .local, false, 0x0⟩,
   ⟨0x06C, 1, 0x4, .ro, .nv, false, 0x0⟩]

/-- The registers of the TBU page. -/
def tbuRows : List RegRow :=
  [⟨0x040, 1, 0x4, .ro, .live, false, 0x0⟩,
   ⟨0x044, 1, 0x4, .ro, .live, false, 0x0⟩,
   ⟨0x048, 1, 0x4, .ro, .live, false, 0x0⟩,
   ⟨0x04C, 1, 0x4, .ro, .live, false, 0x0⟩,
   ⟨0x050, 1, 0x4, .ro, .live, false, 0x0⟩,
   ⟨0x054, 1, 0x4, .ro, .live, false, 0x0⟩,
   ⟨0x058, 1, 0x4, .ro, .live, false, 0x0⟩,
   ⟨0x05C, 1, 0x4, .ro, .live, false, 0x0⟩,
   ⟨0x060, 1, 0x4, .ro, .live, false, 0x0⟩,
   ⟨0x064, 1, 0x4, .ro, .live, false, 0x0⟩,
   ⟨0x068, 1, 0x4, .ro, .live, false, 0x0⟩,
   ⟨0x06C, 1, 0x4, .ro, .local, false, 0x0⟩,
   ⟨0x070, 1, 0x4, .ro, .local, false, 0x0⟩,
   ⟨0x074, 1, 0x4, .ro, .local, false, 0x0⟩,
   ⟨0x078, 1, 0x4, .ro, .local, false, 0x0⟩,
   ⟨0x080, 1, 0x4, .ro, .local, false, 0x0⟩,
   ⟨0x084, 1, 0x4, .ro, .local, false, 0x0⟩,
   ⟨0x088, 1, 0x4, .ro, .local, false, 0x0⟩,
   ⟨0x08C, 1, 0x4, .ro, .local, false, 0x0⟩,
   ⟨0x090, 1, 0x4, .ro, .local, false, 0x0⟩,
   ⟨0x100, 1, 0x4, .rwh, .sheaf, true, 0x1⟩,
   ⟨0x104, 1, 0x4, .rwh, .sheaf, true, 0xB8001FFF⟩,
   ⟨0x108, 1, 0x4, .rwh, .sheaf, true, 0xFFFF⟩,
   ⟨0x10C, 1, 0x4, .rw, .overlay, true, 0xFF⟩]

/-- The registers of the SEQ page. -/
def seqRows : List RegRow :=
  [⟨0x040, 1, 0x4, .ro, .live, false, 0x0⟩,
   ⟨0x044, 1, 0x4, .ro, .local, false, 0x0⟩,
   ⟨0x048, 1, 0x4, .ro, .local, false, 0x0⟩,
   ⟨0x04C, 1, 0x4, .ro, .local, false, 0x0⟩,
   ⟨0x050, 1, 0x4, .ro, .local, false, 0x0⟩,
   ⟨0x054, 1, 0x4, .ro, .local, false, 0x0⟩,
   ⟨0x058, 1, 0x4, .ro, .local, false, 0x0⟩,
   ⟨0x008, 1, 0x4, .wo, .local, false, 0x1⟩]

/-- The registers of the IMG page. -/
def imgRows : List RegRow :=
  [⟨0x040, 1, 0x4, .ro, .live, false, 0x0⟩,
   ⟨0x044, 1, 0x4, .ro, .live, false, 0x0⟩,
   ⟨0x048, 1, 0x4, .ro, .local, false, 0x0⟩,
   ⟨0x04C, 1, 0x4, .ro, .local, false, 0x0⟩,
   ⟨0x050, 1, 0x4, .ro, .local, false, 0x0⟩,
   ⟨0x054, 1, 0x4, .ro, .local, false, 0x0⟩,
   ⟨0x058, 1, 0x4, .ro, .local, false, 0x0⟩,
   ⟨0x05C, 1, 0x4, .ro, .local, false, 0x0⟩,
   ⟨0x060, 1, 0x4, .ro, .local, false, 0x0⟩,
   ⟨0x064, 1, 0x4, .ro, .local, false, 0x0⟩,
   ⟨0x100, 1, 0x4, .rw, .local, false, 0x3F⟩,
   ⟨0x104, 1, 0x4, .rw, .sheaf, true, 0x1⟩,
   ⟨0x800, 512, 0x4, .rw, .live, false, 0xFFFFFFFF⟩,
   ⟨0x008, 1, 0x4, .wo, .local, false, 0x1⟩]

/-- The registers of the LSP page. -/
def lspRows : List RegRow :=
  [⟨0x040, 1, 0x4, .ro, .local, false, 0x0⟩,
   ⟨0x044, 1, 0x4, .ro, .local, false, 0x0⟩,
   ⟨0x048, 1, 0x4, .ro, .local, false, 0x0⟩,
   ⟨0x04C, 1, 0x4, .ro, .local, false, 0x0⟩,
   ⟨0x050, 1, 0x4, .ro, .local, false, 0x0⟩,
   ⟨0x054, 1, 0x4, .ro, .local, false, 0x0⟩,
   ⟨0x100, 1, 0x4, .rw, .sheaf, true, 0xFFFFFFFF⟩,
   ⟨0x104, 1, 0x4, .rw, .overlay, true, 0xFFFF⟩]

/-- The registers of the DIO page. -/
def dioRows : List RegRow :=
  [⟨0x040, 1, 0x4, .ro, .local, false, 0x0⟩,
   ⟨0x044, 1, 0x4, .ro, .local, false, 0x0⟩,
   ⟨0x048, 1, 0x4, .ro, .live, false, 0x0⟩,
   ⟨0x04C, 1, 0x4, .ro, .live, false, 0x0⟩,
   ⟨0x050, 1, 0x4, .ro, .local, false, 0x0⟩,
   ⟨0x054, 1, 0x4, .ro, .local, false, 0x0⟩,
   ⟨0x058, 1, 0x4, .ro, .local, false, 0x0⟩,
   ⟨0x05C, 1, 0x4, .ro, .local, false, 0x0⟩,
   ⟨0x060, 1, 0x4, .ro, .local, false, 0x0⟩,
   ⟨0x064, 1, 0x4, .ro, .local, false, 0x0⟩,
   ⟨0x068, 1, 0x4, .ro, .local, false, 0x0⟩,
   ⟨0x080, 6, 0x4, .ro, .local, false, 0x0⟩,
   ⟨0x100, 1, 0x4, .rw, .sheaf, true, 0xFFF⟩,
   ⟨0x104, 1, 0x4, .rw, .overlay, true, 0xFF⟩,
   ⟨0x200, 48, 0x4, .rw, .sheaf, true, 0x7FF1F⟩]

/-- The registers of the PIU page. -/
def piuRows : List RegRow :=
  [⟨0x040, 4, 0x20, .ro, .live, false, 0x0⟩,
   ⟨0x044, 4, 0x20, .ro, .local, false, 0x0⟩,
   ⟨0x048, 4, 0x20, .ro, .local, false, 0x0⟩,
   ⟨0x04C, 4, 0x20, .ro, .live, false, 0x0⟩,
   ⟨0x050, 4, 0x20, .ro, .local, false, 0x0⟩,
   ⟨0x054, 4, 0x20, .ro, .local, false, 0x0⟩,
   ⟨0x100, 4, 0x10, .rwh, .sheaf, true, 0xFF7F⟩,
   ⟨0x104, 4, 0x10, .rwh, .sheaf, true, 0x1FFF⟩]

/-- The registers of the GMU page. -/
def gmuRows : List RegRow :=
  [⟨0x040, 1, 0x4, .ro, .local, false, 0x0⟩,
   ⟨0x044, 1, 0x4, .ro, .local, false, 0x0⟩,
   ⟨0x048, 1, 0x4, .ro, .local, false, 0x0⟩,
   ⟨0x04C, 1, 0x4, .ro, .local, false, 0x0⟩,
   ⟨0x050, 1, 0x4, .ro, .local, false, 0x0⟩,
   ⟨0x054, 1, 0x4, .ro, .local, false, 0x0⟩,
   ⟨0x058, 1, 0x4, .ro, .local, false, 0x0⟩,
   ⟨0x05C, 1, 0x4, .ro, .local, false, 0x0⟩,
   ⟨0x060, 1, 0x4, .ro, .local, false, 0x0⟩,
   ⟨0x064, 1, 0x4, .ro, .local, false, 0x0⟩,
   ⟨0x068, 1, 0x4, .ro, .local, false, 0x0⟩,
   ⟨0x06C, 1, 0x4, .ro, .local, false, 0x0⟩,
   ⟨0x100, 1, 0x4, .rwh, .sheaf, true, 0x35F⟩,
   ⟨0x104, 1, 0x4, .rwh, .sheaf, true, 0xFFFFFFFF⟩,
   ⟨0x108, 1, 0x4, .rwh, .sheaf, true, 0xFFFFFFFF⟩,
   ⟨0x10C, 1, 0x4, .rwh, .sheaf, true, 0xFFFFFFFF⟩,
   ⟨0x110, 1, 0x4, .rwh, .sheaf, true, 0xFFFFFFFF⟩,
   ⟨0x114, 1, 0x4, .rwh, .sheaf, true, 0xFFFFFFFF⟩,
   ⟨0x118, 1, 0x4, .rwh, .overlay, true, 0xFFFFFFFF⟩,
   ⟨0x11C, 1, 0x4, .rwh, .overlay, true, 0xFFFFFFFF⟩,
   ⟨0x800, 496, 0x4, .ro, .local, false, 0x0⟩]

/-- The registers of the SYN page. -/
def synRows : List RegRow :=
  [⟨0x040, 1, 0x4, .ro, .live, false, 0x0⟩,
   ⟨0x044, 1, 0x4, .ro, .live, false, 0x0⟩,
   ⟨0x048, 1, 0x4, .ro, .live, false, 0x0⟩,
   ⟨0x04C, 1, 0x4, .ro, .live, false, 0x0⟩,
   ⟨0x050, 1, 0x4, .ro, .live, false, 0x0⟩,
   ⟨0x054, 1, 0x4, .ro, .live, false, 0x0⟩,
   ⟨0x058, 1, 0x4, .ro, .live, false, 0x0⟩,
   ⟨0x05C, 1, 0x4, .ro, .live, false, 0x0⟩,
   ⟨0x060, 1, 0x4, .ro, .live, false, 0x0⟩,
   ⟨0x064, 1, 0x4, .ro, .local, false, 0x0⟩,
   ⟨0x068, 1, 0x4, .ro, .local, false, 0x0⟩,
   ⟨0x06C, 1, 0x4, .ro, .local, false, 0x0⟩,
   ⟨0x200, 8, 0x20, .rw, .sheaf, true, 0x3FBFFFFF⟩,
   ⟨0x204, 8, 0x20, .rw, .overlay, true, 0xFF0FFF⟩,
   ⟨0x208, 8, 0x20, .rw, .sheaf, true, 0xFFFFFFFF⟩,
   ⟨0x20C, 8, 0x20, .rw, .sheaf, true, 0xFFFF00FF⟩,
   ⟨0x210, 8, 0x20, .rw, .sheaf, true, 0xFFFFFFFF⟩,
   ⟨0x214, 8, 0x20, .rw, .sheaf, true, 0xFFFFFF17⟩,
   ⟨0x008, 1, 0x4, .wo, .local, false, 0x1⟩]

/-- The registers of the CLE page. -/
def cleRows : List RegRow :=
  [⟨0x040, 1, 0x4, .ro, .local, false, 0x0⟩,
   ⟨0x044, 1, 0x4, .ro, .local, false, 0x0⟩,
   ⟨0x048, 1, 0x4, .ro, .local, false, 0x0⟩,
   ⟨0x04C, 1, 0x4, .ro, .local, false, 0x0⟩,
   ⟨0x050, 1, 0x4, .ro, .local, false, 0x0⟩,
   ⟨0x054, 1, 0x4, .ro, .local, false, 0x0⟩,
   ⟨0x058, 1, 0x4, .ro, .local, false, 0x0⟩,
   ⟨0x05C, 1, 0x4, .ro, .local, false, 0x0⟩,
   ⟨0x060, 1, 0x4, .ro, .live, false, 0x0⟩,
   ⟨0x064, 1, 0x4, .ro, .live, false, 0x0⟩,
   ⟨0x068, 1, 0x4, .ro, .local, false, 0x0⟩,
   ⟨0x080, 8, 0x4, .ro, .live, false, 0x0⟩,
   ⟨0x0A0, 8, 0x4, .ro, .live, false, 0x0⟩,
   ⟨0x100, 1, 0x4, .rw, .local, false, 0xFF⟩,
   ⟨0x104, 1, 0x4, .wo, .local, false, 0x1FF⟩,
   ⟨0x300, 32, 0x4, .rw, .sheaf, true, 0xFFFFFFFF⟩,
   ⟨0x400, 256, 0x4, .rw, .sheaf, true, 0xFFFFFFFF⟩,
   ⟨0x800, 128, 0x4, .ro, .sheaf, false, 0x0⟩,
   ⟨0xA00, 128, 0x4, .shd, .sheaf, false, 0xFFFFFFFF⟩,
   ⟨0xC00, 16, 0x4, .ro, .live, false, 0x0⟩,
   ⟨0x008, 1, 0x4, .wo, .local, false, 0x80000000⟩]

/-- The registers of the SLV page. -/
def slvRows : List RegRow :=
  [⟨0x040, 1, 0x4, .ro, .local, false, 0x0⟩,
   ⟨0x044, 1, 0x4, .ro, .local, false, 0x0⟩,
   ⟨0x048, 1, 0x4, .ro, .local, false, 0x0⟩,
   ⟨0x04C, 1, 0x4, .ro, .local, false, 0x0⟩,
   ⟨0x050, 1, 0x4, .ro, .local, false, 0x0⟩,
   ⟨0x054, 1, 0x4, .ro, .local, false, 0x0⟩,
   ⟨0x058, 1, 0x4, .ro, .local, false, 0x0⟩,
   ⟨0x05C, 1, 0x4, .ro, .local, false, 0x0⟩,
   ⟨0x060, 1, 0x4, .ro, .local, false, 0x0⟩,
   ⟨0x064, 1, 0x4, .ro, .local, false, 0x0⟩,
   ⟨0x068, 1, 0x4, .ro, .local, false, 0x0⟩,
   ⟨0x06C, 1, 0x4, .ro, .local, false, 0x0⟩,
   ⟨0x080, 8, 0x10, .ro, .live, false, 0x0⟩,
   ⟨0x084, 8, 0x10, .ro, .local, false, 0x0⟩,
   ⟨0x088, 8, 0x10, .ro, .local, false, 0x0⟩,
   ⟨0x08C, 8, 0x10, .ro, .local, false, 0x0⟩,
   ⟨0x100, 1, 0x4, .rw, .sheaf, true, 0xFF⟩]

/-- The registers of the SAF page. -/
def safRows : List RegRow :=
  [⟨0x040, 1, 0x4, .ro, .local, false, 0x0⟩,
   ⟨0x044, 1, 0x4, .ro, .local, false, 0x0⟩,
   ⟨0x048, 1, 0x4, .ro, .local, false, 0x0⟩,
   ⟨0x04C, 1, 0x4, .ro, .local, false, 0x0⟩,
   ⟨0x050, 1, 0x4, .ro, .local, false, 0x0⟩,
   ⟨0x054, 1, 0x4, .ro, .local, false, 0x0⟩,
   ⟨0x058, 1, 0x4, .ro, .local, false, 0x0⟩,
   ⟨0x05C, 1, 0x4, .ro, .local, false, 0x0⟩,
   ⟨0x060, 1, 0x4, .ro, .local, false, 0x0⟩,
   ⟨0x064, 1, 0x4, .ro, .local, false, 0x0⟩,
   ⟨0x068, 1, 0x4, .ro, .local, false, 0x0⟩,
   ⟨0x06C, 1, 0x4, .ro, .local, false, 0x0⟩,
   ⟨0x070, 1, 0x4, .ro, .local, false, 0x0⟩,
   ⟨0x074, 1, 0x4, .ro, .local, false, 0x0⟩,
   ⟨0x078, 1, 0x4, .ro, .local, false, 0x0⟩,
   ⟨0x07C, 1, 0x4, .ro, .local, false, 0x0⟩,
   ⟨0x080, 1, 0x4, .ro, .local, false, 0x0⟩,
   ⟨0x084, 1, 0x4, .ro, .local, false, 0x0⟩,
   ⟨0x088, 1, 0x4, .ro, .local, false, 0x0⟩,
   ⟨0x08C, 1, 0x4, .ro, .local, false, 0x0⟩,
   ⟨0x090, 1, 0x4, .ro, .local, false, 0x0⟩,
   ⟨0x094, 1, 0x4, .ro, .local, false, 0x0⟩,
   ⟨0x098, 1, 0x4, .ro, .local, false, 0x0⟩,
   ⟨0x09C, 1, 0x4, .ro, .local, false, 0x0⟩,
   ⟨0x0A0, 1, 0x4, .ro, .local, false, 0x0⟩,
   ⟨0x0A4, 1, 0x4, .ro, .local, false, 0x0⟩,
   ⟨0x0A8, 1, 0x4, .ro, .local, false, 0x0⟩,
   ⟨0x0AC, 1, 0x4, .ro, .local, false, 0x0⟩,
   ⟨0x100, 16, 0x4, .ro, .sheaf, false, 0x0⟩,
   ⟨0x140, 8, 0x4, .ro, .sheaf, false, 0x0⟩,
   ⟨0x160, 8, 0x4, .ro, .sheaf, false, 0x0⟩,
   ⟨0x180, 2, 0x10, .ro, .sheaf, false, 0x0⟩,
   ⟨0x184, 2, 0x10, .ro, .sheaf, false, 0x0⟩,
   ⟨0x188, 2, 0x10, .ro, .sheaf, false, 0x0⟩,
   ⟨0x200, 8, 0x4, .rwk, .local, false, 0xFFFFFFFF⟩,
   ⟨0x220, 1, 0x4, .rwk, .local, false, 0x103⟩,
   ⟨0x224, 1, 0x4, .ro, .local, false, 0x0⟩,
   ⟨0x228, 4, 0x4, .ro, .nv, false, 0x0⟩,
   ⟨0x008, 1, 0x4, .wo, .local, false, 0x3⟩]

/-- The registers of the MBC page. -/
def mbcRows : List RegRow :=
  [⟨0x040, 1, 0x4, .ro, .local, false, 0x0⟩,
   ⟨0x044, 1, 0x4, .ro, .local, false, 0x0⟩,
   ⟨0x048, 1, 0x4, .ro, .local, false, 0x0⟩,
   ⟨0x04C, 1, 0x4, .ro, .live, false, 0x0⟩,
   ⟨0x050, 1, 0x4, .ro, .local, false, 0x0⟩,
   ⟨0x054, 1, 0x4, .ro, .local, false, 0x0⟩,
   ⟨0x058, 1, 0x4, .ro, .local, false, 0x0⟩,
   ⟨0x060, 1, 0x4, .ro, .local, false, 0x0⟩,
   ⟨0x064, 1, 0x4, .ro, .local, false, 0x0⟩,
   ⟨0x068, 1, 0x4, .ro, .local, false, 0x0⟩,
   ⟨0x06C, 1, 0x4, .ro, .local, false, 0x0⟩,
   ⟨0x070, 1, 0x4, .ro, .local, false, 0x0⟩,
   ⟨0x074, 1, 0x4, .ro, .local, false, 0x0⟩,
   ⟨0x078, 1, 0x4, .ro, .local, false, 0x0⟩,
   ⟨0x07C, 1, 0x4, .ro, .local, false, 0x0⟩,
   ⟨0x080, 1, 0x4, .ro, .local, false, 0x0⟩,
   ⟨0x084, 1, 0x4, .ro, .local, false, 0x0⟩,
   ⟨0x088, 1, 0x4, .ro, .local, false, 0x0⟩,
   ⟨0x08C, 1, 0x4, .ro, .local, false, 0x0⟩,
   ⟨0x100, 1, 0x4, .rw, .sheaf, true, 0x30003⟩,
   ⟨0x104, 1, 0x4, .rw, .overlay, true, 0xFFFF⟩,
   ⟨0x108, 1, 0x4, .rwh, .sheaf, true, 0xFF7F7FFF⟩,
   ⟨0x10C, 1, 0x4, .rwh, .sheaf, true, 0xFF1FFF1F⟩,
   ⟨0x008, 1, 0x4, .wo, .local, false, 0x1⟩]

/-- The registers of the MSL page. -/
def mslRows : List RegRow :=
  [⟨0x040, 2, 0x20, .ro, .local, false, 0x0⟩,
   ⟨0x044, 2, 0x20, .ro, .local, false, 0x0⟩,
   ⟨0x048, 2, 0x20, .ro, .local, false, 0x0⟩,
   ⟨0x04C, 2, 0x20, .ro, .local, false, 0x0⟩,
   ⟨0x050, 2, 0x20, .ro, .local, false, 0x0⟩,
   ⟨0x054, 2, 0x20, .ro, .local, false, 0x0⟩,
   ⟨0x058, 2, 0x20, .ro, .local, false, 0x0⟩,
   ⟨0x100, 2, 0x4, .rw, .sheaf, true, 0x3⟩]

/-- The registers of the NET page. -/
def netRows : List RegRow :=
  [⟨0x040, 1, 0x4, .ro, .local, false, 0x0⟩,
   ⟨0x044, 1, 0x4, .ro, .local, false, 0x0⟩,
   ⟨0x048, 1, 0x4, .ro, .sealed, false, 0x0⟩,
   ⟨0x04C, 1, 0x4, .ro, .sealed, false, 0x0⟩,
   ⟨0x050, 1, 0x4, .ro, .local, false, 0x0⟩,
   ⟨0x054, 1, 0x4, .ro, .local, false, 0x0⟩,
   ⟨0x058, 1, 0x4, .ro, .local, false, 0x0⟩,
   ⟨0x05C, 1, 0x4, .ro, .local, false, 0x0⟩,
   ⟨0x060, 1, 0x4, .ro, .local, false, 0x0⟩,
   ⟨0x064, 1, 0x4, .ro, .local, false, 0x0⟩,
   ⟨0x068, 1, 0x4, .ro, .local, false, 0x0⟩,
   ⟨0x06C, 1, 0x4, .ro, .local, false, 0x0⟩,
   ⟨0x070, 1, 0x4, .ro, .local, false, 0x0⟩,
   ⟨0x074, 1, 0x4, .ro, .local, false, 0x0⟩,
   ⟨0x078, 1, 0x4, .ro, .local, false, 0x0⟩,
   ⟨0x07C, 1, 0x4, .ro, .local, false, 0x0⟩,
   ⟨0x100, 1, 0x4, .rwh, .sheaf, true, 0xFFF0101⟩,
   ⟨0x104, 1, 0x4, .rwh, .sheaf, true, 0xFFFFFFFF⟩,
   ⟨0x108, 1, 0x4, .rwh, .sheaf, true, 0xFFFFFFFF⟩,
   ⟨0x10C, 1, 0x4, .rwh, .sheaf, true, 0xFFFFFFFF⟩,
   ⟨0x110, 1, 0x4, .rwh, .sheaf, true, 0x1FF⟩,
   ⟨0x800, 512, 0x4, .ro, .local, false, 0x0⟩]

/-- The registers of the SES page. -/
def sesRows : List RegRow :=
  [⟨0x040, 1, 0x4, .ro, .local, false, 0x0⟩,
   ⟨0x044, 1, 0x4, .ro, .local, false, 0x0⟩,
   ⟨0x048, 1, 0x4, .ro, .nv, false, 0x0⟩,
   ⟨0x04C, 1, 0x4, .ro, .local, false, 0x0⟩,
   ⟨0x050, 1, 0x4, .ro, .local, false, 0x0⟩,
   ⟨0x054, 1, 0x4, .ro, .local, false, 0x0⟩,
   ⟨0x058, 1, 0x4, .ro, .local, false, 0x0⟩,
   ⟨0x05C, 1, 0x4, .ro, .local, false, 0x0⟩,
   ⟨0x060, 1, 0x4, .ro, .local, false, 0x0⟩,
   ⟨0x064, 1, 0x4, .ro, .local, false, 0x0⟩,
   ⟨0x068, 1, 0x4, .ro, .local, false, 0x0⟩,
   ⟨0x06C, 1, 0x4, .ro, .local, false, 0x0⟩,
   ⟨0x070, 1, 0x4, .ro, .local, false, 0x0⟩,
   ⟨0x074, 1, 0x4, .ro, .local, false, 0x0⟩,
   ⟨0x080, 4, 0x8, .ro, .nv, false, 0x0⟩,
   ⟨0x084, 4, 0x8, .ro, .nv, false, 0x0⟩,
   ⟨0x100, 1, 0x4, .rwk, .nv, false, 0x3⟩,
   ⟨0x104, 1, 0x4, .rw, .local, false, 0xFFFFFFFF⟩,
   ⟨0x108, 1, 0x4, .rw, .local, false, 0xFFFFFFFF⟩,
   ⟨0x200, 8, 0x4, .rwk, .local, false, 0xFFFFFFFF⟩,
   ⟨0x220, 1, 0x4, .rwk, .local, false, 0x313⟩,
   ⟨0x224, 1, 0x4, .ro, .local, false, 0x0⟩,
   ⟨0x800, 128, 0x4, .ro, .local, false, 0x0⟩]

/-- The registers of the RED page. -/
def redRows : List RegRow :=
  [⟨0x040, 1, 0x4, .ro, .local, false, 0x0⟩,
   ⟨0x044, 1, 0x4, .ro, .local, false, 0x0⟩,
   ⟨0x048, 1, 0x4, .ro, .local, false, 0x0⟩,
   ⟨0x04C, 1, 0x4, .ro, .local, false, 0x0⟩,
   ⟨0x050, 1, 0x4, .ro, .local, false, 0x0⟩,
   ⟨0x054, 1, 0x4, .ro, .local, false, 0x0⟩,
   ⟨0x058, 1, 0x4, .ro, .local, false, 0x0⟩,
   ⟨0x05C, 1, 0x4, .ro, .nv, false, 0x0⟩,
   ⟨0x060, 1, 0x4, .ro, .local, false, 0x0⟩,
   ⟨0x064, 1, 0x4, .ro, .local, false, 0x0⟩,
   ⟨0x068, 1, 0x4, .ro, .local, false, 0x0⟩,
   ⟨0x06C, 1, 0x4, .ro, .local, false, 0x0⟩,
   ⟨0x070, 1, 0x4, .ro, .local, false, 0x0⟩,
   ⟨0x074, 1, 0x4, .ro, .local, false, 0x0⟩,
   ⟨0x078, 1, 0x4, .ro, .local, false, 0x0⟩,
   ⟨0x07C, 1, 0x4, .ro, .local, false, 0x0⟩,
   ⟨0x080, 1, 0x4, .ro, .local, false, 0x0⟩,
   ⟨0x084, 1, 0x4, .ro, .local, false, 0x0⟩,
   ⟨0x088, 1, 0x4, .ro, .local, false, 0x0⟩,
   ⟨0x08C, 1, 0x4, .ro, .local, false, 0x0⟩,
   ⟨0x090, 1, 0x4, .ro, .local, false, 0x0⟩,
   ⟨0x100, 1, 0x4, .rw, .overlay, true, 0x301FF⟩,
   ⟨0x008, 1, 0x4, .wo, .local, false, 0x1F⟩]

/-- The registers of the GRN page. -/
def grnRows : List RegRow :=
  [⟨0x040, 1, 0x4, .ro, .nv, false, 0x0⟩,
   ⟨0x044, 1, 0x4, .ro, .nv, false, 0x0⟩,
   ⟨0x048, 1, 0x4, .ro, .nv, false, 0x0⟩,
   ⟨0x04C, 1, 0x4, .ro, .nv, false, 0x0⟩,
   ⟨0x050, 1, 0x4, .ro, .nv, false, 0x0⟩,
   ⟨0x054, 1, 0x4, .ro, .local, false, 0x0⟩,
   ⟨0x058, 1, 0x4, .ro, .local, false, 0x0⟩,
   ⟨0x05C, 1, 0x4, .ro, .local, false, 0x0⟩,
   ⟨0x060, 1, 0x4, .ro, .local, false, 0x0⟩,
   ⟨0x064, 1, 0x4, .ro, .local, false, 0x0⟩,
   ⟨0x068, 1, 0x4, .ro, .local, false, 0x0⟩,
   ⟨0x06C, 1, 0x4, .ro, .local, false, 0x0⟩,
   ⟨0x100, 1, 0x4, .rwk, .local, false, 0x1FFFF⟩,
   ⟨0x104, 1, 0x4, .rw, .local, false, 0xFF⟩,
   ⟨0x400, 256, 0x4, .rw, .overlay, false, 0x8000FFFF⟩,
   ⟨0x800, 16, 0x4, .ro, .sheaf, false, 0x0⟩]

/-- The registers of the PMC page. -/
def pmcRows : List RegRow :=
  [⟨0x040, 1, 0x4, .ro, .local, false, 0x0⟩,
   ⟨0x044, 1, 0x4, .ro, .local, false, 0x0⟩,
   ⟨0x048, 1, 0x4, .ro, .local, false, 0x0⟩,
   ⟨0x080, 7, 0x4, .w1c, .local, false, 0xFFFFFFFF⟩,
   ⟨0x09C, 1, 0x4, .w1c, .local, false, 0xFFFF⟩,
   ⟨0x100, 16, 0x4, .rw, .overlay, true, 0xFF00FFFF⟩,
   ⟨0x200, 16, 0x8, .ro, .local, false, 0x0⟩,
   ⟨0x204, 16, 0x8, .ro, .local, false, 0x0⟩,
   ⟨0x800, 224, 0x8, .ro, .local, false, 0x0⟩,
   ⟨0x804, 224, 0x8, .ro, .local, false, 0x0⟩,
   ⟨0xF00, 16, 0x8, .ro, .local, false, 0x0⟩,
   ⟨0xF04, 16, 0x8, .ro, .local, false, 0x0⟩,
   ⟨0x008, 1, 0x4, .wo, .local, false, 0x1⟩]

/-- The registers of the MGT page. -/
def mgtRows : List RegRow :=
  [⟨0x040, 1, 0x4, .ro, .local, false, 0x0⟩,
   ⟨0x050, 4, 0x10, .ro, .local, false, 0x0⟩,
   ⟨0x054, 4, 0x10, .ro, .local, false, 0x0⟩,
   ⟨0x058, 4, 0x10, .ro, .local, false, 0x0⟩,
   ⟨0x05C, 4, 0x10, .ro, .local, false, 0x0⟩,
   ⟨0x090, 6, 0x4, .ro, .local, false, 0x0⟩,
   ⟨0x0A8, 1, 0x4, .ro, .local, false, 0x0⟩,
   ⟨0x0AC, 3, 0x4, .ro, .local, false, 0x0⟩,
   ⟨0x0B8, 1, 0x4, .ro, .local, false, 0x0⟩,
   ⟨0x0BC, 1, 0x4, .ro, .local, false, 0x0⟩,
   ⟨0x100, 1, 0x4, .rw, .overlay, true, 0xFFFF⟩,
   ⟨0x104, 1, 0x4, .rw, .overlay, true, 0x3FF⟩,
   ⟨0x108, 1, 0x4, .rw, .overlay, true, 0xFFFF⟩,
   ⟨0x10C, 1, 0x4, .rw, .overlay, true, 0xFFFF⟩,
   ⟨0x008, 1, 0x4, .wo, .local, false, 0xFF⟩]

/-- The registers of the UPD page. -/
def updRows : List RegRow :=
  [⟨0x040, 1, 0x4, .ro, .local, false, 0x0⟩,
   ⟨0x044, 1, 0x4, .ro, .local, false, 0x0⟩,
   ⟨0x048, 1, 0x4, .ro, .nv, false, 0x0⟩,
   ⟨0x04C, 1, 0x4, .ro, .nv, false, 0x0⟩,
   ⟨0x050, 1, 0x4, .ro, .local, false, 0x0⟩,
   ⟨0x054, 1, 0x4, .ro, .local, false, 0x0⟩,
   ⟨0x058, 1, 0x4, .ro, .local, false, 0x0⟩,
   ⟨0x05C, 1, 0x4, .ro, .local, false, 0x0⟩,
   ⟨0x060, 1, 0x4, .ro, .local, false, 0x0⟩,
   ⟨0x064, 1, 0x4, .ro, .local, false, 0x0⟩,
   ⟨0x068, 1, 0x4, .ro, .local, false, 0x0⟩,
   ⟨0x06C, 1, 0x4, .ro, .local, false, 0x0⟩,
   ⟨0x070, 1, 0x4, .ro, .local, false, 0x0⟩,
   ⟨0x074, 1, 0x4, .ro, .local, false, 0x0⟩,
   ⟨0x078, 1, 0x4, .ro, .local, false, 0x0⟩,
   ⟨0x100, 1, 0x4, .rw, .local, false, 0xFFFFFFFF⟩,
   ⟨0x104, 1, 0x4, .rw, .local, false, 0xFFFFFFFF⟩,
   ⟨0x008, 1, 0x4, .wo, .local, false, 0xF0F⟩]

/-- The registers of the FPD page. -/
def fpdRows : List RegRow :=
  [⟨0x040, 1, 0x4, .ro, .local, false, 0x0⟩,
   ⟨0x044, 1, 0x4, .ro, .local, false, 0x0⟩,
   ⟨0x048, 1, 0x4, .ro, .local, false, 0x0⟩,
   ⟨0x04C, 1, 0x4, .ro, .local, false, 0x0⟩,
   ⟨0x050, 1, 0x4, .ro, .local, false, 0x0⟩,
   ⟨0x054, 1, 0x4, .ro, .local, false, 0x0⟩,
   ⟨0x058, 1, 0x4, .ro, .local, false, 0x0⟩,
   ⟨0x060, 4, 0x4, .ro, .local, false, 0x0⟩,
   ⟨0x100, 1, 0x4, .rw, .sheaf, true, 0x1⟩,
   ⟨0x104, 1, 0x4, .rw, .sheaf, true, 0x3FFFF⟩,
   ⟨0x108, 1, 0x4, .rw, .overlay, true, 0xFF⟩,
   ⟨0x10C, 1, 0x4, .rw, .local, false, 0x7F⟩,
   ⟨0x110, 4, 0x4, .rw, .local, false, 0xFFFFFFFF⟩,
   ⟨0x140, 4, 0x8, .rw, .sheaf, true, 0xFFFFFFFF⟩,
   ⟨0x144, 4, 0x8, .rw, .sheaf, true, 0x8000FFFF⟩,
   ⟨0x800, 512, 0x4, .rw, .local, false, 0xFFFFFFFF⟩,
   ⟨0x008, 1, 0x4, .wo, .local, false, 0x10F⟩]

/-- The registers of the ACH page. -/
def achRows : List RegRow :=
  [⟨0x040, 1, 0x4, .ro, .local, false, 0x0⟩,
   ⟨0x044, 1, 0x4, .ro, .local, false, 0x0⟩,
   ⟨0x048, 1, 0x4, .ro, .local, false, 0x0⟩,
   ⟨0x04C, 1, 0x4, .ro, .local, false, 0x0⟩,
   ⟨0x050, 1, 0x4, .ro, .local, false, 0x0⟩,
   ⟨0x054, 1, 0x4, .ro, .local, false, 0x0⟩,
   ⟨0x058, 1, 0x4, .ro, .local, false, 0x0⟩,
   ⟨0x05C, 1, 0x4, .ro, .local, false, 0x0⟩,
   ⟨0x060, 1, 0x4, .ro, .local, false, 0x0⟩,
   ⟨0x064, 1, 0x4, .ro, .local, false, 0x0⟩,
   ⟨0x068, 1, 0x4, .ro, .local, false, 0x0⟩,
   ⟨0x06C, 1, 0x4, .ro, .local, false, 0x0⟩,
   ⟨0x100, 1, 0x4, .rw, .sheaf, true, 0xFFFF00CF⟩,
   ⟨0x104, 1, 0x4, .rwh, .sheaf, true, 0xFFFFFFFF⟩,
   ⟨0x108, 1, 0x4, .rwh, .sheaf, true, 0xFFFFFFFF⟩,
   ⟨0x10C, 1, 0x4, .rwh, .sheaf, true, 0x303FF⟩,
   ⟨0x110, 1, 0x4, .rw, .overlay, true, 0xFFFFFFFF⟩,
   ⟨0x114, 1, 0x4, .rw, .overlay, true, 0xFFFFFFFF⟩,
   ⟨0x118, 1, 0x4, .rwh, .sheaf, true, 0xFFFFFFFF⟩,
   ⟨0x180, 1, 0x4, .rwh, .nv, false, 0xF⟩,
   ⟨0x184, 1, 0x4, .rwh, .nv, false, 0xFFFFFFFF⟩,
   ⟨0x188, 1, 0x4, .rwh, .nv, false, 0xFFFFFFFF⟩,
   ⟨0x18C, 1, 0x4, .ro, .sealed, false, 0x0⟩,
   ⟨0x008, 1, 0x4, .rwh, .local, false, 0x1⟩,
   ⟨0x070, 1, 0x4, .ro, .local, false, 0x0⟩,
   ⟨0x074, 1, 0x4, .ro, .local, false, 0x0⟩,
   ⟨0x078, 1, 0x4, .ro, .local, false, 0x0⟩,
   ⟨0x07C, 1, 0x4, .ro, .local, false, 0x0⟩,
   ⟨0x140, 1, 0x4, .rw, .sheaf, true, 0x3⟩,
   ⟨0x144, 1, 0x4, .rw, .sheaf, true, 0xFFFFFFFF⟩,
   ⟨0x148, 1, 0x4, .wo, .local, false, 0x1⟩,
   ⟨0x200, 1, 0x4, .rw, .sheaf, true, 0x11F03⟩,
   ⟨0x204, 1, 0x4, .wo, .local, false, 0x3⟩,
   ⟨0x208, 1, 0x4, .rw, .local, false, 0x1FF⟩,
   ⟨0x20C, 1, 0x4, .ro, .local, false, 0x0⟩,
   ⟨0x210, 1, 0x4, .ro, .local, false, 0x0⟩,
   ⟨0x214, 1, 0x4, .ro, .local, false, 0x0⟩,
   ⟨0x218, 1, 0x4, .ro, .local, false, 0x0⟩,
   ⟨0x21C, 1, 0x4, .ro, .local, false, 0x0⟩,
   ⟨0x220, 1, 0x4, .ro, .local, false, 0x0⟩,
   ⟨0x800, 128, 0x4, .rw, .local, false, 0xFFFFFFFF⟩,
   ⟨0xA00, 128, 0x4, .ro, .local, false, 0x0⟩]

/-- R40: the blocks. -/
inductive Block where
  | sys | pwr | rst | tbu | seq | img | lsp | dio | piu | gmu | syn | cle | slv | saf | mbc | msl | net | ses | red
  | grn | pmc | mgt | upd | fpd | ach
deriving DecidableEq, Repr

/-- R40, R34: the block of a page; pages 0x1B-0x1F are reserved. -/
def blockOf (p : Nat) : Option Block :=
  if p ≥ 0x40 then none
  else if p ≥ 0x20 then some .ach
  else
    [some .sys, some .pwr, some .rst, some .tbu, some .seq, some .img, some .lsp, some .dio, some .piu, some .gmu,
      some .syn, some .cle, some .slv, some .saf, some .mbc, some .mbc, some .mbc, some .mbc, some .msl, some .net,
      some .ses, some .red, some .grn, some .pmc, some .mgt, some .upd, some .fpd].getD p none

/-- The table of a block, header rows not included. -/
def blockRows : Block → List RegRow
  | .sys => sysRows | .pwr => pwrRows | .rst => rstRows | .tbu => tbuRows | .seq => seqRows | .img => imgRows
  | .lsp => lspRows | .dio => dioRows | .piu => piuRows | .gmu => gmuRows | .syn => synRows | .cle => cleRows
  | .slv => slvRows | .saf => safRows | .mbc => mbcRows | .msl => mslRows | .net => netRows | .ses => sesRows
  | .red => redRows | .grn => grnRows | .pmc => pmcRows | .mgt => mgtRows | .upd => updRows | .fpd => fpdRows
  | .ach => achRows

/-- R63: the event bits that a block's chapter names, and bit 15; the other bits of EVT_RAW, EVT_EN and EVT_PEND are reserved. -/
def eventBits : Block → Nat
  | .sys | .rst | .syn | .mgt => 0x807F
  | .pwr | .mbc | .net => 0x81FF
  | .tbu | .ach => 0xBFFF
  | .seq | .img => 0x800F
  | .lsp | .gmu | .fpd => 0x8007
  | .dio | .grn => 0x801F
  | .piu => 0x8FFF
  | .cle | .ses | .upd => 0x80FF
  | .slv => 0x87FF
  | .saf | .red => 0xFFFF
  | .msl => 0x803F
  | .pmc => 0x8001

/-- The three letters of a block, as the low 24 bits of PAGE_ID (R62). -/
def blockId : Block → Nat
  | .sys => 0x535953 | .pwr => 0x525750 | .rst => 0x545352 | .tbu => 0x554254 | .seq => 0x514553 | .img => 0x474D49
  | .lsp => 0x50534C | .dio => 0x4F4944 | .piu => 0x554950 | .gmu => 0x554D47 | .syn => 0x4E5953 | .cle => 0x454C43
  | .slv => 0x564C53 | .saf => 0x464153 | .mbc => 0x43424D | .msl => 0x4C534D | .net => 0x54454E | .ses => 0x534553
  | .red => 0x444552 | .grn => 0x4E5247 | .pmc => 0x434D50 | .mgt => 0x54474D | .upd => 0x445055
  | .fpd => 0x445046 | .ach => 0x484341

/-- R62: PAGE_ID of a page. -/
def pageId (p : Nat) : Nat :=
  match blockOf p with
  | some .mbc => (p - 0x0E) <<< 24 ||| blockId .mbc
  | some .ach => (p - 0x20) <<< 24 ||| blockId .ach
  | some b => blockId b
  | none => 0

/-- Does a row hold the register at `off`. -/
def RegRow.covers (r : RegRow) (off : Nat) : Bool :=
  decide (r.off ≤ off) && decide ((off - r.off) % r.step = 0) && decide ((off - r.off) / r.step < r.cnt)

/-- The row of a register of a page; none for a reserved offset (R49) or a reserved page (R34). -/
def findRow (p off : Nat) : Option RegRow :=
  match blockOf p with
  | none => none
  | some b =>
    match hdrRows.find? (·.covers off) with
    | some r => some r
    | none => (blockRows b).find? (·.covers off)

/-- The byte address of a register (R47). -/
def regAddr (p off : Nat) : Nat := 0x100000 + p * 0x1000 + off

/-- The value every register holds at reset, by byte address: the Reset column of the tables, and the named values of log
entry 3 where the column gives no number. -/
def resetValue (a : Nat) : Word :=
  if a < 0x100000 ∨ a ≥ 0x140000 then 0
  else
    let p := (a - 0x100000) / 0x1000
    let off := (a - 0x100000) % 0x1000
    match blockOf p with
    | none => 0
    | some b =>
      if off = 0x000 then BitVec.ofNat 32 (pageId p)
      else if off = 0x004 then 0x00000100
      else if off = 0x020 then 0x0FF00000
      else if b = .sys ∧ off = 0x040 then 0x00000043
      else if b = .ach ∧ off = 0x184 then 0x3F800000
      else if b = .dio ∧ 0x080 ≤ off ∧ off ≤ 0x094 then 0x66666666
      else 0

end Sys2Proof.Machine
end

