-- ==== Sys2Proof/Machine/State.lean ====
section
/-! DEFINITION. The state of the QPS-4880 block as plain data, the reasons a step can stop, and the state after reset. -/

namespace Sys2Proof.Machine

/-- Why a step stops with a fault: no command of this block does. -/
inductive Fault where
deriving DecidableEq, Repr

/-- Why a command is refused. -/
inductive Refusal where
  /-- raised by the arm of a command that has no meaning yet; safe: the machine stops -/
  | notModelled (mnemonic : String)
deriving DecidableEq, Repr

/-- The state of the module: page registers by byte address, the image, the Sheaf banks, what each block holds besides its
registers, what has left the module, and the queue of waiting commands. -/
structure State where
  /-- commands waiting, first in, first out -/
  pending : List Instr := []
  /-- control clocks of 5 ns since State.reset -/
  now : Nat := 0
  /-- page registers by byte address (R47); an unlisted one holds resetValue -/
  regs : Tab Word := []
  /-- live 64-bit values of LO/HI register pairs, by address of LO; unlisted: 0 -/
  wide : Tab Nat := []
  /-- value still in force of a register whose write takes effect later, by byte address (CONFIG_TAKE_EFFECT) -/
  effOld : Tab (Option Word) := []
  /-- last occurrence of each event, by page × 16 + bit: 2 × clock + 2, and 1 more when EVT_RAW rose at that clock (R75) -/
  evtClk : Tab Nat := []
  /-- the non-volatile overlay: stored value by byte address, and the digest it is bound to (R67, R68) -/
  overlay : Tab (Option Word) := []
  overlayDig : List Nat := []
  /-- words of the non-volatile banks and of the staging buffer, key bank × 2,097,152 + word; unlisted: 0 (R118, R684): banks
  0 and 1 hold Sheafs, bank 2 is the staging buffer, bank 3 + 2p + b is bank b of program slot p -/
  sheaf : Tab Word := []
  /-- bank of the active Sheaf, none before one is accepted -/
  active : Option Nat := none
  img : ImgSt := {}
  seq : SeqSt := {}
  tbu : TbuSt := {}
  grn : GrnSt := {}
  pmc : PmcSt := {}
  ses : SesSt := {}
  pwr : PwrSt := {}
  red : RedSt := {}
  dio : DioSt := {}
  piu : Tab PiuIn := []
  gmu : GmuSt := {}
  syn : SynSt := {}
  ach : Tab AchCh := []
  cle : CleSt := {}
  slv : SlvSt := {}
  saf : SafSt := {}
  mbc : Tab MbcSt := []
  maps : Tab MapSt := []
  mbcBad : List Nat := []
  net : NetSt := {}
  msl : Tab MslSt := []
  mslMaps : Tab MapSt := []
  mgt : MgtSt := {}
  slu : SluSt := {}
  upd : UpdSt := {}
  fpd : FpdSt := {}
  /-- what has left the module, newest first -/
  out : List Out := []
  /-- free values drawn so far: the argument of the next one (the model's own field) -/
  draws : Nat := 0
deriving DecidableEq, Repr

/-- Before the first power-on: every field at its initial value, registers at their reset values, an intact keep-alive domain
(log entry 3). -/
def State.reset : State := { pwr := { keep := { crc := 3673007081 } } }

end Sys2Proof.Machine
end

