-- ==== Sys2Proof/Machine/Ops.lean ====
section
/-! DEFINITION. The named operations over registers, Sheaf banks, the station image and the performance counters. -/

namespace Sys2Proof.Machine

/-! ### Registers -/

/-- The stored word of a register. -/
def rd (s : State) (a : Nat) : Nat := (tabGet resetValue s.regs a).toNat

/-- Store a register word. -/
def wr (a v : Nat) (s : State) : State := { s with regs := tabSet resetValue s.regs a (BitVec.ofNat 32 v) }

/-- Bits [hi:lo] of a register (R9). -/
def fld (s : State) (a hi lo : Nat) : Nat := bitsOf (rd s a) hi lo

/-- Bit i of a register. -/
def flag (s : State) (a i : Nat) : Bool := bitOf (rd s a) i

/-- Replace bits [hi:lo] of a register. -/
def setFld (a hi lo v : Nat) (s : State) : State := wr a (putBits (rd s a) hi lo v) s

/-- Set bit i of a register to `b`. -/
def setFlag (a i : Nat) (b : Bool) (s : State) : State := wr a (putBit (rd s a) i b) s

/-- Add `n` to a counter that saturates at 0xFFFF_FFFF. -/
def bump (a n : Nat) (s : State) : State := wr a (satAdd 0xFFFFFFFF (rd s a) n) s

/-- The value of a register that is in force: a write that takes effect later leaves the old one in force. -/
def effRd (s : State) (a : Nat) : Nat :=
  match tabGet (fun _ => (none : Option Word)) s.effOld a with
  | some w => w.toNat
  | none => rd s a

/-- Bits [hi:lo] of the value in force of a register. -/
def effFld (s : State) (a hi lo : Nat) : Nat := bitsOf (effRd s a) hi lo

/-- The binary32 value of a register. -/
def rdF (s : State) (a : Nat) : FVal := fOfBits f32 (rd s a)

/-- Store a binary32 value in a register. -/
def wrF (a : Nat) (x : FVal) (s : State) : State := wr a (fToBits f32 x) s

/-- The live 64-bit value of a LO/HI pair, by the address of LO. -/
def wideGet (s : State) (a : Nat) : Nat := tabGet (fun _ => (0 : Nat)) s.wide a

/-- Set the live 64-bit value of a LO/HI pair. -/
def wideSet (a v : Nat) (s : State) : State := { s with wide := tabSet (fun _ => (0 : Nat)) s.wide a (v % 2 ^ 64) }

/-- Apply a change only when a condition holds. -/
def when_ (b : Bool) (f : State → State) (s : State) : State := if b then f s else s

/-- Apply a change for every element of a list, in order. -/
def each {α : Type} (l : List α) (f : α → State → State) (s : State) : State := l.foldl (fun t x => f x t) s

/-- Append what leaves the module. -/
def emit (o : Out) (s : State) : State := { s with out := o :: s.out }

/-- Take the next argument of a free value. -/
def drawNext (s : State) : State := { s with draws := s.draws + 1 }

/-! ### The Sheaf banks (R117-R133) -/

/-- Word i of a Sheaf bank. -/
def bankWord (s : State) (bank i : Nat) : Nat := (tabGet (fun _ => (0 : Word)) s.sheaf (bank * 2097152 + i)).toNat

/-- Byte `off` of a Sheaf bank. -/
def bankByte (s : State) (bank off : Nat) : Nat := bitsOf (bankWord s bank (off / 4)) (8 * (off % 4) + 7) (8 * (off % 4))

/-- The bytes [off, off + n) of a Sheaf bank. -/
def bankBytes (s : State) (bank off n : Nat) : List Nat := (List.range n).map (fun i => bankByte s bank (off + i))

/-- The little-endian value of n bytes of a Sheaf bank (R119), taken from the words that hold them. -/
def bankNat (s : State) (bank off n : Nat) : Nat :=
  (List.range ((off % 4 + n + 3) / 4)).foldr (fun i m => bankWord s bank (off / 4 + i) + m * 2 ^ 32) 0 / 2 ^ (8 * (off % 4)) % 2 ^ (8 * n)

/-- A part of a section (R132): offset of its first record, record size, record count, and where the next part begins. -/
structure Part where
  base : Nat
  size : Nat
  count : Nat
  next : Nat
deriving DecidableEq, Repr

/-- The part whose header stands at `off`. -/
def partAt (s : State) (bank off : Nat) : Part :=
  ⟨off + 16, bankNat s bank (off + 4) 4, bankNat s bank (off + 8) 4, off + 16 + bankNat s bank (off + 12) 4⟩

/-- Find a part among the `n` parts from offset `off` on. -/
def findPart (s : State) (bank id : Nat) : Nat → Nat → Option Part
  | 0, _ => none
  | n + 1, off =>
    if bankNat s bank off 2 = id then some (partAt s bank off) else findPart s bank id n (partAt s bank off).next

/-- R123: the directory entry of section k: PRESENT, OFFSET and LENGTH. -/
def dirEntry (s : State) (bank k : Nat) : Bool × Nat × Nat :=
  let o := 0x080 + 16 * (k - 1)
  (bitOf (bankByte s bank (o + 1)) 0, bankNat s bank (o + 4) 4, bankNat s bank (o + 8) 4)

/-- The part `id` of a bank, none when its section is absent or does not hold it (R124, R131). -/
def bankPart (s : State) (bank id : Nat) : Option Part :=
  let d := dirEntry s bank (id / 256)
  if d.1 then findPart s bank id (bankNat s bank (d.2.1 + 2) 2) (d.2.1 + 16) else none

/-- The part `id` of the active Sheaf. -/
def cfgPart (s : State) (id : Nat) : Option Part :=
  match s.active with
  | some b => bankPart s b id
  | none => none

/-- Records of a part of the active Sheaf; 0 when the part is absent. -/
def cfgCount (s : State) (id : Nat) : Nat :=
  match cfgPart s id with
  | some p => p.count
  | none => 0

/-- n bytes at offset `off` of record i of a part of the active Sheaf, little-endian; 0 when there is no such record. -/
def cfgNat (s : State) (id i off n : Nat) : Nat :=
  match s.active, cfgPart s id with
  | some b, some p => if i < p.count then bankNat s b (p.base + p.size * i + off) n else 0
  | _, _ => 0

/-- n bytes at offset `off` of a byte-block part of the active Sheaf. -/
def cfgBlock (s : State) (id off n : Nat) : List Nat :=
  match s.active, cfgPart s id with
  | some b, some p => bankBytes s b (p.base + off) n
  | _, _ => List.replicate n 0

/-! ### Quality tags (R19-R22) -/

/-- R19: the code of a tag. -/
def tagCode : Tag → Nat
  | .good => 0x0 | .held => 0x1 | .subst => 0x2 | .degraded => 0x3 | .limited => 0x4 | .init => 0x5 | .bad => 0xF

/-- R20: the tag of a code; a reserved code counts as BAD. -/
def tagOf (c : Nat) : Tag :=
  match c with
  | 0 => .good | 1 => .held | 2 => .subst | 3 => .degraded | 4 => .limited | 5 => .init | _ => .bad

/-- R21: place of a tag in the order BAD, INIT, HELD, SUBST, DEGRADED, LIMITED, GOOD. -/
def tagRank : Tag → Nat
  | .bad => 0 | .init => 1 | .held => 2 | .subst => 3 | .degraded => 4 | .limited => 5 | .good => 6

/-- R21: the tag that comes first of two. -/
def tagJoin (a b : Tag) : Tag := if tagRank b < tagRank a then b else a

/-! ### Performance counters (R666-R668) -/

/-- Add n events to event counter i; a wrap sets its sticky bit and is left for WRAP to be raised (R667). -/
def pmcAdd (i n : Nat) (s : State) : State :=
  let v := tabGet (fun _ => (0 : Nat)) s.pmc.cnt i + n
  { s with pmc := { s.pmc with
      cnt := tabSet (fun _ => (0 : Nat)) s.pmc.cnt i (v % 2 ^ 48)
      sticky := if v < 2 ^ 48 then s.pmc.sticky else s.pmc.sticky ||| 2 ^ i
      wrapped := s.pmc.wrapped || decide (2 ^ 48 ≤ v) } }

/-- Count one event on event counter i. -/
def pmcInc (i : Nat) (s : State) : State := pmcAdd i 1 s

/-! ### Roles and lanes -/

/-- SYS.ROLE.ROLE (R76). -/
def role (s : State) : Nat := fld s Reg.sysRole 2 0

/-- R76: the role codes. -/
def roleReset : Nat := 0
def roleSyncing : Nat := 1
def roleStandby : Nat := 2
def roleActive : Nat := 3
def roleSolo : Nat := 4
def roleHold : Nat := 5

/-- R579: the module drives field outputs: ACTIVE, SOLO, or HOLD entered while driving. -/
def driving (s : State) : Bool :=
  role s == roleActive || role s == roleSolo || (role s == roleHold && flag s Reg.redState 13)

/-- R580: the partner is an available standby: in STANDBY, present, not stale, not LATENT, not in safety FAULT. -/
def availableStandby (s : State) : Bool :=
  fld s Reg.redPartner 2 0 == roleStandby && flag s Reg.redPartner 8 && !flag s Reg.redPartner 4
    && !flag s Reg.redPartner 7 && !flag s Reg.redPartner 6

/-- RED.LANES: the state of lane l (0 OFFLINE, 1 IN_SERVICE, 2 SHADOW). -/
def laneState (s : State) (l : Nat) : Nat := fld s Reg.redLanes (4 * l + 3) (4 * l)

/-- The lanes whose values leave the module: IN_SERVICE and not stopped (R168). -/
def lanesIn (s : State) : List Nat :=
  (List.range 3).filter (fun l => laneState s l == 1 && !s.seq.stopped.getD l false)

/-- R168: the lowest-lettered lane in service, lane A when none is. -/
def lowLane (s : State) : Nat := (lanesIn s).headD 0

/-- The lanes that compute image words: in service or shadowing. -/
def lanesLive (s : State) : List Nat :=
  (List.range 3).filter (fun l => laneState s l != 0 && !s.seq.stopped.getD l false)

/-! ### The station image (R179-R192) -/

/-- Words of the image. -/
def imgWords : Nat := 262144

/-- What an unwritten image word holds (R180). -/
def cellInit : ICell := ⟨0, .init⟩

/-- A word of one physical bank. -/
def bankCell (s : State) (bank w : Nat) : ICell := tabGet (fun _ => cellInit) s.img.words (bank * imgWords + w)

/-- The bank that holds the completed copy of a line. -/
def lineDone (s : State) (line : Nat) : Nat := b2n (tabGet (fun _ => false) s.img.ptr line)

/-- Was the line written in the generation being built. -/
def lineDirty (s : State) (line : Nat) : Bool := tabGet (fun _ => false) s.img.dirty line

/-- The bank from which an engine reads a line (R182). -/
def lineEngine (s : State) (line : Nat) : Nat := if lineDirty s line then 1 - lineDone s line else lineDone s line

/-- The word of one lane where it differs from the common one (R190). -/
def laneCell (s : State) (lane bank w : Nat) : ICell :=
  match tabGet (fun _ => (none : Option ICell)) s.img.laneDiff (lane * 524288 + bank * imgWords + w) with
  | some c => c
  | none => bankCell s bank w

/-- R169: a word as an engine of lane l reads it. -/
def laneView (s : State) (l w : Nat) : ICell := laneCell s l (lineEngine s (w / 16)) w

/-- R169: a word as an engine of the lowest-lettered lane in service reads it. -/
def imgRead (s : State) (w : Nat) : ICell := laneView s (lowLane s) w

/-- R168, R182: a word as hosts, publications, the Sluice and snapshots read it. -/
def imgHost (s : State) (w : Nat) : ICell := laneCell s (lowLane s) (lineDone s (w / 16)) w

/-- Store a word of one bank in every lane, with fresh check bits (R179). -/
def putCell (bank w : Nat) (c : ICell) (s : State) : State :=
  let k := bank * imgWords + w
  { s with img := { s.img with
      words := tabSet (fun _ => cellInit) s.img.words k c
      laneDiff := s.img.laneDiff.filter (fun e => e.1 % 524288 ≠ k)
      upsets := s.img.upsets.filter (fun e => e.1 % 524288 ≠ k) } }

/-- The key of a word that one lane stores. -/
def laneKey (lane bank w : Nat) : Nat := lane * 524288 + bank * imgWords + w

/-- Store a word of one bank in one lane only, with fresh check bits (R179). -/
def putLaneCell (lane bank w : Nat) (c : ICell) (s : State) : State :=
  { s with img := { s.img with
      laneDiff := tabSet (fun _ => (none : Option ICell)) s.img.laneDiff (laneKey lane bank w)
        (if c = bankCell s bank w then none else some c)
      upsets := tabSet (fun _ => (0 : Nat)) s.img.upsets (laneKey lane bank w) 0 } }

/-- R152: the source word of the tag link whose target range holds word w. -/
def tagLink (s : State) (w : Nat) : Option Nat :=
  ((List.range (cfgCount s 0x0503)).find? (fun i =>
      let t := cfgNat s 0x0503 i 0 4
      t ≤ w && w < t + cfgNat s 0x0503 i 4 2)).map (fun i => cfgNat s 0x0503 i 8 4)

/-- A producer range of part 0x0501 that holds word w: KIND and OWNER (R149, R150). -/
def producerOf (s : State) (w : Nat) : Option (Nat × Nat) :=
  ((List.range (cfgCount s 0x0501)).find? (fun i =>
      let f := cfgNat s 0x0501 i 0 4
      f ≤ w && w < f + cfgNat s 0x0501 i 4 2)).map (fun i => (cfgNat s 0x0501 i 6 1, cfgNat s 0x0501 i 7 1))

/-! ### Ship time and stamps (R100, R112) -/

/-- Ship time in ns at the present clock: the count at its rate, and the part of a slew made so far at 100 µs per second. -/
def shipNow (s : State) : Nat :=
  let d := s.now - s.tbu.shipClk
  let m : Int := (d / 2000 : Nat)
  let slew := if s.tbu.slew < 0 then -(min m (-s.tbu.slew)) else min m s.tbu.slew
  ((s.tbu.ship + s.tbu.rate * d / 2 ^ 32 : Nat) + slew : Int).toNat % 2 ^ 64

/-- R94: the ship time, in 2^-32 ns, that the present minor cycle has counted at the ship-time rate; no step or slew is in it
(R114). -/
def ratedNow (s : State) : Nat := s.tbu.rated + s.tbu.rate * (s.now - s.tbu.rateClk)

/-- Fix the ship time reached so far, so that its rate or value can change from here on. -/
def shipRebase (s : State) : State :=
  let d := s.now - s.tbu.shipClk
  let m : Int := (d / 2000 : Nat)
  let made := if s.tbu.slew < 0 then -(min m (-s.tbu.slew)) else min m s.tbu.slew
  { s with tbu := { s.tbu with ship := shipNow s, shipClk := s.now, slew := s.tbu.slew - made } }

end Sys2Proof.Machine
end

