-- ==== Sys2Proof/Machine/View.lean ====
section
/-! DEFINITION. What a read of a register delivers where the register shows state that is held elsewhere: the derived words
of the common header (R62-R65), of the 64-bit pairs, and of the pages whose registers show running state. -/

namespace Sys2Proof.Machine

/-- The implemented pages (R40, R34). -/
def livePages : List Nat := (List.range 0x40).filter (fun p => (blockOf p).isSome)

/-- R62: EVT_PEND is EVT_RAW and EVT_EN. -/
def evtPend (s : State) (p : Nat) : Nat := (rd s (Reg.evtRaw p) &&& rd s (Reg.evtEn p)) % 65536

/-- R65: PEND_ANY of a page. -/
def pendAny (s : State) (p : Nat) : Bool := evtPend s p != 0

/-- SYS.PEND_MAP: bit p is PEND_ANY of page p. -/
def pendMap (s : State) : Nat := livePages.foldl (fun m p => if pendAny s p then putBit m p true else m) 0

/-- The severity of event bit k of a page (EVT_SEV). -/
def severity (s : State) (p k : Nat) : Nat := fld s (Reg.evtSev p) (2 * k + 1) (2 * k)

/-- SYS.STAT.SEV_MAX: the highest severity among all pending events. -/
def sevMax (s : State) : Nat :=
  livePages.foldl (fun m p =>
    if pendAny s p then
      (List.range 16).foldl (fun m k => if bitOf (evtPend s p) k then max m (severity s p k) else m) m
    else m) 0

/-- R650: readable records. -/
def grnCountNow (s : State) : Nat := s.grn.headSeq + 1 - s.grn.oldestSeq

/-- R650: the readable record in ring slot i. -/
def grnRing (s : State) (i : Nat) : Option GRec :=
  match tabGet (fun _ => (none : Option GRec)) s.grn.ring i with
  | some r => if s.grn.oldestSeq ≤ r.seq ∧ r.seq ≤ s.grn.headSeq then some r else none
  | none => none

/-- R648: the 128 bytes of a record. -/
def grnBytes (r : GRec) : List Nat :=
  let n := r.snaps.length
  let words := (List.range 16).flatMap (fun k => leBytes 4 ((r.snaps.getD k (0, 0)).1.toNat))
  let tags := leBytes 8 ((List.range n).foldl (fun m k => m + (r.snaps.getD k (0, 0)).2 <<< (4 * k)) 0)
  let body := leBytes 8 r.seq ++ leBytes 8 r.ship ++ leBytes 8 r.gen ++ leBytes 2 r.slot ++ leBytes 2 r.trig ++
    leBytes 4 r.rep ++ leBytes 8 r.lastShip ++ [n, r.flags] ++ leBytes 2 r.source ++ leBytes 4 r.ctx ++ words ++ tags ++
    leBytes 4 0
  body ++ leBytes 4 (crc32c body)

/-- A word of the Granary read window (R650, R651). -/
def grnWindow (s : State) (off : Nat) : Nat :=
  match grnRing s (off / 128) with
  | some r => leNat (((grnBytes r).drop (off % 128 / 4 * 4)).take 4)
  | none => 0

/-- A session slot. -/
def session (s : State) (k : Nat) : Session := tabGet (fun _ => ({} : Session)) s.ses.slots k

/-- Store a session slot. -/
def putSession (k : Nat) (x : Session) (s : State) : State :=
  { s with ses := { s.ses with slots := tabSet (fun _ => ({} : Session)) s.ses.slots k x } }

/-- The clock at which a role was locked, while the lock lasts (R561). -/
def roleLocked (s : State) (r : Nat) : Option Nat :=
  match tabGet (fun _ => (none : Option Nat)) s.ses.locked r with
  | some c => if s.now < c + 60000000000 then some c else none
  | none => none

/-- Seconds left of a lock, rounded up. -/
def lockLeft (s : State) (r : Nat) : Nat :=
  match roleLocked s r with
  | some c => (c + 60000000000 - s.now + 199999999) / 200000000
  | none => 0

/-- Words of SESSIONk (R577). -/
def sessionWord (s : State) (k j : Nat) : Nat :=
  let x := session s k
  if x.state = 0 then 0
  else match j with
    | 0 => x.state <<< 28 + x.role <<< 24 + x.port <<< 16 + x.udp % 65536
    | 1 => x.ip % 2 ^ 32
    | 2 => min 65535 ((s.now - x.lastClk) / 200000000) + (if s.grn.freeze = some k then 65536 else 0)
    | 3 => x.mask % 2 ^ 32
    | 4 => x.mask / 2 ^ 32 % 2 ^ 32
    | 5 => x.seqIn % 2 ^ 32
    | 6 => x.seqOut % 2 ^ 32
    | _ => 0

/-- SES.KEY_STATE. -/
def keyState (s : State) : Nat :=
  let occ := (List.range 4).foldl (fun m k =>
    if (tabGet (fun _ => ([] : List Nat)) s.ses.sheafKeys k).isEmpty then m else putBit m k true) 0
  let roles := (List.range 4).foldl (fun m k =>
    if (tabGet (fun _ => ([] : List Nat)) s.ses.roleKeys k).isEmpty then m else putBit m k true) 0
  occ <<< 8 + (b2n s.ses.factory) <<< 4 + roles

/-- R126: the identifier of Sheaf key k: the first 8 bytes of its SHA-256 digest, 0 when empty. -/
def sheafKeyId (s : State) (k : Nat) : Nat :=
  let key := tabGet (fun _ => ([] : List Nat)) s.ses.sheafKeys k
  if key.isEmpty then 0 else leNat ((sha256 key).take 8)

/-- R95: the nominal frequency in force, 50 or 60 Hz. -/
def nomFreq (s : State) : Nat := if bitOf (effRd s Reg.tbuBusCfg) 0 then 60 else 50

/-- R174: the lag of a lane: what the lanes have in common and its own, or, of a lane stopped under R177, what it has risen to. -/
def laneLag (s : State) (l : Nat) : Nat :=
  if s.seq.stopped.getD l false then s.seq.lags.getD l 0 else s.seq.behind + s.seq.lags.getD l 0

/-- R176: a lane in service lags by 1 to 64 slots. -/
def slipping (s : State) : Bool := (lanesIn s).any (fun l => decide (1 ≤ laneLag s l) && decide (laneLag s l ≤ 64))

/-- The derived words of the SYS page. -/
def viewSys (s : State) (off : Nat) : Option Nat :=
  match off with
  | 0x00C => some (rd s (Reg.stat 0) &&& 0x30 ||| b2n (pendMap s != 0) <<< 2 ||| sevMax s)
  | 0x088 => some (pendMap s % 2 ^ 32)
  | 0x08C => some (pendMap s / 2 ^ 32)
  | 0x090 => some (min 0xFFFFFFFF ((s.now - s.pwr.relClk) / 200000000))
  | _ => none

/-- The derived words of the TBU page. -/
def viewTbu (s : State) (off : Nat) : Option Nat :=
  match off with
  | 0x044 => some ((s.tbu.slot / 512) <<< 12 + s.tbu.slot)
  | 0x048 => some s.tbu.len
  | 0x04C => some (toSigned 16 ((s.tbu.stretch + 2) / 4))
  | 0x050 => some (toSigned 32 s.tbu.err)
  | _ => none

/-- The derived words of the SEQ page (R168, R196). -/
def viewSeq (s : State) (off : Nat) : Option Nat :=
  match off with
  | 0x00C =>
    let st := s.seq.stopped
    some (s.seq.sched + (b2n (slipping s)) <<< 2 + (b2n (st.any id)) <<< 3 + (b2n (st.getD 0 false)) <<< 4
      + (b2n (st.getD 1 false)) <<< 5 + (b2n (st.getD 2 false)) <<< 6)
  | 0x040 => some ((s.seq.shown / 512) <<< 12 + s.seq.shown)
  | 0x044 =>
    some (min 255 (laneLag s 0) + (min 255 (laneLag s 1)) <<< 8 + (min 255 (laneLag s 2)) <<< 16)
  | _ => none

/-- R194: a word of the tag window: the tags of eight words of the readable generation. -/
def tagWindow (s : State) (k : Nat) : Nat :=
  let w := fld s Reg.imgTagBase 5 0 * 4096 + 8 * k
  (List.range 8).foldl (fun m j => m + tagCode (imgHost s (w + j)).tag <<< (4 * j)) 0

/-- R168: the error counters and the last error of a lane: CNT_ECC_CORR, CNT_ECC_DOUBLE, LAST_ECC. -/
def eccOf (s : State) (l : Nat) : Nat × Nat × Nat := tabGet (fun _ => ((0, 0, 0) : Nat × Nat × Nat)) s.img.ecc l

/-- The derived words of the IMG page; STAT.SCRUBBING shows SCRUB_EN, so a pass that pauses part-way is not in progress (log
entry 85). -/
def viewImg (s : State) (off : Nat) : Option Nat :=
  if 0x800 ≤ off then some (tagWindow s ((off - 0x800) / 4))
  else match off with
    | 0x00C => some (b2n (flag s Reg.imgEccCfg 0) <<< 1 + b2n (8192 < rd s Reg.imgDirtyLast))
    | 0x054 => some (eccOf s (lowLane s)).1
    | 0x058 => some (eccOf s (lowLane s)).2.1
    | 0x05C => some (eccOf s (lowLane s)).2.2
    | _ => none

/-- The derived words of the SES page (R577). -/
def viewSes (s : State) (off : Nat) : Option Nat :=
  if 0x800 ≤ off ∧ off < 0xA00 then some (sessionWord s ((off - 0x800) / 32) (off % 32 / 4))
  else if 0x080 ≤ off ∧ off < 0x0A0 then
    some (if off % 8 = 0 then sheafKeyId s ((off - 0x080) / 8) % 2 ^ 32 else sheafKeyId s ((off - 0x080) / 8) / 2 ^ 32)
  else if 0x200 ≤ off ∧ off < 0x220 then some 0
  else match off with
    | 0x040 =>
      some ((List.range 16).foldl (fun m k =>
        let st := (session s k).state
        m + b2n (st == 2) <<< k + b2n (st == 1) <<< (16 + k)) 0)
    | 0x044 =>
      some ((List.range 4).foldl (fun m r => max m (lockLeft s r)) 0 <<< 16
        + (List.range 4).foldl (fun m r => m + b2n (roleLocked s r).isSome <<< r) 0)
    | 0x048 => some (keyState s)
    | 0x04C => some (b2n s.ses.gateOpen <<< 8 + min 4 s.ses.handled)
    | _ => none

/-- The derived words of the GRN page (R664). -/
def viewGrn (s : State) (off : Nat) : Option Nat :=
  if 0x800 ≤ off ∧ off < 0x840 then some (cfgNat s 0x0D01 (fld s Reg.grnTrigSel 7 0) (off - 0x800) 4)
  else match off with
    | 0x00C =>
      some (b2n (grnCountNow s == 65536) + b2n s.grn.freeze.isSome <<< 1 + b2n (flag s (Reg.stat 0x16) 2) <<< 2)
    | 0x050 => some (grnCountNow s)
    | 0x054 => some (s.grn.staging.length <<< 16 + s.grn.queue.length)
    | 0x058 =>
      match s.grn.freeze with
      | some k => some (2 ^ 31 + k <<< 16 + (2000000000 - (s.now - s.grn.freezeClk) + 199999) / 200000)
      | none => some 0
    | 0x05C => some s.grn.records
    | 0x060 => some s.grn.coalesced
    | 0x064 => some s.grn.dropped
    | 0x068 => some s.grn.stageOver
    | 0x06C => some s.grn.clears
    | 0x100 => some 0
    | _ => none

/-- The derived words of the PMC page: STAT.ANY_STICKY and the sticky words (R667). -/
def viewPmc (s : State) (off : Nat) : Option Nat :=
  if off = 0x00C then some (b2n (s.pmc.sticky != 0))
  else if 0x080 ≤ off ∧ off < 0x0A0 then
    some (bitsOf s.pmc.sticky (8 * (off - 0x080) + 31) (8 * (off - 0x080)))
  else none

/-- R701: a pixel of the marker strip. -/
def inMarker (x y : Nat) : Bool := decide (224 ≤ x) && decide (116 ≤ y)

/-- A pixel of a pixel memory. -/
def pixel (t : Tab Nat) (x y : Nat) : Nat := tabGet (fun _ => (0 : Nat)) t (240 * y + x)

/-- R700, R701: a word of the pixel window: 16 pixels of the next image. -/
def pixWord (s : State) (off : Nat) : Nat :=
  let y := fld s Reg.fpdPixRow 6 0 + (off - 0x800) / 64
  let x := 16 * ((off - 0x800) / 4 % 16)
  if 119 < y ∨ 240 ≤ x then 0
  else (List.range 16).foldl (fun m c => m + (if inMarker (x + c) y then 0 else pixel s.fpd.next (x + c) y) <<< (2 * c)) 0

/-- REGIONr_STATE (R713). -/
def regionState (s : State) (r : Nat) : Nat :=
  let run := s.fpd.updates.filter (fun u => u.region == r)
  b2n (!run.isEmpty) <<< 31 + b2n (tabGet (fun _ => (0 : Nat)) s.fpd.pend r == 2) <<< 30
    + min 64 (run.foldl (fun m u => max m u.left) 0) <<< 16

/-- PANEL_STATE (R713). -/
def panelState (s : State) : Nat :=
  let f := s.fpd
  (match f.rail with | 0 => 0 | 1 => 0 | 2 => 1 | 3 => 1 | 4 => 2 | 5 => 3 | _ => 4) <<< 24 + f.band <<< 16 + f.marker <<< 12
    + b2n f.railFault <<< 8
    + (List.range 4).foldl (fun m r => m + b2n (tabGet (fun _ => (0 : Nat)) f.pend r == 2) <<< (4 + r)) 0 + f.updates.length

/-- The derived words of the FPD page. -/
def viewFpd (s : State) (off : Nat) : Option Nat :=
  if 0x800 ≤ off then some (pixWord s off)
  else if 0x060 ≤ off ∧ off < 0x070 then some (regionState s ((off - 0x060) / 4))
  else match off with
    | 0x040 => some (panelState s)
    | 0x048 => some s.fpd.lastFault
    | _ => none

/-- The derived words of the MGT page: PROGs_STATE.RESTARTS, the stops within the last 600 s (R682). -/
def viewMgt (s : State) (off : Nat) : Option Nat :=
  if 0x050 ≤ off ∧ off < 0x090 ∧ off % 16 = 0 then
    let k := (off - 0x050) / 16
    let n := ((tabGet (fun _ => ({} : ProgSt)) s.mgt.progs k).stops.filter (fun c => s.now - c ≤ 120000000000)).length
    some (putBits (rd s (Reg.mgtProgState k)) 15 8 (min 255 n))
  else none

/-! ### The conditions of full service (R632, R633) -/

/-- BUS_STATE.STATE: 0 FREE_RUN, 1 SLEWING, 2 LOCKED, 3 COAST. -/
def busState (s : State) : Nat := fld s Reg.tbuBusState 1 0

/-- BUS_STATE.INVALID_CNT. -/
def invalidCnt (s : State) : Nat := fld s Reg.tbuBusState 5 4

/-- R632: the conditions that are missing: bit 0 timebase, bit 1 calibration, bit 2 role. -/
def startMissing (s : State) : Nat :=
  let st := busState s
  let tb := st == 2 || (st == 0 && invalidCnt s == 3)
  let cal := (List.range 32).all (fun n => fld s (Reg.achCalState n) 1 0 != 1)
  let rl := role s != roleReset && role s != roleSyncing
  b2n (!tb) + b2n (!cal) <<< 1 + b2n (!rl) <<< 2

/-- R633: the missing conditions clear as they are met. Used wherever one of them can come to be met. -/
def missingClear (s : State) : State :=
  if fld s Reg.rstState 18 16 = 0 then s
  else setFld Reg.rstState 18 16 (fld s Reg.rstState 18 16 &&& startMissing s) s

/-- RST.STATE: while bring-up service runs, MISSING shows the conditions of R632 that are not met now. -/
def viewRst (s : State) (off : Nat) : Option Nat :=
  match off with
  | 0x048 =>
    let w := rd s Reg.rstState
    some (if bitsOf w 3 0 = 3 then putBits w 18 16 (startMissing s) else w)
  | _ => none

/-- The derived words of the RED page: STATE mirrors of the token lines and STALE (R612). -/
def viewRed (s : State) (off : Nat) : Option Nat :=
  match off with
  | 0x040 =>
    some (putBit (putBit (putBit (rd s Reg.redState) 6 (s.red.partner == .present)) 5 (s.red.own == .present)) 4
      (flag s Reg.sysRole 8))
  | _ => none

/-! ### Discrete channels (R277-R282) -/

/-- DIO.CHn_CFG.FUNC in force (R277). -/
def dioFunc (s : State) (n : Nat) : Nat := effFld s (Reg.dioChCfg n) 3 0

/-- R292, R240: the module listens in STANDBY and SYNCING. -/
def listening (s : State) : Bool := role s == roleStandby || role s == roleSyncing

/-- R277: the channel is an input. -/
def dioIsIn (s : State) (n : Nat) : Bool := dioFunc s n == 1 || dioFunc s n == 2

/-- R277: the channel is an output. -/
def dioIsOut (s : State) (n : Nat) : Bool := dioFunc s n == 3 || dioFunc s n == 4

/-- RST.STATE.PHASE reads NO_SHEAF (R630). -/
def noSheaf (s : State) : Bool := fld s Reg.rstState 3 0 == 5

/-- The module is in bring-up or full service (RST.STATE.PHASE). -/
def inService (s : State) : Bool := fld s Reg.rstState 3 0 == 3 || fld s Reg.rstState 3 0 == 4

/-- R483, R726: the termination of bus MBCn is connected: CFG.TERM applies only in bring-up and full service. -/
def mbcTerminated (s : State) (n : Nat) : Bool := inService s && bitOf (effRd s (Reg.mbcCfg n)) 17

/-- R293, R726: the termination of pulse input PIn is connected. -/
def piuTerminated (s : State) (n : Nat) : Bool := inService s && bitOf (effRd s (Reg.piuCfg n)) 6

/-- R277, R283, R292: the test supply of channel n is on: of an input, outside the listening state and the 150 µs of its test
pulse. -/
def testSupplyOn (s : State) (n : Nat) : Bool :=
  dioIsIn s n && !listening s && role s != roleReset
    && !(tabGet (fun _ => (none : Option Nat)) s.dio.testClk n).any (fun c => decide (s.now < c + 30000))

/-- R279: the raw state of an input at a terminal voltage in mV, from its last value: type 1 (FUNC 0x1) reads on from 15 V, type 3
(FUNC 0x2) from 11 V, and either reads off up to 5 V. -/
def rawLevel (func : Nat) (last : Bool) (mv : Int) : Bool :=
  if (if func = 1 then 15000 else 11000) ≤ mv then true else if mv ≤ 5000 then false else last

/-- DIO.STAT.FS_LOW. -/
def fsLow (s : State) : Bool := flag s (Reg.stat 0x07) 1

/-- R282: the line state of channel n: the first that holds in the order NOT_USED, NO_SUPPLY, SHORT, OVERLOAD, OPEN,
EXT_FEED, OK. -/
def lineState (s : State) (n : Nat) : Nat :=
  let c := bitsOf s.dio.conds (4 * n + 3) (4 * n)
  if dioFunc s n = 0 ∨ flag s (Reg.dioChCfg n) 4 = false ∨ listening s = true then 6
  else if fsLow s then 5
  else if bitOf c 1 then 2
  else if bitOf c 2 then 3
  else if bitOf c 0 then 1
  else if bitOf c 3 ∧ dioIsOut s n then 4
  else 0

/-- A line state other than OK and NOT_USED. -/
def lineFaulty (st : Nat) : Bool := st != 0 && st != 6

/-- The output states in force: commanded, and not switched off by R284. -/
def dioOut (s : State) : Nat := (List.range 48).foldl (fun m n =>
  putBit m n (bitOf s.dio.cmd n && !bitOf s.dio.prot n && dioIsOut s n)) 0

/-- The derived words of the DIO page (R304). -/
def viewDio (s : State) (off : Nat) : Option Nat :=
  if 0x080 ≤ off ∧ off < 0x098 then
    some ((List.range 8).foldl (fun m j => m + lineState s (2 * (off - 0x080) + j) <<< (4 * j)) 0)
  else
    let faults := (List.range 48).foldl (fun m n => m + b2n (lineFaulty (lineState s n)) <<< n) 0
    match off with
    | 0x00C => some (b2n (listening s) + b2n (fsLow s) <<< 1)
    | 0x040 => some (s.dio.qual % 2 ^ 32)
    | 0x044 => some (s.dio.qual / 2 ^ 32)
    | 0x048 => some (dioOut s % 2 ^ 32)
    | 0x04C => some (dioOut s / 2 ^ 32)
    | 0x050 => some (faults % 2 ^ 32)
    | 0x054 => some (faults / 2 ^ 32)
    | _ => none

/-! ### Pulse inputs (R295-R297) -/

/-- A pulse input. -/
def piu (s : State) (n : Nat) : PiuIn := tabGet (fun _ => ({} : PiuIn)) s.piu n

/-- PIU.CFGn.MODE in force (R293). -/
def piuMode (s : State) (n : Nat) : Nat := effFld s (Reg.piuCfg n) 3 0

/-- TEETHn in force, at least 1. -/
def piuTeeth (s : State) (n : Nat) : Nat := max 1 (effFld s (Reg.piuTeeth n) 12 0)

/-- R101: the angle of tooth k of N in counts. -/
def toothAngle (k n : Nat) : Nat := k * 65536 / n

/-- R295, R297: the angle word of a pulse input: revolution and counts. -/
def piuAngleWord (s : State) (n : Nat) : Nat :=
  ((piu s n).rev % 65536) <<< 16 + toothAngle (piu s n).tooth (piuTeeth s n) % 65536

/-- R296: the interval that FREQn shows: the last tooth interval, or the time since the last edge when that is longer; none
when stalled or before two edges. -/
def piuSpan (s : State) (n : Nat) : Option Nat :=
  let x := piu s n
  match x.lastClk with
  | some c => if x.stalled ∨ x.interval = 0 then none else some (max x.interval (s.now - c))
  | none => none

/-- R296: FREQn, binary32. -/
def piuFreqNow (s : State) (n : Nat) : FVal :=
  match piuSpan s n with
  | some d => fOfRat f32 200000000 d
  | none => FVal.zero

/-- R296: SPEEDn, binary32: 60 × FREQn / TEETHn, negative when the last edge of an encoder was reverse. -/
def piuSpeedNow (s : State) (n : Nat) : FVal :=
  match piuSpan s n with
  | some d => fOfRat f32 (if piuMode s n = 1 ∧ (piu s n).reverse then -12000000000 else 12000000000) (d * piuTeeth s n)
  | none => FVal.zero

/-- The derived words of the PIU page (R307). -/
def viewPiu (s : State) (off : Nat) : Option Nat :=
  if 0x040 ≤ off ∧ off < 0x0C0 then
    let n := (off - 0x040) / 32
    match (off - 0x040) % 32 with
    | 0x00 => some ((piu s n).count % 2 ^ 32)
    | 0x04 => some (fToBits f32 (piuFreqNow s n))
    | 0x08 => some (fToBits f32 (piuSpeedNow s n))
    | 0x0C => some (piuAngleWord s n)
    | 0x10 =>
      let x := piu s n
      some (b2n x.stalled + b2n x.reverse <<< 1 + b2n x.indexed <<< 2 + b2n x.lineFault <<< 3 + b2n x.overfreq <<< 4)
    | _ => none
  else none

/-- The derived words of the GMU page: the result window (R340). -/
def viewGmu (s : State) (off : Nat) : Option Nat :=
  if 0x800 ≤ off ∧ off < 0xFC0 then some (tabGet (fun _ => cellInit) s.gmu.result ((off - 0x800) / 4)).val.toNat else none

/-! ### Universal channels -/

/-- A universal channel. -/
def ach (s : State) (n : Nat) : AchCh := tabGet (fun _ => ({} : AchCh)) s.ach n

/-- ACHn.CFG.MODE in force (R242). -/
def achMode (s : State) (n : Nat) : Nat := effFld s (Reg.achCfg n) 3 0

/-- R200: the mode is an output mode. -/
def achIsOut (s : State) (n : Nat) : Bool := achMode s n == 4 || achMode s n == 5 || achMode s n == 6

/-- R239: the stored trim applies. -/
def trimOn (s : State) (n : Nat) : Bool := fld s (Reg.achTrimCfg n) 3 0 != 0 && fld s (Reg.achTrimCfg n) 3 0 == achMode s n

/-- R256: the secondary of channel n is on. -/
def lspOn (s : State) (n : Nat) : Bool :=
  bitOf (effRd s Reg.lspSupplyEn) n && (achMode s n == 2 || achMode s n == 4 || achMode s n == 6) && !listening s
    && role s != roleReset && !flag s Reg.lspOverload n && !flag s (Reg.stat (0x20 + n)) 0

/-- The derived words of an ACH page: STAT (R243). -/
def viewAch (s : State) (n off : Nat) : Option Nat :=
  match off with
  | 0x00C =>
    some (fld s (Reg.stat (0x20 + n)) 1 0 + b2n (fld s (Reg.achTrimCfg n) 3 0 != achMode s n) <<< 2
      + b2n (listening s) <<< 3)
  | _ => none

/-- The derived words of the LSP page (R275). -/
def viewLsp (s : State) (off : Nat) : Option Nat :=
  let mask (p : Nat → Bool) : Nat := (List.range 32).foldl (fun m n => m + b2n (p n) <<< n) 0
  match off with
  | 0x044 => some (mask (fun n => lspOn s n && !(ach s n).railFail))
  | 0x04C => some (mask (lspOn s))
  | _ => none

/-! ### Loops (R350, R374, R381, R385) -/

/-- A loop's state. -/
def loopSt (s : State) (k : Nat) : LoopSt := tabGet (fun _ => ({} : LoopSt)) s.cle.loops k

/-- Word w of loop k's record in the Sheaf. -/
def loopSheaf (s : State) (k w : Nat) : Nat := cfgNat s 0x0701 k (4 * w) 4

/-- Word w of loop k's record under the words `tab` that differ from the Sheaf. -/
def loopWord (s : State) (tab : Tab (Option Word)) (k w : Nat) : Nat :=
  match tabGet (fun _ => (none : Option Word)) tab (128 * k + w) with
  | some v => v.toNat
  | none => loopSheaf s k w

/-- A word of the shadow record. -/
def loopShd (s : State) (k w : Nat) : Nat :=
  match tabGet (fun _ => (none : Option Word)) s.cle.shd (128 * k + w) with
  | some v => v.toNat
  | none => loopWord s s.cle.eff k w

/-- The loop that LOOP_SEL names, when it is defined. -/
def loopSel (s : State) : Option Nat :=
  let k := fld s Reg.cleLoopSel 7 0
  if k < cfgCount s 0x0701 then some k else none

/-- A word of LOOP_STATE. -/
def loopStateWord (s : State) (k j : Nat) : Nat :=
  let x := loopSt s k
  [x.status, x.r, x.yf, x.e, x.i, x.d, x.fl, x.v, x.u, x.m, x.h, x.oscCount, x.gen % 2 ^ 32, rd s (Reg.cleLoopState 13), x.slot].getD j 0

/-- The derived words of the CLE page (R380). -/
def viewCle (s : State) (off : Nat) : Option Nat :=
  if 0x800 ≤ off ∧ off < 0xC40 then
    match loopSel s with
    | none => some 0
    | some k =>
      if off < 0xA00 then some (loopWord s s.cle.eff k ((off - 0x800) / 4))
      else if off < 0xC00 then some (loopShd s k ((off - 0xA00) / 4))
      else some (loopStateWord s k ((off - 0xC00) / 4))
  else if off = 0x00C then
    some (b2n s.cle.armed + b2n ((List.range 8).any (fun k => rd s (Reg.cleOscMap k) != 0)) <<< 1
      + b2n ((List.range 8).any (fun k => rd s (Reg.cleHoldMap k) != 0)) <<< 2 + b2n (flag s (Reg.stat 0x0B) 3) <<< 3)
  else none

/-- The derived words of the SLV page (R417). -/
def viewSlv (s : State) (off : Nat) : Option Nat :=
  if off = 0x00C then
    some (b2n (flag s (Reg.stat 0x0C) 5) <<< 5 + (match s.slv.running with | some j => 16 + j | none => 0))
  else none

/-- A brake. -/
def brake (s : State) (n : Nat) : Brake := tabGet (fun _ => ({} : Brake)) s.saf.brakes n

/-- KIND of an input position, and its SOURCE. -/
def siKind (s : State) (i : Nat) : Nat := fld s (Reg.safInCfg i) 3 0
def siSource (s : State) (i : Nat) : Nat := fld s (Reg.safInCfg i) 5 4

/-- R446: position 2k + 1 of a PAIR_ANTIV pair is inverted before any use. -/
def siPermits (s : State) (i : Nat) : Bool := xor (bitOf s.saf.q i) (siKind s i == 4 && i % 2 == 1)

/-- R445, R446: an input demands when it is off; an UNUSED one always. -/
def siDemands (s : State) (i : Nat) : Bool := siKind s i == 0 || !siPermits s i

/-- Is a position a member of a pair. -/
def siPair (s : State) (i : Nat) : Bool := siKind s i == 3 || siKind s i == 4

/-- A discrepancy of the pair, or a cross fault, that makes a position demand (R450). -/
def siBad (s : State) (i : Nat) : Bool := (siPair s i && bitOf s.saf.disc (i / 2)) || bitOf s.saf.cross i

/-- Fields of a group. -/
def grpOn (s : State) (g : Nat) : Bool := flag s (Reg.safGroupCfg g) 0
def grpMask (s : State) (g : Nat) : Nat := fld s (Reg.safGroupCfg g) 31 16

/-- R450: demand_g. -/
def grpDemand (s : State) (g : Nat) : Bool :=
  (List.range 16).any (fun i => bitOf (grpMask s g) i && (siDemands s i || siBad s i))

/-- R455: the positions of the guard that position i stands for: both members of a pair, at its even position. -/
def guardUnits (s : State) : List (List Nat) :=
  (List.range 16).filterMap (fun i =>
    if flag s (Reg.safInCfg i) 8 then
      (if siPair s i then (if i % 2 = 0 then some [i, i + 1] else none) else some [i])
    else none)

/-- R457: every guard in a group's mask has PASSED. -/
def guardsPassed (s : State) (g : Nat) : Bool :=
  (guardUnits s).all (fun u => u.all (fun i => !bitOf (grpMask s g) i || bitOf s.saf.passed i))

/-- Outputs and brakes follow the matrix while the unit is LIVE, and in FAULT_WAIT until its end (R444, log entry 93). -/
def safDrives (s : State) : Bool := s.saf.unit == 2 || s.saf.unit == 3

/-- R450: permit_g. -/
def grpPermit (s : State) (g : Nat) : Bool := !bitOf s.saf.latch g && safDrives s

/-- Every group of a mask permits. -/
def grpsPermit (s : State) (mask : Nat) : Bool := (List.range 8).all (fun g => !bitOf mask g || grpPermit s g)

/-- R451: a safety output is energised only when every group it names permits; OUT_FAULT holds it off (R463). -/
def soOn (s : State) (o : Nat) : Bool :=
  let m := fld s (Reg.safOutCfg o) 15 8
  m != 0 && grpsPermit s m && !bitOf s.saf.outFault o

/-- Fields of a brake. -/
def bkIo (s : State) (n hi lo : Nat) : Nat := fld s (Reg.safBkIo n) hi lo
def bkTest (s : State) (n hi lo : Nat) : Nat := fld s (Reg.safBkTest n) hi lo
def bkCoil (s : State) (n hi lo : Nat) : Nat := fld s (Reg.safBkCoil n) hi lo
def bkGroups (s : State) (n : Nat) : Nat := fld s (Reg.safOutCfg (6 + n)) 15 8
def bkReq (s : State) (n : Nat) : Bool := bitOf s.saf.q (bkIo s n 3 0)
def bkConfirm (s : State) (n : Nat) : Bool := bitOf s.saf.q (bkIo s n 7 4)
def bkFb (s : State) (n : Nat) : Bool := bitOf s.saf.q (bkIo s n 11 8)
def Brake.released (b : Brake) : Bool := b.state == 1 || b.state == 2
def Brake.testing (b : Brake) : Bool := b.state == 3 || b.state == 4

/-- Control clocks of a second. -/
def secClk : Nat := 200000000

/-- BKn_DUE: clocks until DUE. -/
def bkLeft (s : State) (n : Nat) : Nat :=
  let b := brake s n
  if b.due then 0
  else match b.since with
    | some c => b.left - (s.now - c)
    | none => b.left

/-- BKn_STATE (R478). -/
def bkWord (s : State) (n : Nat) : Nat :=
  let b := brake s n
  min 0xFFFF b.coilMa <<< 16 + b.last <<< 8 + b2n b.relFail <<< 7 + b2n b.appFail <<< 6 + b2n b.swFault <<< 5
    + b2n b.btReq <<< 4 + b2n b.due <<< 3 + (if b.state = 0 ∧ b.locked then 5 else b.state)

/-- Seconds until DUE, rounded up. -/
def bkDueSec (s : State) (n : Nat) : Nat := (bkLeft s n + secClk - 1) / secClk

/-- A module in a QPB-4882 base. -/
def pairBase (s : State) : Bool := fld s Reg.sysStation 14 13 == 2

/-- Registers of the page that show the unit's state (R478). -/
def safInWord (s : State) : Nat :=
  (List.range 16).foldl (fun m i => m + b2n (siDemands s i || siBad s i) <<< (16 + i) + b2n (bitOf s.saf.q i) <<< i) 0
def safGroupWord (s : State) : Nat :=
  (List.range 8).foldl (fun m g => m + b2n (grpOn s g && grpDemand s g) <<< (24 + g) + b2n (grpOn s g && !guardsPassed s g) <<< (16 + g)
    + b2n (grpPermit s g) <<< (8 + g) + b2n (bitOf s.saf.latch g) <<< g) 0
def safOutWord (s : State) : Nat :=
  s.saf.wired <<< 16 + (List.range 6).foldl (fun m o => m + b2n (soOn s o || bitOf s.saf.term o) <<< (8 + o) + b2n (soOn s o) <<< o) 0
    + (List.range 2).foldl (fun m n => m + b2n ((brake s n).coilMa != 0) <<< (14 + n) + b2n (brake s n).released <<< (6 + n)) 0
def safFaultWord (s : State) : Nat := (s.saf.outFault % 64) <<< 24 + s.saf.cross <<< 8 + s.saf.disc

/-- R480: word 7. -/
def safWord7 (s : State) : Nat :=
  (List.range 2).foldl (fun m n => m + b2n (brake s n).btReq <<< n + b2n (brake s n).due <<< (2 + n)
    + b2n (brake s n).locked <<< (4 + n)) (s.saf.unit <<< 8)

/-- The derived words of the SAF page (R478). -/
def viewSaf (s : State) (off : Nat) : Option Nat :=
  let x := s.saf
  match off with
  | 0x00C =>
    some (b2n ((List.range 2).any (fun n => (brake s n).locked)) <<< 3 + b2n ((List.range 2).any (fun n => (brake s n).due)) <<< 2
      + b2n ((List.range 8).any (fun g => grpOn s g && bitOf x.latch g)) <<< 1 + b2n (x.unit == 2))
  | 0x040 => some (safInWord s)
  | 0x044 => some (safGroupWord s)
  | 0x048 => some (safOutWord s)
  | 0x04C => some (x.opened <<< 16 + x.passed)
  | 0x050 => some (safFaultWord s)
  | 0x054 => some x.stuck
  | 0x05C =>
    some (b2n (s.red.own == .present) <<< 7 + b2n (s.red.partner == .present) <<< 6
      + (if pairBase s then (if x.current then 1 else 2) else 0) <<< 4 + b2n x.chFault <<< 3 + x.unit)
  | 0x060 => some (bkWord s 0)
  | 0x064 => some (bkWord s 1)
  | 0x068 => some (bkDueSec s 0)
  | 0x06C => some (bkDueSec s 1)
  | 0x070 => some (brake s 0).move
  | 0x074 => some (brake s 1).move
  | 0x078 => some x.seq
  | 0x07C => some (leNat (x.dig.take 4))
  | 0x080 => some (leNat ((x.dig.drop 4).take 4))
  | _ => none

/-- A message-bus controller. -/
def mbc (s : State) (n : Nat) : MbcSt := tabGet (fun _ => ({} : MbcSt)) s.mbc n

/-- MBCn.STATE (R516). -/
def mbcState (s : State) (n : Nat) : Nat :=
  let x := mbc s n
  x.err <<< 30 + x.mode <<< 28 + b2n x.forced <<< 27 + b2n x.alone <<< 26 + b2n x.recovering <<< 25 + b2n x.warning <<< 24
    + min 255 x.rxc <<< 8 + min 255 x.tec

/-- The derived words of an MBC page. -/
def viewMbc (s : State) (n off : Nat) : Option Nat :=
  match off with
  | 0x040 => some (mbcState s n)
  | 0x04C =>
    let q := (mbc s n).queue
    some ((q.filter (fun i => cfgNat s 0x0901 i.desc 6 1 % 4 != n)).length <<< 16 + q.length)
  | _ => none

/-- A marine serial line. -/
def msl (s : State) (n : Nat) : MslSt := tabGet (fun _ => ({} : MslSt)) s.msl n

/-- R522: 1 in base slot B of a QPB-4882 base. -/
def slotAdd (s : State) : Nat := if fld s Reg.sysStation 14 13 = 2 ∧ flag s Reg.sysStation 15 then 1 else 0

/-- The derived words of the NET page (R522). -/
def viewNet (s : State) (off : Nat) : Option Nat :=
  match off with
  | 0x078 => some ((effRd s Reg.netIpAddr + slotAdd s) % 2 ^ 32)
  | 0x07C => some ((effRd s Reg.netSpAddr + slotAdd s) % 2 ^ 32)
  | _ => none

/-- The derived words of a page below its common header. -/
def viewPage (s : State) (p off : Nat) : Option Nat :=
  match blockOf p with
  | some .sys => viewSys s off
  | some .tbu => viewTbu s off
  | some .seq => viewSeq s off
  | some .img => viewImg s off
  | some .ses => viewSes s off
  | some .grn => viewGrn s off
  | some .pmc => viewPmc s off
  | some .red => viewRed s off
  | some .rst => viewRst s off
  | some .fpd => viewFpd s off
  | some .mgt => viewMgt s off
  | some .dio => viewDio s off
  | some .piu => viewPiu s off
  | some .slv => viewSlv s off
  | some .net => viewNet s off
  | some .mbc => viewMbc s (p - 0x0E) off
  | some .saf => viewSaf s off
  | some .cle => viewCle s off
  | some .ach => viewAch s (p - 0x20) off
  | some .lsp => viewLsp s off
  | some .gmu => viewGmu s off
  | _ => none

/-- The live value of a 64-bit LO/HI pair, by the address of LO. -/
def pairLive (s : State) (a : Nat) : Option Nat :=
  if a = Reg.sysGenLo then some s.tbu.gen
  else if a = Reg.tbuShipLo then some (shipNow s)
  else if a = Reg.cleLoopState 12 then some (match loopSel s with | some k => (loopSt s k).gen | none => 0)
  else if a = Reg.grnHeadSeqLo then some s.grn.headSeq
  else if a = Reg.grnOldestSeqLo then some s.grn.oldestSeq
  else if a = Reg.pwrKeepCyclesLo then some s.pwr.keep.cycles
  else if a = Reg.imgGenReadLo ∨ a = Reg.gmuResGenLo ∨ a = Reg.synLastIssueLo ∨ a = Reg.cleCommitGenLo
      ∨ a = Reg.redCopyGenLo ∨ a = Reg.redSwitchGenLo ∨ a = Reg.pwrKeepShutLo ∨ a = Reg.pmcSnapGenLo
      ∨ a = Reg.updActGenLo then some (wideGet s a)
  else none

/-- R166, R173: the outstanding producer entries. -/
def producers (s : State) : List OutEntry := s.seq.outst.filter (fun o => o.words != [])

/-- R668: the occupancy that a threshold counter watches (sources 0x0A, 0x0B and 0x11: log entry 20). -/
def occupancy (s : State) (src : Nat) : Nat :=
  match src with
  | 0x01 => (mbc s 0).queue.length
  | 0x02 => (mbc s 1).queue.length
  | 0x03 => (mbc s 2).queue.length
  | 0x04 => (mbc s 3).queue.length
  | 0x05 => tabGet (fun _ => (0 : Nat)) s.pmc.jnlFill 0
  | 0x06 => tabGet (fun _ => (0 : Nat)) s.pmc.jnlFill 1
  | 0x07 => tabGet (fun _ => (0 : Nat)) s.pmc.jnlFill 2
  | 0x08 => tabGet (fun _ => (0 : Nat)) s.pmc.jnlFill 3
  | 0x09 => s.img.dirty.length
  | 0x0A => if s.slv.running.isSome then Config.iterationsNow s.now % 256 else 0
  | 0x0B => Config.gateWaiting s.now % 65
  | 0x0C => s.seq.slotEntries
  | 0x0D => (producers s).length
  | 0x0E => s.grn.queue.length
  | 0x0F => s.grn.staging.length
  | 0x10 => s.tbu.queue.length
  | 0x11 => Config.framesWaiting s.now % 1025
  | _ => 0

/-- R80: a SEALED register whose check failed at this start; it reads 0. -/
def sealedLost (s : State) (a : Nat) : Bool :=
  s.pwr.sealedBad.contains a && (match findRow ((a - 0x100000) / 0x1000) ((a - 0x100000) % 0x1000) with
    | some r => r.kept == .sealed
    | none => false)

/-- What a register of the page range holds when it is sampled (R52): a 64-bit pair, a derived word, or the stored word;
PEND_ANY joins STAT in bit 31 (R65). -/
def peek (s : State) (a : Nat) : Nat :=
  let p := (a - 0x100000) / 0x1000
  let off := (a - 0x100000) % 0x1000
  if sealedLost s a then 0
  else if off = 0x018 then evtPend s p
  else
    let v := match pairLive s a with
      | some x => x % 2 ^ 32
      | none => (viewPage s p off).getD (rd s a)
    if off = 0x00C then putBit v 31 (pendAny s p) else v

end Sys2Proof.Machine
end

