-- ==== Sys2Proof/Machine/Events.lean ====
section
/-! DEFINITION. The event model (R72-R75) and the firing of Granary triggers (R652-R658): raising an event sets its EVT_RAW
bit, fires the page-event triggers on its rising edge, and leaves a notification for the present control clock. -/

namespace Sys2Proof.Machine

/-- R652: the snapshot list of trigger k. -/
def trigSnaps (s : State) (k : Nat) : List SnapRef :=
  (List.range (cfgNat s 0x0D01 k 0x0E 1)).map (fun j =>
    let e := cfgNat s 0x0D01 k (0x10 + 3 * j) 3
    if bitOf e 23 then .img (bitsOf e 17 0) else .reg (0x100000 + 4 * bitsOf e 15 0))

/-- A record as its trigger fires: stamped at once (R655), nothing captured yet. -/
def newRec (s : State) (trig source ctx order : Nat) (caps : List (Word × Nat)) (todo : List SnapRef) : GRec :=
  { seq := 0, ship := shipNow s, gen := s.tbu.gen, slot := s.tbu.slot, trig := trig, rep := 0, lastShip := shipNow s,
    flags := 0, source := source, ctx := ctx, snaps := caps, occClk := s.now, fireClk := s.now, order := order,
    readGen := wideGet s Reg.imgGenReadLo, todo := todo }

/-- R657: one more occurrence of a record. -/
def coalesce (s : State) (r : GRec) : GRec :=
  { r with
    rep := satAdd 0xFFFFFFFF r.rep 1
    flags := if 0xFFFFFFFE ≤ r.rep then putBit r.flags 2 true else r.flags
    lastShip := shipNow s
    occClk := s.now }

/-- R657: does an occurrence of trigger `trig` with its window in 0.1 s coalesce into record r. -/
def coalesces (s : State) (trig win : Nat) (r : GRec) : Bool :=
  r.trig == trig && win != 0 && s.now - r.occClk ≤ win * 20000000

/-- R656: place a record in the capture queue, behind every record of an earlier clock and of a lower order at this clock. -/
def insertRec (r : GRec) : List GRec → List GRec
  | [] => [r]
  | e :: t => if e.fireClk = r.fireClk ∧ r.order < e.order then r :: e :: t else e :: insertRec r t

/-- Replace the last element of a list. -/
def setLast {α : Type} (f : α → α) : List α → List α
  | [] => []
  | [x] => [f x]
  | x :: t => x :: setLast f t

/-- R657, R660: the newest record: the last of the capture queue, else of the staging queue during a freeze, else the newest
committed record. -/
def newestRec (s : State) : Option GRec :=
  match s.grn.queue.getLast? with
  | some q => some q
  | none => if s.grn.freeze.isSome then s.grn.staging.getLast? else grnRing s (s.grn.headSeq % 65536)

/-- Change the newest record. -/
def amendNewest (f : GRec → GRec) (s : State) : State :=
  let g := s.grn
  if g.queue ≠ [] then { s with grn := { g with queue := setLast f g.queue } }
  else if g.freeze.isSome then { s with grn := { g with staging := setLast f g.staging } }
  else
    let k := g.headSeq % 65536
    { s with grn := { g with ring := tabSet (fun _ => none) g.ring k ((tabGet (fun _ => none) g.ring k).map f) } }

/-- R657, R658: take a fired record into the capture queue; coalesce it where `win` gives a window; drop it where the queue
is full. -/
def fireCore (r : GRec) (win : Option Nat) (s : State) : State :=
  if s.grn.closed then s
  else
    let s1 := pmcInc 176 s
    let hit := match newestRec s with
      | some q => coalesces s r.trig (win.getD 0) q
      | none => false
    if hit then
      let s2 := pmcInc 178 (amendNewest (coalesce s) s1)
      { s2 with grn := { s2.grn with coalesced := satAdd 0xFFFFFFFF s2.grn.coalesced 1 } }
    else if s.grn.queue.length < 64 then
      { s1 with grn := { s1.grn with queue := insertRec r s1.grn.queue, dropping := false } }
    else
      let s2 := pmcInc 179 s1
      { s2 with grn := { s2.grn with
          dropped := satAdd 0xFFFFFFFF s2.grn.dropped 1, dropping := true, droppedBefore := true } }

/-- The page-event triggers that name event b of page p and are enabled (R652, R653). -/
def pageTrigs (s : State) (p b : Nat) : List Nat :=
  (List.range (cfgCount s 0x0D01)).filter (fun k =>
    cfgNat s 0x0D01 k 0 1 == 1 && cfgNat s 0x0D01 k 1 1 == p && cfgNat s 0x0D01 k 2 1 == b
      && flag s (Reg.grnTrigCfg k) 31)

/-- R72, R75: set the EVT_RAW bit of an event, and keep the clock of the occurrence and whether the bit rose at it. -/
def setRaw (p b : Nat) (s : State) : State :=
  let rose := !flag s (Reg.evtRaw p) b
  let was := tabGet (fun _ => (0 : Nat)) s.evtClk (16 * p + b)
  let v := 2 * s.now + 2 + b2n (rose || was == 2 * s.now + 3)
  setFlag (Reg.evtRaw p) b true { s with evtClk := tabSet (fun _ => (0 : Nat)) s.evtClk (16 * p + b) v }

/-- R73, R570: an event bit rose in EVT_PEND: keep it for the notification of this clock. -/
def notePend (p bits : Nat) (s : State) : State :=
  { s with ses := { s.ses with
      noteBuf := tabSet (fun _ => (0 : Nat)) s.ses.noteBuf p (tabGet (fun _ => (0 : Nat)) s.ses.noteBuf p ||| bits) } }

/-- An event of severity fault stands in FPD.LAST_FAULT. -/
def noteFault (p b : Nat) (s : State) : State :=
  if severity s p b = 3 then { s with fpd := { s.fpd with lastFault := p <<< 8 + b } } else s

/-- R73, R74: an event bit has risen in EVT_RAW: its triggers fire, and it is left for the notification of this clock. -/
def evtRises (p b : Nat) (s : State) : State :=
  let raw := rd s (Reg.evtRaw p)
  let s1 := each (pageTrigs s p b) (fun k t =>
    fireCore (newRec t k (p <<< 8 + b) raw ((p * 16 + b) * 256 + k) [] (trigSnaps t k))
      (some (fld t (Reg.grnTrigCfg k) 15 0)) t) s
  if bitOf (rd s1 (Reg.evtEn p)) b then notePend p (2 ^ b) s1 else s1

/-- R73: EVT_EN takes a value; a raw bit that it enables rises in EVT_PEND. -/
def evtEnable (p v : Nat) (s : State) : State :=
  let s1 := wr (Reg.evtEn p) v s
  let rose := evtPend s1 p &&& (evtPend s p ^^^ 0xFFFF)
  if rose = 0 then s1 else notePend p rose s1

/-- Give a register a value; a value of EVT_EN acts as R73 says. -/
def wrOrEnable (a v : Nat) (s : State) : State :=
  if a % 0x1000 = 0x014 then evtEnable ((a - 0x100000) / 0x1000) v s else wr a v s

/-- R72-R74: raise an event, without the DROPPED event that its triggers may cause. -/
def raiseCore (p b : Nat) (s : State) : State :=
  let rising := !flag s (Reg.evtRaw p) b
  let s1 := noteFault p b (setRaw p b s)
  if rising then evtRises p b s1 else s1

/-- R658: raise DROPPED when a change entered the condition. -/
def dropCheck (s : State) (t : State) : State :=
  if t.grn.dropping && !s.grn.dropping then raiseCore 0x16 3 t else t

/-- R72: an event occurs. -/
def raise_ (p b : Nat) (s : State) : State := dropCheck s (raiseCore p b s)

/-- R654: a fixed record: its TRIGGER code, SOURCE, CONTEXT, the snapshot words given, and those captured from registers. -/
def fixedRec (trig source ctx : Nat) (caps : List (Word × Nat)) (todo : List SnapRef) (s : State) : State :=
  dropCheck s (fireCore (newRec s trig source ctx (262400 + trig) caps todo) none s)

/-- Give a register word for a snapshot: a value with tag 0. -/
def snapWord (v : Nat) : Word × Nat := (BitVec.ofNat 32 v, 0)

/-- SYS.ROLE.ROLE takes a role; a change raises ROLE_CHANGE (R79). -/
def setRole (r : Nat) (s : State) : State :=
  if role s = r then s else raise_ 0x00 1 (setFld Reg.sysRole 2 0 r s)

/-- SYS.ROLE.STALE takes a value; a change raises ROLE_CHANGE (R79), and setting it raises STALE (R593). -/
def setStale (b : Bool) (s : State) : State :=
  if flag s Reg.sysRole 8 = b then s
  else
    let s1 := raise_ 0x00 1 (setFlag Reg.sysRole 8 b s)
    if b then raise_ 0x15 4 s1 else s1

/-! ### What entering the listening state does to a universal channel (R255, R270) -/

/-- Store a channel. -/
def putAch (n : Nat) (x : AchCh) (s : State) : State := { s with ach := tabSet (fun _ => ({} : AchCh)) s.ach n x }

/-- HART_STAT.STATE. -/
def hartState (s : State) (n : Nat) : Nat := fld s (Reg.achHartStat n) 2 0

/-- R266, R267, R270: a transaction ends with a result. -/
def hartEnd (n result : Nat) (s : State) : State :=
  s |> setFld (Reg.achHartStat n) 2 0 0 |> setFld (Reg.achHartStat n) 11 8 result |> pmcInc (72 + n)
    |> raise_ (0x20 + n) 13

/-- R264, R270: the characters of 11 bits at 1,200 bit/s that a frame being sent has begun by now. -/
def hartBegun (s : State) (n : Nat) : Nat := (s.now - (ach s n).hartClk) * 1200 / (11 * 200000000) + 1

/-- R270: a transaction that runs is aborted; a frame being sent stops at the next character boundary. -/
def hartAbort (n : Nat) (s : State) : State :=
  if hartState s n = 0 then s
  else
    let s1 := if hartState s n = 2 then
        s |> emit (.hart n ((ach s n).hartOut.take (hartBegun s n))) |> putAch n { ach s n with hartOut := [] }
      else s
    hartEnd n 5 (setFlag (Reg.achHartStat n) 3 false s1)

/-- R255: the mismatch rule is suspended: the run of mismatches is cleared. -/
def clearRunOf (n : Nat) (s : State) : State := setFld (Reg.achRbStat n) 8 7 0 s

/-- R255, R270: a channel enters the listening state. -/
def achListen (n : Nat) (s : State) : State := clearRunOf n (hartAbort n s)

/-- R282, R292: on a module that listens no channel is monitored, and no line condition is held. -/
def noLines (s : State) : State :=
  { s with dio := { s.dio with conds := 0, testFail := [], testPass := [], testClk := [] } }

end Sys2Proof.Machine
end

