-- ==== Sys2Proof/Machine/Mgt.lean ====
section
/-! DEFINITION. The management subsystem (R673-R681): the programs, when they run, stop and restart, their datagrams, and the
sensors. -/

namespace Sys2Proof.Machine

/-! ### Programs (R674-R678) -/

/-- The bank number of bank b of program slot p. -/
def progBank (p b : Nat) : Nat := 3 + 2 * p + b

/-- UPD.BANKS: the state of a bank of a target (0 Sheaf, 1-4 program slots), and its change. -/
def bankState (s : State) (target b : Nat) : Nat :=
  let o := if target = 0 then 2 * b else 8 + 4 * (target - 1) + 2 * b
  fld s Reg.updBanks (o + 1) o
def setBankState (target b v : Nat) (s : State) : State :=
  let o := if target = 0 then 2 * b else 8 + 4 * (target - 1) + 2 * b
  setFld Reg.updBanks (o + 1) o v s

/-- UPD.NEXT: the bank of a target that the next start uses. -/
def nextBank (s : State) (target : Nat) : Nat := b2n (flag s Reg.updNext (if target = 0 then 0 else 3 + target))
def setNextBank (target b : Nat) (s : State) : State := setFlag Reg.updNext (if target = 0 then 0 else 3 + target) (b == 1) s

/-- PROGs_STATE.STATE: 0 EMPTY, 1 STOPPED, 2 RUNNING, 3 WAITING, 4 FAILED. -/
def progState (s : State) (p : Nat) : Nat := fld s (Reg.mgtProgState p) 3 0

/-- The bank of the image in use. -/
def progUse (s : State) (p : Nat) : Nat := b2n (flag s (Reg.mgtProgState p) 16)

/-- A field of the header of the image in use. -/
def progField (s : State) (p off n : Nat) : Nat := bankNat s (progBank p (progUse s p)) off n

/-- A program slot's record, and its change. -/
def prog (s : State) (p : Nat) : ProgSt := tabGet (fun _ => ({} : ProgSt)) s.mgt.progs p
def putProg (p : Nat) (x : ProgSt) (s : State) : State :=
  { s with mgt := { s.mgt with progs := tabSet (fun _ => ({} : ProgSt)) s.mgt.progs p x } }

/-- R675: the role condition of program p. -/
def progMayRun (s : State) (p : Nat) : Bool :=
  driving s || (flag s (Reg.mgtProgState p) 20 && (role s == roleStandby || role s == roleSyncing || role s == roleHold))

/-- R676: the RAM of all running programs, and CPU. -/
def ramInUse (s : State) : Nat :=
  (List.range 4).foldl (fun m p => if progState s p = 2 then m + progField s p 0x0C 4 else m) 0
def showRam (s : State) : State := wr Reg.mgtCpu (ramInUse s) s

/-- A program stops in state `st`. -/
def progEnd (p st : Nat) (s : State) : State :=
  s |> setFld (Reg.mgtProgState p) 3 0 st |> putProg p { prog s p with restartAt := none } |> showRam

/-- R675, R676: start program p from its stored image, wait for its role, or stay stopped for want of RAM. -/
def progStart (p : Nat) (s : State) : State :=
  if progState s p = 0 ∨ progState s p = 2 then s
  else if !progMayRun s p then progEnd p 3 s
  else if 57344 < ramInUse s + progField s p 0x0C 4 then s |> progEnd p 1 |> setFld (Reg.mgtProgState p) 7 4 3
  else
    let x := prog s p
    s |> putProg p { x with fresh := if x.newImage && x.fresh.isNone then some s.now else x.fresh } |> progEnd p 2
      |> wr (Reg.mgtProgVer p) (progField s p 0x18 4)

/-- Stop program p by a host (R682). -/
def progStop (p : Nat) (s : State) : State :=
  if progState s p = 2 ∨ progState s p = 3 then s |> progEnd p 1 |> setFld (Reg.mgtProgState p) 7 4 5
  else if (prog s p).restartAt.isSome then s |> progEnd p 1 |> setFld (Reg.mgtProgState p) 7 4 5
  else s

/-- Take bank b of program slot p into use, or find it empty. -/
def progLoad (p b : Nat) (s : State) : State :=
  if bankState s (p + 1) b = 0 then s |> wr (Reg.mgtProgState p) 0 |> setFlag (Reg.mgtProgState p) 16 (b == 1)
  else
    let s1 := setFlag (Reg.mgtProgState p) 16 (b == 1) (setFld (Reg.mgtProgState p) 3 0 1 s)
    setFlag (Reg.mgtProgState p) 20 (bitOf (progField s1 p 0x07 1) 0) s1

/-- R685, R691: at a start, program p takes the bank that NEXT names; a bank that was never in use is newly named. -/
def progTake (p : Nat) (s : State) : State :=
  let b := nextBank s (p + 1)
  let new := bankState s (p + 1) b == 1
  let s1 := progLoad p b (putProg p { prog s p with newImage := new, fresh := none } s)
  if new then setBankState (p + 1) b 2 s1 else s1

/-- R675: the programs follow the role. -/
def progRole (s : State) : State :=
  each (List.range 4) (fun p t =>
    if progState t p = 2 ∧ progMayRun t p = false then progEnd p 3 t
    else if progState t p = 3 ∧ progMayRun t p then progStart p t
    else t) s

/-- SYS.ROLE takes a role: the programs follow it (R675), channels that now listen end what they were at (R255, R270), and RED.IDLE
returns to 0 when the module drives (R603). -/
def takeRole (r : Nat) (s : State) : State :=
  let s0 := missingClear (progRole (setRole r s))
  let s1 := if listening s0 && !listening s then noLines (each (List.range 32) achListen s0) else s0
  if driving s1 then wr Reg.redIdle 0 s1 else s1

/-- R677: stops of a program within the last 600 s. -/
def progStops (s : State) (p : Nat) : List Nat := (prog s p).stops.filter (fun c => s.now - c ≤ 120000000000)

/-- R677: a running program is stopped with a cause: it restarts after 100 ms, and fails at the third stop. -/
def progFault (p cause cnt : Nat) (s : State) : State :=
  if progState s p = 2 then
    let stops := s.now :: progStops s p
    let s1 := s |> progEnd p 1 |> setFld (Reg.mgtProgState p) 7 4 cause |> bump cnt 1
    let s2 := putProg p { prog s1 p with stops := stops, restartAt := if stops.length < 3 then some (s.now + 20000000) else none } s1
    let s3 := raise_ 0x18 0 s2
    if stops.length < 3 then s3 else s3 |> setFld (Reg.mgtProgState p) 3 0 4 |> raise_ 0x18 1
  else s

/-- R677: PROG_WATCHDOG. -/
def execProgWatchdog (p : Fin 4) (s : State) : Host.Outcome State Fault Refusal :=
  .next (if progState s p = 2 then pmcInc 219 (progFault p 1 (Reg.mgtCntWdog p) s) else s)

/-- R676, R677: PROG_MEMORY_FAULT. -/
def execProgMemoryFault (p : Fin 4) (s : State) : Host.Outcome State Fault Refusal :=
  .next (progFault p 2 (Reg.mgtCntMemfault p) s)

/-- R678: a datagram of program p on local port `port`, sent to or received from `ip` and its port `far`; `tooMany`: the traffic is
above 10 Mbit/s. -/
def execProgDatagram (p : Fin 4) (tx : Bool) (ip port far : Nat) (bytes : List Nat) (tooMany : Bool) (s : State) :
    Host.Outcome State Fault Refusal :=
  .next (if progState s p = 2 ∧ 6000 ≤ port ∧ port ≤ 6063 ∧ bytes.length ≤ 1472 then
    if tooMany then pmcInc 131 (putProg p { prog s p with dropped := (prog s p).dropped + 1 } s)
    else if tx then emit (.udp 3 ip far bytes) s
    else emit (.prog p ip far bytes) s
  else s)

/-! ### The update path (R684-R686) -/

/-- Fields of UPD.STATE. -/
def updPhase (s : State) : Nat := fld s Reg.updState 3 0
def updTarget (s : State) : Nat := fld s Reg.updState 11 8
def updBank (s : State) : Nat := b2n (flag s Reg.updState 12)
def updOwner (s : State) : Nat := fld s Reg.updState 20 16

/-- The physical bank of a target's bank. -/
def targetBank (target b : Nat) : Nat := if target = 0 then b else progBank (target - 1) b

/-- Erase a physical bank. -/
def eraseBank (k : Nat) (s : State) : State := { s with sheaf := tabKeep (fun i => i / 2097152 != k) s.sheaf }

/-- The staging ends: the path is IDLE and the buffer is discarded. -/
def updIdle (s : State) : State := { wr Reg.updState 0 (eraseBank 2 s) with upd := { s.upd with oldNext := none, wrote := false } }

/-- R686: ABORT: a bank written by this staging becomes EMPTY and NEXT is restored. -/
def updAbort (s : State) : State :=
  let s1 := if s.upd.wrote then setBankState (updTarget s) (updBank s) 0 s else s
  let s2 := match s.upd.oldNext with
    | some v => wr Reg.updNext v s1
    | none => s1
  s2 |> updIdle |> bump Reg.updCntAborts 1 |> raise_ 0x19 6

/-- R686: the session of slot k closes: its staging is aborted from LOADING to CHECKED. -/
def updOwnerGone (k : Nat) (s : State) : State :=
  if updOwner s = k ∧ 1 ≤ updPhase s ∧ updPhase s ≤ 3 then updAbort s else s

/-! ### Sensors (R680, R681) -/

/-- The sensors of a condition: 0 board temperatures, 1 humidity, 2 vibration. -/
def sensorGroup (i : Nat) : Nat := if i < 6 then 0 else if i = 6 then 1 else 2

/-- The values of a condition, and its limit. -/
def sensorVals (s : State) (g : Nat) : List Int :=
  match g with
  | 0 => (List.range 6).map (fun i => signedOf 16 (fld s (Reg.mgtTemp i) 15 0))
  | 1 => [(fld s Reg.mgtHumidity 9 0 : Int)]
  | _ => (List.range 3).map (fun i => (fld s (Reg.mgtVib i) 15 0 : Int))
def sensorLimit (s : State) (g : Nat) : Int :=
  match g with
  | 0 => signedOf 16 (fld s Reg.mgtTempLimit 15 0)
  | 1 => (fld s Reg.mgtHumLimit 9 0 : Int)
  | _ => (fld s Reg.mgtVibLimit 15 0 : Int)

/-- R681: enter a condition, with its event, or leave it after 10 s below the limit by 5 % of it. -/
def sensorCheck (g : Nat) (s : State) : State :=
  let lim := sensorLimit s g
  let m := s.mgt
  if (sensorVals s g).any (fun v => decide (lim < v)) then
    let s1 := { s with mgt := { m with cond := putBit m.cond g true, okSince := tabSet (fun _ => none) m.okSince g none } }
    if bitOf m.cond g then s1 else raise_ 0x18 (2 + g) s1
  else if (sensorVals s g).all (fun v => decide (20 * v ≤ 20 * lim - lim.natAbs)) then
    match tabGet (fun _ => (none : Option Nat)) m.okSince g with
    | none => { s with mgt := { m with okSince := tabSet (fun _ => none) m.okSince g (some s.now) } }
    | some c => if 2000000000 ≤ s.now - c then { s with mgt := { m with cond := putBit m.cond g false } } else s
  else { s with mgt := { m with okSince := tabSet (fun _ => none) m.okSince g none } }

/-- Store a reading: sensors 0-5 board temperature in 0.1 °C, 6 humidity in 0.1 % RH, 7-9 vibration RMS and peak in mg, 10 ESR in
mΩ (R682); a reading shows a sensor that passes its check. -/
def sensorStore (i : Nat) (v : Int) (peak : Nat) (s : State) : State :=
  if i < 6 then s |> wr (Reg.mgtTemp i) (toSigned 16 v) |> setFlag Reg.mgtSensorFault i false
  else if i = 6 then s |> wr Reg.mgtHumidity (v.toNat % 1024) |> setFlag Reg.mgtSensorFault 6 false
  else if i < 10 then s |> wr (Reg.mgtVib (i - 7)) ((peak % 65536) <<< 16 + v.toNat % 65536) |> setFlag Reg.mgtSensorFault 7 false
  else s |> wr Reg.mgtHoldupEsr (v.toNat % 65536) |> setFlag Reg.mgtSensorFault 8 false

/-- R681: SENSOR_LIMIT: a reading of sensor i is judged against its limit. -/
def execSensorLimit (i : Fin 11) (v : Int) (peak : Nat) (s : State) : Host.Outcome State Fault Refusal :=
  let s1 := sensorStore i v peak s
  .next (if i.val < 10 then sensorCheck (sensorGroup i) s1
    else if fld s1 Reg.mgtEsrLimit 15 0 < fld s1 Reg.mgtHoldupEsr 15 0 then raise_ 0x18 5 s1 else s1)

/-- R681: SENSOR_FAULT: the sensor of bit i fails its own check and reads 0. -/
def execSensorFault (i : Fin 9) (s : State) : Host.Outcome State Fault Refusal :=
  let n := i.val
  let s1 := if n < 6 then wr (Reg.mgtTemp n) 0 s
    else if n = 6 then wr Reg.mgtHumidity 0 s
    else if n = 7 then each (List.range 3) (fun k => wr (Reg.mgtVib k) 0) s
    else wr Reg.mgtHoldupEsr 0 s
  .next (raise_ 0x18 6 (setFlag Reg.mgtSensorFault n true s1))

end Sys2Proof.Machine
end

