-- ==== Sys2Proof/Machine/Pair.lean ====
section
/-! DEFINITION. The shared operations of the redundant pair (R579-R610): the heartbeat, the release of the token, the request
of a planned swap and of a hand-back, lane faults and the vote. -/

namespace Sys2Proof.Machine

/-- Store a controller's state. -/
def putMbc (n : Nat) (x : MbcSt) (s : State) : State :=
  { s with mbc := tabSet (fun _ => ({} : MbcSt)) s.mbc n x }

/-- Change a controller's state. -/
def mbcUpd (n : Nat) (f : MbcSt → MbcSt) (s : State) : State := putMbc n (f (mbc s n)) s

/-- R490: listen-only, forced. -/
def mbcForce (n : Nat) (s : State) : State := mbcUpd n (fun x => { x with mode := 1, forced := true }) s

/-- R514: a former active module completes its attempts, listens, and empties its queues. -/
def mbcLeave (s : State) : State :=
  each (List.range 4) (fun n t =>
    if (mbc t n).att.isSome then mbcUpd n (fun x => { x with queue := [], forced := true, modeDue := true }) t
    else mbcUpd n (fun x => { x with queue := [] }) (mbcForce n t)) s

/-- R612: the cause code of a planned swap. -/
def swapCode : SwapWhy → Nat
  | .swap => 0x1 | .handback => 0x2 | .safety => 0x5 | .wedged => 0x6 | .hold => 0x7 | .reset => 0x8
  | .button => 0x8

/-- R602: what a planned swap needs of the partner: an available standby; a hand-back and a safety request also proceed when
the partner is LATENT. -/
def swapPartnerOk (s : State) (w : SwapWhy) : Bool :=
  availableStandby s ||
    ((w == .handback || w == .safety) && fld s Reg.redPartner 2 0 == roleStandby && flag s Reg.redPartner 8
      && !flag s Reg.redPartner 4 && !flag s Reg.redPartner 6)

/-- R602: request a planned swap of an ACTIVE module; the boundary and the release follow. A request while one runs changes
nothing. -/
def requestSwap (w : SwapWhy) (s : State) : State :=
  if s.red.swap.isNone ∧ role s = roleActive ∧ swapPartnerOk s w then
    { s with red := { s.red with swap := some ⟨w, 0⟩ } }
  else s

/-- R604: a fault on an output within 16 minor cycles after a planned takeover hands the role back. -/
def handback (source ch : Nat) (s : State) : State :=
  match s.red.planned with
  | some g =>
    if s.tbu.gen < g + 16 ∧ s.red.byHandback = false ∧ flag s Reg.redCfg 16 ∧ fld s Reg.redPartner 2 0 = roleStandby
        ∧ flag s Reg.redPartner 4 = false ∧ s.red.swap.isNone ∧ role s = roleActive
        ∧ swapPartnerOk s .handback then
      s |> wr Reg.redLatent (2 ^ 31 + source <<< 24 + ch) |> setFlag Reg.redState 12 true |> bump Reg.redCntHandback 1
        |> requestSwap .handback |> raise_ 0x15 9
    else s
  | none => s

/-- R586: the FLAGS word of the heartbeat. -/
def heartbeatFlags (s : State) (released : Bool) : Nat :=
  b2n (flag s Reg.sysRole 8) + b2n (flag s Reg.redState 3) <<< 1 + b2n (s.red.own == .present) <<< 2 + b2n released <<< 3
    + b2n (flag s Reg.redState 12) <<< 4 + b2n (s.saf.unit == 4) <<< 5
    + b2n (flag s Reg.redState 13) <<< 6
    + (List.range 3).foldl (fun m l => m + b2n (laneState s l == 1) <<< (8 + l)) 0

/-- R586: the 48-byte heartbeat body. -/
def heartbeatBody (s : State) (released : Bool) : List Nat :=
  let b := leBytes 4 0x54424851 ++ [1, role s] ++ leBytes 2 (fld s Reg.sysStation 10 0) ++ leBytes 8 s.tbu.gen ++
    leBytes 4 (rd s Reg.sysSerialLo) ++ leBytes 4 (rd s Reg.sysSerialHi) ++ leBytes 4 (heartbeatFlags s released) ++
    leBytes 2 (fld s Reg.redIdle 15 0) ++ [if released then fld s Reg.redSwitchCause 3 0 else 0, 0] ++
    leBytes 4 (rd s (Reg.sysSheafDig 0)) ++ leBytes 4 (rd s (Reg.sysSheafDig 1)) ++ leBytes 4 0
  b ++ leBytes 4 (crc32c b)

/-- R521: the multicast group of an address. -/
def groupOf (addr : Nat) : Nat := 239 <<< 24 + 192 <<< 16 + (addr / 256) <<< 8 + addr % 256

/-- R591: send one Sluice frame on a lane that is up; frames alternate over the lanes (R590). -/
def sendFrame (ty flags gen : Nat) (recs : List (List Nat)) (s : State) : State :=
  let up := fld s Reg.redState 17 16
  let lane := if up = 3 then s.red.frameSeq % 2 else up / 2
  let s1 := { s with red := { s.red with frameSeq := (s.red.frameSeq + 1) % 2 ^ 32 } }
  if up = 0 then s1 else s1 |> emit (.sluice ty flags s.red.frameSeq gen recs) |> pmcInc (160 + lane)

/-- R586: send a heartbeat on the Sluice and on the plant network; only in a QPB-4882 base and in every role but RESET. -/
def sendHeartbeat (released : Bool) (s : State) : State :=
  if fld s Reg.sysStation 14 13 = 2 ∧ role s ≠ roleReset then
    let b := heartbeatBody s released
    s |> sendFrame 0x01 0 s.tbu.gen [b] |> pmcInc 170
      |> emit (.udp 3 (groupOf (fld s Reg.sysStation 10 0)) 5832 b) |> pmcInc 139
  else s

/-- Record the last switch-over on which the module gave up the role. -/
def switchGave (cause : Nat) (s : State) : State := wr Reg.redSwitchCause (2 ^ 31 + 2 ^ 30 + cause) s

/-- R583: the token supervisor clamps the own token line low: the module gives up the token and announces it. -/
def clampToken (cause : Nat) (s : State) : State :=
  let s1 := { s with red := { s.red with own := if s.red.own = .present then .released else s.red.own, clamped := true } }
  if s.red.own = .present then
    s1 |> switchGave cause |> bump Reg.redCntGiveUp 1 |> pmcInc 175 |> raise_ 0x15 1
  else s1

/-- Release the token with the ASIC running: clamp it and send one further heartbeat with RELEASED (R583, R586). -/
def releaseToken (cause : Nat) (s : State) : State := sendHeartbeat true (clampToken cause s)

/-- R607-R609: how the lanes are judged: lockstep (1) in an ACTIVE module with an available standby, vote (2) in another driving
module and in HOLD, else as a module that applies copies (0). -/
def laneMode (s : State) : Nat :=
  if role s = roleActive ∧ availableStandby s then 1 else if driving s ∨ role s = roleHold then 2 else 0

/-- RED.STATE.LANE_MODE, 0 while the module does not drive. Lane C is in service when the lanes vote and shadows otherwise, unless it
is offline (R608, R609). -/
def setLaneMode (s : State) : State :=
  let m := laneMode s
  let s1 := setFld Reg.redState 1 0 (if driving s then m else 0) s
  if laneState s 2 = 0 then s1 else setFld Reg.redLanes 11 8 (if m = 1 then 2 else 1) s1

/-- Take a lane out of service (R608, R609). -/
def laneOffline (l : Nat) (s : State) : State := setFld Reg.redLanes (4 * l + 3) (4 * l) 0 s

/-- The sequencer begins anew with a schedule: nothing is in progress, held or behind. -/
def seqRestart (sched : Nat) (s : State) : State :=
  { s with
    seq := { s.seq with
      sched := sched, halted := false, outst := [], held := [], behind := 0, pos := 0, slotClk := s.tbu.edge, extraDone := false
      swapDue := false, past := none, shown := s.tbu.slot }
    cle := { s.cle with busy := 0 } }

/-- What ends when a module gives up the role or starts anew: schedule, outstanding entries, engine work, a planned swap, the
transmit queues (R379, R415, R514). -/
def leaveRole (s0 : State) : State :=
  let s := seqRestart 0 s0
  mbcLeave { s with
    seq := { s.seq with standstill := none, shown := s0.seq.shown }
    slv := { s.slv with running := none, queue := [] }
    net := { s.net with pubs := [] }
    red := { s.red with swap := none, planned := none, passDone := false, sweepGot := 0, copyCame := false } }

/-- The module enters SYNCING: it dispatches nothing and a sweep pass begins (R581, R605, R606). -/
def enterSyncing (s : State) : State := leaveRole s |> wr Reg.redSyncProgress 0 |> takeRole roleSyncing |> setLaneMode

/-- R608: a lane fault in lockstep: the module releases its token and enters SYNCING. -/
def laneFaultLockstep (s : State) : State := s |> bump Reg.redCntLaneFault 1 |> releaseToken 0x3 |> enterSyncing

/-- R610: the remaining lanes cannot decide: dispatching stops and the module keeps its token; in HOLD it resets itself. -/
def stationLost (s : State) : State :=
  let s1 := { setFlag Reg.redState 3 true s with seq := { s.seq with halted := true } }
  let s2 := raise_ 0x15 11 s1
  if role s = roleHold then { s2 with pwr := { s2.pwr with order := some ⟨6, false, false⟩ } } else s2

/-- R609, R610: lane l differs from the others, or stops, in a driving module without an available standby. -/
def laneVotedOut (l : Nat) (s : State) : State :=
  let voters := (List.range 3).filter (fun k => laneState s k == 1 && (k == l || !s.seq.stopped.getD k false))
  let s1 := bump Reg.redCntLaneFault 1 s
  if flag s Reg.redState 3 then s1
  else if voters.length ≤ 2 then stationLost s1
  else s1 |> laneOffline l |> pmcInc 173 |> raise_ 0x15 10

/-- A lane l, not offline, that differs, or stops, in the mode in force (R581, R608-R610). -/
def laneFault (l : Nat) (s : State) : State :=
  if laneState s l = 0 then s
  else if laneMode s = 1 then
    if l = 2 then s |> laneOffline 2 |> raise_ 0x15 10 else laneFaultLockstep s
  else if laneMode s = 2 then laneVotedOut l s
  else
    let s1 := s |> laneOffline l |> raise_ 0x15 10
    if role s = roleStandby ∧ (lanesIn s1).length < 2 then enterSyncing s1 else s1

end Sys2Proof.Machine
end

