-- ==== Sys2Proof/Machine/Engine.lean ====
section
/-! DEFINITION. The entries of the schedules and the sequencer's position in them (R134-R147, R165-R178), the error checks of image
words (R188-R190), the lanes' compare and vote (R608, R609), and what entries in progress read and write (R166-R172). -/

namespace Sys2Proof.Machine

/-! ### Schedules (R134, R139, R140, R144) -/

/-- R134: the schedule entry at byte `off` of a bank. -/
def entryAt (s : State) (b off : Nat) : Entry :=
  ⟨bankNat s b (off + 15) 1, bankNat s b (off + 14) 1, bankNat s b (off + 12) 2, bankNat s b (off + 8) 4, bankNat s b (off + 4) 4,
    bankNat s b off 4, 0, 0⟩

/-- The entry of record i of a part that holds entries. -/
def partEntry (s : State) (b id i : Nat) : Entry :=
  match bankPart s b id with
  | some p => entryAt s b (p.base + p.size * i)
  | none => ⟨0, 0, 0, 0, 0, 0, 0, 0⟩

/-- R139: the index word of slot i in a slot index, part `id` of bank b; 0 when there is none. -/
def slotIndex (s : State) (b id i : Nat) : Nat :=
  match bankPart s b id with
  | some p => if i < p.count then bankNat s b (p.base + p.size * i) 4 else 0
  | none => 0

/-- R174: the slot whose entries the lanes dispatch. -/
def seqSlot (s : State) : Nat := (s.tbu.slot + 4096 - s.seq.behind % 4096) % 4096

/-- R175: the generation that the lanes build in that slot. -/
def seqGen (s : State) : Nat := s.tbu.gen - (s.tbu.slot / 512 + 8 - seqSlot s / 512) % 8

/-- R161, R167: bank and slot index from which the lanes dispatch: those in force, or, for slots before the last change, those
before it. -/
def seqPlan (s : State) : Option (Nat × Nat) :=
  let now : Option (Nat × Nat) := match s.active with
    | some b => if s.seq.sched = 1 then some (b, 0x0201) else if s.seq.sched = 2 then some (b, 0x0301) else none
    | none => none
  if s.tbu.slot < s.seq.behind ∧ s.seq.past.isSome then s.seq.past else now

/-- R139: the number of scheduled entries of the slot. -/
def seqCount (s : State) : Nat :=
  match seqPlan s with
  | some (b, id) => bitsOf (slotIndex s b id (seqSlot s)) 3 0
  | none => 0

/-- R140: the scheduled entry that is dispatched next: the first of the slot's contiguous entries not taken yet. -/
def nextEntry (s : State) : Option Entry :=
  match seqPlan s with
  | some (b, id) =>
    if s.seq.pos < seqCount s then
      some { partEntry s b (id + 1) (bitsOf (slotIndex s b id (seqSlot s)) 18 4 + s.seq.pos) with slot := seqSlot s, pos := s.seq.pos }
    else none
  | none => none

/-- R147: the slot holds an entry of the standstill list, its record number. -/
def standstillEntry (s : State) : Option Nat :=
  match s.seq.standstill with
  | some k => if k < cfgCount s 0x0402 ∧ cfgNat s 0x0401 0 0 2 + k ≤ seqSlot s then some k else none
  | none => none

/-- Does the sequencer dispatch: a schedule is in force, dispatching has not ended and not every lane has stopped. -/
def dispatching (s : State) : Bool := s.seq.sched != 0 && !s.seq.halted && !s.seq.stopped.all id

/-- R176: every entry of the slot has been dispatched. -/
def slotDone (s : State) : Bool :=
  s.seq.held == [] && (nextEntry s).isNone && (s.seq.extraDone || (standstillEntry s).isNone)

/-- The lanes begin the next slot at clock c, or, behind the timebase, after the eleven clocks of the slot before (R165, R176). -/
def beginSlot (c : Nat) (s : State) : State :=
  let b := s.seq.behind - 1
  let k := (s.tbu.slot + 4096 - b % 4096) % 4096
  { s with seq := { s.seq with
      behind := b, pos := 0, extraDone := false, shown := k, swapDue := k % 512 == 0
      slotClk := max c (s.seq.slotClk + 11), past := if b ≤ s.tbu.slot then none else s.seq.past } }

/-- R176: lanes that are behind go on to the pending slots as each is done, from clock c on; a slot that begins a minor cycle waits for
its bank swap (R175). -/
def catchUp (c : Nat) : Nat → State → State
  | 0, s => s
  | n + 1, s => if 0 < s.seq.behind ∧ s.seq.swapDue = false ∧ slotDone s then catchUp c n (beginSlot c s) else s

/-- The clock at which position `pos` of the slot is dispatched (R165). -/
def dispatchClock (s : State) (pos : Nat) : Nat := max s.now (s.seq.slotClk + 2 + pos)

/-! ### Errors in image words (R188-R190) -/

/-- What the check bits of one lane's copy of a word show. -/
def upsetOf (s : State) (l bank w : Nat) : Nat := tabGet (fun _ => (0 : Nat)) s.img.upsets (laneKey l bank w)

/-- An upset of stored bits: two single-bit errors make a double-bit error. -/
def strike (h : EccHit) (s : State) : State :=
  if h.lane < 3 ∧ h.bank < 2 ∧ h.word < imgWords then
    let k := laneKey h.lane h.bank h.word
    { s with img := { s.img with
      upsets := tabSet (fun _ => (0 : Nat)) s.img.upsets k
        (min 2 (upsetOf s h.lane h.bank h.word + (if h.double then 2 else 1))) } }
  else s

/-- R168, R188, R190: a lane counts an error and keeps its location. -/
def eccNote (l bank w : Nat) (double : Bool) (s : State) : State :=
  let e := eccOf s l
  let loc := l <<< 30 + bank <<< 29 + b2n double <<< 28 + w
  { s with img := { s.img with
    ecc := tabSet (fun _ => ((0, 0, 0) : Nat × Nat × Nat)) s.img.ecc l
      (if double then (e.1, satAdd 0xFFFFFFFF e.2.1 1, loc) else (satAdd 0xFFFFFFFF e.1 1, e.2.1, loc)) } }

/-- R188, R190: lane l reads word w of a physical bank: a single-bit error is corrected and written back, a double-bit error
leaves 0 with tag BAD in that lane alone. -/
def eccCheck (bank w l : Nat) (s : State) : State :=
  match upsetOf s l bank w with
  | 0 => s
  | 1 => s |> eccNote l bank w false |> putLaneCell l bank w (laneCell s l bank w) |> pmcInc 13 |> raise_ 0x05 1
  | _ => s |> eccNote l bank w true |> putLaneCell l bank w ⟨0, .bad⟩ |> pmcInc 14 |> raise_ 0x05 0

/-- The lanes read a word as engines do (R182). -/
def engineTouch (w : Nat) (s : State) : State :=
  if s.img.upsets = [] then s else each (lanesLive s) (eccCheck (lineEngine s (w / 16)) w) s

/-- The lane that answers hosts reads the completed copy of a word (R168, R182). -/
def hostTouch (w : Nat) (s : State) : State :=
  if s.img.upsets = [] then s else eccCheck (lineDone s (w / 16)) w (lowLane s) s

/-! ### The lanes' compare and vote (R608, R609) -/

/-- What two lanes agree on, else what the first has, and the lanes that have something else. -/
def voteOf {α : Type} [DecidableEq α] (l : List (Nat × α)) : Option α × List Nat :=
  let m := match l.find? (fun p => 2 ≤ (l.filter (fun q => q.2 = p.2)).length) with
    | some p => some p.2
    | none => l.head?.map (fun p => p.2)
  (m, (l.filter (fun p => some p.2 ≠ m)).map (fun p => p.1))

/-- R43, R608, R609: what the lanes in service hand over at the point where it leaves them: differing lanes are at fault, and the
majority leaves unless dispatching ends with that. Without a lane in service, lane A's stands. -/
def handOver {α : Type} [DecidableEq α] (f : Nat → α) (k : α → State → State) (s : State) : State :=
  let v := voteOf ((lanesIn s).map (fun l => (l, f l)))
  let s1 := each v.2 laneFault s
  if v.2 = [] ∨ dispatching s1 then k (v.1.getD (f 0)) s1 else s1

/-! ### Writes (R181, R185, R191) -/

/-- R181: copy one word of a line, with what lanes store otherwise, from its completed copy into the other bank; each lane checks
what it reads. -/
def copyWord (src w : Nat) (s : State) : State :=
  let s1 := if s.img.upsets = [] then s else each (lanesLive s) (eccCheck src w) s
  let diff := (List.range 3).filterMap (fun l =>
    (tabGet (fun _ => (none : Option ICell)) s1.img.laneDiff (laneKey l src w)).map (fun c => (l, c)))
  each diff (fun p => putLaneCell p.1 (1 - src) w p.2) (putCell (1 - src) w (bankCell s1 src w) s1)

/-- R181: the first write of a generation to a line copies its 16 words into the other bank and makes it dirty. -/
def openLine (line : Nat) (s : State) : State :=
  if lineDirty s line then s
  else
    let src := lineDone s line
    let s1 := each (List.range 16) (fun i => copyWord src (16 * line + i)) s
    pmcInc 12 { s1 with img := { s1.img with dirty := tabSet (fun _ => false) s1.img.dirty line true } }

/-- R152: the tag that a word receives in lane l when its producer writes it with tag t and `src` is the source of its link. -/
def linkTag (s : State) (src : Option Nat) (l : Nat) (t : Tag) : Tag :=
  match src with
  | some w => tagJoin t (laneView s l w).tag
  | none => t

/-- R152: the tag a word receives when its producer writes it with tag t. -/
def linkedTag (s : State) (w : Nat) (t : Tag) : Tag := linkTag s (tagLink s w) (lowLane s) t

/-- R181, R185, R191, R608: write value and tag of a word in the generation being built, through its tag link; `f` is what each
lane writes. A word outside the image is not written. -/
def laneWrite (w : Nat) (f : Nat → ICell) (s : State) : State :=
  if w < imgWords then
    let s1 := openLine (w / 16) s
    let link := tagLink s1 w
    let s2 := match link with
      | some src => engineTouch src s1
      | none => s1
    let cell (l : Nat) : ICell := ⟨(f l).val, linkTag s2 link l (f l).tag⟩
    handOver cell (fun c t =>
      let bank := lineEngine t (w / 16)
      each (lanesLive t) (fun l u => putLaneCell l bank w (cell l) u) (putCell bank w c t)) s2
  else s

/-- Write a word with the same value and tag in every lane. -/
def imgPut (w : Nat) (v : Word) (t : Tag) (s : State) : State := laneWrite w (fun _ => ⟨v, t⟩) s

/-! ### Reads of entries (R166, R169-R171) -/

/-- The entry in progress of a number. -/
def entryOf (s : State) (uid : Nat) : Option OutEntry := s.seq.outst.find? (fun o => o.uid == uid)

/-- Change the entry in progress of a number. -/
def entryUpd (uid : Nat) (f : OutEntry → OutEntry) (s : State) : State :=
  { s with seq := { s.seq with outst := s.seq.outst.map (fun o => if o.uid = uid then f o else o) } }

/-- R166, R170, R171: the outstanding entry, dispatched before entry `uid`, that has word w among its destinations. -/
def lateOf (s : State) (uid w : Nat) : Option OutEntry :=
  s.seq.outst.find? (fun o => decide (o.uid < uid) && decide (s.now < o.last) && o.words.contains w)

/-- R21, R169-R171: a source word as the engine of lane l reads it for entry `uid`: while its producer entry is outstanding the
previous value tagged HELD, or BAD or INIT where the previous tag is one of these, which come before HELD (log entry 78). -/
def laneFetch (s : State) (uid l w : Nat) : ICell :=
  let c := laneView s l w
  if (lateOf s uid w).isSome then ⟨c.val, tagJoin c.tag .held⟩ else c

/-- SEQ.CNT_LATE rises. -/
def countLate (s : State) : State := bump Reg.seqCntLate 1 { s with seq := { s.seq with lateClk := some s.now } }

/-- R170: consumer entry e finds word w outstanding. -/
def noteLate (e : Entry) (w : Nat) (o : OutEntry) (s : State) : State :=
  s |> countLate |> wr Reg.seqLastLate (e.pos <<< 28 + e.slot <<< 16 + o.e.target <<< 8)
    |> wr Reg.seqLastLateWord w |> pmcInc 4 |> raise_ 0x04 0

/-- R170, R188: the engine reads of entry `uid` of words ws: they are checked and counted, and the first word found outstanding
counts once for the entry. -/
def noteReads (uid : Nat) (e : Entry) (ws : List Nat) (s : State) : State :=
  let s1 := pmcAdd 8 ws.length (each ws engineTouch s)
  let counted := match entryOf s uid with
    | some o => o.late
    | none => false
  match ws.findSome? (fun w => (lateOf s uid w).map (fun o => (w, o))) with
  | some (w, o) => if counted then s1 else noteLate e w o (entryUpd uid (fun x => { x with late := true }) s1)
  | none => s1

/-- R43, R166, R608: an entry without destination words of its own reads words at the present clock and hands them over. -/
def consume (e : Entry) (ws : List Nat) (k : List ICell → State → State) (s : State) : State :=
  let uid := s.seq.nextUid
  let s1 := noteReads uid e ws s
  handOver (fun l => ws.map (laneFetch s1 uid l)) k s1

/-- R43, R166, R608: entry `uid` reads words at the present clock; what two lanes agree on goes on, and others are at fault. -/
def readVoted (uid : Nat) (e : Entry) (ws : List Nat) (s : State) : List ICell × State :=
  let s1 := noteReads uid e ws s
  let f (l : Nat) : List ICell := ws.map (laneFetch s1 uid l)
  let v := voteOf ((lanesIn s1).map (fun l => (l, f l)))
  (v.1.getD (f 0), each v.2 laneFault s1)

/-- An entry writes its only destination word at the present clock, which ends it. -/
def writeNow (w : Nat) (c : ICell) (s : State) : State := pmcInc 9 (laneWrite w (fun _ => c) s)

/-! ### Entries in progress (R166) -/

/-- An entry goes on after its dispatch: it is outstanding until its last clock. -/
def goOn (e : Entry) (words : List Nat) (last : Nat) (todo : List (Nat × Act)) (s : State) : State :=
  { s with seq := { s.seq with
      nextUid := s.seq.nextUid + 1
      outst := s.seq.outst ++ [{ uid := s.seq.nextUid, e := e, last := last, words := words, left := words, todo := todo
                                 born := s.now, edge := s.tbu.edge, gen := seqGen s }] } }

/-- A clock that no run reaches: an entry that waits for its engine ends there until it starts. -/
def neverClk : Nat := 2 ^ 100

/-- R345: the CLE_RUN that waits longest. -/
def cleWaiting (s : State) : Option OutEntry := s.seq.outst.find? (fun o => o.e.opcode == 0x11 && o.last == neverClk)

/-- The last clock of a list of actions. -/
def lastClk (todo : List (Nat × Act)) : Nat := todo.foldl (fun m a => max m a.1) 0

/-- Leave destination words to what is done at their clocks; nothing is outstanding without one. -/
def addActs (e : Entry) (ws : List (Nat × Nat × Act)) (s : State) : State :=
  let todo := ws.map (fun x => (x.1, x.2.2))
  if ws = [] then s else goOn e (ws.map (fun x => x.2.1)) (lastClk todo) todo s

/-- Leave destination words to be written at their clocks. -/
def addWrites (e : Entry) (ws : List (Nat × Nat × ICell)) (s : State) : State :=
  addActs e (ws.map (fun x => (x.1, x.2.1, Act.put x.2.1 x.2.2))) s

/-- Leave destination words to be written at their clocks with their previous values (R169) and a tag; where `bad`, BAD words stay
BAD. -/
def addKeeps (e : Entry) (bad : Bool) (ws : List (Nat × Nat × Tag)) (s : State) : State :=
  addActs e (ws.map (fun x => (x.1, x.2.1, Act.keep x.2.1 x.2.2 bad))) s

/-- An entry writes a destination word that it has not written yet. -/
def entryWrite (uid w : Nat) (f : Nat → ICell) (s : State) : State :=
  match entryOf s uid with
  | some o =>
    if o.left.contains w then pmcInc 9 (laneWrite w f (entryUpd uid (fun x => { x with left := x.left.erase w }) s)) else s
  | none => s

/-- An entry writes a destination word with its previous value and tag t; where `bad`, a BAD word stays BAD (R534). -/
def entryKeep (uid w : Nat) (t : Tag) (bad : Bool) (s : State) : State :=
  entryWrite uid w (fun l =>
    let c := laneView s l w
    ⟨c.val, if bad && c.tag == .bad then .bad else t⟩) s

/-- R136: an entry copies a word; it reads it as it writes it. -/
def entryCopy (uid : Nat) (e : Entry) (src dst : Nat) (s : State) : State :=
  let s1 := noteReads uid e [src] s
  entryWrite uid dst (fun l => laneFetch s1 uid l src) s1

/-- R397, R498: an entry reads a word for its engine. -/
def entryFetch (uid : Nat) (e : Entry) (w : Nat) (s : State) : State :=
  let s1 := noteReads uid e [w] s
  handOver (fun l => laneFetch s1 uid l w) (fun c t => entryUpd uid (fun x => { x with got := x.got ++ [c] }) t) s1

/-- R172: a destination word not yet written at the swap keeps its value and takes the tag HELD, unless it stands BAD or INIT, which
come before HELD (R21, log entry 78). -/
def holdWord (w : Nat) (s : State) : State :=
  laneWrite w (fun l => ⟨(laneView s l w).val, tagJoin (laneView s l w).tag .held⟩) s

end Sys2Proof.Machine
end

