-- ==== Sys2Proof/Machine/Loop.lean ====
section
/-! DEFINITION. The step of a control loop (R346-R373): its inputs, set-point, gain set, output and oscillation detector. All
arithmetic is binary32 (R349). -/

namespace Sys2Proof.Machine

/-! ### Records -/

/-- Words of a loop record by offset / 4 (R350). -/
def wFlags : Nat := 0x000 / 4
def wPv : Nat := 0x004 / 4
def wOut : Nat := 0x008 / 4
def wMeas : Nat := 0x00C / 4
def wFf : Nat := 0x010 / 4
def wSp : Nat := 0x014 / 4
def wSched : Nat := 0x018 / 4
def wMan : Nat := 0x01C / 4
def wStatus : Nat := 0x020 / 4

/-- A loop record as a step sees it: the words that differ from the Sheaf, and the loop's number. -/
structure LoopRec where
  tab : Tab (Option Word)
  k : Nat

/-- A word of a loop record, and its binary32 value. -/
def LoopRec.word (l : LoopRec) (s : State) (w : Nat) : Nat := loopWord s l.tab l.k w
def LoopRec.num (l : LoopRec) (s : State) (off : Nat) : FVal := fOfBits f32 (loopWord s l.tab l.k (off / 4))

/-- Word j of gain set g: 0 G_P, 1 G_I, 2 G_D, 3 TF, 4 B, 5 C, 6 KT, 7 KFF. -/
def LoopRec.gain (l : LoopRec) (s : State) (g j : Nat) : FVal := l.num s (0x060 + 0x20 * g + 4 * j)

/-- FLAGS fields. -/
def LoopRec.rate (l : LoopRec) (s : State) : Nat := bitsOf (l.word s wFlags) 31 24
def LoopRec.oscAction (l : LoopRec) (s : State) : Nat := bitsOf (l.word s wFlags) 19 18
def LoopRec.spTrack (l : LoopRec) (s : State) : Bool := bitOf (l.word s wFlags) 17
def LoopRec.nreg (l : LoopRec) (s : State) : Nat := bitsOf (l.word s wFlags) 15 12
def LoopRec.spSrc (l : LoopRec) (s : State) : Nat := bitsOf (l.word s wFlags) 11 8
def LoopRec.ideal (l : LoopRec) (s : State) : Bool := bitOf (l.word s wFlags) 1
def LoopRec.reverse (l : LoopRec) (s : State) : Bool := bitOf (l.word s wFlags) 0

/-- R346: H_NOM, exact. -/
def hNom (s : State) (l : LoopRec) : Rat :=
  if l.rate s = 0 then 1 / (8 * nomFreq s : Rat) else (l.rate s : Rat) / (nomFreq s : Rat)

/-! ### Inputs (R352-R354) -/

/-- An input as a step sees it: present in the record, usable, its value and its tag. -/
structure LoopIn where
  there : Bool
  ok : Bool
  val : FVal
  tag : Tag

/-- R353: is a binary32 input usable. -/
def usableF (c : ICell) : Bool := c.tag != .bad && c.tag != .init && (w32 c.val).isFin

/-- R353: is an input that is not read as binary32 usable. -/
def usableTag (t : Tag) : Bool := t != .bad && t != .init

/-- How a lane's engine reads image words at the present clock. -/
abbrev Reader := Nat → ICell

/-- An optional image input. -/
def inWord (rw : Reader) (w : Nat) : LoopIn :=
  if w < imgWords then
    let x := rw w
    ⟨true, usableF x, w32 x.val, x.tag⟩
  else ⟨false, true, FVal.zero, .good⟩

/-- R352: the set-point source. -/
def inSp (s : State) (rw : Reader) (l : LoopRec) : LoopIn :=
  let a := l.word s wSp
  match l.spSrc s with
  | 0 => ⟨true, true, rdF s (Reg.cleSp l.k), .good⟩
  | 1 => inWord rw a
  | 2 =>
    let x : ICell := ⟨BitVec.ofNat 32 (rd s (Reg.achValue (bitsOf a 4 0))), (ach s (bitsOf a 4 0)).tag⟩
    ⟨true, usableF x, w32 x.val, x.tag⟩
  | _ =>
    let n := bitsOf a 1 0
    let t : Tag := if piuMode s n = 0 ∨ (piu s n).lineFault then .bad else if (piu s n).overfreq then .limited else .good
    ⟨true, usableTag t, piuFreqNow s n, t⟩

/-! ### The step (R355-R369) -/

/-- R369: move the region up while z reaches the next boundary plus HYST, then down while z is below its own minus HYST. -/
def regionUp (s : State) (l : LoopRec) (z : FVal) : Nat → Nat → Nat
  | 0, j => j
  | n + 1, j =>
    if j + 1 < l.nreg s ∧ fLe (fAdd f32 (l.num s (0x040 + 4 * j)) (l.num s 0x05C)) z then regionUp s l z n (j + 1) else j
def regionDown (s : State) (l : LoopRec) (z : FVal) : Nat → Nat → Nat
  | 0, j => j
  | n + 1, j =>
    if 0 < j ∧ fLt z (fSub f32 (l.num s (0x040 + 4 * (j - 1))) (l.num s 0x05C)) then regionDown s l z n (j - 1) else j

/-- R367-R369: the region of a step. -/
def stepRegion (s : State) (l : LoopRec) (x : LoopSt) (z : LoopIn) : Nat :=
  if z.there = false then 0
  else if z.ok = false then x.region
  else if x.first ∨ x.schedBad then
    ((List.range 7).filter (fun j => j + 1 < l.nreg s && fLe (l.num s (0x040 + 4 * j)) z.val)).length
  else regionDown s l z.val 8 (regionUp s l z.val 8 x.region)

/-- What a step computes before its integral (R355-R357). -/
structure StepPdf where
  yf : FVal
  r : FVal
  spLim : Bool
  e : FVal
  ed : FVal
  p : FVal
  d : FVal
  ff : FVal
  fl : FVal
  f : FVal
  ki : FVal
  /-- every number computed, for NUMERIC (R364) -/
  all : List FVal

/-- R355-R357. -/
def stepPdf (s : State) (l : LoopRec) (x : LoopSt) (g : Nat) (h : FVal) (manual : Bool) (pv sp ff : LoopIn) : StepPdf :=
  let b (w : Nat) : FVal := fOfBits f32 w
  let gn (j : Nat) : FVal := l.gain s g j
  let tpv := l.num s 0x1A0
  let yfp := if x.first then pv.val else b x.yf
  let a := fDiv f32 h (fAdd f32 tpv h)
  let yf := if pv.ok = false then b x.yf else if tpv.isZero then pv.val else fFma f32 a (fSub f32 pv.val yfp) yfp
  let track := manual && l.spTrack s
  let raw := fFma f32 (l.num s 0x180) sp.val (l.num s 0x184)
  let r0 := fClamp (l.num s 0x18C) (l.num s 0x188) raw
  let rp := if x.first then r0 else b x.r
  let st := fMul f32 (l.num s 0x190) h
  let r := if track then yf else if sp.ok = false then b x.r
    else if (l.num s 0x190).isZero then r0 else fClamp (fSub f32 rp st) (fAdd f32 rp st) r0
  let sg (v : FVal) : FVal := if l.reverse s then fNeg v else v
  let gp := gn 0
  let ki := if l.ideal s then (if (gn 1).isZero then FVal.zero else fDiv f32 gp (gn 1)) else gn 1
  let kd := if l.ideal s then fMul f32 gp (gn 2) else gn 2
  let e := sg (fSub f32 r yf)
  let ep := sg (fFma f32 (gn 4) r (fNeg yf))
  let ed := sg (fFma f32 (gn 5) r (fNeg yf))
  let p := fMul f32 gp ep
  let dd := fSub f32 ed (if x.first then ed else b x.ed)
  let kdd := fMul f32 kd dd
  let tf := gn 3
  let dn := fFma f32 tf (if x.first then FVal.zero else b x.d) kdd
  let d := if tf.isZero then fDiv f32 kdd h else fDiv f32 dn (fAdd f32 tf h)
  let fv := if ff.ok then ff.val else b x.ff
  let tLead := l.num s 0x1A4
  let tLag := l.num s 0x1A8
  let ffp := if x.first then fv else b x.ff
  let flp := if x.first then fv else b x.fl
  let dff := fSub f32 fv ffp
  let hff := fMul f32 h fv
  let i1 := fFma f32 tLead dff hff
  let i2 := fFma f32 tLag flp i1
  let fl := if tLead.isZero && tLag.isZero then fv else fDiv f32 i2 (fAdd f32 tLag h)
  let f := fMul f32 (gn 7) fl
  { yf := yf, r := r, spLim := !track && sp.ok && !fEq r raw, e := e, ed := ed, p := p, d := d, ff := fv, fl := fl, f := f
    ki := ki
    all := [yf, r, e, ep, ed, p, dd, kdd, d, fl, f, ki, kd] ++ (if track || !sp.ok then [] else [raw]) ++
      (if tLead.isZero && tLag.isZero then [] else [i1, i2]) }

/-- The integral, unlimited output and output of an AUTO step, with its limits (R358, R360, R366). -/
structure StepOut where
  i : FVal
  v : FVal
  u : FVal
  rateLim : Bool
  outLim : Bool
  aw : Bool
  intStop : Bool
  all : List FVal

/-- Sign of a number: 1, -1 or 0. -/
def fSign (x : FVal) : Int := if x.isZero || x.isNan then 0 else if x.isNeg then -1 else 1

/-- R358, R360, R366: an AUTO step from v_prev and u_prev; `meas` is MEAS_WORD. -/
def stepAuto (s : State) (l : LoopRec) (x : LoopSt) (g : Nat) (h : FVal) (reinit : Bool) (vp up m : FVal) (meas : LoopIn)
    (c : StepPdf) : StepOut :=
  let aw0 := fSub f32 m vp
  let aw := if fLe (fAbs aw0) (l.num s 0x1AC) then FVal.zero else aw0
  let inc0 := fMul f32 c.ki c.e
  let stop := meas.there && meas.ok && meas.tag == .limited && !inc0.isZero && fSign inc0 == fSign (fSub f32 vp m)
  let inc := if stop then FVal.zero else inc0
  let i := if reinit then fSub f32 vp (fAdd f32 (fAdd f32 c.p c.d) c.f)
    else fFma f32 h (fFma f32 (l.gain s g 6) aw inc) (fOfBits f32 x.i)
  let v := fAdd f32 (fAdd f32 (fAdd f32 c.p i) c.d) c.f
  let rate := l.num s 0x19C
  let st := fMul f32 rate h
  let ur := if rate.isZero then v else fClamp (fSub f32 up st) (fAdd f32 up st) v
  let u := fClamp (l.num s 0x198) (l.num s 0x194) ur
  { i := i, v := v, u := u, rateLim := !fEq ur v, outLim := !fEq u ur
    aw := !reinit && !aw.isZero, intStop := !reinit && stop
    all := (if reinit then [] else [aw0, inc0]) ++ [i, v] }

/-- The status flags of R354. -/
def badFlags (pv sp ff meas sched man : LoopIn) : Nat :=
  b2n (!pv.ok) <<< 5 + b2n (!sp.ok) <<< 6 + b2n (!ff.ok) <<< 7 + b2n (!meas.ok) <<< 8 + b2n (!sched.ok) <<< 9
    + b2n (!man.ok) <<< 10

/-- A tag that degrades an AUTO output when an input carries it (R362). -/
def tagDegrades (t : Tag) : Bool := t == .held || t == .subst || t == .degraded || t == .limited

/-- R362: the tag of OUT_WORD. -/
def outTag (held manual : Bool) (flags : Nat) (lim : Bool) (ins : List LoopIn) : Tag :=
  if held || (manual && bitOf flags 10) then .subst
  else if !manual && (bitsOf flags 9 6 != 0 || ins.any (fun i => i.there && tagDegrades i.tag)) then .degraded
  else if lim then .limited
  else .good

/-! ### The oscillation detector (R371, R372) -/

/-- An emptied detector. -/
def oscEmpty (x : LoopSt) : LoopSt := { x with half := 0, peak := 0, ring := [], oscCount := 0 }

/-- R371: one AUTO step of the detector, at generation g. -/
def oscStep (s : State) (l : LoopRec) (g : Nat) (e : FVal) (x : LoopSt) : LoopSt :=
  let sg := if fSign e = 1 then 1 else if fSign e = -1 then 2 else 0
  let pk := fOfBits f32 x.peak
  let y := if sg ≠ 0 ∧ sg ≠ x.half then
      { x with
        ring := if x.half ≠ 0 ∧ fLt (l.num s 0x1B0) pk then (g :: x.ring).take 32 else x.ring
        half := sg, peak := fToBits f32 (fAbs e) }
    else { x with peak := fToBits f32 (fMax pk (fAbs e)) }
  let cfg := l.word s (0x1B4 / 4)
  let n := (y.ring.filter (fun q => g < q + bitsOf cfg 31 16)).length
  let isOver := decide (bitsOf cfg 4 0 < n)
  { y with oscCount := n, osc := isOver || (y.osc && l.oscAction s != 0) }

/-! ### One loop step -/

/-- Store a loop, the same in every lane. -/
def putLoop (k : Nat) (x : LoopSt) (s : State) : State :=
  { s with cle := { s.cle with
      loops := tabSet (fun _ => ({} : LoopSt)) s.cle.loops k x
      laneLoops := s.cle.laneLoops.filter (fun e => e.1 % 256 ≠ k) } }

/-- R40: the state of a loop in one lane. -/
def laneLoop (s : State) (l k : Nat) : LoopSt := (tabGet (fun _ => (none : Option LoopSt)) s.cle.laneLoops (256 * l + k)).getD (loopSt s k)

/-- Store a loop in one lane. -/
def putLaneLoop (l k : Nat) (x : LoopSt) (s : State) : State :=
  { s with cle := { s.cle with
    laneLoops := tabSet (fun _ => (none : Option LoopSt)) s.cle.laneLoops (256 * l + k)
      (if x = loopSt s k then none else some x) } }

/-- Change a loop in every lane. -/
def loopUpd (k : Nat) (f : LoopSt → LoopSt) (s : State) : State :=
  each (List.range 3) (fun l t => putLaneLoop l k (f (laneLoop s l k)) t) (putLoop k (f (loopSt s k)) s)

/-- Set bit of loop k in OSC_MAP or HOLD_MAP. -/
def setOscMap (k : Nat) (b : Bool) (s : State) : State := setFlag (Reg.cleOscMap (k / 32)) (k % 32) b s
def setHoldMap (k : Nat) (b : Bool) (s : State) : State := setFlag (Reg.cleHoldMap (k / 32)) (k % 32) b s

/-- The step length of a step, and whether H_NOM stands in for it out of range (R347). -/
def stepLength (s : State) (l : LoopRec) (x : LoopSt) (edge : Nat) : FVal × Bool :=
  let hn := hNom s l
  let q : Rat := Rat.divInt ((edge : Int) - (x.edge : Int)) 200000000
  if x.first ∨ x.resumed then (fOfQ f32 hn, false)
  else if hn / 2 ≤ q ∧ q ≤ 2 * hn then (fOfQ f32 q, false)
  else (fOfQ f32 hn, true)

/-- What one step decides: the new loop state, its output with tag, its status word, SPk when it tracks, and what it counts. -/
structure StepRes where
  x : LoopSt
  out : ICell
  sp : Option Nat
  regionChg : Bool
  held : Bool
  numeric : Bool
  intStop : Bool
  hSubst : Bool

/-- R347-R373: one step of a loop from state x, dispatched in the slot that began at `edge` in generation `gen`. -/
def loopStep (s : State) (rw : Reader) (l : LoopRec) (x : LoopSt) (edge gen slot : Nat) : StepRes :=
  let b (w : Nat) : FVal := fOfBits f32 w
  let bits (v : FVal) : Nat := fToBits f32 v
  let manual := fld s (Reg.cleMode (l.k / 8)) (4 * (l.k % 8) + 3) (4 * (l.k % 8)) == 0
  let pv := inWord rw (l.word s wPv)
  let sp := inSp s rw l
  let ff := inWord rw (l.word s wFf)
  let meas := inWord rw (l.word s wMeas)
  let sched := inWord rw (l.word s wSched)
  let man := inWord rw (l.word s wMan)
  let hs := stepLength s l x edge
  let j := stepRegion s l x sched
  let act := if x.osc then l.oscAction s else 0
  let g := if act = 1 then 8 else j
  let lo := l.num s 0x198
  let hi := l.num s 0x194
  let bad := badFlags pv sp ff meas sched man
  let cpt := stepPdf s l x g hs.1 manual pv sp ff
  let hasM := meas.there && meas.ok
  let start := if hasM then meas.val else fClamp FVal.zero hi lo
  let first := x.first && !manual
  let vp := if first then start else b x.v
  let up := if first then start else b x.u
  let m := if hasM then meas.val else b x.u
  let lost := x.first && !pv.ok
  let hold := !manual && (!pv.ok || act == 2)
  let regionChg := !x.first && j != x.region
  let reinit := x.first || regionChg || (g == 8) != (x.gset == 8) || bitOf x.changed g || x.mode == 2
  let a := stepAuto s l x g hs.1 reinit vp up m meas cpt
  let mv := if man.there && man.ok then man.val else b x.u
  let mu := fClamp lo hi mv
  let mi := fSub f32 mu (fAdd f32 (fAdd f32 cpt.p cpt.d) cpt.f)
  let nums := cpt.all ++ (if manual then [mi] else a.all)
  let numeric := pv.ok && nums.any (fun v => !v.isFin)
  let held := hold || (!manual && numeric)
  let outLim := if manual then !fEq mu mv else !held && a.outLim
  let rateLim := !manual && !held && a.rateLim
  let u := if manual then mu else if held then up else a.u
  let mode := if manual then 0 else if held then 2 else 1
  -- the values that the step stores
  let kept := held || numeric || lost
  let base : LoopSt := { x with
    resumed := false, changed := 0, schedBad := !sched.ok, mode := mode, u := bits u, m := bits m, h := bits hs.1
    v := bits (if manual || held then u else a.v)
    edge := edge, gen := gen, slot := slot, first := x.first && (!pv.ok || numeric) }
  let y0 := if kept then base else { base with
    r := bits cpt.r, yf := bits cpt.yf, e := bits cpt.e, ed := bits cpt.ed, d := bits cpt.d, ff := bits cpt.ff
    fl := bits cpt.fl, i := bits (if manual then mi else a.i), region := j, gset := g }
  let y1 := if x.first then oscEmpty y0 else y0
  let y2 := if manual then
      let z := oscEmpty y1
      { z with osc := z.osc && l.oscAction s != 0 }
    else if kept then y1
    else oscStep s l gen cpt.e y1
  let flags := b2n outLim + b2n rateLim <<< 1 + b2n cpt.spLim <<< 2
    + b2n (!manual && !held && a.aw) <<< 3 + b2n (!manual && !held && a.intStop) <<< 4 + bad + b2n y2.osc <<< 11
    + b2n numeric <<< 12 + b2n hs.2 <<< 13
  let status := (if kept then (if act = 1 then 8 else x.region) else g) <<< 28 + mode <<< 24 + flags
  { x := { y2 with status := status }
    out := ⟨toW32 u, outTag held manual bad (outLim || rateLim) [pv, sp, ff, sched]⟩
    sp := if manual && l.spTrack s && l.spSrc s == 0 && !kept then some (bits cpt.yf) else none
    regionChg := regionChg && !kept
    held := held, numeric := numeric, intStop := !manual && !held && a.intStop, hSubst := hs.2 }

/-- Counters and events of a step (R347, R354, R364, R369, R372). -/
def stepEvents (old : LoopSt) (r : StepRes) (s : State) : State :=
  let st := r.x.status
  let rose (m : Nat) : Bool := st &&& m != 0 && (st &&& m) &&& (old.status &&& m) != st &&& m
  s |> bump Reg.cleCntSteps 1 |> pmcInc 16
    |> when_ r.hSubst (fun t => t |> bump Reg.cleCntHSubst 1 |> pmcInc 23 |> raise_ 0x0B 7)
    |> when_ (bitOf st 5 && !bitOf old.status 5) (fun t => t |> bump Reg.cleCntPvBad 1 |> raise_ 0x0B 1)
    |> when_ (rose 0x7C0) (raise_ 0x0B 6)
    |> when_ r.regionChg (fun t => t |> bump Reg.cleCntRegionChg 1 |> pmcInc 18 |> raise_ 0x0B 3)
    |> when_ r.numeric (fun t => t |> bump Reg.cleCntNumeric 1 |> raise_ 0x0B 2)
    |> when_ r.held (pmcInc 19) |> when_ r.intStop (pmcInc 20)
    |> when_ (r.x.osc && !old.osc) (fun t => t |> bump Reg.cleCntOsc 1 |> pmcInc 21 |> raise_ 0x0B 0)

/-- Source words that a loop reads from the image (R352). -/
def loopReads (s : State) (l : LoopRec) : List Nat :=
  ([l.word s wPv, l.word s wFf, l.word s wMeas, l.word s wSched, l.word s wMan] ++
    (if l.spSrc s = 1 then [l.word s wSp] else [])).filter (· < imgWords)

/-- R355: what a step hands over at the point where it leaves its lane (R608): the output with its tag, the status word, and SPk
where it tracks. -/
def StepRes.leaves (r : StepRes) : ICell × Nat × Option Nat := (r.out, r.x.status, r.sp)

/-- R344, R608: entry `uid` steps loop k at the present clock in every lane; what the lanes agree on is left to be written at the end
of the loop's 32 clocks. -/
def entryLoop (uid k : Nat) (s : State) : State :=
  match entryOf s uid with
  | none => s
  | some o =>
    let l : LoopRec := ⟨o.tab.getD s.cle.eff, k⟩
    let s1 := noteReads uid o.e (loopReads s l) s
    let step (lane : Nat) : StepRes :=
      let x := laneLoop s1 lane k
      let r := loopStep s1 (laneFetch s1 uid lane) l x o.edge o.gen o.e.slot
      { r with x := if o.tab.isSome then { r.x with changed := x.changed } else r.x }
    handOver (fun lane => (step lane).leaves) (fun v t =>
      let lead := ((lanesIn t).find? (fun lane => (step lane).leaves = v)).getD 0
      let r := step lead
      let st := l.word s wStatus
      let t1 := each (lanesLive t) (fun lane u => putLaneLoop lane k (step lane).x u) (putLoop k r.x t)
      t1 |> setHoldMap k (r.x.mode == 2) |> setOscMap k r.x.osc |> stepEvents (laneLoop s1 lead k) r
        |> (fun u => match r.sp with | some w => wr (Reg.cleSp k) w u | none => u)
        |> entryUpd uid (fun x => { x with res := .put (l.word s wOut) r.out ::
            (if st < imgWords then [.put st ⟨BitVec.ofNat 32 r.x.status, .good⟩] else []) })) s1

end Sys2Proof.Machine
end

