-- ==== Sys2Proof/Machine/Maps.lean ====
section
/-! DEFINITION. What MBC_SEND, MBC_MAP and MSL_MAP do at their clocks: the frame of a transmit descriptor (R497-R500, R507), the words
of a journal map record (R510-R512) and the word of a marine field map (R540-R542). -/

namespace Sys2Proof.Machine

/-! ### Transmit descriptors (R497-R500) -/

/-- Bytes of a frame's payload by DLC (R482). -/
def dlcLen (fd : Bool) (dlc : Nat) : Nat :=
  if dlc ≤ 8 then dlc
  else if fd then [12, 16, 20, 24, 32, 48, 64].getD (dlc - 9) 64 else 8

/-- A field of transmit descriptor d. -/
def txd (s : State) (d off n : Nat) : Nat := cfgNat s 0x0901 d off n
def txdCtl (s : State) (d : Nat) : Nat := txd s d 6 1 % 4

/-- FLAGS stands at offset 4 of a descriptor. -/
def txdFlag (s : State) (d i : Nat) : Bool := bitOf (txd s d 4 1) i

/-- The other controller of a pair. -/
def mbcPair (n : Nat) : Nat := if n % 2 = 0 then n + 1 else n - 1

/-- R507, R508: where a frame of descriptor d waits. -/
def txPlace (s : State) (d : Nat) : Nat :=
  let c := txdCtl s d
  if txdFlag s d 2 && (mbc s c).err == 2 && (mbc s (mbcPair c)).err != 2 then mbcPair c else c

/-- The payload of a descriptor from its source words, sent in generation `gen` (R498). -/
def txPayload (s : State) (gen d : Nat) (cells : List ICell) : List Nat :=
  let len := dlcLen (txdFlag s d 0) (txd s d 5 1)
  let bytes := (cells.flatMap (fun c =>
    if txdFlag s d 4 then beBytes 4 c.val.toNat else leBytes 4 c.val.toNat)).take len
  if txdFlag s d 3 then bytes.set (txd s d 7 1) (gen % 256) else bytes

/-- R498-R500: the frame of an MBC_SEND enters its queue, or, for want of a usable source word, nothing does (R499). -/
def entrySend (uid : Nat) (s : State) : State :=
  match entryOf s uid with
  | none => s
  | some o =>
    let d := bitsOf o.e.arg0 11 0
    let n := txdCtl s d
    if o.got.all (fun c => usableTag c.tag) then
      let s2 := { s with mbcBad := s.mbcBad.filter (· ≠ d) }
      let idw := txd s d 0 4
      let q := [n, mbcPair n].find? (fun c => (mbc s c).queue.any (fun i => i.desc == d))
      let at_ := q.getD (txPlace s d)
      let uid := (mbc s2 at_).nextUid
      let f : CanFrame := { ide := bitOf idw 31, id := bitsOf idw 28 0, fd := txdFlag s d 0, brs := txdFlag s d 1, dlc := txd s d 5 1
                            data := txPayload s o.gen d o.got }
      let inst : TxInst := ⟨d, 4 * uid + at_, s.now, f⟩
      let s3 := mbcUpd at_ (fun x => { x with
        nextUid := uid + 1, queue := x.queue.filter (fun i => i.desc ≠ d) ++ [inst] }) s2
      if q.isSome then bump (Reg.mbcCntSuperseded at_) 1 s3 else s3
    else if s.mbcBad.contains d then s
    else { s with mbcBad := d :: s.mbcBad } |> bump (Reg.mbcCntSrcBad n) 1 |> raise_ (0x0E + n) 6

/-! ### Journal map records (R510-R512) -/

/-- A map record's state. -/
def mapSt (s : State) (k : Nat) : MapSt := tabGet (fun _ => ({} : MapSt)) s.maps k

/-- Store it. -/
def putMap (k : Nat) (x : MapSt) (s : State) : State := { s with maps := tabSet (fun _ => ({} : MapSt)) s.maps k x }

/-- A field of map record k. -/
def mapRec (s : State) (k off n : Nat) : Nat := cfgNat s 0x0902 k off n

/-- What the words of a map record keep when their latch gives nothing: the previous values with a tag. -/
def mapKeeps (dst n : Nat) (t : Tag) : List Act := (List.range n).map (fun i => Act.keep (dst + i) t false)

/-- R512: what record k writes, word by word, with its effects. -/
def mapDecide (k : Nat) (s : State) : List Act × State :=
  let x := mapSt s k
  let fl := mapRec s k 4 1
  let n := fl % 4
  let ofs := mapRec s k 5 1
  let cnt := mapRec s k 6 1
  let dst := mapRec s k 8 4
  match x.fresh, x.data with
  | true, some p =>
    if p.length < ofs + 4 * cnt then
      (mapKeeps dst cnt .bad, s |> putMap k { x with stale := false } |> bump (Reg.mbcCntMapLen n) 1 |> raise_ (0x0E + n) 8)
    else
      let word (i : Nat) : Nat :=
        let b := (p.drop (ofs + 4 * i)).take 4
        if bitOf fl 3 then beNat b else leNat b
      ((List.range cnt).map (fun i => Act.put (dst + i) ⟨BitVec.ofNat 32 (word i), .good⟩),
        putMap k { x with fresh := false, age := 0, stale := false } s)
  | _, _ =>
    if x.age ≤ mapRec s k 7 1 then (mapKeeps dst cnt .held, putMap k { x with stale := false } s)
    else
      let s1 := putMap k { x with stale := true } s
      (mapKeeps dst cnt .bad, if x.stale then s1 else s1 |> bump (Reg.mbcCntMapStale n) 1 |> raise_ (0x0E + n) 7)

/-! ### Marine field maps (R540-R542) -/

/-- A field of field map k. -/
def fmap (s : State) (k off n : Nat) : Nat := cfgNat s 0x0B01 k off n

/-- A field map's latch. -/
def mslMap (s : State) (k : Nat) : MapSt := tabGet (fun _ => ({} : MapSt)) s.mslMaps k

/-- Store it. -/
def putMslMap (k : Nat) (x : MapSt) (s : State) : State := { s with mslMaps := tabSet (fun _ => ({} : MapSt)) s.mslMaps k x }

/-- The texts between the commas of a sentence, up to "*". -/
def mslFields (body : List Nat) : List (List Nat) :=
  let go := (body.takeWhile (· ≠ 42)).foldl (fun (acc : List (List Nat) × List Nat) c =>
    if c = 44 then (acc.1 ++ [acc.2], []) else (acc.1, acc.2 ++ [c])) ([], [])
  go.1 ++ [go.2]

/-- Is a character a digit. -/
def isDigit (c : Nat) : Bool := decide (48 ≤ c) && decide (c ≤ 57)

/-- The number that a list of digits spells. -/
def digitsNat (l : List Nat) : Nat := l.foldl (fun a c => 10 * a + (c - 48)) 0

/-- Digits with an optional point: the value and the count of whole digits; none where the text is something else. -/
def decimalOf (l : List Nat) : Option (Rat × Nat) :=
  let a := l.takeWhile isDigit
  let r := l.drop a.length
  match r with
  | [] => if a = [] then none else some ((digitsNat a : Rat), a.length)
  | c :: f =>
    if c = 46 ∧ f.all isDigit ∧ a ++ f ≠ [] then
      some ((digitsNat (a ++ f) : Rat) / (10 ^ f.length : Nat), a.length)
    else none

/-- A geographic coordinate with `d` digits of degrees, in 1e-7 degree, rounded to nearest. -/
def coordOf (d : Nat) (l hemi : List Nat) (neg : Nat) (pos : Nat) : Option Nat :=
  match decimalOf (l.drop d) with
  | some (m, 2) =>
    if (l.take d).length = d ∧ (l.take d).all isDigit ∧ (hemi = [neg] ∨ hemi = [pos]) then
      let v := roundHalfUp (((digitsNat (l.take d) : Rat) + m / 60) * 10000000)
      some (toSigned 32 (if hemi = [neg] then -v else v))
    else none
  | _ => none

/-- R541: the word of a field; none where it is empty, missing or not convertible. -/
def mslConvert (s : State) (k : Nat) (body : List Nat) : Option Nat :=
  let fs := mslFields body
  let i := fmap s k 1 1
  match fs[i]? with
  | none => none
  | some f =>
    match fmap s k 2 1 with
    | 1 =>
      let neg := f.head? == some 45
      let g := if neg || f.head? == some 43 then f.drop 1 else f
      (decimalOf g).map (fun x =>
        let v := fOfQ f64 (if neg then -x.1 else x.1)
        let sc := fOfBits f32 (fmap s k 0x10 4)
        let of_ := fOfBits f32 (fmap s k 0x14 4)
        fToBits f32 (fConv f32 (fAdd f64 (fMul f64 sc v) of_)))
    | 2 => coordOf 2 f (fs.getD (i + 1) []) 83 78
    | 3 => coordOf 3 f (fs.getD (i + 1) []) 87 69
    | 4 =>
      match decimalOf (f.drop 4) with
      | some (sec, 2) =>
        if (f.take 4).length = 4 ∧ (f.take 4).all isDigit then
          some (toSigned 32 (3600000 * (digitsNat (f.take 2) : Int) + 60000 * (digitsNat ((f.drop 2).take 2) : Int)
            + (sec * 1000).floor))
        else none
      | _ => none
    | _ => f.head?

/-- R542: what field map k writes, with its effects. -/
def fieldDecide (k : Nat) (s : State) : List Act × State :=
  let x := mslMap s k
  let n := fmap s k 0 1 % 2
  let w := fmap s k 0x0C 4
  let prev (t : Tag) : List Act := mapKeeps w 1 t
  let conv := x.data.bind (mslConvert s k)
  match x.fresh, conv with
  | true, none => (prev .bad, s |> putMslMap k { x with stale := false } |> bump (Reg.mslCntParse n) 1 |> raise_ 0x12 4)
  | true, some v => ([.put w ⟨BitVec.ofNat 32 v, .good⟩], putMslMap k { x with fresh := false, stale := false } s)
  | false, _ =>
    match decide (x.age ≤ fmap s k 9 1), conv with
    | true, some v => ([.put w ⟨BitVec.ofNat 32 v, .good⟩], putMslMap k { x with stale := false } s)
    | _, _ =>
      if x.age ≤ fmap s k 0x0A 1 then (prev .held, putMslMap k { x with stale := false } s)
      else
        let s1 := putMslMap k { x with stale := true } s
        (prev .bad, if x.stale then s1 else s1 |> bump (Reg.mslCntMapStale n) 1 |> raise_ 0x12 5)

/-- An entry takes over what a map decides. -/
def entryDecide (uid : Nat) (f : State → List Act × State) (s : State) : State :=
  let r := f s
  entryUpd uid (fun x => { x with res := x.res ++ r.1 }) r.2

end Sys2Proof.Machine
end

