-- ==== Sys2Proof/Machine/Jobs.lean ====
section
/-! DEFINITION. The jobs of the solver engine: descriptors (R390-R393), the five types and their residuals (R386-R408), and what SLV_START
and SLV_COLLECT do at their clocks (R397-R399, R407-R413). -/

namespace Sys2Proof.Machine

/-! ### Descriptors (R390, R391) -/

/-- A field of descriptor d. -/
def desc (s : State) (d off n : Nat) : Nat := cfgNat s 0x0801 d off n

/-- A binary64 value of the table block; bytes beyond its length read 0 (R389). -/
def tableVal (s : State) (off : Nat) : Nat :=
  leNat ((List.range 8).map (fun i =>
    if off + i < cfgCount s 0x0802 then (cfgBlock s 0x0802 (off + i) 1).headD 0 else 0))

/-- Elements of operand k of descriptor d. -/
def opLen (s : State) (d k : Nat) : Nat :=
  let o := 0x20 + 16 * k
  let r := desc s d (o + 2) 2
  match desc s d (o + 1) 1 with
  | 0 => r * desc s d (o + 4) 2
  | 1 => r * (r + 1) / 2
  | 2 => r
  | _ => 1

/-- The image words that a descriptor gathers, in operand order (R397). -/
def gatherWords (s : State) (d : Nat) : List Nat :=
  (List.range 12).flatMap (fun k =>
    if desc s d (0x20 + 16 * k) 1 = 1 then (List.range (opLen s d k)).map (fun i => desc s d (0x28 + 16 * k) 4 + i) else [])

/-- The operands of a descriptor, the image words given as read. -/
def gatherOps (s : State) (d : Nat) (cells : List ICell) : List (List Nat) :=
  ((List.range 12).foldl (fun (acc : List (List Nat) × List ICell) k =>
    let n := opLen s d k
    match desc s d (0x20 + 16 * k) 1 with
    | 1 => (acc.1 ++ [(acc.2.take n).map (fun c => toB64 (w32 c.val))], acc.2.drop n)
    | 2 => (acc.1 ++ [(List.range n).map (fun i => tableVal s (desc s d (0x28 + 16 * k) 4 + 8 * i))], acc.2)
    | _ => (acc.1 ++ [[]], acc.2)) ([], cells)).1

/-! ### A job as the engine and the lanes see it -/

/-- A job: its type, dimensions and operands. -/
structure Job where
  ty : Nat
  n : Nat
  p : Nat
  m : Nat
  fk : Bool
  floorExp : Nat
  bits : List (List Nat)

/-- Operand k as binary64 values. -/
def Job.op (j : Job) (k : Nat) : Vec := (j.bits.getD k []).map b64

/-- The job of a slot. -/
def jobOf (s : State) (x : JobSlot) : Job :=
  let d := x.desc
  ⟨desc s d 0 1, desc s d 2 2, desc s d 4 2, desc s d 6 2, bitOf (desc s d 1 1) 1, desc s d 0x0A 1, gatherOps s d x.got⟩

/-- Result words of a job (R392): the N of R411 and R412, with the pose of a type-3 job (log entry 92). -/
def Job.resLen (j : Job) : Nat := j.n + (if j.ty = 3 ∧ j.fk then 12 else 0)

/-- A maximum norm of the rows of a matrix. -/
def matNorm (r c : Nat) (m : Nat → Nat → FVal) : FVal :=
  normInf ((List.range r).map (fun i => (List.range c).foldl (fun a k => dAdd a (fAbs (m i k))) FVal.zero))

/-- The greater of two residual terms; a NaN stays one. -/
def rhoMax (a b : FVal) : FVal := if a.isNan || b.isNan then .nan else fMax a b

/-- R406, type 1. -/
def rhoLinear (j : Job) (x : Vec) : FVal :=
  let a := sym (j.op 0)
  let b := j.op 1
  quot0 (normInf (vSub b (mulVec j.n j.n a x))) (dAdd (dMul (matNorm j.n j.n a) (normInf x)) (normInf b))

/-- R406, type 2. -/
def rhoQp (j : Job) (it : JobIter) : FVal :=
  let x := it.x.map b64
  let lam := it.lam.map b64
  let mu := it.mu.map b64
  let h := sym (j.op 0)
  let c := j.op 1
  let f := j.op 3
  let g := j.op 5
  let gx := mulVec j.m j.n (mat (j.op 4) j.n) x
  let hx := mulVec j.n j.n h x
  let sl := vSub g gx
  let viol := (vSub gx g).map (fun v => if v.isNan then v else fMax v FVal.zero)
  let t1 := quot0 (rhoMax (normInf (vSub (mulVec j.p j.n (mat (j.op 2) j.n) x) f)) (normInf viol))
    (dAdd .one (fMax (normInf f) (normInf g)))
  let grad := vAdd (vAdd (vAdd hx c) (mulVecT j.p j.n (mat (j.op 2) j.n) lam)) (mulVecT j.m j.n (mat (j.op 4) j.n) mu)
  let t2 := quot0 (normInf grad) (dAdd .one (normInf c))
  let obj := dAdd (dMul (.fin false 1 (-1)) (dotN j.n (vat x) (vat hx))) (dotN j.n (vat c) (vat x))
  let t3 := quot0 (dDiv (dotN j.m (vat mu) (vat sl)) (dInt (max j.m 1))) (dAdd .one (fAbs obj))
  if (mu ++ sl).any (fun v => fLt v FVal.zero) then .inf false else rhoMax t1 (rhoMax t2 t3)

/-- R436, R437: what a type-3 job computes. -/
def bodyResult (j : Job) : Vec :=
  let tau := (invDyn j.n (j.op 0) (j.op 1) (j.op 2) (j.op 3) (j.op 4) (j.op 5)).take j.n
  if j.fk then tau ++ endPose j.n (j.op 0) (j.op 1) (j.op 4) else tau

/-- What a type-5 job computes. -/
def matVecResult (j : Job) : Vec := mulVec j.n j.p (mat (j.op 0) j.p) (j.op 1)

/-- R406, types 3 and 5: an own computation against an iterate. -/
def rhoOwn (own got : Vec) : FVal := quot0 (normInf (vSub own got)) (dAdd .one (normInf own))

/-- R406, type 4. -/
def rhoTask (j : Job) (q : Vec) : FVal :=
  quot0 (normInf (taskError j.n (j.op 0) q (j.op 2) (j.op 4))) (dAdd .one (normInf ((j.op 2).take 3)))

/-- R406: the relative residual of an iterate. -/
def jobRho (j : Job) (it : JobIter) : FVal :=
  let x := it.x.map b64
  match j.ty with
  | 1 => rhoLinear j x
  | 2 => rhoQp j it
  | 3 =>
    let own := bodyResult j
    if j.fk then rhoMax (rhoOwn (own.take j.n) (x.take j.n)) (rhoOwn (own.drop j.n) (x.drop j.n)) else rhoOwn own x
  | 4 => rhoTask j x
  | _ => rhoOwn (matVecResult j) x

/-- One iteration (R401): the new iterate, the pivots replaced, and whether every operation stayed finite. -/
def jobStep (j : Job) (first : Bool) (it : JobIter) : JobIter × Nat × Bool :=
  match j.ty with
  | 1 =>
    let a := sym (j.op 0)
    let f := ldl j.n j.floorExp a
    let x := it.x.map b64
    let r := if first then j.op 1 else vSub (j.op 1) (mulVec j.n j.n a x)
    let y := ldlSolve j.n f r
    let z := if first then y else vAdd x y
    ({ it with x := z.map toB64 }, (if first then f.clamps else 0), allFin (f.nums ++ r ++ y ++ z))
  | 2 =>
    let st := [it.x, it.lam, it.mu, it.slack]
    let nx := Config.qpIterate j.floorExp (j.bits.take 6) st
    let part (k n : Nat) : List Nat := (List.range n).map (fun i => (nx.getD k []).getD i 0)
    let y : JobIter := ⟨part 0 j.n, part 1 j.p, part 2 j.m, part 3 j.m⟩
    (y, Config.qpClamps j.floorExp (j.bits.take 6) st, allFin ((y.x ++ y.lam ++ y.mu ++ y.slack).map b64))
  | 3 => let y := bodyResult j; ({ it with x := y.map toB64 }, 0, allFin y)
  | 4 =>
    let r := ikStep j.n j.floorExp (j.op 0) (it.x.map b64) (j.op 2) (j.op 3) (j.op 4) (j.op 5)
    ({ it with x := r.1.map toB64 }, r.2.1, allFin r.2.2)
  | _ => let y := matVecResult j; ({ it with x := y.map toB64 }, 0, allFin y)

/-- How far a job has come: iterations completed, the last completed iterate, its residual, pivots replaced, and its end cause
(0: not ended). -/
structure JobRun where
  count : Nat
  iter : JobIter
  rho : FVal
  clamps : Nat
  cause : Nat

/-- R401, R404: run at most `fuel` iterations of a job. -/
def runJob (j : Job) (tol : FVal) (cap : Nat) : Nat → JobRun → JobRun
  | 0, r => r
  | fuel + 1, r =>
    if r.cause ≠ 0 then r
    else
      let st := jobStep j (r.count == 0) r.iter
      let c := r.clamps + st.2.1
      if !st.2.2 then { r with clamps := c, cause := 4 }
      else
        let rho := jobRho j st.1
        let cause := if j.ty = 3 ∨ j.ty = 5 ∨ fLe rho tol then 1 else if cap ≤ r.count + 1 then 2 else 0
        runJob j tol cap fuel ⟨r.count + 1, st.1, rho, c, cause⟩

/-- R401: the point a job starts from. -/
def jobStart (s : State) (x : JobSlot) (j : Job) : JobIter :=
  let warm := if bitOf (desc s x.desc 1 1) 0 then x.warm else none
  let one := toB64 .one
  match j.ty with
  | 2 =>
    match warm with
    | some w => { w with slack := (List.range j.m).map (fun i => (Config.qpCentre (j.bits.take 6) [w.x, w.lam, w.mu]).getD i 0) }
    | none =>
      ⟨List.replicate j.n 0, List.replicate j.p 0, List.replicate j.m one, (j.op 5).map (fun g => toB64 (fMax g .one))⟩
  | 4 =>
    let q := j.bits.getD 1 []
    match warm with
    | some w => { x := (List.range j.n).map (fun i => if jtSolved (j.op 0) i then w.x.getD i 0 else q.getD i 0) }
    | none => { x := q }
  | _ => {}

/-- TOL and TOL_LOOSE of a descriptor. -/
def jobTol (s : State) (d : Nat) : FVal := b64 (desc s d 0x10 8)
def jobTolLoose (s : State) (d : Nat) : FVal := b64 (desc s d 0x18 8)

/-- R388: T1, and the bound of a job of k iterations in solver cycles. -/
def boundT1 (n : Nat) : Nat := (n ^ 3 + 47) / 48 + 40 * n + 200
def jobBound (j : Job) (k : Nat) : Nat :=
  match j.ty with
  | 1 => boundT1 j.n + (k - 1) * ((j.n ^ 2 + 7) / 8 + 100)
  | 2 => 1000 + k * ((j.m * j.n ^ 2 + 15) / 16 + boundT1 (j.n + j.p) + 8 * j.m + 300)
  | 3 => 420 * j.n + 600
  | 4 => k * (500 * j.n + boundT1 6 + 400)
  | _ => (j.n * j.p + 15) / 16 + 4 * j.n + 64

/-- R407: the bound of the lane check in control clocks. -/
def checkBound (j : Job) : Nat :=
  match j.ty with
  | 1 => j.n ^ 2 + 2 * j.n + 100
  | 2 => j.n ^ 2 + j.m * j.n + 2 * j.p * j.n + 4 * j.m + 200
  | 3 => 250 * j.n + 300
  | 4 => 200 * j.n + 300
  | _ => j.n * j.p + 100

/-! ### Job slots -/

/-- A job slot, and its change. -/
def jobSlot (s : State) (j : Nat) : JobSlot := tabGet (fun _ => ({} : JobSlot)) s.slv.slots j
def putJob (j : Nat) (x : JobSlot) (s : State) : State :=
  { s with slv := { s.slv with slots := tabSet (fun _ => ({} : JobSlot)) s.slv.slots j x } }

/-- A job slot ends with a cause (R398-R405): STATE and CAUSE of SLOTj_STATE. -/
def jobEnds (j cause : Nat) (s : State) : State :=
  setFld (Reg.slvSlotState j) 31 24 (3 * 16 + cause) { s with slv := { s.slv with queue := s.slv.queue.filter (· ≠ j) } }

/-! ### The end of the gathering (R398, R399) -/

/-- R398, R399: the words of a job are gathered: it ends EMPTY or INPUT_BAD, or may run, and the slot records INPUT_NOT_GOOD. -/
def entryGathered (uid : Nat) (s : State) : State :=
  match entryOf s uid with
  | none => s
  | some o =>
    let j := bitsOf o.e.arg0 2 0
    if cfgNat s 0x0801 (jobSlot s j).desc 2 2 = 0 then jobEnds j 5 s
    else if o.got.all usableF then
      s |> putJob j { jobSlot s j with got := o.got, ready := true }
        |> setFlag (Reg.slvSlotState j) 18 (o.got.any (fun c => c.tag != .good))
    else s |> jobEnds j 6 |> bump Reg.slvCntInputBad 1 |> raise_ 0x0C 7

/-! ### The lane check (R407, R408) -/

/-- R407, R408: the lanes' value of the residual of slot j's iterate. -/
def laneCheck (j : Nat) (s : State) : State :=
  let x := jobSlot s j
  match x.checkDue, x.iter with
  | true, some it =>
    let rho := jobRho (jobOf s x) it
    let s1 := s |> putJob j { x with checkDue := false, rho := toB64 rho }
      |> wrF (Reg.slvSlotRho j) (fConv f32 rho) |> pmcInc 37
    if fld s (Reg.slvSlotState j) 27 24 = 1 ∧ fLe rho (jobTol s x.desc) = false then
      s1 |> setFlag (Reg.slvSlotState j) 17 true |> bump Reg.slvCntDisagree 1 |> raise_ 0x0C 6
    else s1
  | _, _ => s

/-! ### The outcome of a collect (R396, R409-R413) -/

/-- √(a² + b²) and atan2(b, a) in degrees of one pair (R396). -/
def polarPair (a b : FVal) : FVal × FVal :=
  if a.isZero && b.isZero then (FVal.zero, FVal.zero)
  else
    let ang : FVal := match a, b with
      | .fin na ma ea, .fin nb mb eb =>
        let e := min ea eb
        fOfQ f64 (atan2Deg (sgnM nb mb * 2 ^ (eb - e).toNat) (sgnM na ma * 2 ^ (ea - e).toNat))
      | _, _ => .nan
    (fSqrt f64 (fFma f64 a a (dMul b b)), ang)

/-- R396: the first k pairs in polar form. -/
def polarForm : Nat → Vec → Vec
  | k + 1, a :: b :: t => let p := polarPair a b; p.1 :: p.2 :: polarForm k t
  | _, l => l

/-- R395: results converted to binary32 once; none where one overflows. -/
def to32 (l : Vec) : Option (List Word) :=
  let r := l.map (fConv f32)
  if allFin r then some (r.map toW32) else none

/-- Write n words BAD, each with a value the manual leaves open (log entry 28). -/
def badCells (n : Nat) (s : State) : List ICell × State :=
  ((List.range n).map (fun i => ⟨Config.badValue (s.draws + i), .bad⟩), { s with draws := s.draws + n })

/-- What a collect writes to its result words: these cells, or the previous values with tag HELD. -/
inductive Results where
  | cells (l : List ICell)
  | held

/-- R411: the fallback of slot j, from the pattern word and the inputs as read. -/
def fallbackCells (j : Nat) (cells : List ICell) (s : State) : List ICell × State :=
  let d := (jobSlot s j).desc
  let job := jobOf s (jobSlot s j)
  let cols := desc s d 0xF8 2
  let named := decide (desc s d 0xF4 4 < imgWords)
  let pat : ICell := if named then cells.headD cellInit else ⟨0, .good⟩
  let xs := if named then cells.drop 1 else cells
  let p := pat.val.toNat
  let base := desc s d 0xEC 4 + p * 8 * job.resLen * (cols + 1)
  let x : Vec := xs.map (fun c => w32 c.val)
  let y : Vec := (List.range job.resLen).map (fun i =>
    dAdd (dotN cols (fun k => b64 (tableVal s (base + 8 * (i * cols + k)))) (vat x))
      (b64 (tableVal s (base + 8 * (job.resLen * cols + i)))))
  let ok := decide (p < desc s d 0xFA 1) && usableTag pat.tag && xs.all usableF
  match (if ok then to32 (polarForm (desc s d 0x0B 1) y) else none) with
  | some vs => (vs.map (fun v => ⟨v, .subst⟩), setFld (Reg.slvSlotState j) 23 20 4 s)
  | none =>
    let r := badCells job.resLen s
    (r.1, r.2 |> setFld (Reg.slvSlotState j) 23 20 5 |> setFlag (Reg.slvSlotState j) 15 true)

/-- R411: the words that the fallback of slot j reads. -/
def fallbackWords (s : State) (j : Nat) : List Nat :=
  let d := (jobSlot s j).desc
  let pw := desc s d 0xF4 4
  (if pw < imgWords then [pw] else []) ++ (List.range (desc s d 0xF8 2)).map (fun i => desc s d 0xF0 4 + i)

/-- R409, R411: a collect publishes the fallback. One whose words are BAD publishes nothing that R410 could hold (log entry 92). -/
def slvFallback (uid : Nat) (e : Entry) (j : Nat) (s : State) : Results × State :=
  let w := readVoted uid e (fallbackWords s j) s
  let r := fallbackCells j w.1 w.2
  (.cells r.1, r.2 |> when_ (!flag r.2 (Reg.slvSlotState j) 15) (fun t => putJob j { jobSlot t j with published := true } t)
    |> bump Reg.slvCntFallback 1 |> raise_ 0x0C 4 |> pmcInc 39)

/-- R410: a collect publishes no solver result: its age rises. -/
def slvAges (j : Nat) (s : State) : State :=
  s |> setFld (Reg.slvSlotState j) 7 0 (satAdd 255 (fld s (Reg.slvSlotState j) 7 0) 1) |> pmcInc 38

/-- R410: a collect that fails. -/
def slvFails (uid : Nat) (e : Entry) (j : Nat) (s : State) : Results × State :=
  let x := jobSlot s j
  let s1 := slvAges j s
  if x.published = true ∧ fld s1 (Reg.slvSlotState j) 7 0 ≤ desc s x.desc 9 1 then
    (.held, s1 |> setFld (Reg.slvSlotState j) 23 20 3 |> bump Reg.slvCntHeld 1 |> raise_ 0x0C 3)
  else slvFallback uid e j s1

/-- R409: publish the iterate of slot j, GOOD or DEGRADED; a result that overflows binary32 takes the NUMERIC row. -/
def slvPublish (uid : Nat) (e : Entry) (j : Nat) (it : JobIter) (good : Bool) (s : State) : Results × State :=
  let x := jobSlot s j
  match to32 (polarForm (desc s x.desc 0x0B 1) (it.x.map b64)) with
  | some vs =>
    let s1 := s |> putJob j { x with warm := some it, published := true } |> setFld (Reg.slvSlotState j) 7 0 0
      |> setFld (Reg.slvSlotState j) 23 20 (if good then 1 else 2)
    (.cells (vs.map (fun v => ⟨v, if good then .good else .degraded⟩)),
      if good then s1 else s1 |> bump Reg.slvCntDegraded 1 |> raise_ 0x0C 2)
  | none =>
    slvFallback uid e j (slvAges j (s |> setFld (Reg.slvSlotState j) 27 24 4 |> bump Reg.slvCntNumeric 1 |> raise_ 0x0C 0))

/-- R409: the outcome of a collect: what it writes to the result words, and the state after. -/
def slvOutcome (uid : Nat) (e : Entry) (j : Nat) (s : State) : Results × State :=
  let x := jobSlot s j
  let cause := fld s (Reg.slvSlotState j) 27 24
  let s1 := s |> setFlag (Reg.slvSlotState j) 16 (bitOf (effRd s Reg.slvForceFb) j) |> setFlag (Reg.slvSlotState j) 15 false
  if bitOf (effRd s Reg.slvForceFb) j ∨ cause = 4 then slvFallback uid e j (slvAges j s1)
  else if cause = 5 then (.cells [], setFld (Reg.slvSlotState j) 23 20 6 s1)
  else match x.iter with
    | some it =>
      let rho := b64 x.rho
      if fLe rho (jobTol s x.desc) then slvPublish uid e j it (!flag s (Reg.slvSlotState j) 18) s1
      else if fLe rho (jobTolLoose s x.desc) then slvPublish uid e j it false s1
      else slvFails uid e j s1
    | none => slvFails uid e j s1

/-- R409, R412: the result words that a collect of slot j writes: none of an EMPTY job whose fallback is not forced. -/
def resultWords (s : State) (j : Nat) : List Nat :=
  let x := jobSlot s j
  if fld s (Reg.slvSlotState j) 27 24 = 5 ∧ bitOf (effRd s Reg.slvForceFb) j = false then []
  else (List.range (jobOf s x).resLen).map (fun i => desc s x.desc 0x0C 4 + i)

/-- R412, R413: a collect begins: the lane check has ended, and the outcome leaves the words to be written. -/
def entryCollect (uid : Nat) (s : State) : State :=
  match entryOf s uid with
  | none => s
  | some o =>
    let j := bitsOf o.e.arg0 2 0
    let ws := resultWords s j
    let r := slvOutcome uid o.e j (laneCheck j s)
    let acts := match r.1 with
      | .cells l => (ws.zip l).map (fun p => Act.put p.1 p.2)
      | .held => ws.map (fun w => Act.keep w .held false)
    let st := desc s (jobSlot s j).desc 0xE0 4
    entryUpd uid (fun x => { x with res := acts ++
      (if st < imgWords then [.put st ⟨BitVec.ofNat 32 (rd r.2 (Reg.slvSlotState j)), .good⟩] else []) }) r.2

end Sys2Proof.Machine
end

