-- ==== Sys2Proof/Machine/Time.lean ====
section
/-! DEFINITION. The passage of control clocks: what the module does by itself between two commands (notifications, threshold
counters, snapshot capture, writes of outstanding entries), and the dispatch of a schedule entry at its clock (R165). -/

namespace Sys2Proof.Machine

/-! ### Notifications (R570, R571) -/

/-- The 24-byte header of a QAP message (R550). -/
def qapHeader (op flags slot status seq req len : Nat) : List Nat :=
  leBytes 4 0x31504151 ++ [op, flags, slot, status] ++ leBytes 8 seq ++ leBytes 4 req ++ leBytes 2 len ++ leBytes 2 0

/-- R555: the tag of a message under a session key. -/
def qapTag (key msg : List Nat) : List Nat := (hmac256 key msg).take 16

/-- R570: the body of a notification of page p whose bits `new` rose. -/
def noteBody (s : State) (p new : Nat) (lost : Bool) : List Nat :=
  [p, b2n lost] ++ leBytes 2 new ++ leBytes 4 (evtPend s p) ++ leBytes 4 (rd s (Reg.evtRaw p)) ++
    leBytes 4 (rd s (Reg.evtSev p)) ++ leBytes 8 s.tbu.gen ++ leBytes 2 s.tbu.slot ++ leBytes 6 0 ++ leBytes 8 (shipNow s)

/-- R570, R571: one notification to session k, or its loss beyond 64 in the window. -/
def sendNote (p new k : Nat) (s : State) : State :=
  let x := session s k
  if x.state = 2 ∧ bitOf x.mask p then
    if x.notes < 64 then
      let body := noteBody s p new x.lost
      let msg := qapHeader 0x0B 2 k 0 (x.seqOut + 1) 0 body.length ++ body
      putSession k { x with seqOut := x.seqOut + 1, notes := x.notes + 1, lost := false } s
        |> emit (.udp x.port x.ip x.udp (msg ++ qapTag x.key msg)) |> pmcInc 138
    else
      let s1 := putSession k { x with lost := true } s |> bump Reg.sesCntNotifyDrop 1 |> pmcInc 159
      if s1.ses.dropRaised then s1
      else raise_ 0x14 7 { s1 with ses := { s1.ses with dropRaised := true } }
  else s

/-- R73: the notifications and the management interrupt of one page. -/
def sendNotes (e : Nat × Nat) (s : State) : State :=
  let s1 := each (List.range 16) (sendNote e.1 e.2) s
  let sub := rd s1 Reg.sesIntSubLo + rd s1 Reg.sesIntSubHi <<< 32
  if bitOf sub e.1 then s1 |> emit (.mgtIrq e.1) |> pmcInc 218 else s1

/-- R571: report the bits that rose at the present control clock, page by page. -/
def flushNotes (s : State) : State :=
  each s.ses.noteBuf sendNotes { s with ses := { s.ses with noteBuf := [] } }

/-! ### Snapshot capture and commit (R649, R655, R660, R661) -/

/-- The value of a snapshot source as it stands now, with its tag code. -/
def snapValue (s : State) : SnapRef → Word × Nat
  | .reg a => (BitVec.ofNat 32 (peek s a), 0)
  | .img w => ((imgHost s w).val, tagCode (imgHost s w).tag)

/-- R188: a snapshot word read from the image is checked. -/
def snapTouch : SnapRef → State → State
  | .reg _, s => s
  | .img w, s => hostTouch w s

/-- Capture the next snapshot word of a record; an image word read from a later generation sets SNAP_LATE. -/
def captureRec (s : State) (r : GRec) : GRec :=
  match r.todo with
  | [] => r
  | x :: t =>
    let late := match x with
      | .img _ => decide (wideGet s Reg.imgGenReadLo ≠ r.readGen)
      | .reg _ => false
    { r with snaps := r.snaps ++ [snapValue s x], todo := t, flags := if late then putBit r.flags 3 true else r.flags }

/-- Apply a change to the first element that satisfies a condition. -/
def amendFirst {α : Type} (p : α → Bool) (f : α → α) : List α → List α
  | [] => []
  | x :: t => if p x then f x :: t else x :: amendFirst p f t

/-- R655: capture one word, in queue order. -/
def captureOne (s : State) : State :=
  match s.grn.queue.find? (fun r => r.todo ≠ []) with
  | some r0 =>
    let t := each (r0.todo.take 1) snapTouch s
    pmcInc 182 { t with grn := { t.grn with queue := amendFirst (fun r => r.todo ≠ []) (captureRec t) t.grn.queue } }
  | none => s

/-- Snapshot words still to be captured. -/
def captureLeft (s : State) : Nat := s.grn.queue.foldl (fun n r => n + r.todo.length) 0

/-- R655: capture n words, one per control clock. -/
def captureN : Nat → State → State
  | 0, s => s
  | n + 1, s => captureN n (captureOne s)

/-- R649, R650, R658: commit a record to the ring. -/
def commitRing (r : GRec) (s : State) : State :=
  let g := s.grn
  let q := g.headSeq + 1
  let old := if q + 1 - g.oldestSeq > 65536 then g.oldestSeq + 1 else g.oldestSeq
  let rec_ := { r with seq := q, flags := if g.droppedBefore then putBit r.flags 1 true else r.flags }
  let s1 := pmcInc 177 { s with grn := { g with
      ring := tabSet (fun _ => none) g.ring (q % 65536) (some rec_), headSeq := q, oldestSeq := old,
      droppedBefore := false, records := satAdd 0xFFFFFFFF g.records 1 } }
  if q + 1 - old = 65536 ∧ g.headSeq + 1 - g.oldestSeq < 65536 then raise_ 0x16 4 s1 else s1

/-- R660, R661: place a record in the staging queue of a freeze, or lose it. -/
def stageRec (r : GRec) (s : State) : State :=
  if s.grn.staging.length < 256 then
    pmcInc 180 { s with grn := { s.grn with staging := s.grn.staging ++ [{ r with flags := putBit r.flags 0 true }] } }
  else
    let s1 := { s with grn := { s.grn with
        stageLost := s.grn.stageLost + 1, stageOver := satAdd 0xFFFFFFFF s.grn.stageOver 1 } }
    if s.grn.stageLost = 0 then raise_ 0x16 2 s1 else s1

/-- Capture whatever a record still lacks. -/
def captureAll (s : State) : Nat → GRec → GRec
  | 0, r => r
  | n + 1, r => captureAll s n (captureRec s r)

/-- R655: commit the record at the front of the capture queue. -/
def commitFront (s : State) : State :=
  match s.grn.queue with
  | [] => s
  | r :: t =>
    let s0 := each r.todo snapTouch s
    let s1 := { s0 with grn := { s0.grn with queue := t, dropping := false } }
    let r1 := captureAll s0 16 r
    let s2 := pmcAdd 182 r.todo.length s1
    if s.grn.freeze.isSome then stageRec r1 s2 else commitRing r1 s2

/-- Commit every record of the capture queue. -/
def commitAll (s : State) : State := (List.range 64).foldl (fun t _ => commitFront t) s

/-- Commit every staged record, in order. -/
def commitStaged (s : State) : State :=
  each s.grn.staging commitRing { s with grn := { s.grn with staging := [] } }

/-! ### What entries in progress do (R166) -/

/-- What an entry does at a clock, besides what it has decided before. -/
def doAct1 (uid : Nat) (e : Entry) (s : State) : Act → State
  | .put w c => entryWrite uid w (fun _ => c) s
  | .keep w t bad => entryKeep uid w t bad s
  | .copy src dst => entryCopy uid e src dst s
  | .fetch w => entryFetch uid e w s
  | .gathered => entryGathered uid s
  | .collect => entryCollect uid s
  | .send => entrySend uid s
  | .loop k => entryLoop uid k s
  | .mapRec k => entryDecide uid (mapDecide k) s
  | .fieldMap k => entryDecide uid (fieldDecide k) s
  | .next => s

/-- What an entry in progress does at a clock. -/
def doAct (uid : Nat) (a : Act) (s : State) : State :=
  match entryOf s uid with
  | none => s
  | some o =>
    match a, o.res with
    | .next, b :: t => doAct1 uid o.e (entryUpd uid (fun x => { x with res := t }) s) b
    | _, _ => doAct1 uid o.e s a

/-- R166: what entries in progress do by clock c, in the order of their dispatch; an entry whose last clock has come ends. -/
def settle (c : Nat) (s : State) : State :=
  let due := s.seq.outst.flatMap (fun o => (o.todo.filter (fun a => a.1 ≤ c)).map (fun a => (o.uid, a.2)))
  let s1 := { s with seq := { s.seq with
      outst := s.seq.outst.map (fun o => { o with todo := o.todo.filter (fun a => c < a.1) }) } }
  let s2 := each due (fun d t => doAct d.1 d.2 t) s1
  { s2 with seq := { s2.seq with outst := s2.seq.outst.filter (fun o => c < o.last) } }

/-! ### Clocks -/

/-- R668: threshold counter k counts d clocks while its occupancy exceeds N. -/
def thrCount (d k : Nat) (s : State) : State :=
  let c := rd s (Reg.pmcThrCfg k)
  if bitsOf c 15 0 < occupancy s (bitsOf c 31 24) ∧ bitsOf c 31 24 ≠ 0 then
    let v := tabGet (fun _ => (0 : Nat)) s.pmc.thr k + d
    { s with pmc := { s.pmc with
        thr := tabSet (fun _ => (0 : Nat)) s.pmc.thr k (v % 2 ^ 48)
        sticky := if v < 2 ^ 48 then s.pmc.sticky else s.pmc.sticky ||| 2 ^ (224 + k)
        wrapped := s.pmc.wrapped || decide (2 ^ 48 ≤ v) } }
  else s

/-- R667: raise WRAP for the wraps counted since the last clock. -/
def wrapCheck (s : State) : State :=
  if s.pmc.wrapped then raise_ 0x17 0 { s with pmc := { s.pmc with wrapped := false } } else s

/-- R526: publications whose copy into the transmit buffer has ended by clock c leave. -/
def netSends (c : Nat) (s : State) : State :=
  let go := s.net.pubs.filter (fun p => p.done ≤ c)
  if go = [] then s
  else
    each go (fun p t => each p.grams (fun g u =>
        u |> emit (.pub p.group p.vlan g) |> bump Reg.netCntPub 1 |> pmcInc 128 |> pmcAdd 129 g.length) t)
      { s with net := { s.net with pubs := s.net.pubs.filter (fun p => c < p.done) } }

/-- Let the control clock run to c, between whose start and end nothing falls due: the notifications of the present clock leave,
counters count, snapshots are captured, and what is due at c happens. -/
def runTo (c : Nat) (s : State) : State :=
  if c ≤ s.now then s
  else
    let d := c - s.now
    let s1 := flushNotes s
    let s2 := pmcAdd 0 d (each (List.range 16) (thrCount d) s1)
    let s3 := captureN (min d (captureLeft s2)) s2
    wrapCheck (netSends c (settle c { s3 with now := c }))

/-- Put a clock into a rising list. -/
def insertClock (k : Nat) : List Nat → List Nat
  | [] => [k]
  | y :: t => if k < y then k :: y :: t else if k = y then y :: t else y :: insertClock k t

/-- The clocks, after the present and before c, at which something falls due: what entries in progress do, and their ends (R166),
and the ends of publication copies (R526). -/
def dueClocks (c : Nat) (s : State) : List Nat :=
  let l := s.seq.outst.flatMap (fun o => o.todo.map (fun a => a.1) ++ [o.last]) ++ s.net.pubs.map (fun p => p.done)
  (l.filter (fun k => s.now < k ∧ k < c)).foldr insertClock []

/-- Let the control clock run to c, through every clock at which something falls due. -/
def advanceTo (c : Nat) (s : State) : State := runTo c (each (dueClocks c s) runTo s)

/-- R646: µs since supply valid at power-on, or since the reset order, saturating in 24 bits. -/
def startUs (s : State) : Nat := min 0xFFFFFF ((s.now - s.pwr.originClk) / 200)

/-! ### Dispatch (R140, R165, R173, R177) -/

/-- The bookkeeping of a dispatch: the clock of the position, and the counters of R666 and R668. -/
def beginDispatch (pos : Nat) (s : State) : State :=
  let s1 := advanceTo (dispatchClock s pos) s
  pmcInc (if pos < 8 then 2 else 3) { s1 with seq := { s1.seq with slotEntries := s1.seq.slotEntries + 1 } }

/-- R165, R173: an entry falls due in its slot: it is dispatched at its clock, or waits while 32 producer entries are outstanding or
earlier entries wait; lanes that are behind then go on. -/
def dispatchEntry (run : Entry → EntryIo → State → State) (e : Entry) (io : EntryIo) (s : State) : State :=
  let s1 := beginDispatch e.pos s
  let s2 := if s1.seq.held ≠ [] ∨ 32 ≤ (producers s1).length then
      { s1 with seq := { s1.seq with held := s1.seq.held ++ [(e, io)] } }
    else run e io s1
  catchUp (s2.now + 1) s2.seq.behind s2

/-- R37, R140, R144: dispatch a scheduled entry: only the one that the schedule in force gives next. -/
def dispatch (run : Entry → EntryIo → State → State) (e : Entry) (io : EntryIo) (s : State) : State :=
  let due := { e with slot := seqSlot s }
  if dispatching s ∧ s.seq.swapDue = false ∧ nextEntry s = some due then
    dispatchEntry run due io { s with seq := { s.seq with pos := s.seq.pos + 1 } }
  else s

end Sys2Proof.Machine
end

