-- ==== Sys2Proof/Machine/Dio.lean ====
section
/-! DEFINITION. The discrete channels (R277-R292). -/

namespace Sys2Proof.Machine

/-- R282, R604: what a channel does on entering a line state. -/
def lineEnter (n : Nat) (old new : Nat) (s : State) : State :=
  if old ≠ new ∧ lineFaulty new then
    let s1 := s |> bump Reg.dioCntLineFault 1 |> pmcInc 187 |> raise_ 0x07 0
    if dioIsOut s n ∧ (new = 1 ∨ new = 2 ∨ new = 3) then handback 2 n s1 else s1
  else s

/-- Set or clear one held line condition of a channel. -/
def setCond (n c : Nat) (b : Bool) (s : State) : State :=
  { s with dio := { s.dio with conds := putBit s.dio.conds (4 * n + c) b } }

/-- R282: a channel in NOT_USED is not monitored: it holds no condition, and its test pulses count from the start. -/
def dropConds (n : Nat) (s : State) : State :=
  let t := each (List.range 4) (fun c => setCond n c false) s
  { t with dio := { t.dio with
    testFail := tabSet (fun _ => (0 : Nat)) t.dio.testFail n 0, testPass := tabSet (fun _ => (0 : Nat)) t.dio.testPass n 0
    testClk := tabSet (fun _ => none) t.dio.testClk n none } }

/-- R282: apply a change that can move line states, and count and raise what it leads to. -/
def withLines (f : State → State) (s : State) : State :=
  let t := f s
  each (List.range 48) (fun n u =>
    let v := lineEnter n (lineState s n) (lineState t n) u
    if lineState t n = 6 ∧ lineState s n ≠ 6 then dropConds n v else v) t

/-- Switch the command of an output, counting a change. -/
def dioSet (n : Nat) (on : Bool) (s : State) : State :=
  let s1 := if bitOf s.dio.cmd n = on then s else pmcInc 185 s
  { s1 with dio := { s1.dio with cmd := putBit s1.dio.cmd n on } }

/-- The slots left of a running pulse. -/
def dioPulse (s : State) (n : Nat) : Option Nat := tabGet (fun _ => (none : Option Nat)) s.dio.pulse n

/-- Store the slots left of a pulse. -/
def putPulse (n : Nat) (v : Option Nat) (s : State) : State :=
  { s with dio := { s.dio with pulse := tabSet (fun _ => (none : Option Nat)) s.dio.pulse n v } }

/-- R287: start a pulse of k slots at the present slot boundary; a running one restarts. -/
def startPulse (n k : Nat) (s : State) : State :=
  let again := match dioPulse s n with
    | some m => decide (0 < m)
    | none => false
  s |> when_ again (bump Reg.dioCntPulseRetrig 1) |> pmcInc 186 |> dioSet n true |> putPulse n (some k)

/-- R286, R287: apply what a dispatched entry asked of an output. -/
def dioApply (n : Nat) (c : Option DioCmd) (s : State) : State :=
  match c with
  | some (.level b) => s |> putPulse n none |> dioSet n b
  | some (.pulse k) => startPulse n k s
  | none => s

/-- One slot of a running pulse passes. -/
def pulseTick (n : Nat) (v : Option Nat) (s : State) : State :=
  match v with
  | some (k + 1) => putPulse n (some k) s
  | _ => s

/-- R283: the test pulse of each monitored input channel n begins at slot (TEST_CFG.SLOT + 64·n) mod 4,096. -/
def testPulses (s : State) : State :=
  each (List.range 48) (fun n t =>
    if (fld t Reg.dioTestCfg 11 0 + 64 * n) % 4096 = t.tbu.slot ∧ dioIsIn t n ∧ flag t (Reg.dioChCfg n) 4 ∧ listening t = false then
      { t with dio := { t.dio with testClk := tabSet (fun _ => none) t.dio.testClk n (some t.tbu.edge) } }
    else t) s

/-- R286, R287: the slot boundary for the outputs, and the input states that DIO_SAMPLE takes (R281). -/
def dioSlot (s : State) : State :=
  let s1 := each s.dio.pulse (fun e t => pulseTick e.1 e.2 t) s
  let s2 := each s.dio.next (fun e t => dioApply e.1 e.2 t) { s1 with dio := { s1.dio with next := [] } }
  testPulses { s2 with dio := { s2.dio with qualAtSlot := s2.dio.qual } }

/-- Ask an output for a change at the next slot boundary; a later entry of the slot decides (R288). -/
def dioAsk (n : Nat) (c : DioCmd) (s : State) : State :=
  { s with dio := { s.dio with next := tabSet (fun _ => (none : Option DioCmd)) s.dio.next n (some c) } }

/-- The channels of an entry's two masks (R136). -/
def maskChannels (m0 m1 : Nat) : List Nat :=
  (List.range 48).filter (fun n => if n < 32 then bitOf m0 n else bitOf m1 (n - 32))

/-- R281: DIO_SAMPLE. -/
def runDioSample (e : Entry) (s : State) : State :=
  let chs := (maskChannels e.arg1 e.arg2).filter (dioIsIn s)
  let val (lo hi : Nat) := (chs.filter (fun n => lo ≤ n ∧ n < hi ∧ bitOf s.dio.qualAtSlot n)).foldl (fun m n => m + 2 ^ (n - lo)) 0
  let bad (lo hi : Nat) := chs.any (fun n => decide (lo ≤ n ∧ n < hi) && lineFaulty (lineState s n))
  let tag (lo hi : Nat) := if fsLow s || bad lo hi then Tag.degraded else Tag.good
  let due := s.tbu.edge + 20
  addWrites e
    [(due, e.arg3, ⟨BitVec.ofNat 32 (val 0 32), tag 0 32⟩), (due, e.arg3 + 1, ⟨BitVec.ofNat 32 (val 32 48), tag 32 48⟩)] s

/-- R289: the fault action of an output. -/
def faultAct (n : Nat) (s : State) : State :=
  match fld s (Reg.dioChCfg n) 17 16 with
  | 1 => dioAsk n (.level false) s
  | 2 => dioAsk n (.level true) s
  | _ => s

/-- R286, R287, R289: what DIO_DRIVE asks of one masked output. -/
def driveOne (len : Nat) (w0 w1 : ICell) (n : Nat) (s : State) : State :=
  let c := if n < 32 then w0 else w1
  let bit := bitOf c.val.toNat (n % 32)
  if c.tag = .bad ∨ c.tag = .init then faultAct n s
  else if len = 0 then dioAsk n (.level bit) s
  else if bit then dioAsk n (.pulse len) s
  else s

/-- R286-R291: DIO_DRIVE with its words. The bring-up schedule drives nothing (R290), and HOLD drives no stage (R607). -/
def driveWords (e : Entry) (w0 w1 : ICell) (s : State) : State :=
  let bad := w0.tag = .bad ∨ w0.tag = .init ∨ w1.tag = .bad ∨ w1.tag = .init
  let s1 := if bad then
      let t := bump Reg.dioCntCmdFault 1 s
      if t.dio.cmdFault then t else raise_ 0x07 4 { t with dio := { t.dio with cmdFault := true } }
    else { s with dio := { s.dio with cmdFault := false } }
  if s.seq.sched = 1 ∨ role s = roleHold then s1
  else each ((maskChannels e.arg1 e.arg2).filter (fun n => dioFunc s n = 3)) (driveOne e.arg0 w0 w1) s1

/-- R286: DIO_DRIVE reads its words one clock after its dispatch. -/
def runDioDrive (e : Entry) (s : State) : State :=
  consume e [e.arg3, e.arg3 + 1] (fun l => driveWords e (l.getD 0 cellInit) (l.getD 1 cellInit)) (advanceTo (s.now + 1) s)

/-- R290: at the start of bring-up service every output of FUNC 0x3 takes START. -/
def dioStart (s : State) : State :=
  each ((List.range 48).filter (fun n => dioFunc s n = 3)) (fun n t => dioSet n (flag t (Reg.dioChCfg n) 18) t)
    { s with dio := { s.dio with connected := driving s } }

/-- R281: DIO_SAMPLE at position `pos` with its two masks and its destination word. -/
def execDioSample (pos mask0 mask1 dst : Nat) (s : State) : Host.Outcome State Fault Refusal :=
  .next (dispatch (fun e _ t => runDioSample e t) ⟨0x03, 0x07, 0, mask0, mask1, dst, 0, pos⟩ {} s)

/-- R287: DIO_DRIVE at position `pos` with its pulse length, two masks and source word. -/
def execDioDrive (pos len mask0 mask1 src : Nat) (s : State) : Host.Outcome State Fault Refusal :=
  .next (dispatch (fun e _ t => runDioDrive e t) ⟨0x04, 0x07, len, mask0, mask1, src, 0, pos⟩ {} s)

/-- R279, R280: the next `us` samples of input `ch`, one per microsecond, those of its test pulse left out, show `mv` at its
terminal. The raw state follows the thresholds, and the qualified state follows it when it has stood for FILTER. -/
def execDiQualify (ch : Fin 48) (mv : Int) (us : Nat) (s : State) : Host.Outcome State Fault Refusal :=
  .next (if dioIsIn s ch then
    let last := bitOf s.dio.raw ch
    let raw := rawLevel (dioFunc s ch) last mv
    let stood := min 25500 ((if raw = last then tabGet (fun _ => (0 : Nat)) s.dio.rawUs ch else 0) + us)
    let d := { s.dio with raw := putBit s.dio.raw ch raw, rawUs := tabSet (fun _ => (0 : Nat)) s.dio.rawUs ch stood }
    { s with dio := if fld s (Reg.dioChCfg ch) 15 8 * 100 ≤ stood then { d with qual := putBit d.qual ch raw } else d }
  else s)

/-- R278: FS+ has stayed below 18.0 V for 1 ms; `mv` is its voltage. -/
def execFsLow (mv : Nat) (s : State) : Host.Outcome State Fault Refusal :=
  .next (if mv < 18000 ∧ fsLow s = false then
    withLines (setFlag (Reg.stat 0x07) 1 true) (wr Reg.dioFsVolt (min mv 65535) s) |> raise_ 0x07 3 else s)

/-- R278: FS+ has stayed at or above 19.0 V for 100 ms. -/
def execFsLowClear (mv : Nat) (s : State) : Host.Outcome State Fault Refusal :=
  .next (if 19000 ≤ mv ∧ fsLow s then withLines (setFlag (Reg.stat 0x07) 1 false) (wr Reg.dioFsVolt (min mv 65535) s) else s)

/-- R283: the test pulse of a monitored input ends, 150 µs after it began, with `mv` at the terminal: it fails when the raw input
reads on. Two failures in a row enter SHORT and two passes in a row leave it. -/
def testPulseEnd (ch : Nat) (mv : Int) (s : State) : State :=
    let readsOn := rawLevel (dioFunc s ch) (bitOf s.dio.raw ch) mv
    let f := if readsOn then min 2 (tabGet (fun _ => 0) s.dio.testFail ch + 1) else 0
    let p := if readsOn then 0 else min 2 (tabGet (fun _ => 0) s.dio.testPass ch + 1)
    let s1 := pmcInc 184 { s with dio := { s.dio with
      testFail := tabSet (fun _ => (0 : Nat)) s.dio.testFail ch f, testPass := tabSet (fun _ => (0 : Nat)) s.dio.testPass ch p } }
    if f = 2 then withLines (setCond ch 1 true) s1
    else if p = 2 then withLines (setCond ch 1 false) s1
    else s1

/-- R283: TEST_PULSE: the end of the test pulse that channel `ch` is at. -/
def execTestPulse (ch : Fin 48) (mv : Int) (s : State) : Host.Outcome State Fault Refusal :=
  .next (match tabGet (fun _ => (none : Option Nat)) s.dio.testClk ch with
    | some c =>
      if dioIsIn s ch ∧ flag s (Reg.dioChCfg ch) 4 ∧ listening s = false ∧ s.now ≤ c + 30000 then
        let s1 := advanceTo (c + 30000) s
        testPulseEnd ch mv { s1 with dio := { s1.dio with testClk := tabSet (fun _ => none) s1.dio.testClk ch none } }
      else s
    | none => s)

/-- R282: a line condition (0 OPEN, 1 SHORT, 2 OVERLOAD, 3 EXT_FEED) can hold on channel n: SHORT of an input comes from its test
pulses, OPEN of an output shows while it is on, EXT_FEED while it is off. -/
def condCan (s : State) (n c : Nat) : Bool :=
  lineState s n != 6 &&
    (if dioIsIn s n then c == 0 || c == 2
     else if c = 0 then bitOf (dioOut s) n else if c = 3 then !bitOf s.dio.cmd n else true)

/-- R282: a line condition of a channel has held, or has been absent, for its time. -/
def execLineStateChange (ch : Fin 48) (cond : Fin 4) (holds : Bool) (s : State) : Host.Outcome State Fault Refusal :=
  .next (if holds = false ∨ condCan s ch cond then withLines (setCond ch cond holds) s else s)

/-- R284: an output in SHORT, or in OVERLOAD, is switched off; a retry that met the same state within 1 s raises nothing. -/
def execOutputShort (ch : Fin 48) (overload : Bool) (s : State) : Host.Outcome State Fault Refusal :=
  .next (if dioIsOut s ch ∧ listening s = false then
    let st := if overload then 2 else 1
    let quiet := tabGet (fun _ => 0) s.dio.offState ch = st
      ∧ s.now < tabGet (fun _ => 0) s.dio.retryClk ch + 200000000
    let s1 := { s with dio := { s.dio with
      prot := putBit s.dio.prot ch true, offState := tabSet (fun _ => (0 : Nat)) s.dio.offState ch st
      offClk := tabSet (fun _ => (0 : Nat)) s.dio.offClk ch s.now } }
    let s2 := if overload then s1 else bump Reg.dioCntShort 1 s1
    if quiet then s2 else raise_ 0x07 (if overload then 2 else 1) s2
  else s)

/-- R284: after OUT_RETRY.SECONDS the output follows its command again. -/
def execOutputRetry (ch : Fin 48) (s : State) : Host.Outcome State Fault Refusal :=
  .next (if bitOf s.dio.prot ch ∧ tabGet (fun _ => 0) s.dio.offClk ch + fld s Reg.dioOutRetry 7 0 * 200000000 ≤ s.now then
    { s with dio := { s.dio with
      prot := putBit s.dio.prot ch false, retryClk := tabSet (fun _ => (0 : Nat)) s.dio.retryClk ch s.now } }
  else s)

/-- R287: a pulse that has reached its slot count turns its output off. -/
def execPulseEnd (ch : Fin 48) (s : State) : Host.Outcome State Fault Refusal :=
  .next (if dioPulse s ch = some 0 then s |> putPulse ch none |> dioSet ch false else s)

/-- R600: 100 µs after sensing the new token the former active module's discrete stages let go. -/
def execDiscreteStageLetGo (s : State) : Host.Outcome State Fault Refusal :=
  .next (if s.red.own ≠ .present ∧ s.red.partner = .present then
    { s with dio := { s.dio with connected := false } } else s)

end Sys2Proof.Machine
end

