-- ==== Sys2Proof/Machine/Shaft.lean ====
section
/-! DEFINITION. The pulse inputs (R293-R302) and the shaft angle of the timebase (R101-R110). -/

namespace Sys2Proof.Machine

/-! ### The shaft (R101-R110) -/

/-- TBU.SHAFT_CFG in force: ENABLE, SRC and TEETH. -/
def shaftOn (s : State) : Bool := bitOf (effRd s Reg.tbuShaftCfg) 31
def shaftSrc (s : State) : Nat := effFld s Reg.tbuShaftCfg 29 28
def shaftTeeth (s : State) : Nat := max 1 (effFld s Reg.tbuShaftCfg 12 0)

/-- TBU.SHAFT_INDEX_OFS: the index angle. -/
def shaftOfs (s : State) : Nat := fld s Reg.tbuShaftIndexOfs 15 0

/-- SHAFT_STATE.STATE: 0 DISABLED, 1 UNREFERENCED, 2 RUNNING, 3 STANDSTILL. -/
def shaftState (s : State) : Nat := fld s Reg.tbuShaftState 1 0

/-- R101: the angle now, from the index: the tooth angle, advanced at the speed of the last interval and stopped one count short of
the next tooth. -/
def shaftFromIndex (s : State) : Nat :=
  let n := shaftTeeth s
  let k := s.tbu.tooth
  let base := toothAngle k n
  let gap := toothAngle (k + 1) n - base
  let back := base + 65536 - (if k = 0 then toothAngle (n - 1) n else toothAngle (k - 1) n + 65536)
  let moved := if s.tbu.interval = 0 then 0 else (s.now - s.tbu.angleClk) * 65536 / (n * s.tbu.interval)
  if s.tbu.reverse then (base + 131072 - min moved (back - 1)) % 65536 else (base + min moved (gap - 1)) % 65536

/-- R101: the shaft angle: measured from the index plus SHAFT_INDEX_OFS. -/
def shaftAngle (s : State) : Nat := (shaftFromIndex s + shaftOfs s) % 65536

/-- R102: what the speed magnitude divides into 12 × 10^12 to give 0.001 rpm: teeth times the last tooth interval, or the time since
the last edge when longer; 0 when the shaft has shown no interval. -/
def shaftSpan (s : State) : Nat :=
  if s.tbu.interval = 0 then 0 else shaftTeeth s * max s.tbu.interval (s.now - s.tbu.edgeClk)

/-- R106, R107: the speed magnitude, exact, lies below or above `q` thousandths of a revolution per minute. -/
def slowerThan (q : Nat) (s : State) : Bool := shaftSpan s == 0 || decide (12000000000000 < q * shaftSpan s)
def fasterThan (q : Nat) (s : State) : Bool := shaftSpan s != 0 && decide (q * shaftSpan s < 12000000000000)

/-- R102: the speed magnitude as it is reported, in 0.001 rpm. -/
def shaftSpeedAbs (s : State) : Nat :=
  if shaftSpan s = 0 then 0 else (roundHalfUp (Rat.divInt 12000000000000 (shaftSpan s : Nat))).toNat

/-- SHAFT_STATE.QUEUE: the queue occupancy code. -/
def shaftQueueCode (n : Nat) : Nat := if n = 0 then 0 else if n ≤ 8 then 1 else if n ≤ 15 then 2 else 3

/-- Show the shaft on the TBU page (R115). -/
def showShaft (s : State) : State :=
  let sp := shaftSpeedAbs s
  s |> setFld Reg.tbuShaftState 3 2 (shaftQueueCode s.tbu.queue.length)
    |> setFlag Reg.tbuShaftState 4 s.tbu.reverse
    |> wr Reg.tbuShaftAngle ((s.tbu.rev % 65536) <<< 16 + shaftAngle s)
    |> wr Reg.tbuShaftSpeed (toSigned 32 (if s.tbu.reverse then -(sp : Int) else sp))

/-- Count one shaft entry as missed (R105, R108). -/
def shaftMiss (s : State) : State := s |> bump Reg.tbuCntShaftMissed 1 |> pmcInc 213 |> raise_ 0x03 7

/-- R105, R108: a due entry enters the queue, or is missed when the shaft stands still or the queue is full. -/
def shaftDue (i : Nat) (s : State) : State :=
  let s1 := pmcInc 212 { s with tbu := { s.tbu with done := i :: s.tbu.done } }
  if shaftState s = 3 ∨ 16 ≤ s.tbu.queue.length then shaftMiss s1
  else { s1 with tbu := { s1.tbu with queue := s1.tbu.queue ++ [i] } }

/-- The angle of shaft record i (R142). -/
def shaftRecAngle (s : State) (i : Nat) : Nat := cfgNat s 0x0303 i 16 2

/-- The angle of shaft record i as counted from the index. -/
def recFromIndex (s : State) (i : Nat) : Nat := (shaftRecAngle s i + 65536 - shaftOfs s) % 65536

/-- R105: put the numbers of shaft records into ascending order of their angle from the index. -/
def byAngle (s : State) (l : List Nat) : List Nat :=
  l.foldl (fun (t : List Nat) i => t.filter (fun j => recFromIndex s j ≤ recFromIndex s i) ++ i ::
    t.filter (fun j => !decide (recFromIndex s j ≤ recFromIndex s i))) []

/-- The records not yet done whose angle from the index satisfies `p`, in ascending angle. -/
def recsAt (s : State) (p : Nat → Bool) : List Nat :=
  byAngle s ((List.range (cfgCount s 0x0303)).filter (fun i => !s.tbu.done.contains i && p (recFromIndex s i)))

/-- R103, R105: the records not yet done in the forward interval (old, new] of angles from the index, first those before the angle
passes the index angle. -/
def shaftCrossed (s : State) (old new : Nat) : List Nat :=
  if old ≤ new then recsAt s (fun a => decide (old < a) && decide (a ≤ new))
  else recsAt s (fun a => decide (old < a)) ++ recsAt s (fun a => decide (a ≤ new))

/-- R103, R104, R108: compare the angle held at the previous boundary with the present one; a shaft that has gone back since then
makes nothing due. -/
def shaftCompare (s : State) : State :=
  let new := shaftFromIndex s
  let s1 := if (shaftState s = 2 ∨ shaftState s = 3) ∧ s.tbu.reverse = false ∧ s.tbu.backed = false then
      each (shaftCrossed s s.tbu.angleOld new) shaftDue s else s
  { s1 with tbu := { s1.tbu with angleOld := new, backed := false } }

/-- R106, R116: enter a shaft state, with its event. -/
def shaftEnter (st : Nat) (s : State) : State :=
  let s1 := setFld Reg.tbuShaftState 1 0 st s
  match st with
  | 3 => raise_ 0x03 5 s1
  | 2 => raise_ 0x03 6 s1
  | 1 => when_ (shaftState s == 2 || shaftState s == 3) (raise_ 0x03 10) s1
  | _ => s1

/-- R106: the speed thresholds at a slot boundary. -/
def shaftSpeedCheck (s : State) : State :=
  if shaftState s = 2 ∧ slowerThan 100 s then shaftEnter 3 s
  else if shaftState s = 3 ∧ slowerThan 125 s = false then shaftEnter 2 s
  else s

/-- R107, R115: overspeed above 3,000 rpm is raised once per entry into it. -/
def shaftOverspeed (s : State) : State :=
  let o := fasterThan 3000000 s
  let s1 := setFlag Reg.tbuShaftState 5 o { s with tbu := { s.tbu with overspeed := o } }
  if o ∧ s.tbu.overspeed = false then raise_ 0x03 9 s1 else s1

/-- The shaft at a slot boundary (R103, R106). The speed is checked first, so what is crossed at a boundary that enters STANDSTILL
counts as missed (DESIGN CHOICE, log entry 79). -/
def shaftSlot (s : State) : State :=
  if shaftState s = 0 then s else s |> shaftOverspeed |> shaftSpeedCheck |> shaftCompare |> showShaft

/-- A tooth edge of the shaft source (R101, R102, R106, R107). A reverse edge sets the angle of the tooth before the one held
(DESIGN CHOICE, log entry 79). -/
def shaftEdge (rev : Bool) (s : State) : State :=
  if shaftState s = 0 then s
  else
    let n := shaftTeeth s
    let t := s.tbu
    let k := if rev then (t.tooth + n - 1) % n else (t.tooth + 1) % n
    let s1 := { s with tbu := { t with
      tooth := k, interval := if t.edgeClk = 0 then 0 else s.now - t.edgeClk, edgeClk := s.now, angleClk := s.now, reverse := rev,
      backed := t.backed || rev, sinceIndex := t.sinceIndex + 1 } }
    let s2 := if (shaftState s = 2 ∨ shaftState s = 3) ∧ 2 * n ≤ t.sinceIndex + 1 then
        shaftEnter 1 s1 else s1
    s2 |> shaftOverspeed |> showShaft

/-- An index of the shaft source (R103, R106, R110). DESIGN CHOICE (log entry 79): out of UNREFERENCED it enters RUNNING from
0.100 rpm and its number of edges is not checked; it lies ahead of the angle held when the forward way to it is at most half a
revolution. -/
def shaftIndex (rev : Bool) (s : State) : State :=
  if shaftState s = 0 then s
  else
    let old := s.tbu.angleOld
    let at_ (t : State) : State :=
      { t with tbu := { t.tbu with
          tooth := 0, angleClk := t.now, sinceIndex := 0, reverse := rev, angleOld := 0, backed := t.tbu.backed || rev } }
    if shaftState s = 1 then
      let s1 := at_ s
      let s2 := { s1 with tbu := { s1.tbu with rev := 0, done := [], queue := [] } }
      showShaft (shaftEnter (if slowerThan 100 s then 3 else 2) s2)
    else
      let s0 := if s.tbu.sinceIndex ≠ shaftTeeth s then
          s |> bump Reg.tbuCntShaftToothErr 1 |> raise_ 0x03 8 else s
      if rev then showShaft (at_ s0)
      else
        let ahead := decide (32768 ≤ old) || old == 0
        let s1 := if ahead && !s0.tbu.backed then each (shaftCrossed s0 old 0) shaftDue s0 else s0
        let keep := if ahead then [] else s1.tbu.done.filter (fun i => recFromIndex s i ≤ old)
        let s2 := at_ s1
        showShaft { s2 with tbu := { s2.tbu with rev := s2.tbu.rev + 1, done := keep } }

/-- SHAFT_CFG takes effect: UNREFERENCED, or DISABLED when ENABLE is 0 (R106). -/
def shaftConfigure (s : State) : State :=
  let s1 := { s with tbu := { s.tbu with queue := [], done := [], interval := 0, edgeClk := 0, sinceIndex := 0, tooth := 0 } }
  showShaft (shaftEnter (if shaftOn s1 then 1 else 0) s1)

/-! ### Pulse inputs -/

/-- Store a pulse input. -/
def putPiu (n : Nat) (x : PiuIn) (s : State) : State :=
  { s with piu := tabSet (fun _ => ({} : PiuIn)) s.piu n x }

/-- An accepted tooth edge of input n (R294-R296). -/
def piuEdge (n : Nat) (rev : Bool) (s : State) : State :=
  let x := piu s n
  let t := piuTeeth s n
  let iv := match x.lastClk with
    | some c => s.now - c
    | none => 0
  let isOver := decide (0 < iv ∧ iv * 55000 < 200000000)
  let y := { x with
    count := if rev then (x.count + 2 ^ 32 - 1) % 2 ^ 32 else (x.count + 1) % 2 ^ 32
    tooth := if rev then (x.tooth + t - 1) % t else (x.tooth + 1) % t
    reverse := rev, stalled := false, lastClk := some s.now, interval := iv
    edges := x.edges + 1, firstClk := if x.edges = 0 then s.now else x.firstClk
    overNow := x.overNow || isOver, overLatch := x.overLatch || isOver }
  s |> putPiu n y |> pmcInc (188 + n) |> when_ isOver (pmcInc 199)

/-- R294, R299: is an edge at the present clock too soon after the previous one. -/
def piuTooSoon (s : State) (n : Nat) : Bool :=
  match (piu s n).lastClk with
  | some c => decide (s.now - c < effFld s (Reg.piuCfg n) 15 8 * 20)
  | none => false

/-- The slot boundary for the pulse inputs: what PIU_LATCH delivers of count and angle (R297). -/
def piuSlot (s : State) : State :=
  each (List.range 4) (fun n t =>
    putPiu n { piu t n with countAtSlot := (piu t n).count, angleAtSlot := piuAngleWord t n } t) s

/-- The major-cycle boundary for the pulse inputs: OVERFREQ of the cycle just ended (R307, R308). -/
def piuMajor (s : State) : State :=
  each (List.range 4) (fun n t =>
    let x := piu t n
    let t1 := putPiu n { x with overfreq := x.overNow, overNow := false } t
    if x.overNow ∧ x.overfreq = false then raise_ 0x08 (8 + n) t1 else t1) s

/-- R297: the frequency of a latch at the present clock, binary32: over the span of the interval's edges, else decayed. -/
def latchFreq (s : State) (x : PiuIn) : FVal :=
  match x.lastClk with
  | none => FVal.zero
  | some c =>
    if 2 ≤ x.edges ∧ x.firstClk < c then fOfRat f32 ((x.edges - 1) * 200000000 : Nat) (c - x.firstClk)
    else if x.stalled then FVal.zero
    else if s.now = c then fOfBits f32 x.fPrev
    else fMin (fOfBits f32 x.fPrev) (fOfRat f32 200000000 (s.now - c))

/-- R297: the speed word: ±60 × f / TEETHn, rounded once; its sign gives the direction in ENCODER mode (R296). -/
def latchSpeed (s : State) (n : Nat) (f : FVal) : FVal :=
  let sp := fOfQ f32 (60 * fRat0 f / piuTeeth s n)
  if piuMode s n = 1 ∧ (piu s n).reverse then fNeg sp else sp

/-- R297, R298: PIU_LATCH. -/
def runPiuLatch (e : Entry) (s : State) : State :=
  let n := bitsOf e.arg0 1 0
  let x := piu s n
  let f := latchFreq s x
  let bad := piuMode s n = 0 ∨ x.lineFault ∨ x.faultLatch
  let noIdx := x.indexed = false ∨ bitOf (effRd s (Reg.piuCfg n)) 5 = false
  let tagA := if bad then Tag.bad else if x.overLatch then Tag.degraded else Tag.good
  let tagB := if bad then Tag.bad else if x.overLatch then Tag.limited else Tag.good
  let tagC := if noIdx then Tag.bad else tagA
  let due := s.tbu.edge + 20
  let s1 := s |> putPiu n { x with
      edges := 0, firstClk := 0, overLatch := false, faultLatch := x.lineFault, fPrev := fToBits f32 f } |> pmcInc 198
  addWrites e
    [(due, e.arg1, ⟨BitVec.ofNat 32 x.countAtSlot, tagA⟩), (due, e.arg1 + 1, ⟨toW32 f, tagB⟩),
     (due, e.arg1 + 2, ⟨toW32 (latchSpeed s n f), tagB⟩), (due, e.arg1 + 3, ⟨BitVec.ofNat 32 x.angleAtSlot, tagC⟩)] s1

/-- R293: the direction from the phase of A and B, under CFGn.FWD: with FWD 0 the shaft turns forward when A leads B, with FWD 1 when B
leads A. In the other modes every edge is forward. -/
def piuReverse (s : State) (n : Nat) (aLeads : Bool) : Bool :=
  piuMode s n == 1 && bitOf (effRd s (Reg.piuCfg n)) 4 == aLeads

/-- R293, R295: the same for the shaft, with TBU.SHAFT_CFG.FWD. -/
def shaftReverse (s : State) (n : Nat) (aLeads : Bool) : Bool :=
  piuMode s n == 1 && bitOf (effRd s Reg.tbuShaftCfg) 27 == aLeads

/-- R294: a tooth edge of input `n` at control clock `clk`, with A leading B or B leading A; `both` when A and B changed in one
clock. -/
def execToothEdge (n : Fin 4) (clk : Nat) (aLeads both : Bool) (s : State) : Host.Outcome State Fault Refusal :=
  let s1 := advanceTo clk s
  let enc := piuMode s1 n = 1
  .next (if piuMode s1 n = 0 then s1
    else if enc ∧ both then s1 |> bump (Reg.piuCntErr n) 1 |> pmcInc 197 |> raise_ 0x08 (4 + n)
    else if piuTooSoon s1 n then s1 |> bump (Reg.piuCntErr n) 1 |> pmcInc 196
    else
      let s2 := piuEdge n (piuReverse s1 n aLeads) s1
      if shaftOn s2 ∧ shaftSrc s2 = n then shaftEdge (shaftReverse s1 n aLeads) s2 else s2)

/-- R295, R110: an index of input `n` at control clock `clk`, passed with A leading B or B leading A. -/
def execIndexEdge (n : Fin 4) (clk : Nat) (aLeads : Bool) (s : State) : Host.Outcome State Fault Refusal :=
  let s1 := advanceTo clk s
  .next (if piuMode s1 n = 0 ∨ bitOf (effRd s1 (Reg.piuCfg n)) 5 = false then s1
    else
      let r := piuReverse s1 n aLeads
      let x := piu s1 n
      let s2 := s1 |> putPiu n { x with tooth := 0, indexed := true, rev := if r then x.rev else x.rev + 1 }
        |> pmcInc (192 + n)
      if shaftOn s1 ∧ shaftSrc s1 = n then shaftIndex (shaftReverse s1 n aLeads) s2 else s2)

/-- R299: the line fault of input `n` is found, or has gone. -/
def execPiLineFault (n : Fin 4) (stands : Bool) (s : State) : Host.Outcome State Fault Refusal :=
  let x := piu s n
  .next (if piuMode s n = 0 then s
    else if stands then
      let s1 := putPiu n { x with lineFault := true, faultLatch := true } s
      if x.lineFault then s1 else raise_ 0x08 n s1
    else putPiu n { x with lineFault := false } s)

/-- R296: 10 s have passed without an edge on input `n`. -/
def execPiStall (n : Fin 4) (s : State) : Host.Outcome State Fault Refusal :=
  .next (if (piu s n).lastClk.getD s.pwr.originClk + 2000000000 ≤ s.now then putPiu n { piu s n with stalled := true } s else s)

/-- R297: PIU_LATCH of an input into four words. -/
def execPiuLatch (pos input dst : Nat) (s : State) : Host.Outcome State Fault Refusal :=
  .next (dispatch (fun e _ t => runPiuLatch e t) ⟨0x05, 0x08, input, dst, 0, 0, 0, pos⟩ {} s)

end Sys2Proof.Machine
end

