-- ==== Sys2Proof/Machine/Image.lean ====
section
/-! DEFINITION. The sequencer's position and lags at a slot boundary (R174-R178), the scrub (R189), the bank swap (R183), and the
entries NOP and IMG_COPY (R136). -/

namespace Sys2Proof.Machine

/-! ### The scrub (R189) -/

/-- R189: the line and bank of the present position of the scrub pass. -/
def scrubLine (s : State) : Nat := s.img.scrub / 2 % 16384
def scrubBank (s : State) : Nat := s.img.scrub % 2

/-- R189: every lane reads and corrects one line of one bank; at the end of a pass SCRUB_PASSES counts. -/
def scrubSlot (s : State) : State :=
  if flag s Reg.imgEccCfg 0 then
    let ws := if s.img.upsets = [] then [] else (List.range 16).map (fun i => 16 * scrubLine s + i)
    let s1 := pmcInc 15 (each ws (fun w t => each (lanesLive t) (eccCheck (scrubBank s) w) t) s)
    let s2 := { s1 with img := { s1.img with scrub := (s.img.scrub + 1) % 32768 } }
    if s.img.scrub = 32767 then bump Reg.imgScrubPasses 1 s2 else s2
  else s

/-- R189: the scrub of the present slot waits for the bank swap of its boundary. -/
def scrubAfterSwap (s : State) : Bool := s.seq.swapDue && s.seq.behind == 0 && s.seq.slotClk == s.tbu.edge

/-! ### Position and lags (R174-R177) -/

/-- R165, R174-R176: the sequencer at a slot boundary of the timebase: lanes that dispatch are one boundary further behind, and begin
the slot if they have done the one before; without a schedule only the bank swap of the slot is to come. Lanes that have all stopped
begin nothing. -/
def seqPosition (s : State) : State :=
  if dispatching s then catchUp s.tbu.edge (s.seq.behind + 1) { s with seq := { s.seq with behind := s.seq.behind + 1 } }
  else if s.seq.stopped.all id then s
  else { s with seq := { s.seq with
    behind := 0, pos := 0, extraDone := false, slotClk := s.tbu.edge, past := none, swapDue := s.tbu.slot % 512 == 0 } }

/-- R174, R176, R196: the lags at a boundary; `own` is what lanes A, B and C lag by a failure of their own. The lag of a stopped
lane rises on. -/
def seqLags (own : List Nat) (s : State) : State :=
  let was := slipping s
  let s1 := seqPosition s
  let s2 := { s1 with seq := { s1.seq with
    lags := (List.range 3).map (fun l => if s.seq.stopped.getD l false then min 255 (laneLag s l + 1) else own.getD l 0) } }
  let top := ((List.range 3).map (laneLag s2)).foldl max 0
  let s3 := if fld s Reg.seqLagMax 7 0 < min 255 top then wr Reg.seqLagMax (min 255 top) s2 else s2
  if slipping s3 then
    let s4 := s3 |> bump Reg.seqCntSlip 1 |> pmcInc 5
    if was then s4 else raise_ 0x04 1 s4
  else s3

/-- R177: lane l stops dispatching, which is a lane fault. -/
def laneStops (l : Nat) (s : State) : State :=
  { s with seq := { s.seq with stopped := s.seq.stopped.set l true, lags := s.seq.lags.set l (laneLag s l) } }
    |> raise_ 0x04 2 |> laneFault l

/-- R177: lane `lane`, whose lag exceeds 64 slots, stops. -/
def execLaneStop (lane : Fin 3) (s : State) : Host.Outcome State Fault Refusal :=
  .next (if 64 < laneLag s lane ∧ s.seq.stopped.getD lane false = false then laneStops lane s else s)

/-! ### The bank swap (R172, R183) -/

/-- R172: an entry still outstanding at the swap. -/
def holdEntry (o : OutEntry) (s : State) : State :=
  if o.left = [] then s
  else
    each o.left holdWord s |> countLate
      |> wr Reg.seqLastLate (0xF <<< 28 + (seqSlot s / 512 * 512) <<< 16 + o.e.target <<< 8)
      |> wr Reg.seqLastLateWord (o.left.headD 0) |> bump Reg.imgCntHeldSwap o.left.length |> pmcInc 4 |> pmcAdd 6 o.left.length
      |> raise_ 0x04 0 |> raise_ 0x05 3

/-- R183 steps 2 and 3: the copy set, the flip of the pointers, and the readable generation. -/
def flipBanks (s : State) : State :=
  let lines := s.img.dirty.map (fun e => e.1)
  let n := lines.length
  let ptr := lines.foldl (fun p l => tabSet (fun _ => false) p l (!tabGet (fun _ => false) p l)) s.img.ptr
  let s1 := { s with img := { s.img with copySet := lines, ptr := ptr, dirty := [], gen := s.img.gen + 1 } }
  let s2 := s1 |> wr Reg.imgDirtyLast n |> wideSet Reg.imgGenReadLo s.img.gen |> pmcInc 7
  let s3 := if fld s Reg.imgDirtyMax 14 0 < n then wr Reg.imgDirtyMax n s2 else s2
  if 8192 < n then s3 |> bump Reg.imgCntDirtyOver 1 |> raise_ 0x05 2 else s3

/-- R183: the bank swap of a minor-cycle boundary; in STANDBY and SYNCING the image changes with the copies only (R240, R594). -/
def bankSwap (s : State) : State := if listening s then s else flipBanks (each s.seq.outst holdEntry s)

/-- R175, R183: BANK_SWAP, once when the lanes begin a minor cycle; the scrub of the slot follows where it begins at its boundary
(R189), and lanes that are behind go on. -/
def execBankSwap (s : State) : Host.Outcome State Fault Refusal :=
  .next (if s.seq.swapDue then
    let s1 := bankSwap s
    let s2 := { (when_ (scrubAfterSwap s) scrubSlot s1) with seq := { s1.seq with swapDue := false } }
    catchUp (s2.now + 1) s2.seq.behind s2
  else s)

/-! ### NOP and IMG_COPY -/

/-- R136: NOP at position `pos`. -/
def execNop (pos : Nat) (s : State) : Host.Outcome State Fault Refusal :=
  .next (dispatch (fun _ _ t => t) ⟨0x00, 0, 0, 0, 0, 0, 0, pos⟩ {} s)

/-- R136: IMG_COPY: a word per control clock from the clock after its dispatch, each read as it is written. -/
def runImgCopy (e : Entry) (s : State) : State :=
  let n := bitsOf e.arg0 12 0
  let i := List.range n
  if n = 0 then s
  else goOn e (i.map (e.arg2 + ·)) (s.now + n) (i.map (fun k => (s.now + 1 + k, Act.copy (e.arg1 + k) (e.arg2 + k)))) s

/-- R136: IMG_COPY at position `pos`; `hits` are upsets of stored words that its reads meet (R188, R190). -/
def execImgCopy (pos count src dst : Nat) (hits : List EccHit) (s : State) : Host.Outcome State Fault Refusal :=
  .next (dispatch (fun e _ t => runImgCopy e t) ⟨0x10, 0x05, count, src, dst, 0, 0, pos⟩ {} (each hits strike s))

end Sys2Proof.Machine
end

