-- ==== Sys2Proof/Machine/Gmu.lean ====
section
/-! DEFINITION. The grid measurement (R309-R325): samples, minor-cycle phasors, major-cycle quantities and GMU_SNAP. Sums over
samples are exact; each quantity is rounded to binary64 and then once to binary32 (log entry 22). -/

namespace Sys2Proof.Machine

/-! ### Angles -/

/-- R332: an angle wrapped into -180 ≤ d < +180. -/
def wrap180 (d : Rat) : Rat := d - 360 * (((d + 180) / 360).floor : Int)

/-! ### Samples and spectra -/

/-- The value in force of a binary32 register whose writes take effect later, as an exact number. -/
def ratEff (s : State) (a : Nat) : Rat := fRat0 (fOfBits f32 (effRd s a))

/-- R311, R315: samples 0-255 of input j (0-8) of the major cycle that the present boundary ends; one never taken counts as 0. -/
def gmuSamples (s : State) (j : Nat) : List Int :=
  (((s.gmu.hist.drop 1).take 256).map (fun (v : Nat × List Int) => v.2.getD j 0) ++ List.replicate 256 0).take 256 |>.reverse

/-- DFT bin h of 256 samples, × 2^60: the sums with the sine and with the cosine. -/
def dft (h : Nat) (x : List Int) : Int × Int :=
  (x.zip (List.range 256)).foldl (fun a p =>
    (a.1 + p.1 * sinTab (h * p.2), a.2 + p.1 * cosTab (h * p.2))) (0, 0)

/-- A phasor × 2^60 turned by an angle in degrees, × 2^120. -/
def turn (deg : Rat) (z : Int × Int) : Int × Int :=
  let c := cosFix deg
  let n := sinFix deg
  (z.1 * c - z.2 * n, z.1 * n + z.2 * c)

/-- Square of the RMS, in input units squared, of a phasor × 2^120. -/
def magSq (z : Int × Int) : Rat := Rat.divInt (z.1 * z.1 + z.2 * z.2) (2 ^ 255)

/-- GMU.CFG fields in force. -/
def gmuEn (s : State) (set : Nat) : Bool := bitOf (effRd s Reg.gmuCfg) set
def gmuWire3 (s : State) (set : Nat) : Bool := set != 2 && bitOf (effRd s Reg.gmuCfg) (3 + set)
def gmuRef (s : State) : Nat := effFld s Reg.gmuCfg 9 8
def gmuPowerVb (s : State) : Bool := bitOf (effRd s Reg.gmuCfg) 6

/-- Primary units per sample code of a set (R310): 1/3,200 V at the input. -/
def gmuUnit (s : State) (set : Nat) : Rat :=
  ratEff s (if set = 0 then Reg.gmuRatioVa else if set = 1 then Reg.gmuRatioVb else Reg.gmuRatioIa) / 3200

/-- The nominal value of a set. -/
def gmuNom (s : State) (set : Nat) : Rat := ratEff s (if set = 2 then Reg.gmuNomI else Reg.gmuNomU)

/-- R323: the phase trim of a set, in degrees. -/
def gmuTrim (s : State) (set : Nat) : Rat :=
  if set = 1 then fRat0 (rdF s Reg.gmuPhaseTrimVb)
  else if set = 2 then fRat0 (rdF s Reg.gmuPhaseTrimIa) else 0

/-- The fundamental phasor of an input of a set, trimmed, × 2^120. -/
def gmuPhasor (s : State) (set k : Nat) : Int × Int := turn (gmuTrim s set) (dft 1 (gmuSamples s (3 * set + k)))

/-- The fundamental RMS of a phasor of a set, squared, in primary units. -/
def gmuSq (s : State) (set : Nat) (z : Int × Int) : Rat := magSq z * gmuUnit s set * gmuUnit s set

/-- The square root of an exact value, binary64. -/
def sqrtQ (q : Rat) : FVal := fSqrt f64 (fOfQ f64 q)

/-- The samples of the 4,096 slots before the present boundary (R313). -/
def fitWindow (s : State) : List (Nat × List Int) := (s.gmu.hist.drop 1).take 256

/-- The clock in the middle of the window. -/
def fitMid (s : State) : Nat := ((fitWindow s).foldl (fun a v => a + v.1) 0) / max 1 (fitWindow s).length

/-- Degrees that a frequency runs through in a number of control clocks. -/
def degOver (f : Rat) (clks : Nat) : Rat := 360 * f * (clks : Rat) / 200000000

/-- The frequency at which the samples of a set are fitted: its last estimate (VA's for IA) where that lies in 40-70 Hz, else the
frequency in force. -/
def fitFreq (s : State) (set : Nat) : Rat :=
  let f := fRat0 (b64 (s.gmu.fit.getD (set % 2) (0, 0, 0)).2.2)
  if 40 ≤ f ∧ f ≤ 70 then f else fRat0 (b64 s.tbu.freq)

/-- Each sample with the sine and cosine, × 2^60, of the angle that a frequency runs through from its instant to the boundary. -/
def fitBasis (s : State) (f : Rat) : List (List Int × Int × Int) :=
  (fitWindow s).map (fun v => let a := wrap180 (degOver f (s.tbu.edge - v.1)); (v.2, sinFix a, cosFix a))

/-- R313, R314: the fundamental of input j at the boundary, × 2^60 × 128 like a DFT bin: the sinusoid of the set's frequency that fits
its samples with the least squares, which leaves no leakage of that frequency (DEDUCED, log entry 21). -/
def fitInput (basis : List (List Int × Int × Int)) (j : Nat) : Int × Int :=
  let sum (f : Int → Int → Int → Int) : Int := basis.foldl (fun a b => a + f (b.1.getD j 0) b.2.1 b.2.2) 0
  let ss := sum (fun _ n _ => n * n)
  let sc := sum (fun _ n c => n * c)
  let cc := sum (fun _ _ c => c * c)
  let xs := sum (fun x n _ => x * n)
  let xc := sum (fun x _ c => x * c)
  let det := ss * cc - sc * sc
  (((xc * sc - xs * cc) * 2 ^ 127) / det, ((xc * ss - xs * sc) * 2 ^ 127) / det)

/-- The angle in the middle of the window of the reference phase of a set, the clock of that middle, and the frequency that the
change of this angle since the last boundary gives (DEDUCED, log entry 21). -/
def fitTrack (s : State) (set : Nat) : Rat × Nat × Rat :=
  let f := fitFreq s set
  let z := fitInput (fitBasis s f) (3 * set + gmuRef s)
  let m := fitMid s
  let a := wrap180 (atan2Deg z.2 z.1 - degOver f (s.tbu.edge - m))
  let old := s.gmu.fit.getD set (0, 0, 0)
  let d := m - old.2.1
  (a, m, if old.2.1 = 0 ∨ d = 0 then f
    else f + wrap180 (a - fRat0 (b64 old.1) - degOver f d) * 200000000 / (360 * (d : Rat)))

/-- R313, R323: the fundamental phasors of the nine inputs against the timebase angle, advanced to the present boundary at the
frequency that each set shows, × 2^120. -/
def gmuFit (s : State) (track : List (Rat × Nat × Rat)) : List (Int × Int) :=
  (List.range 3).flatMap (fun set =>
    let f := fitFreq s set
    let t := track.getD (set % 2) (0, 0, 0)
    let turned := wrap180 (gmuTrim s set + degOver t.2.2 (s.tbu.edge - t.2.1) - degOver f (s.tbu.edge - t.2.1)
      - Rat.divInt (360 * (s.tbu.slot : Int)) 4096)
    (List.range 3).map (fun k => turn turned (fitInput (fitBasis s f) (3 * set + k))))

/-- CONV_FAULT of a set stands (R324). -/
def gmuConvFault (s : State) (set : Nat) : Bool := flag s Reg.gmuSetState (4 * set + 3)

/-- Is a sample of the set within the window beyond ±10.20 V (R321). -/
def gmuOver (s : State) (set : Nat) : Bool :=
  ((s.gmu.hist.drop 1).take 256).any (fun v => ((v.2.drop (3 * set)).take 3).any (fun x => 32640 < x.natAbs))

/-- R311: one sample of the nine inputs, at a slot whose number is a multiple of 16. -/
def gmuSample (codes : List Int) (s : State) : State :=
  if s.tbu.slot % 16 = 0 then
    pmcAdd 203 ((codes.take 9).filter (fun x => 32640 < x.natAbs)).length
      { s with gmu := { s.gmu with hist := ((s.tbu.edge, codes) :: s.gmu.hist).take 257 } }
  else s

/-! ### Minor-cycle values (R313, R314) -/

/-- R314: the frequency of a set from its angles, over a minor cycle of `len` control clocks; the timebase runs at f / (1 + s) while it
is stretched (R83; DEDUCED, log entry 81). -/
def gmuFreq (s : State) (now prev : Rat) (len : Nat) : FVal :=
  let tb := fRat0 (b64 s.tbu.freq) * 262144 / ((262144 + s.tbu.stretch : Int) : Rat)
  fOfQ f64 (tb + (if len = 0 then 0 else wrap180 (now - prev) * 200000000 / (360 * (len : Rat))))

/-- Show the minor-cycle values on the GMU page (R340). -/
def gmuShow (s : State) : State :=
  let g := s.gmu
  s |> wr Reg.gmuFreqA (fToBits f32 (fConv f32 (b64 g.freqA))) |> wr Reg.gmuFreqB (fToBits f32 (fConv f32 (b64 g.freqB)))
    |> wr Reg.gmuUA (fToBits f32 (fConv f32 (b64 g.uA))) |> wr Reg.gmuUB (fToBits f32 (fConv f32 (b64 g.uB)))
    |> wr Reg.gmuDelta (fToBits f32 (fOfQ f32 (wrap180 (fRat0 (b64 g.phiB) - fRat0 (b64 g.phiA)))))
    |> wr Reg.gmuSlip (fToBits f32 (fConv f32 (b64 g.slip)))

/-- A run of boundaries, up to 8. -/
def runOf (b : Bool) (n : Nat) : Nat := if b then min 8 (n + 1) else 0

/-- R313, R314: the phasors that the GMU delivers at a minor-cycle boundary. -/
def gmuDeliver (s : State) : State :=
  let len := s.now - s.tbu.minorClk
  let track := (List.range 2).map (fitTrack s)
  let z := gmuFit s track
  let angle (j : Nat) : Rat := let x := z.getD j (0, 0); wrap180 (atan2Deg x.2 x.1)
  let rms (j : Nat) : FVal := sqrtQ (gmuSq s (j / 3) (z.getD j (0, 0)))
  let a := angle (gmuRef s)
  let b := angle (3 + gmuRef s)
  let fa := gmuFreq s a (fRat0 (b64 s.gmu.phiA)) len
  let fb := gmuFreq s b (fRat0 (b64 s.gmu.phiB)) len
  let ua := rms (gmuRef s)
  let ub := rms (3 + gmuRef s)
  let low := gmuNom s 0 / 20
  gmuShow (pmcInc 200 { s with gmu := { s.gmu with
    fit := track.map (fun x => (toB64 (fOfQ f64 x.1), x.2.1, toB64 (fOfQ f64 x.2.2)))
    inputs := (List.range 9).map (fun j => (toB64 (rms j), toB64 (fOfQ f64 (angle j))))
    phiA := toB64 (fOfQ f64 a), phiB := toB64 (fOfQ f64 b), freqA := toB64 fa, freqB := toB64 fb,
    uA := toB64 ua, uB := toB64 ub, slip := toB64 (fSub f64 fb fa), slipPrev := s.gmu.slip, minorLen := len,
    refRunA := runOf (decide (low ≤ fRat0 ua)) s.gmu.refRunA, refRunB := runOf (decide (low ≤ fRat0 ub)) s.gmu.refRunB } })

/-! ### Major-cycle quantities (R315-R321) -/

/-- Mean of the squared samples of an input, in primary units squared. -/
def meanSq (s : State) (set k : Nat) : Rat :=
  let x := gmuSamples s (3 * set + k)
  Rat.divInt (x.foldl (fun a v => a + v * v) 0) 256 * gmuUnit s set * gmuUnit s set

/-- Squares of the magnitudes of bins 1-50 of an input, in code units. -/
def binSq (s : State) (set k : Nat) : List Rat :=
  let x := gmuSamples s (3 * set + k)
  (List.range 50).map (fun i => let z := dft (i + 1) x; Rat.divInt (z.1 * z.1 + z.2 * z.2) (2 ^ 135))

/-- A ratio of two magnitudes given by their squares, in %, binary32. -/
def percentOf (a b : Rat) : FVal := fConv f32 (fMul f64 (fOfInt f64 100) (fDiv f64 (sqrtQ a) (sqrtQ b)))

/-- The phase-to-neutral samples of phase k of a voltage set and how many times too large they are (R317). -/
def phaseSamples (s : State) (set k : Nat) : List Int × Nat :=
  if gmuWire3 s set then
    ((gmuSamples s (3 * set + k)).zip (gmuSamples s (3 * set + (k + 2) % 3)) |>.map (fun p => p.1 - p.2), 3)
  else (gmuSamples s (3 * set + k), 1)

/-- The voltage set that powers use. -/
def powerSet (s : State) : Nat := b2n (gmuPowerVb s)

/-- Active power of phase k. -/
def powerP (s : State) (k : Nat) : Rat :=
  let u := phaseSamples s (powerSet s) k
  let i := gmuSamples s (6 + k)
  Rat.divInt ((u.1.zip i).foldl (fun a p => a + p.1 * p.2) 0) (256 * u.2 : Nat) * gmuUnit s (powerSet s) * gmuUnit s 2

/-- Reactive power of phase k. -/
def powerQ (s : State) (k : Nat) : Rat :=
  let u := phaseSamples s (powerSet s) k
  let zu := turn (gmuTrim s (powerSet s)) (dft 1 u.1)
  let zi := gmuPhasor s 2 k
  Rat.divInt (zu.2 * zi.1 - zu.1 * zi.2) (2 ^ 255 * (u.2 : Int)) * gmuUnit s (powerSet s) * gmuUnit s 2

/-- a·z × 2^60, for the operator a = 1∠120° and its square. -/
def opA (z : Int × Int) : Int × Int := (-(z.1 * 2 ^ 59) - z.2 * sin120, z.1 * sin120 - z.2 * 2 ^ 59)
def opA2 (z : Int × Int) : Int × Int := (-(z.1 * 2 ^ 59) + z.2 * sin120, -(z.1 * sin120) - z.2 * 2 ^ 59)
def scale60 (z : Int × Int) : Int × Int := (z.1 * 2 ^ 60, z.2 * 2 ^ 60)
def cAdd (a b : Int × Int) : Int × Int := (a.1 + b.1, a.2 + b.2)

/-- R316: squares of the magnitudes of the positive, negative and zero sequence of a set, in primary units. -/
def seqSq (s : State) (set : Nat) : List Rat :=
  let x := gmuPhasor s set 0
  let y := gmuPhasor s set 1
  let z := gmuPhasor s set 2
  [cAdd (scale60 x) (cAdd (opA y) (opA2 z)), cAdd (scale60 x) (cAdd (opA2 y) (opA z)),
   cAdd (scale60 x) (cAdd (scale60 y) (scale60 z))].map (fun w => gmuSq s set w / (9 * 2 ^ 120))

/-- R321: a set's words are BAD. -/
def gmuBad (s : State) (set : Nat) : Bool := !gmuEn s set || gmuConvFault s set

/-- The reference-phase fundamental of a set lies below 5 % of nominal. -/
def gmuDead (s : State) (set : Nat) : Bool :=
  decide (fRat0 (sqrtQ (gmuSq s set (gmuPhasor s set (gmuRef s)))) < gmuNom s set / 20)

/-- R321: the tag of an RMS word of a set. -/
def tagRms (s : State) (set : Nat) : Tag := if gmuBad s set then .bad else if gmuOver s set then .limited else .good

/-- R321: the tag of a THD, sequence or harmonic word of a set. -/
def tagDeg (s : State) (set : Nat) : Tag := tagJoin (tagRms s set) (if s.gmu.lockRun < 8 then .degraded else .good)

/-- R321: an angle or frequency word of a set: 0 and BAD while its reference is below 5 %. -/
def cellAngle (s : State) (set : Nat) (q : FVal) : ICell :=
  if gmuDead s set then ⟨0, .bad⟩ else ⟨toW32 q, tagDeg s set⟩

/-- Groups 0-2: the eight words of a set (R319). -/
def setGroup (s : State) (set : Nat) : List ICell :=
  let rms (q : Rat) : ICell := ⟨toW32 (fConv f32 (sqrtQ q)), tagRms s set⟩
  let word3 : ICell :=
    if set = 2 then
      rms (gmuSq s 2 (cAdd (gmuPhasor s 2 0) (cAdd (gmuPhasor s 2 1) (gmuPhasor s 2 2))))
    else cellAngle s set (fConv f32 (b64 (if set = 0 then s.gmu.freqA else s.gmu.freqB)))
  let angle (k : Nat) : ICell :=
    let z := gmuPhasor s set k
    cellAngle s set (fOfQ f32 (wrap180 (atan2Deg z.2 z.1)))
  let b := binSq s set (gmuRef s)
  (List.range 3).map (fun k => rms (meanSq s set k)) ++ [word3] ++ (List.range 3).map angle ++
    [⟨toW32 (percentOf ((b.drop 1).foldl (· + ·) 0) (b.getD 0 0)), tagDeg s set⟩]

/-- Group 3: powers. -/
def powerGroup (s : State) : List ICell :=
  let t := tagJoin (tagDeg s (powerSet s)) (tagDeg s 2)
  let p := (List.range 3).map (powerP s)
  let q := (List.range 3).map (powerQ s)
  (p ++ [p.foldl (· + ·) 0] ++ q ++ [q.foldl (· + ·) 0]).map (fun x => ⟨toW32 (fOfQ f32 x), t⟩)

/-- Groups 4-6: the sequence words of a set; U₀ of a 3-wire set is 0 with SUBST (R317). -/
def seqGroup (s : State) (set : Nat) : List ICell :=
  let t := tagDeg s set
  match seqSq s set with
  | [p, n, z] =>
    [⟨toW32 (fConv f32 (sqrtQ p)), t⟩, ⟨toW32 (fConv f32 (sqrtQ n)), t⟩,
     if gmuWire3 s set then ⟨0, tagJoin .subst t⟩ else ⟨toW32 (fConv f32 (sqrtQ z)), t⟩,
     ⟨toW32 (percentOf n p), t⟩]
  | _ => []

/-- Groups 7-9: the harmonic words of a set. -/
def harmGroup (s : State) (set : Nat) : List ICell :=
  (List.range 3).flatMap (fun k =>
    let b := binSq s set k
    let first : ICell := ⟨toW32 (fConv f32 (sqrtQ (gmuSq s set (gmuPhasor s set k)))), tagRms s set⟩
    first :: (b.drop 1).map (fun x => ⟨toW32 (percentOf x (b.getD 0 0)), tagDeg s set⟩))

/-- Words of each group, and the place of its first word in the result set (R319). -/
def gmuGroupLen (g : Nat) : Nat := [8, 8, 8, 8, 4, 4, 4, 150, 150, 150, 2].getD g 0
def gmuGroupAt (g : Nat) : Nat := ((List.range g).map gmuGroupLen).foldl (· + ·) 0

/-- R324: the check of converter j (0-8) once in a major cycle: a failure stands until the converter has passed 8 checks in a row, and
the set's fault while one of its converters stands so. -/
def convCheck (j : Nat) (failed : Bool) (s : State) : State :=
  let need (i : Nat) (t : State) : Nat := tabGet (fun _ => (0 : Nat)) t.gmu.passNeed i
  let s1 := { s with gmu := { s.gmu with
    passNeed := tabSet (fun _ => (0 : Nat)) s.gmu.passNeed j (if failed then 8 else need j s - 1) } }
  let set := j / 3
  let s2 := setFlag Reg.gmuSetState (4 * set + 3) ((List.range 3).any (fun k => need (3 * set + k) s1 != 0)) s1
  if failed then s2 |> bump Reg.gmuCntConvFault 1 |> raise_ 0x09 1 else s2

/-- R321, R325: DEAD, OVER_RANGE and ROT_REV of a set for the cycle just ended. -/
def gmuSetFlags (set : Nat) (s : State) : State :=
  let dead := gmuDead s set
  let isOver := gmuEn s set && gmuOver s set
  let rot := gmuEn s set && !dead && decide ((seqSq s set).getD 0 0 < (seqSq s set).getD 1 0)
  let s1 := s |> setFlag Reg.gmuSetState (4 * set) dead |> setFlag Reg.gmuSetState (4 * set + 2) isOver
    |> setFlag Reg.gmuSetState (4 * set + 1) rot
  let s2 := if isOver ∧ flag s Reg.gmuSetState (4 * set + 2) = false then raise_ 0x09 0 s1 else s1
  if rot ∧ flag s Reg.gmuSetState (4 * set + 1) = false then s2 |> bump Reg.gmuCntRotRev 1 |> raise_ 0x09 2 else s2

/-- R315: the result set of a major cycle, taken at the boundary that ends it; `fails` has bit j when the check of
converter j failed in the cycle. -/
def gmuMajor (fails : Nat) (s : State) : State :=
  let s1 := each (List.range 9) (fun j t => convCheck j (bitOf fails j) t) (pmcAdd 202 9 s)
  let s2 := each (List.range 3) gmuSetFlags s1
  let s3 := if (List.range 3).any (fun k => gmuEn s2 k && gmuOver s2 k) then bump Reg.gmuCntOverRange 1 s2 else s2
  let words := (List.range 3).flatMap (setGroup s3) ++ powerGroup s3 ++ (List.range 3).flatMap (seqGroup s3) ++
    (List.range 3).flatMap (harmGroup s3) ++
    [⟨BitVec.ofNat 32 (rd s3 Reg.gmuSetState), .good⟩, ⟨BitVec.ofNat 32 s3.gmu.genStart, .good⟩]
  let res := (words.zip (List.range 496)).foldl (fun t p => tabSet (fun _ => cellInit) t p.2 p.1) []
  pmcInc 201 (wideSet Reg.gmuResGenLo s3.gmu.genStart
    { s3 with gmu := { s3.gmu with result := res, genStart := s3.tbu.gen } })

/-! ### GMU_SNAP -/

/-- R319: the words that a group mask selects. -/
def snapCells (s : State) (mask : Nat) : List ICell :=
  ((List.range 11).filter (fun g => bitOf mask g)).flatMap (fun g =>
    (List.range (gmuGroupLen g)).map (fun i => tabGet (fun _ => cellInit) s.gmu.result (gmuGroupAt g + i)))

/-- R319, R320: GMU_SNAP, one word per control clock. -/
def runGmuSnap (e : Entry) (s : State) : State :=
  let ws := snapCells s e.arg0
  addWrites e ((ws.zip (List.range 496)).map (fun p => (s.now + 1 + p.2, e.arg1 + p.2, p.1))) s

/-- R319: GMU_SNAP at position `pos` with its group mask and first destination word. -/
def execGmuSnap (pos mask dst : Nat) (s : State) : Host.Outcome State Fault Refusal :=
  .next (dispatch (fun e _ t => runGmuSnap e t) ⟨0x06, 0x09, mask, dst, 0, 0, 0, pos⟩ {} s)

end Sys2Proof.Machine
end

