-- ==== Sys2Proof/Machine/Timebase.lean ====
section
/-! DEFINITION. The busbar timebase (R81-R99): slot lengths, the phase error and the stretch, the judgement of VA, the state
table of R91, and ship time (R111-R114). -/

namespace Sys2Proof.Machine

/-- LOCK_CNT and VALID_CNT. -/
def lockCnt (s : State) : Nat := fld s Reg.tbuBusState 19 16
def validCnt (s : State) : Nat := fld s Reg.tbuBusState 9 8

/-- R94, R114: control clocks per ship-time nanosecond over the minor cycle last measured; only the rate of ship time enters it. -/
def clocksPerNs (s : State) : Rat := Rat.divInt (s.tbu.ratio.1 * 2 ^ 32) s.tbu.ratio.2

/-- R83-R85: the slot length, in 2^-16 control clock, for a number of clocks per ns, a frequency and a stretch in 2^-18. -/
def slotUnits (cs f : Rat) (st : Int) : Nat :=
  let x : Int := if f ≤ 0 then 1374 * 65536
    else roundHalfUp (1000000000 * cs / (4096 * f) * (262144 + (st : Rat)) / 262144 * 65536)
  (clampI (610 * 65536) (1374 * 65536) x).toNat

/-- R89: the stretch for a phase error in 1/256 slot, in units of 2^-18. -/
def stretchOf (e : Int) : Int := clampI (-32768) 32768 (-e)

/-- R88: the phase error in 1/256 slot for the delivered phase. -/
def phaseErr (s : State) : Int :=
  let e := roundHalfUp (fRat0 (b64 s.gmu.phiA) * 1048576 / 360)
  (e + 524288) % 1048576 - 524288

/-- R83, R89, R90, R94: frequency, stretch and slot length that follow from the state of the timebase. -/
def tbuApply (s : State) : State :=
  let st := busState s
  let f : FVal := match st with
    | 0 => fOfInt f64 (nomFreq s)
    | 3 => b64 s.tbu.freq
    | _ => b64 s.gmu.freqA
  let stretch := if st = 1 ∨ st = 2 then stretchOf s.tbu.err else 0
  let cs := if st = 0 then clocksPerNs s else 1 / 5
  let s1 := { s with tbu := { s.tbu with
    freq := toB64 f, stretch := stretch, len := slotUnits cs (fRat0 f) stretch } }
  wr Reg.tbuFreq (roundHalfUp (fRat0 f * 1000)).toNat s1

/-- Enter a timebase state, with its events and counters (R91). -/
def busEnter (st : Nat) (s : State) : State :=
  let old := busState s
  let s1 := setFld Reg.tbuBusState 1 0 st s
  let s2 := if st = 0 ∨ st = 3 then setFld Reg.tbuBusState 19 16 0 s1 else s1
  let s3 := if old = 2 then s2 |> bump Reg.tbuCntLockLost 1 |> raise_ 0x03 1 else s2
  match st with
  | 0 => s3 |> bump Reg.tbuCntFreeRun 1 |> pmcInc 211 |> raise_ 0x03 3
  | 1 => if old = 2 then setFld Reg.tbuBusState 19 16 0 s3 else raise_ 0x03 4 s3
  | 2 => s3 |> pmcInc 210 |> raise_ 0x03 0
  | _ => raise_ 0x03 2 s3

/-- R87: is VA valid over the cycle just ended. -/
def vaValid (s : State) : Bool :=
  let f := fRat0 (b64 s.gmu.freqA)
  gmuEn s 0 && !gmuConvFault s 0 && decide (gmuNom s 0 / 10 ≤ fRat0 (b64 s.gmu.uA)) && decide (40 ≤ f) && decide (f ≤ 70)

/-- R91, R92: the judgement of VA at a major-cycle boundary and the transition it brings. -/
def tbuJudge (s : State) : State :=
  if vaValid s then
    let v := min 3 (validCnt s + 1)
    let s1 := s |> setFld Reg.tbuBusState 9 8 v |> setFld Reg.tbuBusState 5 4 0
    if busState s = 3 ∨ (busState s = 0 ∧ v = 3) then busEnter 1 s1 else s1
  else
    let v := min 3 (invalidCnt s + 1)
    let s1 := s |> setFld Reg.tbuBusState 9 8 0 |> setFld Reg.tbuBusState 5 4 v
    if busState s = 1 ∨ busState s = 2 then busEnter 3 s1
    else if busState s = 3 ∧ v = 3 then busEnter 0 s1
    else s1

/-- R88, R91: the phase conditions at a minor-cycle boundary. -/
def tbuPhase (s : State) : State :=
  let e := phaseErr s
  let s1 := wr Reg.tbuVaLevel (min 65535 (if gmuNom s 0 ≤ 0 then 0 else
      (roundHalfUp (fRat0 (b64 s.gmu.uA) * 1000 / gmuNom s 0)).toNat)) { s with tbu := { s.tbu with err := e } }
  let n := if e.natAbs ≤ 512 then min 8 (lockCnt s + 1) else 0
  match busState s with
  | 1 =>
    let s2 := setFld Reg.tbuBusState 19 16 n s1
    if n = 8 then busEnter 2 s2 else s2
  | 2 =>
    if 4096 < e.natAbs then busEnter 1 s1 else setFld Reg.tbuBusState 19 16 n s1
  | _ => s1

/-- The first action of a minor- or major-cycle boundary: the GMU's delivery (R313), and the measure of the minor cycle that ends
(R94). -/
def boundaryTick (s : State) : State :=
  if s.tbu.ticked then s
  else
    let s1 := gmuDeliver s
    { s1 with tbu := { s1.tbu with
        ticked := true, minorClk := s.now, rated := 0, rateClk := s.now
        ratio := if s.now = s.tbu.minorClk then s.tbu.ratio else (s.now - s.tbu.minorClk, ratedNow s) } }

/-- R88-R91: the timebase at a minor-cycle boundary. -/
def tbuMinor (s : State) : State :=
  let s1 := tbuApply (tbuPhase s)
  { s1 with
    gmu := { s1.gmu with lockRun := runOf (busState s1 == 2) s1.gmu.lockRun }
    tbu := { s1.tbu with minorDone := true } }

/-- The rate of change of f over the major cycle just ended, in mHz/s. -/
def tbuRocof (s : State) : State :=
  let d := s.now - s.tbu.majClk
  let r := if d = 0 then 0
    else roundHalfUp ((fRat0 (b64 s.tbu.freq) - fRat0 (b64 s.tbu.majFreq)) * 1000 * 200000000 / (d : Rat))
  wr Reg.tbuRocof (toSigned 32 r) { s with tbu := { s.tbu with majFreq := s.tbu.freq, majClk := s.now } }

/-- R109: slot 0 finds the shaft in STANDSTILL or UNREFERENCED: the standstill list runs in this major cycle. -/
def standstillStart (s : State) : State :=
  let run := shaftState s = 1 ∨ shaftState s = 3
  { s with seq := { s.seq with standstill := if run then some 0 else none } }

/-- R87, R91, R109: the timebase at a major-cycle boundary. -/
def tbuMajor (s : State) : State :=
  let s1 := tbuApply (tbuJudge s)
  let s2 := standstillStart (tbuRocof s1)
  { s2 with tbu := { s2.tbu with majorDone := true } }

/-- R84: the clock at which the present slot ends. -/
def slotEnd (s : State) : Nat := s.tbu.edge + (s.tbu.len + s.tbu.frac) / 65536

/-- R82, R84, R97: the slot number advances by one at the end of the slot, which carries the fraction of its length; the
generation counter rises with the first slot of a minor cycle. -/
def slotAdvance (s : State) : State :=
  let t := s.tbu
  let e := slotEnd s
  let s1 := pmcAdd 208 (b2n (t.stretch != 0)) (pmcAdd 209 (b2n (t.stretch.natAbs == 32768)) (advanceTo e s))
  { s1 with
    tbu := { s1.tbu with
      slot := (t.slot + 1) % 4096, edge := e, frac := (t.len + t.frac) % 65536
      gen := if (t.slot + 1) % 512 = 0 then t.gen + 1 else t.gen
      ticked := false, minorDone := false, majorDone := false }
    seq := { s1.seq with slotEntries := 0 }
    syn := { s1.syn with idleSlots := s1.syn.idleSlots + 1 } }

/-! ### Ship time (R112) -/

/-- R525: PTP_OFFSET, saturating at ±(2^31 − 1). -/
def ptpOffsetWord (off : Int) : Nat := toSigned 32 (clampI (-2147483647) 2147483647 off)

/-- R112: the rate at which ship time counts changes. -/
def shipRate (r : Nat) (s : State) : State :=
  let s1 := shipRebase s
  { s1 with tbu := { s1.tbu with rate := r, rated := ratedNow s, rateClk := s.now } }

/-- R112: step ship time by `d` ns; its rate is not touched (R94). -/
def shipStep (d : Int) (s : State) : State :=
  let s1 := shipRebase s
  { s1 with tbu := { s1.tbu with ship := (((s1.tbu.ship : Int) + d) % 2 ^ 64).toNat, slew := 0, ptpTime := none } }

/-- R112, R113: the disciplined rate: PTP time per control clock between the last two valid offsets, within 0.5 ppm of 5 ns; the
nominal rate where there are not two (DEDUCED, log entry 80). -/
def disciplined (s : State) (clk time : Nat) : Nat :=
  match s.tbu.ptpTime with
  | some t0 =>
    if s.tbu.ptpClk < clk then
      (clampI 21474825743 21474847217 ((((time : Int) - t0) * 2 ^ 32) / ((clk - s.tbu.ptpClk : Nat) : Int))).toNat
    else 21474836480
  | none => 21474836480

/-- R112: a valid PTP offset, ship time minus PTP time in ns, takes effect. While TRACKING ship time counts at the TCXO rate and
slews; what the offsets say of that rate is kept for HOLDOVER. -/
def ptpApply (off : Int) (s : State) : State :=
  let st := fld s Reg.tbuShipState 1 0
  let time := (((shipNow s : Int) - off) % 2 ^ 64).toNat
  let s0 := shipRate 21474836480 s
  let s1 := pmcInc 214 (wr Reg.tbuPtpOffset (ptpOffsetWord off) { s0 with tbu := { s0.tbu with
    ptpClk := s.now, ptpTime := some time, ptpRate := disciplined s s.now time } })
  let s2 := setFld Reg.tbuShipState 1 0 1 s1
  if st = 0 then s2 |> shipStep (-off) |> pmcInc 215 |> raise_ 0x03 11
  else if 1000000 < off.natAbs then
    s2 |> shipStep (-off) |> bump Reg.tbuCntShipStep 1 |> pmcInc 215 |> raise_ 0x03 13
  else
    let s3 := shipRebase s2
    { s3 with tbu := { s3.tbu with slew := -off } }

/-- R112: no valid PTP offset has come for HOLDOVER_AFTER seconds. -/
def execShipHoldover (s : State) : Host.Outcome State Fault Refusal :=
  .next (if fld s Reg.tbuShipState 1 0 = 1 ∧ fld s Reg.tbuShipCfg 7 0 * 200000000 ≤ s.now - s.tbu.ptpClk then
    let s1 := shipRate s.tbu.ptpRate s
    raise_ 0x03 12 (setFld Reg.tbuShipState 1 0 2 { s1 with tbu := { s1.tbu with slew := 0 } })
  else s)

end Sys2Proof.Machine
end

