-- ==== Sys2Proof/Machine/Syn.lean ====
section
/-! DEFINITION. The synchroniser (R326-R338). Decisions compute on exact numbers from the binary64 values that the GMU
delivers (log entry 23). -/

namespace Sys2Proof.Machine

/-- The state code of set n (R328): 0 IDLE, 1 SETTLING, 2 CHECKING, 3 PLANNED, 4 CLOSING, 5 CLOSED, 6 FAILED. -/
def synState (s : State) (n : Nat) : Nat := fld s Reg.synSetState (4 * n + 3) (4 * n)
def setSynState (n st : Nat) (s : State) : State := setFld Reg.synSetState (4 * n + 3) (4 * n) st s

/-- The armed set, if any (SYN.ARMED). -/
def synArmed (s : State) : Option Nat := if flag s Reg.synArmed 3 then some (fld s Reg.synArmed 2 0) else none

/-- The block word and mode of a set's last decision. -/
def synBlock (s : State) (n : Nat) : Nat := tabGet (fun _ => (0 : Nat)) s.syn.block n
def synMode (s : State) (n : Nat) : Nat := tabGet (fun _ => (0 : Nat)) s.syn.mode n

/-- Store a set's block word; SYN.BLOCK shows that of the armed set. -/
def putBlock (n v : Nat) (s : State) : State :=
  let s1 := { s with syn := { s.syn with block := tabSet (fun _ => (0 : Nat)) s.syn.block n v } }
  if synArmed s = some n then wr Reg.synBlock v s1 else s1

/-- Store the mode of a set's last decision. -/
def putMode (n v : Nat) (s : State) : State :=
  { s with syn := { s.syn with mode := tabSet (fun _ => (0 : Nat)) s.syn.mode n v } }

/-- No set is armed any more; a plan is cancelled. -/
def synRelease (s : State) : State := s |> wr Reg.synArmed 0 |> wr Reg.synPlanSlot 0 |> wr Reg.synBlock 0

/-- The latched configuration words of the armed set: 0 IO, 1 TIME, 2 ANGLE, 3 VOLT, 4 SLIP, 5 MODE (R327). -/
def synCfg (s : State) (k : Nat) : Nat := s.syn.cfg.getD k 0

/-- R328: the set goes to FAILED with a block bit. -/
def synFail (bit n : Nat) (s : State) : State :=
  s |> putBlock n (putBit (synBlock s n) bit true) |> setSynState n 6 |> synRelease

/-- The six configuration registers of set n. -/
def synRegs (s : State) (n : Nat) : List Nat :=
  [rd s (Reg.synSetIo n), rd s (Reg.synSetTime n), rd s (Reg.synSetAngle n), rd s (Reg.synSetVolt n),
   rd s (Reg.synSetSlip n), rd s (Reg.synSetMode n)]

/-- R328: a set arms. -/
def synArm (n : Nat) (s : State) : State :=
  let s1 := { s with syn := { s.syn with
    cfg := synRegs s n, settle := 0, armClk := s.now, idleSlots := 0, refused := putBit s.syn.refused n false } }
  s1 |> wr Reg.synArmed (8 + n) |> setSynState n 1 |> putBlock n 0 |> putMode n 0 |> raise_ 0x0A 0

/-- R326: what SYN_ARM does with a request that is present. -/
def synPresent (n : Nat) (s : State) : State :=
  if synArmed s = some n then { s with syn := { s.syn with idleSlots := 0 } }
  else if synState s n ≠ 0 then s
  else if (synArmed s).isNone then synArm n s
  else
    let s1 := putBlock n (putBit (synBlock s n) 8 true) s
    if bitOf s.syn.refused n then s1
    else { s1 with syn := { s1.syn with refused := putBit s1.syn.refused n true } }
      |> bump Reg.synCntRefused 1 |> pmcInc 206 |> raise_ 0x0A 4

/-- R326, R328: what SYN_ARM does with a request that is withdrawn. -/
def synWithdrawn (n : Nat) (s : State) : State :=
  let s1 := { s with syn := { s.syn with
    refused := putBit s.syn.refused n false
    idleSlots := if synArmed s = some n then 0 else s.syn.idleSlots } }
  let s2 := putBlock n (putBit (synBlock s1 n) 8 false) s1
  match synState s n with
  | 1 | 2 | 3 => synRelease (setSynState n 0 s2)
  | 5 | 6 => setSynState n 0 s2
  | _ => s2

/-- R338: the status word of a set. -/
def synStatus (s : State) (n : Nat) : Nat := synState s n <<< 28 + synMode s n <<< 24 + synBlock s n % 65536

/-- R326: SYN_ARM. -/
def runSynArm (e : Entry) (s : State) : State :=
  let n := bitsOf e.arg0 2 0
  consume e [e.arg1] (fun l t =>
    let r := l.getD 0 cellInit
    let u := if r.val ≠ 0 ∧ r.tag = .good then synPresent n t else synWithdrawn n t
    writeNow e.arg2 ⟨BitVec.ofNat 32 (synStatus u n), .good⟩ u) (advanceTo (s.now + 1) s)

/-! ### The decision (R330-R333) -/

/-- A percentage of NOM_U. -/
def nomPart (s : State) (p : Nat) (scale : Rat) : Rat := gmuNom s 0 * p / scale

/-- The configuration word k of set n: latched when the set is armed, else as its register stands. -/
def synWord (s : State) (n k : Nat) : Nat := if synArmed s = some n then synCfg s k else (synRegs s n).getD k 0

/-- R331: keep since when a side has stayed below the DEAD_LEVEL of set n. -/
def deadTrack (n side : Nat) (s : State) : State :=
  let u := fRat0 (b64 (if side = 0 then s.gmu.uA else s.gmu.uB))
  let k := 2 * n + side
  let old := tabGet (fun _ => (none : Option Nat)) s.syn.deadSince k
  let new := if u < nomPart s (bitsOf (synWord s n 3) 31 24) 100 then some (old.getD s.now) else none
  { s with syn := { s.syn with deadSince := tabSet (fun _ => none) s.syn.deadSince k new } }

/-- R331: is a side live, for the armed set. -/
def sideLive (s : State) (side : Nat) : Bool :=
  decide (nomPart s (bitsOf (synCfg s 3) 23 16) 100 ≤ fRat0 (b64 (if side = 0 then s.gmu.uA else s.gmu.uB)))

/-- R331: is a side dead, for the armed set n. -/
def sideDead (s : State) (n side : Nat) : Bool :=
  match tabGet (fun _ => (none : Option Nat)) s.syn.deadSince (2 * n + side) with
  | some c => decide (bitsOf (synCfg s 5) 15 8 * 20000000 ≤ s.now - c)
  | none => false

/-- R331: the mode: 0 none, 1 live-live, 2 dead A, 3 dead B, 4 dead AB. -/
def synModeNow (s : State) (n : Nat) : Nat :=
  match sideLive s 0, sideDead s n 0, sideLive s 1, sideDead s n 1 with
  | true, _, true, _ => 1
  | _, true, true, _ => 2
  | true, _, _, true => 3
  | _, true, _, true => 4
  | _, _, _, _ => 0

/-- R330: RMS values of a set, and all of its minor-cycle values, are GOOD over the last 8 boundaries. -/
def rmsGood (s : State) (set : Nat) : Bool := !gmuBad s set && !gmuOver s set
def setGood (s : State) (set : Nat) : Bool :=
  rmsGood s set && s.gmu.lockRun == 8 && (if set = 0 then s.gmu.refRunA else s.gmu.refRunB) == 8

/-- A signed 16-bit field. -/
def field16 (w hi lo : Nat) : Int := signedOf 16 (bitsOf w hi lo)

/-- The slip and its rate of change in Hz and Hz/s (R330, R332). -/
def slipNow (s : State) : Rat := fRat0 (b64 s.gmu.slip)
def slipRate (s : State) : Rat :=
  if s.gmu.minorLen = 0 then 0
  else (slipNow s - fRat0 (b64 s.gmu.slipPrev)) * 200000000 / (s.gmu.minorLen : Rat)

/-- R330: the block bits of the live-live checks. -/
def liveBits (s : State) : Nat :=
  let du := fRat0 (b64 s.gmu.uB) - fRat0 (b64 s.gmu.uA)
  let lim := nomPart s (bitsOf (synCfg s 3) 7 0) 1000
  let acc := bitsOf (synCfg s 5) 31 16
  let sl := slipNow s * 1000
  b2n (!(setGood s 0 && setGood s 1)) <<< 1
    + b2n (decide (lim < du) || decide (lim < -du)) <<< 2
    + b2n (decide (sl < (field16 (synCfg s 4) 15 0 : Rat)) || decide ((field16 (synCfg s 4) 31 16 : Rat) < sl)) <<< 3
    + b2n (acc != 0 && (decide ((acc : Rat) < slipRate s * 1000) || decide ((acc : Rat) < -(slipRate s * 1000)))) <<< 4
    + b2n (flag s Reg.gmuSetState 1 || flag s Reg.gmuSetState 5) <<< 5

/-- R330: CHANNEL: the close channel's line state is SHORT, OVERLOAD or NO_SUPPLY, or its FUNC is not 0x4. -/
def channelBit (s : State) : Bool :=
  let ch := bitsOf (synCfg s 0) 21 16
  let st := lineState s ch
  st == 2 || st == 3 || st == 5 || dioFunc s ch != 4

/-- R330, R331: the block word of a decision in a mode, but for APPROACHING. REQ_NOT_GOOD is never set by a decision: a request that
SYN_ARM finds withdrawn takes the set out of CHECKING at once (R328). -/
def blockBits (s : State) (mode : Nat) : Nat :=
  let perm := synCfg s 5
  b2n (channelBit s) <<< 9 +
  match mode with
  | 0 => 64
  | 1 => liveBits s
  | m => b2n (!(rmsGood s 0 && rmsGood s 1)) <<< 1 + b2n (!bitOf perm (m - 2)) <<< 7

/-- Does g(t) = c0 + c1·t + c2·t² meet an integer in [a, b), or in [a, b] when `last`. -/
def meetsInt (c0 c1 c2 a b : Rat) (last : Bool) : Bool :=
  let g (t : Rat) : Rat := c0 + c1 * t + c2 * t * t
  let v : Rat := if c2 = 0 then a else -c1 / (2 * c2)
  let inside := decide (a < v) && decide (v < b)
  let ga := g a
  let gb := g b
  let gv := if inside then g v else ga
  let hi := max ga (max gb gv)
  let lo := min ga (min gb gv)
  let k := hi.floor
  let k0 := -((-lo).floor)
  if k < k0 then false
  else if k = k0 ∧ gb = (k : Rat) ∧ inside = false ∧ ga ≠ gb then last
  else true

/-- The quantities of R332: the angle d0, the slip, the slip rate used, the slot length in s, T_cb in s and the target. -/
structure Predict where
  d0 : Rat
  sl : Rat
  acc : Rat
  l : Rat
  tcb : Rat
  target : Rat

/-- R332: the quantities of a decision. -/
def predict (s : State) : Predict :=
  { d0 := wrap180 (fRat0 (b64 s.gmu.phiB) - fRat0 (b64 s.gmu.phiA))
    sl := slipNow s
    acc := if bitOf (synCfg s 5) 4 then slipRate s else 0
    l := Rat.divInt s.tbu.len (65536 * 200000000)
    tcb := Rat.divInt (bitsOf (synCfg s 1) 11 0) 10000
    target := Rat.divInt (field16 (synCfg s 2) 31 16) 100 }

/-- R332: d(t). -/
def Predict.angle (p : Predict) (t : Rat) : Rat := p.d0 + 360 * p.sl * t + 180 * p.acc * t * t

/-- R332: the issue slot count n of the first crossing in the window, if any. -/
def Predict.crossing (p : Predict) : Option Nat :=
  ((List.range 512).map (· + 8)).find? (fun n =>
    let a := p.tcb + p.l * (if n = 8 then 8 else (n : Rat) - 1 / 2)
    let b := p.tcb + p.l * (if n = 519 then 519 else (n : Rat) + 1 / 2)
    meetsInt ((p.d0 - p.target) / 360) p.sl (p.acc / 2) a b (n == 519))

/-- R333: the distance to the target at t_lo, and whether the crossing is approaching. -/
def Predict.rest (p : Predict) : Rat × Bool :=
  let t := p.tcb + 8 * p.l
  let r := wrap180 (p.target - p.angle t)
  let v := 360 * p.sl + 360 * p.acc * t
  (r, (decide (0 < r ∧ 0 < v) || decide (r < 0 ∧ v < 0)) && (decide (1 / 1000 ≤ p.sl) || decide (p.sl ≤ -1 / 1000)))

/-- R328: plan the issue n slots after the boundary. -/
def synPlan (set n : Nat) (pred : Option FVal) (s : State) : State :=
  let s1 := s |> wr Reg.synPlanSlot (2 ^ 31 + (s.tbu.slot + n) % 4096) |> setSynState set 3
  match pred with
  | some x => wrF Reg.synLastPred x s1
  | none => s1

/-- R330-R333: a decision of the armed set n in CHECKING. -/
def synDecide (n : Nat) (s : State) : State :=
  let mode := synModeNow s n
  let b := blockBits s mode
  let s1 := pmcInc 204 (putMode n mode (putBlock n b s))
  if b ≠ 0 then s1
  else if mode = 1 then
    let p := predict s
    let pred (k : Nat) : Option FVal := some (fOfQ f32 (p.angle (p.tcb + p.l * k)))
    match p.crossing with
    | some k => synPlan n k (pred k) s1
    | none =>
      let r := p.rest
      let win := Rat.divInt (bitsOf (synCfg s 2) 15 0) 100
      if r.2 then putBlock n (putBit b 10 true) s1
      else if -win ≤ r.1 ∧ r.1 ≤ win then synPlan n 8 (pred 8) s1
      else s1
  else synPlan n 8 none s1

/-- R328-R331: the synchroniser at a minor-cycle boundary. -/
def synMinor (s : State) : State :=
  let s1 := each (List.range 8) (fun n t => deadTrack n 1 (deadTrack n 0 t)) s
  match synArmed s1 with
  | some n =>
    if synState s1 n = 1 then { s1 with syn := { s1.syn with settle := s1.syn.settle + 1 } }
    else if synState s1 n = 2 then synDecide n s1
    else s1
  | none => s1

/-! ### Commands -/

/-- R326: SYN_ARM of a breaker set, with its request and status words. -/
def execSynArm (pos set req status : Nat) (s : State) : Host.Outcome State Fault Refusal :=
  .next (dispatch (fun e _ t => runSynArm e t) ⟨0x07, 0x0A, set, req, status, 0, 0, pos⟩ {} s)

/-- R328, R329: the 10th minor-cycle boundary after arming: CHECKING, and the first decision. -/
def execSynSettled (s : State) : Host.Outcome State Fault Refusal :=
  .next (match synArmed s with
    | some n => if synState s n = 1 ∧ 10 ≤ s.syn.settle then synDecide n (setSynState n 2 s) else s
    | none => s)

/-- R334, R336: the close pulse of set n starts. -/
def synIssue (n : Nat) (s : State) : State :=
  let io := synCfg s 0
  let s1 := startPulse (bitsOf io 21 16) (bitsOf io 15 0) (setSynState n 4 s)
  let s2 := { s1 with syn := { s1.syn with
    timing := if bitOf io 23 then some (n, bitsOf io 29 24, bitsOf (synCfg s 1) 11 0, s1.now) else s1.syn.timing } }
  s2 |> wr Reg.synPlanSlot 0 |> bump Reg.synCntClose 1 |> wideSet Reg.synLastIssueLo s2.tbu.gen
    |> wr Reg.synLastIssueSlot (n <<< 16 + s2.tbu.slot) |> pmcInc 205 |> raise_ 0x0A 1

/-- R334: the boundary of the planned slot. -/
def execCloseIssued (s : State) : Host.Outcome State Fault Refusal :=
  .next (match synArmed s with
    | some n => if synState s n = 3 ∧ fld s Reg.synPlanSlot 11 0 = s.tbu.slot then synIssue n s else s
    | none => s)

/-- R328: the close pulse ends, or has ended: its output is off and the set is CLOSED. -/
def execCloseDone (s : State) : Host.Outcome State Fault Refusal :=
  .next (match synArmed s with
    | some n =>
      let ch := bitsOf (synCfg s 0) 21 16
      if synState s n = 4 ∧ (dioPulse s ch).getD 0 = 0 then
        s |> putPulse ch none |> dioSet ch false |> setSynState n 5 |> synRelease |> raise_ 0x0A 2
      else s
    | none => s)

/-- R328: a transition of the armed set to FAILED that CLOSING does not take. -/
def synAbort (bit : Nat) (after : State → State) (s : State) : State :=
  match synArmed s with
  | some n => if synState s n ≠ 4 then after (synFail bit n s) else s
  | none => s

/-- R328: the arming timer expires. -/
def execSynTimeout (s : State) : Host.Outcome State Fault Refusal :=
  .next (if bitsOf (synCfg s 1) 23 16 * 200000000 ≤ s.now - s.syn.armClk then
    synAbort 11 (fun t => t |> bump Reg.synCntTimeout 1 |> raise_ 0x0A 3) s else s)

/-- R328: no SYN_ARM of the armed set has come for 4,096 slots. -/
def execArmStale (s : State) : Host.Outcome State Fault Refusal :=
  .next (if 4096 ≤ s.syn.idleSlots then synAbort 12 id s else s)

/-- R328: SYN.CTRL.DISARM is written with 1. -/
def synDisarm (s : State) : State := synAbort 13 id s

/-- R337: at takeover every set not yet closing fails. -/
def synTakeover (s : State) : State :=
  each (List.range 8) (fun n t => if synState t n = 1 ∨ synState t n = 2 ∨ synState t n = 3 then synFail 14 n t else t) s

/-- R336: the feedback input of the last issue turns on. -/
def execSynFeedback (s : State) : Host.Outcome State Fault Refusal :=
  .next (match s.syn.timing with
    | some (n, ch, tcb, c) =>
      let s1 := { s with syn := { s.syn with timing := none } }
      let t := (s.now - c + 10000) / 20000
      if 200000000 < s.now - c ∨ bitOf s.dio.qual ch = false then (if 200000000 < s.now - c then s1 else s)
      else
        let s2 := s1 |> wr Reg.synLastTcb (2 ^ 31 + n <<< 16 + min t 65535) |> pmcInc 207 |> raise_ 0x0A 5
        if tcb * 20000 < 20 * ((s.now - c : Nat) - (tcb * 20000 : Nat) : Int).natAbs then raise_ 0x0A 6 s2 else s2
    | none => s)

end Sys2Proof.Machine
end

