-- ==== Sys2Proof/Machine/Ach.lean ====
section
/-! DEFINITION. The universal channels (R200-R242), the readback comparison (R246-R263) and the loop supply (R256-R260). -/

namespace Sys2Proof.Machine

/-! ### Ranges and values -/

/-- MISWIRE stands (R233). -/
def miswired (s : State) (n : Nat) : Bool := flag s (Reg.stat (0x20 + n)) 0

/-- A calibration runs. -/
def calibrating (s : State) (n : Nat) : Bool := flag s (Reg.stat (0x20 + n)) 1

/-- R202, R222: the range of a mode in base units; `sensor` is ACHn.SENSOR. -/
def achRange (mode sensor : Nat) : Option (Rat × Rat) :=
  match mode with
  | 1 | 6 => some (-21 / 2, 21 / 2)
  | 2 | 3 | 4 | 5 => some (0, 24)
  | 7 => if bitsOf sensor 7 4 = 2 then some (-80, 260) else some (-200, 850)
  | 8 => some (0, 4000)
  | 9 => tcRange (bitsOf sensor 3 0)
  | _ => none

/-- Lower end and span of the range of an output mode (R219). -/
def outLow (mode : Nat) : Rat := if mode = 6 then -21 / 2 else 0
def outSpan (mode : Nat) : Rat := if mode = 6 then 21 else 24

/-- R216: the trimmed value of a measured base value. -/
def trimIn (s : State) (n : Nat) (x : FVal) : FVal :=
  if trimOn s n then fFma f32 (rdF s (Reg.achTrimGain n)) x (rdF s (Reg.achTrimOfs n)) else x

/-- R216: the base value that drives a commanded one. -/
def trimOut (s : State) (n : Nat) (x : FVal) : FVal :=
  if trimOn s n then fDiv f32 (fSub f32 x (rdF s (Reg.achTrimOfs n))) (rdF s (Reg.achTrimGain n)) else x

/-- R217: the engineering value of a base value. -/
def engOf (s : State) (n : Nat) (x : FVal) : FVal := fFma f32 (rdF s (Reg.achScaleA n)) x (rdF s (Reg.achScaleB n))

/-- R247: the engineering value of a readback. -/
def engOut (s : State) (n : Nat) (x : FVal) : FVal :=
  fDiv f32 (fSub f32 x (rdF s (Reg.achScaleB n))) (rdF s (Reg.achScaleA n))

/-- R219: the 18-bit code of a base value, a half taking the higher code. -/
def codeOf (mode : Nat) (x : Rat) : Nat :=
  (clampI 0 262143 (roundHalfUp ((x - outLow mode) / outSpan mode * 262143))).toNat

/-- R219: the value of a code in base units. -/
def codeValue (mode k : Nat) : Rat := outLow mode + k * outSpan mode / 262143

/-- R219, R231: the code of a base value, and whether it was clamped: 0 no, 1 above, 2 below. -/
def driveCode (s : State) (n : Nat) (ne43 : Bool) (x : Rat) : Nat × Nat :=
  let m := achMode s n
  let band := ne43 && flag s (Reg.achCfg n) 6 && (m == 4 || m == 5)
  let lo : Rat := if band then 19 / 5 else outLow m
  let hi : Rat := if band then 41 / 2 else outLow m + outSpan m
  if x < lo then (codeOf m lo, 2) else if hi < x then (codeOf m hi, 1) else (codeOf m x, 0)

/-- The exact value of a base value that is driven; one that the trim carries beyond binary32 lies beyond every range (R220). -/
def fRatDriven : FVal → Rat
  | .inf neg => if neg then -(2 ^ 128 : Nat) else (2 ^ 128 : Nat)
  | x => fRat0 x

/-- R253: the code of FAULT_VALUE. -/
def faultCode (s : State) (n : Nat) : Nat := (driveCode s n false (fRatDriven (trimOut s n (rdF s (Reg.achFaultValue n))))).1

/-- R200, R201, R233, R240, R600: the output stage drives the terminals. -/
def stageOn (s : State) (n : Nat) : Bool := achIsOut s n && (ach s n).connected && !miswired s n

/-- R226, R228, R233, R240: the excitation from EXC+ to EXC− in µA, reversing at every slot boundary. -/
def excitation (s : State) (n : Nat) : Int :=
  let m := achMode s n
  if (m = 7 ∨ m = 8) ∧ listening s = false ∧ miswired s n = false then
    (if m = 8 ∨ fld s (Reg.achSensor n) 7 4 = 1 then 200 else 1000) * (if s.tbu.slot % 2 = 0 then 1 else -1)
  else 0

/-- R229, R240, R241: the sense resistor of a current input is connected. -/
def senseOn (s : State) (n : Nat) : Bool :=
  (achMode s n == 2 || achMode s n == 3) && !listening s && !miswired s n

/-! ### Linearisation (R222-R228) -/

/-- What an input measured in a window: base value, tag and the condition bits of STATUS [12:0]. -/
structure AchRes where
  x : FVal
  tag : Tag
  bits : Nat
  /-- the value is a range end or a substitute: the trim is not applied -/
  fixed : Bool

/-- R218: a base value within its range, or the range end with LIMITED. -/
def rangeCheck (rng : Option (Rat × Rat)) (x : FVal) : AchRes :=
  match rng with
  | some (lo, hi) =>
    if fLt x (fOfQ f64 lo) then ⟨fOfQ f64 lo, .limited, 2, true⟩
    else if fLt (fOfQ f64 hi) x then ⟨fOfQ f64 hi, .limited, 1, true⟩
    else ⟨x, .good, 0, false⟩
  | none => ⟨x, .good, 0, false⟩

/-- R229, R230: a current input. -/
def currentIn (s : State) (n : Nat) (x : FVal) : AchRes :=
  let r := rangeCheck (some (0, 24)) x
  let q := fRat0 x
  if flag s (Reg.achCfg n) 6 then
    if q ≤ 18 / 5 then { r with tag := .bad, bits := r.bits + 32 }
    else if q < 19 / 5 then { r with tag := .limited, bits := 2 }
    else if q ≤ 41 / 2 then r
    else if q < 21 then { r with tag := .limited, bits := 1 }
    else { r with tag := .bad, bits := r.bits + 64 }
  else if achMode s n = 2 ∧ 25 < q then ⟨fOfInt f64 24, .bad, 9, true⟩
  else r

/-- R226-R228: an RTD or a resistance; a resistance beyond the limits of R228 also lies beyond the range (R218, R245). -/
def resistIn (s : State) (n : Nat) (x : FVal) (m : AchMeas) : AchRes :=
  let sensor := rd s (Reg.achSensor n)
  let el := bitsOf sensor 7 4
  let mode := achMode s n
  let q := fRat0 x
  let rng := achRange mode sensor
  let hi : Rat := match rng with | some r => r.2 | none => 0
  let lo : Rat := match rng with | some r => r.1 | none => 0
  let wires := bitsOf sensor 9 8
  let r := if wires = 1 then q - fRat0 (b64 m.lead) else if wires = 0 then q - fRat0 (rdF s (Reg.achLeadRes n)) else q
  if 4400 < q then ⟨fOfQ f64 hi, .bad, 5, true⟩
  else if m.excLost then ⟨fOfQ f64 hi, .bad, 4, true⟩
  else if mode = 7 ∧ q < (if el = 1 then 100 else 10) then ⟨fOfQ f64 lo, .bad, 10, true⟩
  else rangeCheck rng (if mode = 7 then rtdTemp el r else fOfQ f64 r)

/-- The cold-junction temperature in force (R223). -/
def coldJunction (s : State) (n : Nat) (m : AchMeas) : FVal :=
  if flag s (Reg.achSensor n) 17 then fConv f64 (rdF s (Reg.achCjFixed n)) else b64 m.cj

/-- R225: the cold-junction sensor is at fault. -/
def cjFault (s : State) (n : Nat) (m : AchMeas) : Bool :=
  achMode s n == 9 && !flag s (Reg.achSensor n) 17 &&
    (m.cjFail || fLt (b64 m.cj) (fOfInt f64 (-45)) || fLt (fOfInt f64 90) (b64 m.cj) || !(b64 m.cj).isFin)

/-- R222-R225: a thermocouple; a voltage beyond ±90 mV also lies beyond the range (R218, R245). -/
def tcIn (s : State) (n : Nat) (v : FVal) (m : AchMeas) : AchRes :=
  let sensor := rd s (Reg.achSensor n)
  let ty := bitsOf sensor 3 0
  let q := fRat0 v
  let ends : Rat × Rat := (tcRange ty).getD (0, 0)
  let r : AchRes :=
    if 90 < q ∨ q < -90 then ⟨fOfQ f64 (if bitOf sensor 16 then ends.1 else ends.2), .bad, if 90 < q then 5 else 6, true⟩
    else if 80 < q then ⟨fOfQ f64 ends.2, .limited, 1, true⟩
    else if q < -80 then ⟨fOfQ f64 ends.1, .limited, 2, true⟩
    else
      rangeCheck (tcRange ty) (tcTemperature ty (fAdd f64 v (tcVoltage ty (coldJunction s n m))))
  if cjFault s n m then { r with tag := .bad, bits := r.bits + 4096 } else r

/-- R210, R218, R222-R230: the result of an input that measures `x`: V, mA, mV (TC) or Ω (RTD, RES). -/
def inputResult (s : State) (n : Nat) (x : FVal) (m : AchMeas) : AchRes :=
  let r := match achMode s n with
    | 2 | 3 => currentIn s n x
    | 7 | 8 => resistIn s n x m
    | 9 => tcIn s n x m
    | k => rangeCheck (achRange k 0) x
  if achMode s n = 2 ∧ flag s Reg.lspOverload n then { r with tag := .bad, bits := r.bits ||| 8 }
  else if achMode s n = 2 ∧ (ach s n).railFail then { r with tag := .bad }
  else r

/-! ### Latching -/

/-! ### Windows (R206, R210) -/

/-- R206: the clock of sample k of a slot, from the clock of its boundary and its length L in clocks: the clock nearest to boundary
+ k·L/8. -/
def sampleClock (boundary : Nat) (l : Rat) (k : Nat) : Nat := boundary + (roundHalfUp (l * k / 8)).toNat

/-- The mean code of a window's eight samples per slot. -/
def meanCode (w : AchWin) : Rat := Rat.divInt w.sum (8 * w.slots : Nat)

/-- RAW (R243): the mean code rounded to an integer, a half upwards (DESIGN CHOICE, log entry 88). -/
def rawOf (w : AchWin) : Nat := toSigned 32 (clampI (-8388608) 8388607 (roundHalfUp (meanCode w)))

/-- R235-R238: gain and offset of the main converter: those of the last calibration that passed, else the factory's. -/
def calOf (s : State) (n : Nat) : Nat × Nat :=
  (ach s n).cal.getD (Config.factoryCal n (achMode s n) (fld s (Reg.achSensor n) 7 4))

/-- R210: what an input measured over a window: its calibration applied to the mean, in binary64. -/
def winBase (s : State) (n : Nat) (w : AchWin) : FVal :=
  fFma f64 (b64 (calOf s n).1) (fOfQ f64 (meanCode w)) (b64 (calOf s n).2)

/-- R247: the mean of a window's readback samples, in base units. -/
def winReadback (w : AchWin) : FVal := fOfQ f64 (w.rbSum / w.slots)

/-- The engineering word of an input result (R216, R217); the range is judged before the trim (R218, log entry 86). -/
def inputWord (s : State) (n : Nat) (r : AchRes) : FVal :=
  let x := fConv f32 r.x
  engOf s n (if r.fixed then x else trimIn s n x)

/-- Bits 9, 4, 13 and the mode of a status word. -/
def statusBase (s : State) (n : Nat) (listen factory : Bool) : Nat :=
  achMode s n <<< 28 + b2n listen <<< 13 + b2n factory <<< 9 + b2n (miswired s n) <<< 4

/-- Raise the events of conditions that a window ends with and the one before did not (R244). -/
def latchEvents (n old new : Nat) (s : State) : State :=
  let enter (m : Nat) : Bool := old &&& m == 0 && new &&& m != 0
  s |> when_ (enter 4) (raise_ (0x20 + n) 1) |> when_ (enter 8) (raise_ (0x20 + n) 2)
    |> when_ (!achIsOut s n && enter 3) (raise_ (0x20 + n) 3) |> when_ (enter 96) (raise_ (0x20 + n) 4)
    |> when_ (enter 4096) (raise_ (0x20 + n) 7)

/-- Write a latched result: registers, counters (once per window, `count`), events, and the two words at clock 100 (R209). -/
def latchWrite (n : Nat) (image count : Bool) (e : Entry) (val : Word) (tag : Tag) (status : Nat) (s : State) : State :=
  let old := rd s (Reg.achStatus n)
  let s1 := s |> wr (Reg.achValue n) val.toNat |> wr (Reg.achStatus n) status |> pmcInc (40 + n)
    |> putAch n { ach s n with tag := tag }
    |> when_ (count && status &&& 12 != 0) (bump (Reg.achCntOpenShort n) 1)
    |> when_ (count && status &&& 3 != 0) (bump (Reg.achCntRange n) 1)
    |> latchEvents n old status
  let due := s.tbu.edge + 100
  let st : List (Nat × Nat × ICell) :=
    if e.arg2 < imgWords then [(due, e.arg2, ⟨BitVec.ofNat 32 status, .good⟩)] else []
  if image then addWrites e ((due, e.arg1, ⟨val, tag⟩) :: st) s1 else s1

/-- R212: no result: the previous value with HELD, or BAD while MISWIRE stands (R21, R233), and the status word with the flags of the
last result and the mode and MISWIRE at this latch (R201, R233). -/
def latchHeld (n : Nat) (image : Bool) (e : Entry) (s : State) : State :=
  let due := s.tbu.edge + 100
  let st := putBit (putBits (rd s (Reg.achStatus n)) 31 28 (achMode s n)) 4 (miswired s n)
  let s1 := wr (Reg.achStatus n) st s
  let ws := (due, e.arg1, Act.keep e.arg1 (if miswired s n then .bad else .held) false) ::
    (if e.arg2 < imgWords then [(due, e.arg2, Act.put e.arg2 ⟨BitVec.ofNat 32 st, .good⟩)] else [])
  if image then addActs e ws s1 else s1

/-- The flags of a window: WIN_MISMATCH (R211) and NOT_COHERENT (R215). -/
def winBits (w : AchWin) (out : Bool) : Nat := b2n (w.slots != w.decl) <<< 8 + b2n (!out && !w.coherent) <<< 7

/-- R210-R218, R233, R237: latch an input window. -/
def latchInput (n : Nat) (image : Bool) (e : Entry) (w : AchWin) (m : AchMeas) (s : State) : State :=
  let r := inputResult s n (winBase s n w) m
  let factory := fld s (Reg.achCalState n) 1 0 != 2
  let t1 := tagJoin r.tag (if miswired s n then .bad else .good)
  let t2 := if w.slots ≠ w.decl ∨ factory then tagJoin t1 .degraded else t1
  let t3 := if w.coherent = false ∧ flag s (Reg.achCfg n) 7 then tagJoin t2 .degraded else t2
  let status := statusBase s n w.listen factory + r.bits + winBits w false
  s |> wr (Reg.achRaw n) (rawOf w) |> wr (Reg.achWinLast n) w.slots
    |> latchWrite n image true e (toW32 (inputWord s n r)) t3 status
    |> when_ (w.slots != w.decl) (fun t => t |> bump (Reg.achCntWinMismatch n) 1 |> raise_ (0x20 + n) 5)

/-- Bits COMPLIANCE and OUT_MISMATCH of a status word, from RB_STAT. -/
def rbBits (s : State) (n : Nat) : Nat := b2n (flag s (Reg.achRbStat n) 4) <<< 11 + b2n (flag s (Reg.achRbStat n) 2) <<< 10

/-- R251, R261: the tag of a readback result. -/
def rbTag (s : State) (n : Nat) : Tag :=
  let st := rd s (Reg.achRbStat n)
  tagJoin (if bitOf st 2 || bitOf st 6 then .subst else .good)
    (tagJoin (if bitOf st 4 then .limited else .good) (if miswired s n then .bad else .good))

/-- R247: latch a readback window. -/
def latchOutput (n : Nat) (image : Bool) (e : Entry) (w : AchWin) (s : State) : State :=
  let y := engOut s n (trimIn s n (fConv f32 (winReadback w)))
  let mm := w.slots != w.decl
  let failed := fld s (Reg.achCalState n) 1 0 == 3
  let t := if mm ∨ failed then tagJoin (rbTag s n) .degraded else rbTag s n
  let status := statusBase s n w.listen failed + (if w.clamp = 0 then 0 else w.clamp) + rbBits s n + b2n mm <<< 8
  s |> wr (Reg.achRaw n) (rawOf w) |> wr (Reg.achWinLast n) w.slots
    |> latchWrite n image true e (toW32 y) t status
    |> when_ mm (fun t => t |> bump (Reg.achCntWinMismatch n) 1 |> raise_ (0x20 + n) 5)

/-- R236: latch the last completed conversion of bring-up service. -/
def latchBringup (n : Nat) (e : Entry) (s : State) : State :=
  match (ach s n).conv with
  | some (x, m) =>
    let r := inputResult s n (b64 x) m
    let t := tagJoin (tagJoin r.tag .degraded) (if miswired s n then .bad else .good)
    s |> latchWrite n true (!(ach s n).convSeen) e (toW32 (inputWord s n r)) t (statusBase s n false true + r.bits)
      |> (fun u => putAch n { ach u n with convSeen := true } u)
  | none => s

/-- The window that an ACH_LATCH closes (R208), and the channel without it. -/
def takeWindow (x : AchCh) : Option AchWin × AchCh :=
  match x.prev with
  | some w => (some w, { x with prev := none })
  | none =>
    match x.win with
    | some w => if w.slots = 0 then (none, x) else (some w, { x with win := none })
    | none => (none, x)

/-- R201: the latch of a channel in OFF: value 0, and a status word that shows OFF, and MISWIRE while it stands (R233). -/
def latchOff (n : Nat) (e : Entry) (s : State) : State :=
  let st := b2n (miswired s n) <<< 4
  let s1 := s |> wr (Reg.achValue n) 0 |> wr (Reg.achStatus n) st |> putAch n { ach s n with tag := .bad }
  let due := s.tbu.edge + 100
  addWrites e ((due, e.arg1, ⟨0, .bad⟩) ::
    (if e.arg2 < imgWords then [(due, e.arg2, ⟨BitVec.ofNat 32 st, .good⟩)] else [])) s1

/-- R223, R243: CJ_TEMP in TC mode and FE_TEMP, read at every latch. -/
def latchTemps (n : Nat) (m : AchMeas) (s : State) : State :=
  s |> wr (Reg.achFeTemp n) m.feTemp |> when_ (achMode s n == 9) (wrF (Reg.achCjTemp n) (fConv f32 (coldJunction s n m)))

/-- R201, R207-R212: ACH_LATCH; `image` is false on a module that listens. -/
def achLatch (image : Bool) (e : Entry) (io : EntryIo) (s0 : State) : State :=
  let n := e.target - 0x20
  let s := latchTemps n io.meas s0
  let wx := takeWindow (ach s n)
  if achMode s n = 0 then latchOff n e s
  else if s.seq.sched = 1 ∧ achIsOut s n = false then latchBringup n e s
  else
    let s1 := putAch n wx.2 s
    match wx.1 with
    | none => latchHeld n image e s1
    | some w =>
      if w.void then latchHeld n image e s1
      else if achIsOut s n then latchOutput n image e w s1
      else latchInput n image e w io.meas s1

/-! ### Starting -/

/-- R213: a window is discarded and counted. -/
def abandon (n : Nat) (s : State) : State := s |> bump (Reg.achCntWinAbandoned n) 1 |> raise_ (0x20 + n) 6

/-- R207, R213: open a window of ARG0. A window found open waits for a latch of the same slot (R208); one that opened in this slot
is discarded and counted. -/
def openWindow (n arg0 : Nat) (s : State) : State :=
  let k := bitsOf arg0 6 0
  let x := ach s n
  let fresh := match x.win with
    | some w => w.slots == 0
    | none => false
  let w : AchWin := { decl := if k = 0 then 512 else 4096 * k, coherent := busState s == 2, clamp := x.clamp,
                      listen := listening s, void := calibrating s n }
  let s1 := putAch n { x with prev := if x.win.isSome && !fresh then x.win else x.prev, win := some w } s
  if fresh then abandon n s1 else s1

/-- R250, R252: leave a code for the next slot boundary. -/
def setNext (n : Nat) (c : Option Nat) (s : State) : State := putAch n { ach s n with next := c } s

/-- No clamped command is in force any more (R220). -/
def unclamp (n : Nat) (s : State) : State := putAch n { ach s n with clamp := 0 } s

/-- R220, R252: a command word that is not driven. -/
def cmdFault (n : Nat) (s : State) : State :=
  let fv := flag s (Reg.achOutCfg n) 1
  let s1 := s |> unclamp n |> setFlag (Reg.achRbStat n) 6 true |> setFld (Reg.achRbStat n) 1 0 (if fv then 2 else 1)
  setNext n (if fv then some (faultCode s n) else none) s1

/-- R216, R217, R219, R220: a command word is driven from the next slot boundary. -/
def driveCmd (n : Nat) (x : FVal) (s : State) : State :=
  let dc := driveCode s n true (fRatDriven (trimOut s n x))
  let was := (ach s n).clamp
  let s1 := s |> setFlag (Reg.achRbStat n) 6 false |> setFld (Reg.achRbStat n) 1 0 0
  let s2 := putAch n { ach s n with next := some dc.1, clamp := dc.2 } s1
  if dc.2 ≠ 0 ∧ was = 0 then raise_ (0x20 + n) 3 s2 else s2

/-- R219-R221, R250: the command word of an ACH_START in an output mode. -/
def loadWord (n : Nat) (w : ICell) (s : State) : State :=
  if s.seq.sched = 1 ∨ role s = roleHold then s
  else
    let s2 := putAch n { ach s n with cmd := w } s
    if flag s (Reg.achRbStat n) 2 then unclamp n s2
    else
      let y := w32 w.val
      let x := engOf s n y
      if w.tag = .bad ∨ w.tag = .init ∨ y.isFin = false ∨ x.isFin = false then cmdFault n s2
      else driveCmd n x s2

/-- R219: the command word is read one clock after the dispatch. -/
def loadCommand (n : Nat) (e : Entry) (s : State) : State :=
  consume e [e.arg1] (fun l => loadWord n (l.getD 0 cellInit)) (advanceTo (s.now + 1) s)

/-- R201, R207, R219, R236: ACH_START. -/
def achStart (e : Entry) (s : State) : State :=
  let n := e.target - 0x20
  if achMode s n = 0 then s
  else if achIsOut s n then openWindow n e.arg0 (loadCommand n e s)
  else if s.seq.sched = 1 then s
  else openWindow n e.arg0 s

/-- The runs of ACH_START and ACH_LATCH as dispatched entries. -/
def runAchStart (e : Entry) (_ : EntryIo) (s : State) : State := achStart e s
def runAchLatch (e : Entry) (io : EntryIo) (s : State) : State := achLatch true e io s

/-- A channel that keeps converting on a module that listens (R240). -/
def keepsConverting (s : State) (n : Nat) : Bool := listening s && (achMode s n == 1 || achMode s n == 9)

/-- R207: ACH_START of channel `ch`, with its window argument and command word. -/
def execAchStart (pos : Nat) (ch : Fin 32) (window cmd : Nat) (s : State) : Host.Outcome State Fault Refusal :=
  let e : Entry := ⟨0x01, 0x20 + ch, window, cmd, 0, 0, 0, pos⟩
  .next (if keepsConverting s ch ∧ dispatching s = false then openWindow ch window s else dispatch runAchStart e {} s)

/-- R207: ACH_LATCH of channel `ch` into its value and status words, with what the front-end measured. -/
def execAchLatch (pos : Nat) (ch : Fin 32) (dst status : Nat) (meas : AchMeas) (s : State) :
    Host.Outcome State Fault Refusal :=
  let e : Entry := ⟨0x02, 0x20 + ch, 0, dst, status, 0, 0, pos⟩
  .next (if keepsConverting s ch ∧ dispatching s = false then achLatch false e { meas := meas } s
    else dispatch runAchLatch e { meas := meas } s)

/-! ### Slot boundaries and windows -/

/-- R208, R213: the end of a slot: a window found open by an ACH_START and not latched in that slot is abandoned. -/
def achSlotEnd (s : State) : State :=
  each (s.ach.filter (fun e => e.2.prev.isSome)) (fun e t => abandon e.1 (putAch e.1 { ach t e.1 with prev := none } t)) s

/-- The samples of channel n in a slot; none listed are eight codes of 0 (log entry 88). -/
def sampleOf (l : List AchSample) (n : Nat) : AchSample := (l.find? (fun x => x.ch == n)).getD { ch := n }

/-- R206, R246: the samples of a slot join the window open in it. -/
def winSlot (p : AchSample) (w : AchWin) : AchWin :=
  { w with slots := w.slots + 1, sum := w.sum + (p.codes.take 8).foldl (· + ·) 0, rbSum := w.rbSum + fRat0 (b64 p.rb) }

/-- R248: a readback sample of the slot that ends, taken at its first clock, joins the comparison interval, unless it was taken
within 100 µs after a code change; the stage's saturation in the slot joins too (R257). -/
def intervalSlot (s : State) (p : AchSample) (x : AchCh) : AchCh :=
  if s.tbu.slot % 512 < 448 then { x with rbCount := 0, rbSum := 0, satAll := true, satAny := false }
  else
    let y := { x with satAll := x.satAll && p.satAll, satAny := x.satAny || p.satAny }
    if (x.codeClk.any (fun c => s.tbu.edge ≤ c + 20000)) then y
    else { y with rbCount := x.rbCount + 1, rbSum := x.rbSum + fRat0 (b64 p.rb) }

/-- R258: a secondary that was switched off and is `on` again runs below its limit from a slot's start until a slot in which it
reaches the limit; after 1 s its next overload is raised again. -/
def restSlot (on : Bool) (s : State) (p : AchSample) (x : AchCh) : AchCh :=
  if on = false ∨ p.atLimit = true then { x with restClk := none }
  else if x.restClk.any (fun c => c + 200000000 ≤ slotEnd s) then { x with overloadSeen := false, restClk := none }
  else { x with restClk := some (x.restClk.getD s.tbu.edge) }

/-- R206, R246-R248, R258: the samples of the slot that ends; `s` still stands in that slot. -/
def achSamples (l : List AchSample) (s : State) : State :=
  each s.ach (fun e t =>
    let x := ach t e.1
    let p := sampleOf l e.1
    let y := intervalSlot t p { x with win := x.win.map (winSlot p) }
    putAch e.1 (if y.overloadSeen then restSlot (lspOn t e.1) t p y else y) t) s

/-- R206, R219: the slot boundary: a window goes on in the timebase's present state, and a loaded code takes effect. -/
def achSlot (s : State) : State :=
  let locked := busState s == 2
  each s.ach (fun e t =>
    let x := ach t e.1
    let w := x.win.map (fun w => { w with coherent := w.coherent && locked })
    let c := x.next.getD x.code
    putAch e.1 { x with win := w, code := c, next := none, codeClk := if c = x.code then x.codeClk else some t.now } t) s

/-- R213: the open window of channel `ch` reaches 262,656 slots without a latch. -/
def execWindowOverrun (ch : Fin 32) (s : State) : Host.Outcome State Fault Refusal :=
  .next (match (ach s ch).win with
    | some w => if 262656 ≤ w.slots then abandon ch (putAch ch { ach s ch with win := none } s) else s
    | none => s)

/-- R236: a conversion of bring-up service completes: the mean of the readback converter on factory calibration, with what the
front-end measured. -/
def execBringupConversion (ch : Fin 32) (conv : Nat × AchMeas) (s : State) : Host.Outcome State Fault Refusal :=
  .next (if s.seq.sched = 1 ∧ achIsOut s ch = false then
    putAch ch { ach s ch with conv := some conv, convSeen := false } s else s)

/-- R212: whatever window is open counts for nothing at its latch. -/
def voidWindow (n : Nat) (s : State) : State :=
  let x := ach s n
  putAch n { x with win := x.win.map (fun w => { w with void := true }), prev := none } s

/-- The channel closes its windows without a count (R212, R242). -/
def dropWindow (n : Nat) (s : State) : State := putAch n { ach s n with win := none, prev := none } s

/-! ### MISWIRE and calibration -/

/-- R233: MISWIRE of channel `ch`. -/
def execMiswire (ch : Fin 32) (s : State) : Host.Outcome State Fault Refusal :=
  .next (if miswired s ch then s
    else s |> setFlag (Reg.stat (0x20 + ch)) 0 true |> hartAbort ch |> clearRunOf ch |> bump (Reg.achCntMiswire ch) 1
      |> raise_ (0x20 + ch) 0)

/-- R234: no condition of MISWIRE has been present for 1 s. -/
def execMiswireClear (ch : Fin 32) (s : State) : Host.Outcome State Fault Refusal :=
  .next (if miswired s ch then voidWindow ch (setFlag (Reg.stat (0x20 + ch)) 0 false s) else s)

/-- R238: a calibration starts; the window open now is discarded at its latch. -/
def achCalibrate (n : Nat) (s : State) : State :=
  s |> voidWindow n |> setFld (Reg.achCalState n) 1 0 1 |> setFlag (Reg.stat (0x20 + n)) 1 true |> clearRunOf n
    |> (fun t => putAch n { ach t n with startCal := false } t)

/-- R237, R238: the calibration of channel `ch` ends: `cal` holds the gain and the offset found where it passed, and nothing where
it failed, when the channel is on factory calibration. -/
def execCalibrationEnd (ch : Fin 32) (cal : Option (Nat × Nat)) (s : State) : Host.Outcome State Fault Refusal :=
  .next (if calibrating s ch then
    let s1 := s |> voidWindow ch |> setFlag (Reg.stat (0x20 + ch)) 1 false
      |> (fun t => putAch ch { ach t ch with startCal := false, cal := cal } t)
    missingClear (if cal.isSome then s1 |> setFld (Reg.achCalState ch) 1 0 2 |> raise_ (0x20 + ch) 8
    else s1 |> setFld (Reg.achCalState ch) 1 0 3 |> raise_ (0x20 + ch) 9)
  else s)

/-- A change of the mode takes effect: the window is discarded, and the modem and the mismatch rule stop (R212, R255, R270). -/
def achModeNew (n : Nat) (s : State) : State := s |> dropWindow n |> hartAbort n |> clearRunOf n

/-- R201, R242: a change of CFG.MODE by a host takes effect. In OFF the output stage lets go of its terminals, and no command is in
force. On the return to the Sheaf mode the channel calibrates, and an output drives the code it held (DESIGN CHOICE, log entry
87). -/
def achModeChange (n : Nat) (s : State) : State :=
  let s1 := achModeNew n s
  if achMode s n = 0 then putAch n { ach s1 n with connected := false, next := none, clamp := 0 } s1
  else achCalibrate n (putAch n { ach s1 n with connected := driving s1 && achIsOut s1 n } s1)

/-- R162, R238: an activation gives a channel another mode: the channel calibrates no further; the gain and offset that it goes on
with are not stated (log entry 88). An output drives the code it held. -/
def achModeSheaf (n : Nat) (s : State) : State :=
  let s1 := achModeNew n s
  let x := { ach s1 n with next := none, clamp := 0, connected := driving s1 && achIsOut s1 n }
  if x.cal.isSome then drawNext (putAch n { x with cal := some (Config.carriedCal s1.draws) } s1) else putAch n x s1

/-! ### The readback comparison (R248-R263) -/

/-- R255: the mismatch rule is suspended; the start calibration does not suspend it. -/
def mismatchOff (s : State) (n : Nat) : Bool :=
  !achIsOut s n || miswired s n || listening s || (calibrating s n && !(ach s n).startCal)

/-- R250: OUT_MISMATCH is latched. -/
def latchMismatch (n : Nat) (s : State) : State :=
  let fv := flag s (Reg.achOutCfg n) 0
  s |> setFlag (Reg.achRbStat n) 2 true |> setFld (Reg.achRbStat n) 8 7 2 |> setFlag (Reg.achStatus n) 10 true
    |> setFld (Reg.achRbStat n) 1 0 (if fv then 2 else 1) |> setNext n (if fv then some (faultCode s n) else none)
    |> bump (Reg.achCntOutMismatch n) 1 |> raise_ (0x20 + n) 10 |> handback 1 n

/-- R261: the first comparison that counts as compliance. -/
def setCompliance (n : Nat) (rb : FVal) (s : State) : State :=
  let s1 := s |> setFlag (Reg.achRbStat n) 4 true |> setFlag (Reg.achStatus n) 11 true
    |> bump (Reg.achCntCompliance n) 1 |> putAch n { ach s n with complClk := s.now, clearRun := 0 } |> raise_ (0x20 + n) 11
  let c := (ach s n).cmd
  fixedRec 0x104 ((0x20 + n) <<< 8) 0
    [(c.val, tagCode c.tag), (toW32 (engOut s n (trimIn s n rb)), tagCode .limited),
     (BitVec.ofNat 32 (rd s1 (Reg.achStatus n)), tagCode .good)] [] s1

/-- R262: COMPLIANCE clears, and FIELD_ALARM with it (R263). -/
def clearCompliance (n : Nat) (s : State) : State :=
  s |> setFlag (Reg.achRbStat n) 4 false |> setFlag (Reg.achRbStat n) 5 false |> setFlag (Reg.achStatus n) 11 false
    |> putAch n { ach s n with clearRun := 0 }

/-- R262: a comparison that was no mismatch counts towards the clearing of COMPLIANCE when the stage was not saturated. -/
def countClear (n : Nat) (s : State) : State :=
  let x := ach s n
  if flag s (Reg.achRbStat n) 4 = false ∨ x.satAny then putAch n { x with clearRun := 0 } s
  else if 1 ≤ x.clearRun then clearCompliance n s
  else putAch n { x with clearRun := 1 } s

/-- R249, R261, R262: a comparison that is no mismatch. While OUT_MISMATCH is latched it raises nothing (R251), so it sets no
COMPLIANCE. -/
def noMismatch (n : Nat) (rb : FVal) (compl : Bool) (s : State) : State :=
  if compl && !flag s (Reg.achRbStat n) 4 && !flag s (Reg.achRbStat n) 2 then setCompliance n rb s else countClear n s

/-- R248-R251: the comparison of channel n at a minor-cycle boundary. -/
def rbCompare (n : Nat) (s : State) : State :=
  let x := ach s n
  if mismatchOff s n then clearRunOf n s
  else
    let s1 := s |> setFlag (Reg.achRbStat n) 3 x.satAll
    if x.rbCount < 32 then s1
    else
      let rb := x.rbSum / x.rbCount
      let cmd := codeValue (achMode s n) (ach s n).code
      let tol := outSpan (achMode s n) * (fld s (Reg.achCfg n) 31 24 : Nat) / 10000
      let miss := decide (tol < rb - cmd) || decide (tol < cmd - rb)
      let short := x.satAll && decide (rb * rb < cmd * cmd) && !x.railFail
      let s2 := wrF (Reg.achRbValue n) (fOfQ f32 rb) s1
      let latched := flag s (Reg.achRbStat n) 2
      if miss ∧ short = false then
        let s3 := putAch n { ach s2 n with clearRun := 0 } s2
        if latched then s3
        else if 1 ≤ fld s (Reg.achRbStat n) 8 7 then latchMismatch n s3
        else setFld (Reg.achRbStat n) 8 7 1 s3
      else noMismatch n (fOfQ f32 rb) (miss && short) (if latched then s2 else clearRunOf n s2)

/-- R248: the comparisons of a minor-cycle boundary. -/
def achMinor (s : State) : State := each (List.range 32) rbCompare s

/-- R263: COMPLIANCE of channel `ch` has stood for CFG.COMPL_TIME seconds. -/
def execFieldAlarm (ch : Fin 32) (s : State) : Host.Outcome State Fault Refusal :=
  .next (if flag s (Reg.achRbStat ch) 4 ∧ flag s (Reg.achRbStat ch) 5 = false
      ∧ fld s (Reg.achCfg ch) 23 16 * 200000000 ≤ s.now - (ach s ch).complClk then
    s |> setFlag (Reg.achRbStat ch) 5 true |> raise_ (0x20 + ch) 12
  else s)

/-- R254: the clearing of OUT_MISMATCH takes effect at a minor-cycle boundary. -/
def execMismatchClearApply (ch : Fin 32) (s : State) : Host.Outcome State Fault Refusal :=
  .next (if (ach s ch).restore then
    let s1 := putAch ch { ach s ch with restore := false } s
    if flag s (Reg.achRbStat ch) 2 then
      s1 |> setFlag (Reg.achRbStat ch) 2 false |> clearRunOf ch |> setFld (Reg.achRbStat ch) 1 0 0
        |> setFlag (Reg.achStatus ch) 10 false
    else s1
  else s)

/-- R254: OUT_RESTORE.RESTORE is written with 1. -/
def achRestore (n : Nat) (s : State) : State :=
  if flag s (Reg.achRbStat n) 2 then putAch n { ach s n with restore := true } s else s

/-! ### The loop supply (R256-R260) -/

/-- R258: the secondary of channel `ch` has stayed at its limit for LIMIT_TIME and is switched off; that is raised unless it has been
switched off before and has not run below its limit for 1 s since. -/
def execLoopOverload (ch : Fin 32) (s : State) : Host.Outcome State Fault Refusal :=
  .next (if lspOn s ch then
    let s1 := s |> setFlag Reg.lspOverload ch true |> bump Reg.lspCntOverload 1
      |> putAch ch { ach s ch with overloadSeen := true, restClk := none, offClk := s.now }
    if (ach s ch).overloadSeen then s1 else raise_ 0x06 0 s1
  else s)

/-- R258: RETRY seconds after a switch-off the secondary is switched on again. -/
def execOverloadRetry (ch : Fin 32) (s : State) : Host.Outcome State Fault Refusal :=
  .next (if flag s Reg.lspOverload ch ∧ (ach s ch).offClk + fld s Reg.lspOvlCfg 7 0 * 200000000 ≤ s.now then
    setFlag Reg.lspOverload ch false s else s)

/-- R259: a secondary that is on has lain outside 24.0-28.0 V for 10 ms. -/
def execRailFail (ch : Fin 32) (s : State) : Host.Outcome State Fault Refusal :=
  .next (if lspOn s ch ∧ (ach s ch).railFail = false then
    s |> putAch ch { ach s ch with railFail := true } |> bump Reg.lspCntRailFail 1 |> raise_ 0x06 1 else s)

/-- R259: its voltage has lain within 24.0-28.0 V for 100 ms. -/
def execRailRecover (ch : Fin 32) (s : State) : Host.Outcome State Fault Refusal :=
  .next (putAch ch { ach s ch with railFail := false } s)

/-- R276: LOAD_POWER, `mw` in the last measurement, has exceeded 20,500 mW in every measurement over 1 s. -/
def execLspPowerHigh (mw : Nat) (s : State) : Host.Outcome State Fault Refusal :=
  let s1 := wr Reg.lspLoadPower (min mw 65535) s
  .next (if 20500 < mw then raise_ 0x06 2 s1 else s1)

/-! ### Start and takeover -/

/-- R221, R237: the start of bring-up service: outputs take START_VALUE, every channel calibrates. -/
def achBringup (s : State) : State :=
  each (List.range 32) (fun n t =>
    let t1 := if achIsOut t n then
        let x := trimOut t n (engOf t n (rdF t (Reg.achStartValue n)))
        putAch n { ach t n with code := (driveCode t n true (fRatDriven x)).1, connected := driving t, codeClk := some t.now } t
      else t
    putAch n { ach t1 n with startCal := true } t1 |> setFld (Reg.achCalState n) 1 0 1 |> setFlag (Reg.stat (0x20 + n)) 1 true) s

/-- R212: no channel has an open window any more (a schedule switch, a Sheaf activation). -/
def achDropAll (s : State) : State := each s.ach (fun e t => dropWindow e.1 t) s

/-- R241, R271, R600: the channels at takeover; `codes` are the DAC codes of a FINAL_OUTPUT record, if one came. -/
def achTakeover (codes : Option (List Nat)) (s : State) : State :=
  each (List.range 32) (fun n t =>
    let m := achMode t n
    let t1 := if m = 2 ∨ m = 3 ∨ m = 7 ∨ m = 8 then dropWindow n t else t
    let x := ach t1 n
    let c := match codes with
      | some l => l.getD n x.code
      | none => x.code
    let t2 := if achIsOut t n then
        putAch n { x with code := c, next := none, clamp := 0, connected := true, codeClk := some t.now } t1 else t1
    wr (Reg.achHartStat n) (2 ^ 18) t2) s

end Sys2Proof.Machine
end

