-- ==== Sys2Proof/Machine/Hart.lean ====
section
/-! DEFINITION. The HART modems of the universal channels (R264-R271). The places of the address, of the expansion bytes and of
the frame kind in a frame follow the HART specification that R264 cites (PRESUMED, log entry 25). -/

namespace Sys2Proof.Machine

/-- R264: the modem is in use: enabled, in a current mode, with no MISWIRE and not listening. -/
def hartOn (s : State) (n : Nat) : Bool :=
  flag s (Reg.achHartCfg n) 0 && (achMode s n == 2 || achMode s n == 3 || achMode s n == 4 || achMode s n == 5)
    && !miswired s n && !listening s

/-- Byte i of the transmit buffer of a channel. -/
def hartTxByte (s : State) (n i : Nat) : Nat := fld s (Reg.achHartTx n (i / 4)) (8 * (i % 4) + 7) (8 * (i % 4))

/-- The request bytes of a channel. -/
def hartTx (s : State) (n : Nat) : List Nat := (List.range (fld s (Reg.achHartTxLen n) 8 0)).map (hartTxByte s n)

/-- R266: the check byte: the XOR of the bytes. -/
def hartCheck (l : List Nat) : Nat := l.foldl (fun a b => a ^^^ (b % 256)) 0

/-- The address bytes of a frame, without the burst bit: five when bit 7 of the delimiter is set, else one. -/
def hartAddr (l : List Nat) : List Nat :=
  let n := if bitOf (l.headD 0) 7 then 5 else 1
  match (l.drop 1).take n with
  | [] => []
  | a :: t => putBit a 6 false :: t

/-- A frame whose delimiter names a burst frame. -/
def hartBurst (l : List Nat) : Bool := bitsOf (l.headD 0) 2 0 == 1

/-- R266, R268: HART_CTRL.SEND is written with 1. -/
def hartSend (n : Nat) (s : State) : State :=
  let s1 := setFlag (Reg.achHartStat n) 18 false s
  if fld s (Reg.achHartTxLen n) 8 0 = 0 then s1 |> setFld (Reg.achHartStat n) 11 8 6 |> raise_ (0x20 + n) 13
  else if hartOn s n then s1 |> setFld (Reg.achHartStat n) 2 0 1 |> bump (Reg.achCntHartTx n) 1
  else s1

/-- R266 step 2: the line has been free of carrier for the master's time: a transaction that waits starts to send. -/
def execHartBusFree (ch : Fin 32) (s : State) : Host.Outcome State Fault Refusal :=
  .next (if hartState s ch = 1 then
    let b := hartTx s ch
    let frame := List.replicate (fld s (Reg.achHartCfg ch) 12 8) 255 ++ b ++ [hartCheck b]
    s |> setFld (Reg.achHartStat ch) 2 0 2 |> setFlag (Reg.achHartStat ch) 3 true
      |> putAch ch { ach s ch with hartOut := frame, hartClk := s.now }
  else setFlag (Reg.achHartStat ch) 3 false s)

/-- R266 step 3: the end of the check byte: the whole frame has left. -/
def execHartTxDone (ch : Fin 32) (s : State) : Host.Outcome State Fault Refusal :=
  .next (if hartState s ch = 2 then
    s |> setFld (Reg.achHartStat ch) 2 0 3 |> setFlag (Reg.achHartStat ch) 3 false |> emit (.hart ch (ach s ch).hartOut)
      |> putAch ch { ach s ch with hartOut := [] }
  else s)

/-- R266 step 4, R272: carrier and a start character. -/
def execHartStartCharacter (ch : Fin 32) (s : State) : Host.Outcome State Fault Refusal :=
  .next (if hartOn s ch then
    let s1 := setFlag (Reg.achHartStat ch) 3 true s
    if hartState s ch = 3 then setFld (Reg.achHartStat ch) 2 0 4 s1 else s1
  else s)

/-- The word k of a byte buffer. -/
def bufWord (l : List Nat) (k : Nat) : Nat := leNat ((l.drop (4 * k)).take 4)

/-- R269: store a correct frame in the receive buffer. -/
def hartStore (n : Nat) (burst : Bool) (frame : List Nat) (s : State) : State :=
  let s1 := if flag s (Reg.achHartStat n) 16 then bump (Reg.achCntHartOverrun n) 1 s else s
  let s2 := each (List.range 128) (fun k => wr (Reg.achHartRx n k) (bufWord frame k)) s1
  s2 |> wr (Reg.achHartRxLen n) (min 266 frame.length) |> setFlag (Reg.achHartStat n) 16 true
    |> setFlag (Reg.achHartStat n) 17 burst

/-- R266 step 5, R267, R269: a received frame ends: its bytes from the delimiter through the check byte, and whether parity and
framing were correct throughout. -/
def execHartFrameReceived (ch : Fin 32) (bytes : List Nat) (framing : Bool) (s0 : State) : Host.Outcome State Fault Refusal :=
  let s := setFlag (Reg.achHartStat ch) 3 false s0
  let frame := bytes.dropLast
  let good := framing && bytes.length ≥ 4 && hartCheck frame == bytes.getLastD 0 % 256
  .next (if hartState s ch = 4 then
    if good = false then s |> bump (Reg.achCntHartErr ch) 1 |> hartEnd ch 3
    else
      let own := hartAddr frame == hartAddr (hartTx s ch)
      s |> hartStore ch (hartBurst frame) frame |> hartEnd ch (if own then 1 else 4)
  else if hartState s ch = 0 ∧ hartOn s ch ∧ flag s (Reg.achHartCfg ch) 16 ∧ good ∧ hartBurst frame then
    s |> hartStore ch true frame |> raise_ (0x20 + ch) 13
  else s)

/-- R266 step 5, R267: no start character within 28 characters. -/
def execHartNoResponse (ch : Fin 32) (s : State) : Host.Outcome State Fault Refusal :=
  .next (if hartState s ch = 3 then s |> bump (Reg.achCntHartNoresp ch) 1 |> hartEnd ch 2 else s)

/-- R269: HART_RX_LEN is read. -/
def hartRxRead (n : Nat) (s : State) : State :=
  s |> setFlag (Reg.achHartStat n) 16 false |> setFlag (Reg.achHartStat n) 17 false

/-- R269: a read of HART_RX_LEN of channel `ch`. -/
def execHartRxLenRead (ch : Fin 32) (s : State) : Host.Outcome State Fault Refusal := .next (hartRxRead ch s)

end Sys2Proof.Machine
end

