-- ==== Sys2Proof/Machine/Cle.lean ====
section
/-! DEFINITION. The runs of the closed-loop control engine (R344, R345) and its page commit (R373-R379). -/

namespace Sys2Proof.Machine

/-! ### Runs (R344, R345) -/

/-- The destination words of a loop: OUT_WORD, and STATUS_WORD where it names one. -/
def loopDests (s : State) (l : LoopRec) : List Nat :=
  l.word s wOut :: (if l.word s wStatus < imgWords then [l.word s wStatus] else [])

/-- R344: the actions of a run of loops that starts at clock t: each loop reads at the first of its 32 clocks and writes by the
last (log entry 4). -/
def runTodo (s : State) (e : Entry) (tab : Tab (Option Word)) (t : Nat) : List (Nat × Act) :=
  let first := bitsOf e.arg0 7 0
  (List.range (bitsOf e.arg1 8 0)).flatMap (fun q =>
    (t + 32 * q + 1, Act.loop (first + q)) :: (loopDests s ⟨tab, first + q⟩).map (fun _ => (t + 32 * (q + 1), Act.next)))

/-- R345: CLE_RUN: it starts at once, or waits while an earlier one runs. -/
def runCleRun (e : Entry) (s : State) : State :=
  let n := bitsOf e.arg1 8 0
  let words := (List.range n).flatMap (fun q => loopDests s ⟨s.cle.eff, bitsOf e.arg0 7 0 + q⟩)
  if n = 0 then s
  else if s.now ≤ s.cle.busy ∧ s.cle.busy ≠ 0 ∨ (cleWaiting s).isSome then
    s |> goOn e words neverClk [] |> bump Reg.cleCntRunWait 1 |> pmcInc 17
  else
    let t := goOn e words (s.now + 32 * n) (runTodo s e s.cle.eff s.now) s
    { t with cle := { t.cle with busy := s.now + 32 * n } }

/-- R344: CLE_RUN of `count` loops from `first` on. -/
def execCleRun (pos first count : Nat) (s : State) : Host.Outcome State Fault Refusal :=
  .next (dispatch (fun e _ t => runCleRun e t) ⟨0x11, 0x0B, first, count, 0, 0, 0, pos⟩ {} s)

/-- R345: the entry that waits longest starts at the clock after the earlier one ends. -/
def execCleRunDeferredStart (s : State) : Host.Outcome State Fault Refusal :=
  .next (match cleWaiting s with
    | none => s
    | some w =>
      let s1 := advanceTo (s.cle.busy + 1) s
      match entryOf s1 w.uid with
      | none => s1
      | some o =>
        let stop := s1.now + 32 * bitsOf o.e.arg1 8 0
        let s2 := entryUpd o.uid (fun x => { x with last := stop, todo := runTodo s1 o.e (o.tab.getD s1.cle.eff) s1.now }) s1
        { s2 with cle := { s2.cle with busy := stop } })

/-- R373: OSC_ACK is written with ACK = 1 for loop k. -/
def cleOscAck (k : Nat) (s : State) : State :=
  let x := loopSt s k
  if x.osc then
    s |> loopUpd k (fun y => { oscEmpty y with osc := false }) |> setOscMap k false
  else s

/-! ### The page commit (R374-R378) -/

/-- R378: the cross-field condition that a loop record breaks, if any; `word` gives the words of the record. -/
def crossCond (word : Nat → Nat) : Option Nat :=
  let w (off : Nat) : FVal := fOfBits f32 (word (off / 4))
  let nreg := bitsOf (word 0) 15 12
  let two := fMul f32 (fOfInt f32 2) (w 0x05C)
  if fLe (w 0x18C) (w 0x188) = false then some 1
  else if fLe (w 0x198) (w 0x194) = false then some 2
  else if ((List.range 6).filter (fun j => j + 2 < nreg)).any (fun j =>
      !decide (fRat0 two < fRat0 (w (0x044 + 4 * j)) - fRat0 (w (0x040 + 4 * j)))) then some 3
  else none

/-- R378: the cross-field condition that loop k's shadow breaks, if any. -/
def commitCond (s : State) (k : Nat) : Option Nat := crossCond (loopShd s k)

/-- The gain sets of loop k whose words the shadow changes, one bit each (R365). -/
def changedSets (s : State) (k : Nat) : Nat :=
  (List.range 9).foldl (fun m g =>
    if (List.range 8).any (fun j =>
      loopShd s k (0x18 + 8 * g + j) != loopWord s s.cle.eff k (0x18 + 8 * g + j)) then m ||| 2 ^ g else m) 0

/-- R377: entries dispatched before a commit complete their loops on the tables of their dispatch. -/
def keepTables (tab : OutEntry → Tab (Option Word)) (s : State) : State :=
  { s with seq := { s.seq with outst := s.seq.outst.map (fun o => if o.e.opcode = 0x11 then { o with tab := some (tab o) } else o) } }

/-- R376: the shadows become effective. -/
def commitApply (s : State) : State :=
  let ks := (s.cle.shd.map (fun e => e.1 / 128)).eraseDups
  let s1 := each ks (fun k t =>
    let m := changedSets s k
    if m = 0 then t else loopUpd k (fun y => { y with changed := y.changed ||| m }) t) s
  let eff := s.cle.shd.foldl (fun t e => tabSet (fun _ => none) t e.1 e.2) s.cle.eff
  let s2 := keepTables (fun o => o.tab.getD s.cle.eff) s1
  { s2 with cle := { s2.cle with eff := eff, shd := [] } }
    |> wideSet Reg.cleCommitGenLo (seqGen s) |> setFlag Reg.cleCommitResult 31 false
    |> setFlag (Reg.stat 0x0B) 3 false |> pmcInc 22 |> raise_ 0x0B 4

/-- R376: the commit is refused. -/
def commitRefuse (k cond : Nat) (s : State) : State :=
  s |> wr Reg.cleCommitResult (2 ^ 31 + cond <<< 8 + k) |> setFlag (Reg.stat 0x0B) 3 true
    |> bump Reg.cleCntCommitFail 1 |> raise_ 0x0B 5

/-- R66, R376: an armed page commit at a major-cycle boundary. -/
def cleCommit (s : State) : State :=
  let s1 := { s with cle := { s.cle with armed := false } }
  let fails := (List.range (cfgCount s 0x0701)).filterMap (fun k => (commitCond s k).map (fun c => (k, c)))
  match fails with
  | (k, c) :: _ => commitRefuse k c s1
  | [] => commitApply s1

/-- R66, R376: PAGE_COMMIT_APPLY. -/
def execPageCommitApply (s : State) : Host.Outcome State Fault Refusal :=
  .next (if s.cle.armed then cleCommit s else s)

/-- R361, R374: start, module reset and takeover for the loops. -/
def cleStart (s : State) : State := { s with cle := {} }

/-- R379: a module that becomes ACTIVE uses H_NOM in its next step of each loop; `first` when the copy was stale (R601). -/
def cleTakeover (first : Bool) (s : State) : State :=
  { s with cle := { s.cle with
    loops := s.cle.loops.map (fun e => (e.1, { e.2 with resumed := true, first := e.2.first || first }))
    laneLoops := [], busy := 0 } }

end Sys2Proof.Machine
end

