-- ==== Sys2Proof/Machine/Mbc.lean ====
section
/-! DEFINITION. The message-bus controllers (R482-R517): the journal, error confinement, transmission with failover, and
MBC_MAP. The counting rules of ISO 11898-1 for TEC and REC are taken from that standard (log entry 30). -/

namespace Sys2Proof.Machine

/-! ### The journal (R491-R496) -/

/-- The angle stamp of R493. -/
def jnlAngle (gen slot : Nat) : Nat := (gen % 2 ^ 20) <<< 12 + slot % 4096

/-- Ship time at an earlier clock. -/
def shipAt (s : State) (clk : Nat) : Nat := shipNow s - 5 * (s.now - clk)

/-- Write entries of seven words each; INFO gets the entry's sequence number (R492). -/
def jnlWrite (n : Nat) (es : List (List Nat × Nat)) (s : State) : State :=
  each es (fun e t =>
    let q := rd t (Reg.mbcJnlSeq n)
    let h := fld t (Reg.mbcJnlHead n) 12 0
    let fill := tabGet (fun _ => (0 : Nat)) t.pmc.jnlFill n
    { t with pmc := { t.pmc with jnlFill := tabSet (fun _ => (0 : Nat)) t.pmc.jnlFill n (satAdd 8192 fill 1) } }
      |> mbcUpd n (fun x => { x with jnl := tabSet (fun _ => ([] : List Nat)) x.jnl h (e.1 ++ [e.2 + q % 65536]) })
      |> wr (Reg.mbcJnlHead n) ((h + 1) % 8192) |> wr (Reg.mbcJnlSeq n) (q + 1)) s

/-- The payload of a frame: remote frames carry none. -/
def CanFrame.payload (f : CanFrame) : List Nat := if f.rtr then [] else f.data.take (dlcLen f.fd f.dlc)

/-- R492, R493: journal a frame. -/
def jnlFrame (n : Nat) (f : CanFrame) (tx loopback : Bool) (sof : SofStamp) (s : State) : State :=
  let p := f.payload
  let flags := b2n tx <<< 7 + b2n loopback <<< 6 + b2n f.esi <<< 5 + b2n f.brs <<< 4 + b2n f.fd <<< 3 + b2n f.rtr <<< 2
    + b2n f.ide <<< 1
  let ship := shipAt s sof.clk
  let first := [ship % 2 ^ 32, ship / 2 ^ 32, jnlAngle sof.gen sof.slot, f.id % 2 ^ 29] ++ wordsLe 3 p
  let cont (k : Nat) : List Nat × Nat := (wordsLe 7 (p.drop (12 + 28 * k)), 2 <<< 28)
  let more := if p.length ≤ 12 then [] else if p.length ≤ 40 then [cont 0] else [cont 0, cont 1]
  pmcInc (104 + 6 * n) (jnlWrite n ((first, 1 <<< 28 + (f.dlc % 16) <<< 24 + flags <<< 16) :: more) s)

/-- The ERROR word of a chaff record (R495). -/
def chaffError (x : MbcSt) (code : Nat) (tx data : Bool) (desc : Nat) : Nat :=
  code <<< 28 + b2n tx <<< 27 + b2n data <<< 26 + x.err <<< 24 + desc <<< 12 + min 255 x.tec

/-- R495: write a new chaff record. -/
def chaffNew (n code : Nat) (tx data : Bool) (desc : Nat) (s : State) : State :=
  let x := mbc s n
  let ship := shipNow s
  let w := [ship % 2 ^ 32, ship / 2 ^ 32, jnlAngle s.tbu.gen s.tbu.slot, chaffError x code tx data desc, 0,
    ship % 2 ^ 32, ship / 2 ^ 32]
  s |> jnlWrite n [(w, 3 <<< 28 + min 255 x.rxc <<< 16)] |> bump (Reg.mbcCntChaff n) 1 |> pmcInc (104 + 6 * n + 3)

/-- R496: an error event coalesces into the newest entry, or takes a new one. -/
def chaffEvent (n code : Nat) (tx data : Bool) (desc : Nat) (s : State) : State :=
  let x := mbc s n
  let k := (fld s (Reg.mbcJnlHead n) 12 0 + 8191) % 8192
  let e := tabGet (fun _ => ([] : List Nat)) x.jnl k
  let er := e.getD 3 0
  if bitsOf (e.getD 7 0) 31 28 = 3 ∧ bitsOf er 31 28 = code ∧ bitOf er 27 = tx ∧ bitOf er 26 = data then
    let ship := shipNow s
    let e1 := e.take 3 ++ [chaffError x code tx data desc, satAdd 0xFFFFFFFF (e.getD 4 0) 1, ship % 2 ^ 32, ship / 2 ^ 32,
      putBits (e.getD 7 0) 23 16 (min 255 x.rxc)]
    mbcUpd n (fun y => { y with jnl := tabSet (fun _ => ([] : List Nat)) y.jnl k e1 }) s
  else chaffNew n code tx data desc s

/-! ### Transmit descriptors and the queue (R497-R502) -/

/-- R507: both controllers' FAILOVER frames move to where the rule places them; each controller that gives up frames counts them. -/
def failoverMove (n : Nat) (s : State) : State :=
  each [n, mbcPair n] (fun c t =>
    let o := mbcPair c
    let bothOff := (mbc t c).err == 2 && (mbc t o).err == 2
    let go := (mbc t c).queue.filter (fun i => txdFlag t i.desc 2 && !bothOff && txPlace t i.desc == o)
    if go = [] then t
    else
      t |> mbcUpd c (fun x => { x with queue := x.queue.filter (fun i => !go.contains i) })
        |> mbcUpd o (fun x => { x with queue := x.queue ++ go })
        |> bump (Reg.mbcCntFailover c) go.length |> raise_ (0x0E + c) 5) s

/-- R498: MBC_SEND reads its source words from the clock after its dispatch, one per clock, and its frame enters the queue at the
clock after the last. -/
def runMbcSend (e : Entry) (s : State) : State :=
  let d := bitsOf e.arg0 11 0
  let nw := (dlcLen (txdFlag s d 0) (txd s d 5 1) + 3) / 4
  goOn e [] (s.now + nw + 1)
    ((List.range nw).map (fun i => (s.now + 1 + i, Act.fetch (txd s d 8 4 + i))) ++ [(s.now + nw + 1, Act.send)]) s

/-- R498: MBC_SEND of transmit descriptor `d` on controller `n`. -/
def execMbcSend (pos : Nat) (n : Fin 4) (d : Nat) (s : State) : Host.Outcome State Fault Refusal :=
  .next (dispatch (fun e _ t => runMbcSend e t) ⟨0x20, 0x0E + n, d, 0, 0, 0, 0, pos⟩ {} s)

/-- R502: the place of a frame in arbitration, the least first. -/
def arbKey (f : CanFrame) : Nat :=
  if f.ide then bitsOf f.id 28 18 <<< 21 + 3 <<< 19 + bitsOf f.id 17 0 <<< 1 else bitsOf f.id 10 0 <<< 21

/-- R502: the frame that arbitration places first, the lower descriptor first among equals. -/
def firstTx (l : List TxInst) : Option TxInst :=
  l.foldl (fun b i => match b with
    | none => some i
    | some j => if arbKey i.frame < arbKey j.frame ∨ (arbKey i.frame = arbKey j.frame ∧ i.desc < j.desc) then some i else some j) none

/-- R488, R502: may the controller attempt a frame. -/
def mbcMayTx (s : State) (n : Nat) : Bool :=
  let x := mbc s n
  x.mode != 1 && x.err != 2 && x.att.isNone

/-- R502: TX_ATTEMPT of controller n. -/
def execTxAttempt (n : Fin 4) (s : State) : Host.Outcome State Fault Refusal :=
  .next (if mbcMayTx s n then
    match firstTx ((mbc s n).queue.filter (fun i => i.ready ≤ s.now)) with
    | some i => mbcUpd n (fun x => { x with att := some (i, ⟨s.now, s.tbu.gen, s.tbu.slot⟩) }) s
    | none => s
  else s)

/-! ### Error confinement (R504-R509) -/

/-- LAST_TX. -/
def setLastTx (n res desc : Nat) (s : State) : State := wr (Reg.mbcLastTx n) (res <<< 28 + desc % 4096) s

/-- R507: entry into bus-off. -/
def enterBusOff (n : Nat) (s : State) : State :=
  let x := mbc s n
  let s1 := match x.att with
    | some a => setLastTx n 7 a.1.desc s
    | none => s
  s1 |> mbcUpd n (fun x => { x with err := 2, att := none, recovering := bitOf (rd s (Reg.mbcCfg n)) 16 })
    |> chaffNew n 0xA false false 0xFFF |> bump (Reg.mbcCntBusOff n) 1 |> pmcInc (104 + 6 * n + 4) |> raise_ (0x0E + n) 2
    |> failoverMove n

/-- R504, R505: the error state that the counters give, after they changed from `old`. -/
def errTransitions (n : Nat) (old : MbcSt) (s : State) : State :=
  let x := mbc s n
  let ewl := fld s (Reg.mbcLimits n) 7 0
  let reach (a b : Nat) : Bool := decide (a < ewl) && decide (ewl ≤ b)
  let s1 := if reach old.tec x.tec || reach old.rxc x.rxc then
      s |> mbcUpd n (fun y => { y with warning := true }) |> chaffNew n 0x8 false false 0xFFF |> raise_ (0x0E + n) 0
    else if x.tec < ewl ∧ x.rxc < ewl then mbcUpd n (fun y => { y with warning := false }) s else s
  let passive := decide (128 ≤ x.tec) || decide (128 ≤ x.rxc)
  let s2 := if passive && x.err == 0 then
      s1 |> mbcUpd n (fun y => { y with err := 1 }) |> chaffNew n 0x9 false false 0xFFF |> raise_ (0x0E + n) 1
    else if !passive && x.err == 1 then s1 |> mbcUpd n (fun y => { y with err := 0 }) |> chaffNew n 0xC false false 0xFFF
    else s1
  if 255 < x.tec ∧ x.err ≠ 2 then enterBusOff n s2 else s2

/-- The error counters after an error event (ISO 11898-1, log entry 30): a transmitter adds 8, a receiver 1; each further
burst of dominant bits after the error flag adds 8. In listen-only mode they stay (R488). -/
def errCount (tx keep : Bool) (extra : Nat) (x : MbcSt) : MbcSt :=
  if x.mode = 1 then x
  else if tx then (if keep then x else { x with tec := min 263 (x.tec + 8 + 8 * extra) })
  else { x with rxc := min 263 (x.rxc + 1 + 8 * extra) }

/-- R495, R496, R504: an error event: counters, its chaff record with the state after it, and the transitions. -/
def mbcError (n code : Nat) (tx data keep : Bool) (extra desc : Nat) (s : State) : State :=
  let old := mbc s n
  let x := errCount tx keep extra old
  let after := { x with err := if x.err = 2 ∨ 255 < x.tec then 2 else if 128 ≤ x.tec ∨ 128 ≤ x.rxc then 1 else 0 }
  s |> putMbc n after |> chaffEvent n code tx data desc |> mbcUpd n (fun y => { y with err := old.err }) |> errTransitions n old

/-- R496: BUS_ERROR: an error event of `code` (R495: 1-5) while receiving; `extra` further counts of 8. -/
def execBusError (n : Fin 4) (code : Fin 5) (data : Bool) (extra bits : Nat) (s : State) : Host.Outcome State Fault Refusal :=
  .next (if (mbc s n).err = 2 ∨ (mbc s n).mode = 2 then s
  else s |> bump (Reg.mbcCntRxErr n) 1 |> pmcAdd (104 + 6 * n + 5) bits |> mbcError n (code + 1) false data false extra 0xFFF)

/-- Both error counters of controller n return to 0, with the transitions that follow; bus-off ends only by recovery (R506). -/
def mbcCountersZero (n : Nat) (s : State) : State :=
  let old := mbc s n
  s |> mbcUpd n (fun x => { x with tec := 0, rxc := 0 }) |> errTransitions n old

/-- R516: new bit timing takes effect, with both error counters at 0. -/
def mbcTiming (n : Nat) (s : State) : State :=
  { s with effOld := tabSet (fun _ => none) (tabSet (fun _ => none) s.effOld (Reg.mbcNbt n) none) (Reg.mbcDbt n) none }
    |> mbcUpd n (fun x => { x with timingDue := false }) |> mbcCountersZero n

/-- R505, R506: what follows at once from CFG.AUTO_RECOVER and LIMITS.EWL as they stand. -/
def mbcJudge (n : Nat) (s : State) : State :=
  let ewl := fld s (Reg.mbcLimits n) 7 0
  mbcUpd n (fun x => { x with
    recovering := x.recovering || (x.err == 2 && flag s (Reg.mbcCfg n) 16)
    warning := x.warning && (decide (ewl ≤ x.tec) || decide (ewl ≤ x.rxc)) }) s

/-- R490: the controller takes CFG.MODE, with both error counters at 0. -/
def mbcEnter (n : Nat) (s : State) : State :=
  s |> mbcUpd n (fun x => { x with mode := effFld s (Reg.mbcCfg n) 1 0, forced := false }) |> mbcCountersZero n

/-- R487: at a major-cycle boundary a mode change takes effect, after the attempt in progress. -/
def mbcMajor (n : Nat) (s : State) : State :=
  mbcUpd n (fun x =>
    if x.forced then x else if x.att.isSome then { x with modeDue := true } else { x with mode := effFld s (Reg.mbcCfg n) 1 0 }) s

/-- What waited for the end of controller n's attempt takes effect (R487, R490, R516). -/
def attEffects (n : Nat) (s : State) : State :=
  let due := (mbc s n).timingDue
  mbcUpd n (fun x => { x with
    modeDue := false
    mode := if x.modeDue then (if x.forced then 1 else effFld s (Reg.mbcCfg n) 1 0) else x.mode }) s
    |> when_ due (mbcTiming n)

/-- The attempt of controller n is over. -/
def attOver (n : Nat) (s : State) : State := mbcUpd n (fun x => { x with att := none }) s

/-! ### Map latches (R511, R515) -/

/-- R511: a journaled frame fills the latch of every map record that matches. -/
def latchFrame (n : Nat) (f : CanFrame) (sof : SofStamp) (s : State) : State :=
  let ks := (List.range (cfgCount s 0x0902)).filter (fun k =>
    let id := mapRec s k 0 4
    let fl := mapRec s k 4 1
    bitOf id 31 == f.ide && bitsOf id 28 0 == f.id && (fl % 4 == n || (bitOf fl 2 && fl % 4 == mbcPair n)))
  each ks (fun k => putMap k { mapSt s k with data := some f.payload, stamp := some sof, fresh := true, age := 0 }) s

/-- At a minor-cycle boundary the ages rise (R512). -/
def mapAge (s : State) : State :=
  { s with maps := (s.maps.map (fun e => (e.1, { e.2 with age := min 256 (e.2.age + 1) }))).filter (fun e => e.2 != {}) }

/-- R494, R511: a frame received from the bus. -/
def mbcReceive (n : Nat) (f : CanFrame) (sof : SofStamp) (s : State) : State :=
  let s1 := s |> jnlFrame n f false false sof |> bump (Reg.mbcCntRx n) 1 |> pmcAdd (104 + 6 * n + 5) f.bits |> latchFrame n f sof
  let old := mbc s1 n
  if old.mode = 1 then s1
  else
    let r := if old.rxc = 0 then 0 else if old.rxc < 128 then old.rxc - 1 else 119 + Config.recAfter s1.draws % 9
    let s2 := if 128 ≤ old.rxc then drawNext s1 else s1
    s2 |> mbcUpd n (fun x => { x with rxc := r }) |> errTransitions n old

/-- R494: CAN_FRAME_RECEIVED. -/
def execCanFrameReceived (n : Fin 4) (f : CanFrame) (sof : SofStamp) (s : State) : Host.Outcome State Fault Refusal :=
  .next (if (mbc s n).err = 2 ∨ (mbc s n).mode = 2 then s else mbcReceive n f sof s)

/-- R503, R509: a successful attempt. -/
def txOk (n : Nat) (i : TxInst) (sof : SofStamp) (s : State) : State :=
  let old := mbc s n
  let loop := old.mode == 2
  let f := { i.frame with esi := i.frame.fd && old.err == 1 }
  let drop (x : MbcSt) : MbcSt := { x with queue := x.queue.filter (fun j => j.uid ≠ i.uid) }
  s |> mbcUpd n drop |> mbcUpd (mbcPair n) drop |> jnlFrame n f true loop sof
    |> when_ (!loop) (emit (.can n (b2n f.ide <<< 31 + f.id) (b2n f.fd + b2n f.brs <<< 1 + f.dlc <<< 4) f.payload))
    |> bump (Reg.mbcCntTxOk n) 1 |> pmcInc (104 + 6 * n + 1) |> setLastTx n 1 i.desc |> wr (Reg.mbcNoackRun n) 0
    |> (if loop then latchFrame n f sof else id)
    |> mbcUpd n (fun x => { x with alone := false, tec := x.tec - 1 }) |> attOver n |> errTransitions n old |> attEffects n

/-- R509: an acknowledge error counts; at NOACK_LIMIT the controller is ALONE. -/
def noAck (n : Nat) (s : State) : State :=
  let k := satAdd 255 (fld s (Reg.mbcNoackRun n) 7 0) 1
  let s1 := setFld (Reg.mbcNoackRun n) 7 0 k s
  if fld s (Reg.mbcLimits n) 15 8 ≤ k ∧ (mbc s n).alone = false then
    let s2 := s1 |> mbcUpd n (fun x => { x with alone := true }) |> raise_ (0x0E + n) 4
    fixedRec 0x106 ((0x0E + n) <<< 8) n [snapWord (mbcState s2 n), snapWord (rd s2 (Reg.mbcLastTx n))] [] s2
  else s1

/-- R503: an attempt that ends in an error. -/
def txFail (n code res : Nat) (data keep : Bool) (extra : Nat) (i : TxInst) (s : State) : State :=
  let s1 := s |> attOver n |> bump (Reg.mbcCntTxErr n) 1 |> pmcInc (104 + 6 * n + 2) |> setLastTx n res i.desc
    |> mbcError n code true data keep extra i.desc
  attEffects n (if res = 3 then noAck n s1 else s1)

/-- R503: TX_ATTEMPT_END of controller n: its end, an error in the data phase, further counts of 8 after the error flag, the loop
delay measured (R486), and the bit times the attempt took. In internal loopback every attempt counts as acknowledged (R489). -/
def execTxAttemptEnd (n : Fin 4) (e : TxEnd) (data : Bool) (extra tdc bits : Nat) (s : State) :
    Host.Outcome State Fault Refusal :=
  .next (match (mbc s n).att with
    | none => s
    | some (i, sof) =>
      let s0 := pmcAdd (104 + 6 * n + 5) bits s
      let s1 := if i.frame.fd ∧ bitOf (effRd s (Reg.mbcDbt n)) 31 then setFld (Reg.mbcTdcMeas n) 7 0 (min 255 tdc) s0 else s0
      match (if (mbc s n).mode = 2 then TxEnd.ok else e) with
      | .ok => txOk n i sof s1
      | .arbLost => s1 |> attOver n |> bump (Reg.mbcCntArbLost n) 1 |> setLastTx n 2 i.desc |> attEffects n
      | .ack quiet => txFail n 4 3 data (quiet && (mbc s n).err == 1) extra i s1
      | .bit => txFail n 1 4 data false extra i s1
      | .stuff => txFail n 2 5 data false extra i s1
      | .form => txFail n 3 6 data false extra i s1
      | .aborted => s1 |> attOver n |> setLastTx n 7 i.desc |> attEffects n)

/-- R506: RECOVERED: bus-off recovery completes. -/
def execRecovered (n : Fin 4) (s : State) : Host.Outcome State Fault Refusal :=
  .next (if (mbc s n).err = 2 ∧ (mbc s n).recovering then
    s |> mbcUpd n (fun x => { x with err := 0, tec := 0, rxc := 0, recovering := false, warning := false })
      |> chaffNew n 0xB false false 0xFFF |> raise_ (0x0E + n) 3 |> failoverMove n
  else s)

/-- R506: CTRL.RECOVER is written. -/
def mbcRecover (n : Nat) (s : State) : State :=
  if (mbc s n).err = 2 then mbcUpd n (fun x => { x with recovering := true }) s else s

/-! ### MBC_MAP (R512) -/

/-- R512: MBC_MAP of records ARG1 to ARG1 + ARG2 - 1 in order, one word per control clock. -/
def runMbcMap (e : Entry) (s : State) : State :=
  let first := bitsOf e.arg1 10 0
  let r := (List.range (bitsOf e.arg2 11 0)).foldl (fun (acc : Nat × List Nat × List (Nat × Act)) i =>
    let k := first + i
    let n := mapRec s k 6 1
    (acc.1 + n, acc.2.1 ++ (List.range n).map (fun j => mapRec s k 8 4 + j),
      acc.2.2 ++ (acc.1, Act.mapRec k) :: (List.range n).map (fun j => (acc.1 + j, Act.next)))) (s.now + 1, [], [])
  if r.2.2 = [] then s else goOn e r.2.1 (lastClk r.2.2) r.2.2 s

/-- R512: MBC_MAP on controller `n`: `count` map records from `first` on. -/
def execMbcMap (pos : Nat) (n : Fin 4) (first count : Nat) (s : State) : Host.Outcome State Fault Refusal :=
  .next (dispatch (fun e _ t => runMbcMap e t) ⟨0x21, 0x0E + n, 0, first, count, 0, 0, pos⟩ {} s)

/-! ### Start, activation and takeover (R490, R514, R515) -/

/-- Start and module reset: the controllers start anew, forced to listen. -/
def mbcStart (s : State) : State :=
  each (List.range 4) mbcForce { s with mbc := [], maps := [], mbcBad := [] }

/-- R490, R514: at the takeover boundary, and at entry into full service, the controllers take their configured mode. -/
def mbcService (s : State) : State := each (List.range 4) mbcEnter s

end Sys2Proof.Machine
end

