-- ==== Sys2Proof/Machine/Net.lean ====
section
/-! DEFINITION. The plant network (R518-R545): ports, PTP, publications and subscriptions; and the marine serial lines
(R537-R547). -/

namespace Sys2Proof.Machine

/-! ### Ports (R518, R519) -/

/-- A bit of NET.LINK of port p. -/
def linkBit (s : State) (p i : Nat) : Bool := flag s Reg.netLink (8 * p + i)

/-- UP of port p; a change raises its event (R545). -/
def setUp (p : Nat) (up : Bool) (s : State) : State :=
  if linkBit s p 0 = up then s else raise_ 0x13 p (setFlag Reg.netLink (8 * p) up s)

/-- R518: an SFP module of `kind` (0 any other, 1 SX, 2 LX, 3 T) drawing `mw` is fitted in port `p`. -/
def execSfpInsert (p : Fin 2) (kind : Fin 4) (mw : Nat) (s : State) : Host.Outcome State Fault Refusal :=
  .next (if kind.val = 0 ∨ 1500 < mw then
    s |> setUp p false |> setFlag Reg.netLink (8 * p + 3) true |> setFld Reg.netLink (8 * p + 2) (8 * p + 1) 0 |> raise_ 0x13 3
  else s |> setFlag Reg.netLink (8 * p + 3) false |> setFld Reg.netLink (8 * p + 2) (8 * p + 1) kind)

/-- R545: the link of port `p` goes up or down; the port of a refused module stays down. -/
def execLinkChange (p : Fin 2) (up : Bool) (s : State) : Host.Outcome State Fault Refusal :=
  .next (
    let s1 := setUp p (up && !linkBit s p 3 && !noSheaf s) s
    if p.val = 0 ∧ up = false then
      setFlag Reg.netPtpState 0 false { s1 with net := { s1.net with p1Since := none } }
    else if up = false then setFlag Reg.netPtpState 1 false s1
    else s1)

/-- R519: port `p` has received no frame for 2 s while the other receives. -/
def execPathFault (p : Fin 2) (s : State) : Host.Outcome State Fault Refusal :=
  .next (if linkBit s p 4 then s else s |> setFlag Reg.netLink (8 * p + 4) true |> raise_ 0x13 2)

/-- R519: the supervision frames of every 2 s. -/
def execSupervisionFrame (s : State) : Host.Outcome State Fault Refusal :=
  .next (emit (.supervision (bitOf (effRd s Reg.netCfg) 0)) s)

/-- R519: a frame accepted from P1 only (1), P2 only (2) or both (3): its counters, and the end of a path fault. -/
def rxPorts (ports : Nat) (s : State) : State :=
  s |> when_ (bitOf ports 0) (setFlag Reg.netLink 4 false) |> when_ (bitOf ports 1) (setFlag Reg.netLink 12 false)
    |> (match ports with
      | 1 => fun t => t |> bump Reg.netCntOnlyP1 1 |> pmcInc 141
      | 2 => fun t => t |> bump Reg.netCntOnlyP2 1 |> pmcInc 142
      | _ => pmcInc 143)

/-! ### PTP (R525) -/

/-- A delay measurement has completed on port p within the last 16 s. -/
def delayOk (s : State) (p : Nat) : Bool :=
  match tabGet (fun _ => (none : Option Nat)) s.net.delay p with
  | some c => decide (s.now ≤ c + 3200000000)
  | none => false

/-- R525: a delay measurement completes on port `p`. -/
def execPtpDelayResponse (p : Fin 2) (s : State) : Host.Outcome State Fault Refusal :=
  .next { s with net := { s.net with delay := tabSet (fun _ => (none : Option Nat)) s.net.delay p.val (some s.now) } }

/-- R525: the port in use changes. -/
def ptpUse (p : Nat) (s : State) : State := s |> setFlag Reg.netPtpState 8 (p == 1) |> raise_ 0x13 4

/-- R525: which port an offset that arrives on port p is taken for. -/
def ptpOffset (p : Nat) (off : Int) (s : State) : State :=
  let used := fld s Reg.netPtpState 8 8
  if p = used then ptpApply off s
  else if p = 1 then (if flag s Reg.netPtpState 0 && delayOk s 0 then s else ptpApply off (ptpUse 1 s))
  else match s.net.p1Since with
    | some c => if c + 2000000000 ≤ s.now then ptpApply off (ptpUse 0 s) else s
    | none => s

/-- R112, R525: PTP_SYNC: an offset in ns from a Sync message of port `p`; `slave` when it comes from the port's parent clock in
the configured domain while the port is in the SLAVE state. -/
def execPtpSync (p : Fin 2) (off : Int) (slave : Bool) (s : State) : Host.Outcome State Fault Refusal :=
  .next (
    let s0 := pmcInc (134 + p) s
    let ok := slave && delayOk s p
    let s1 := setFlag Reg.netPtpState p ok s0
    let s2 := if p.val = 0 then
        { s1 with net := { s1.net with p1Since := if ok then some (s1.net.p1Since.getD s1.now) else none } }
      else s1
    if ok then ptpOffset p off s2 else s2)

/-! ### Publishing (R521, R526-R529) -/

/-- R27: the publishing address: the pair address, or the single address. -/
def pubAddr (s : State) : Nat :=
  let a := fld s Reg.sysStation 10 0
  if pairBase s then a / 2 * 2 else a

/-- The module's own serial number. -/
def serialNo (s : State) : Nat := rd s Reg.sysSerialLo + rd s Reg.sysSerialHi <<< 32

/-- R528: a line of 72 bytes: 64 bytes of values and 8 of tags, from its 16 words. -/
def lineBytes (cs : List ICell) : List Nat :=
  cs.flatMap (fun c => leBytes 4 c.val.toNat) ++
    leBytes 8 ((cs.zip (List.range 16)).foldl (fun m p => m + tagCode p.1.tag <<< (4 * p.2)) 0)

/-- R188: the words of `n` lines from line `first` on are read as completed copies. -/
def touchLines (first n : Nat) (s : State) : State :=
  if s.img.upsets = [] then s else each (List.range (16 * n)) (fun i => hostTouch (16 * first + i)) s

/-- R528: a datagram of a segment with the given words. -/
def pubGram (s : State) (seg count : Nat) (cells : List ICell) (i : Nat) : List Nat :=
  let fc := (count + 18) / 19
  let n := if i + 1 < fc then 19 else count - 19 * i
  let h := leBytes 4 0x42555051 ++ [1, i, fc, 0] ++ leBytes 2 (pubAddr s) ++ leBytes 2 seg ++ leBytes 2 count ++ leBytes 2 n ++
    leBytes 8 (wideGet s Reg.imgGenReadLo) ++ leBytes 8 s.tbu.epoch ++ leBytes 8 (serialNo s) ++ leBytes 4 0
  let d := (List.range n).flatMap (fun k => lineBytes ((cells.drop (16 * (19 * i + k))).take 16))
  h ++ leBytes 4 (crc32c (h ++ [0, 0, 0, 0] ++ d)) ++ d

/-- The segment record of part 0x0502 with a SEGMENT_ID. -/
def segOf (s : State) (id : Nat) : Option Nat := (List.range (cfgCount s 0x0502)).find? (fun i => cfgNat s 0x0502 i 4 2 == id)

/-- R182: a word of the completed copy as lane l holds it. -/
def laneDone (s : State) (l w : Nat) : ICell := laneCell s l (lineDone s (w / 16)) w

/-- R27, R526, R608: NET_PUBLISH of a publication record; of a pair only the driving module publishes. The lanes hand over the words
of the segment, and the copy takes one line per 4 control clocks, after an earlier one. -/
def runNetPublish (e : Entry) (s : State) : State :=
  let k := bitsOf e.arg0 7 0
  let id := cfgNat s 0x0A01 k 0 2
  match (if pairBase s && !driving s then none else segOf s id) with
  | none => s
  | some g =>
    let first := cfgNat s 0x0502 g 0 2
    let n := cfgNat s 0x0502 g 2 2
    let cfg := effRd s Reg.netCfg
    let vlan := if bitOf cfg 8 then 2 ^ 16 + bitsOf (cfgNat s 0x0A01 k 2 1) 2 0 <<< 13 + bitsOf cfg 27 16 else 0
    let start := s.net.pubs.foldl (fun m p => max m p.done) s.now
    let t := touchLines first n s
    handOver (fun l => (List.range (16 * n)).map (fun i => laneDone t l (16 * first + i))) (fun cells u =>
      let job : PubJob := ⟨groupOf (pubAddr u), vlan, start + 4 * n, (List.range ((n + 18) / 19)).map (pubGram u id n cells)⟩
      { u with net := { u.net with pubs := u.net.pubs ++ [job] } }) t

/-- R526: NET_PUBLISH of publication record `k`. -/
def execNetPublish (pos k : Nat) (s : State) : Host.Outcome State Fault Refusal :=
  .next (dispatch (fun e _ t => runNetPublish e t) ⟨0x23, 0x13, k, 0, 0, 0, 0, pos⟩ {} s)

/-- R526: a minor-cycle boundary passes before copies end: nothing of them is sent. -/
def netSplit (s : State) : State :=
  let n := s.net.pubs.length
  if n = 0 then s
  else each (List.range n) (fun _ t => t |> bump Reg.netCntPubSplit 1 |> raise_ 0x13 5) { s with net := { s.net with pubs := [] } }

/-! ### Subscribing (R530-R536) -/

/-- A subscription's state. -/
def subSt (s : State) (k : Nat) : SubSt := tabGet (fun _ => ({} : SubSt)) s.net.subs k

/-- Store it. -/
def putSub (k : Nat) (x : SubSt) (s : State) : State :=
  { s with net := { s.net with subs := tabSet (fun _ => ({} : SubSt)) s.net.subs k x } }

/-- R535: a peer-log entry. -/
def peerLog (kind addr seg gen serial : Nat) (s : State) : State :=
  let h := fld s Reg.netPeerHead 5 0
  let b := leBytes 8 (shipNow s) ++ leBytes 4 (jnlAngle s.tbu.gen s.tbu.slot) ++ leBytes 2 addr ++ leBytes 2 seg ++ leBytes 8 gen ++
    leBytes 4 (serial % 2 ^ 32) ++ leBytes 4 (kind <<< 28 + s.net.logSeq % 65536)
  each (List.range 8) (fun i t => wr (Reg.netPeerLog (8 * h + i)) ((wordsLe 8 b).getD i 0) t)
    { s with net := { s.net with logSeq := s.net.logSeq + 1 } } |> wr Reg.netPeerHead ((h + 1) % 64)

/-- A field of a datagram. -/
def gramNat (b : List Nat) (off n : Nat) : Nat := leNat ((b.drop off).take n)

/-- R531: a datagram is well formed. -/
def gramOk (b : List Nat) : Bool :=
  let count := gramNat b 0x0C 2
  let i := gramNat b 5 1
  let n := gramNat b 0x0E 2
  let fc := (count + 18) / 19
  gramNat b 0 4 == 0x42555051 && gramNat b 4 1 == 1 && b.length == 48 + 72 * n
    && gramNat b 0x2C 4 == crc32c (b.take 0x2C ++ [0, 0, 0, 0] ++ b.drop 0x30)
    && gramNat b 6 1 == fc && decide (i < fc) && n == (if i + 1 < fc then 19 else count - 19 * i) && count != 0

/-- R533: is an instance newer than another. -/
def newerInst (e g : Nat) : Option (Nat × Nat) → Bool
  | none => true
  | some (e0, g0) => e != e0 || decide (g0 < g)

/-- The 72-byte lines of a datagram. -/
def gramLines (b : List Nat) : List (List Nat) :=
  (List.range (gramNat b 0x0E 2)).map (fun k => (b.drop (0x30 + 72 * k)).take 72)

/-- R531: a fragment for subscription record k. -/
def subFragment (b : List Nat) (k : Nat) (s : State) : State :=
  let ep := gramNat b 0x18 8
  let g := gramNat b 0x10 8
  let x := subSt s k
  let same := x.asm == some (ep, g)
  if !same && !newerInst ep g x.asm then s
  else
    let s0 := if same ∨ x.asm = none then s else s |> bump Reg.netCntRxDrop 1 |> pmcInc 131
    let fr := tabSet (fun _ => ([] : List (List Nat))) (if same then x.frags else []) (gramNat b 5 1) (gramLines b)
    if fr.length < gramNat b 6 1 then putSub k { x with asm := some (ep, g), frags := fr } s0
    else
      let inst : SubInst := ⟨ep, g, gramNat b 0x0C 2, fr.flatMap (fun e => e.2)⟩
      let addr := gramNat b 8 2 % 2048
      let seg := gramNat b 0x0A 2
      let s1 := putSub k { x with asm := none, frags := [], stored := some inst, ready := true } s0
      let s2 := s1 |> pmcInc 132 |> peerLog 1 addr seg g (gramNat b 0x20 8)
      let s3 := if inst.lines = cfgNat s 0x0A02 k 6 2 then s2 else peerLog 3 addr seg g (gramNat b 0x20 8) s2
      if newerInst ep g x.accepted then s3 else bump Reg.netCntSubOld 1 s3

/-- R531, R532: PUB_DATAGRAM_RX: a publication datagram accepted from P1 (1), P2 (2) or both (3). -/
def execPubDatagramRx (ports : Fin 4) (b : List Nat) (s : State) : Host.Outcome State Fault Refusal :=
  .next (
    let s1 := s |> rxPorts ports |> pmcInc 130
    if gramOk b = false then s1 |> bump Reg.netCntRxDrop 1 |> pmcInc 131
    else
      let a := gramNat b 8 2 % 2048
      let ser := gramNat b 0x20 8
      if (a = fld s Reg.sysStation 10 0 ∨ a = pubAddr s) ∧ ser ≠ serialNo s ∧ s.red.serial ≠ some ser then
        s1 |> bump Reg.netCntClash 1 |> peerLog 2 a (gramNat b 0x0A 2) (gramNat b 0x10 8) ser |> raise_ 0x13 6
      else
        each ((List.range (cfgCount s 0x0A02)).filter (fun k =>
          cfgNat s 0x0A02 k 0 2 % 2048 == a && cfgNat s 0x0A02 k 2 2 == gramNat b 0x0A 2)) (subFragment b) s1)

/-- R534: NET_ACCEPT of a subscription record, one line per 4 control clocks. -/
def runNetAccept (e : Entry) (s : State) : State :=
  let k := bitsOf e.arg0 8 0
  let n := cfgNat s 0x0A02 k 6 2
  let w0 := 16 * cfgNat s 0x0A02 k 4 2
  let x := subSt s k
  let due (i : Nat) : Nat := s.now + 4 * (i / 16 + 1)
  let prev (t : Tag) : List (Nat × Nat × Tag) := (List.range (16 * n)).map (fun i => (due i, w0 + i, t))
  let fresh := match x.ready, x.stored with
    | true, some i => if newerInst i.epoch i.gen x.accepted then some i else none
    | _, _ => none
  match fresh with
  | some i =>
    if i.lines = n then
      let cells := (List.range (16 * n)).map (fun j =>
        let b := i.data.getD (j / 16) []
        let tags := leNat (b.drop 64)
        (due j, w0 + j, (⟨BitVec.ofNat 32 (leNat ((b.drop (4 * (j % 16))).take 4)),
          tagOf (bitsOf tags (4 * (j % 16) + 3) (4 * (j % 16)))⟩ : ICell)))
      s |> putSub k { x with ready := false, accepted := some (i.epoch, i.gen), age := 0, lenBad := false, staleBad := false }
        |> pmcInc 133 |> addWrites e cells
    else
      let s1 := s |> putSub k { x with ready := false, age := x.age + 1, lenBad := true, staleBad := false }
        |> bump Reg.netCntSubLen 1 |> addKeeps e true (prev .bad)
      if x.lenBad then s1 else raise_ 0x13 7 s1
  | none =>
    let age := x.age + 1
    if age ≤ 2 ∧ x.accepted.isSome then
      s |> putSub k { x with ready := false, age := age, lenBad := false, staleBad := false } |> addKeeps e true (prev .held)
    else
      let s1 := s |> putSub k { x with ready := false, age := age, lenBad := false, staleBad := true }
        |> addKeeps e true (prev .bad)
      if x.staleBad then s1 else s1 |> bump Reg.netCntSubStale 1 |> raise_ 0x13 8

/-- R534: NET_ACCEPT of subscription record `k`. -/
def execNetAccept (pos k : Nat) (s : State) : Host.Outcome State Fault Refusal :=
  .next (dispatch (fun e _ t => runNetAccept e t) ⟨0x24, 0x13, k, 0, 0, 0, 0, pos⟩ {} s)

/-- R523: the groups of every peer that a subscription record names, and of the partner's address. -/
def peerGroups (s : State) : List Nat :=
  let own := fld s Reg.sysStation 10 0
  let peers := (List.range (cfgCount s 0x0A02)).map (fun k => cfgNat s 0x0A02 k 0 2 % 2048)
  let partner := if pairBase s then [if own % 2 = 0 then own + 1 else own - 1] else []
  ((peers ++ partner).map groupOf).eraseDups

/-- R523: the module joins the groups of the Sheaf in force, and leaves those that it no longer names. -/
def joinGroups (s : State) : State :=
  let want := peerGroups s
  let had := s.net.groups
  { s with net := { s.net with groups := want } }
    |> each (had.filter (fun g => !want.contains g)) (fun g => emit (.igmp false g))
    |> each (want.filter (fun g => !had.contains g)) (fun g => emit (.igmp true g))

/-- Start and module reset. -/
def netStart (s : State) : State := { s with net := {} }

/-! ### Marine serial lines (R537-R543) -/

/-- Store a line's state. -/
def putMsl (n : Nat) (x : MslSt) (s : State) : State := { s with msl := tabSet (fun _ => ({} : MslSt)) s.msl n x }

/-- R539: a journal entry of line n. -/
def mslWrite (n kind code : Nat) (tag : Bool) (sof : SofStamp) (chars : List Nat) (s : State) : State :=
  let h := fld s (Reg.mslJnlHead n) 11 0
  let q := rd s (Reg.mslJnlSeq n)
  let c := chars.take 112
  let b := leBytes 8 (shipAt s sof.clk) ++ leBytes 4 (jnlAngle sof.gen sof.slot) ++
    leBytes 4 (kind <<< 28 + code <<< 24 + b2n tag <<< 23 + c.length <<< 16 + q % 65536) ++ c ++ List.replicate (112 - c.length) 0
  s |> putMsl n { msl s n with jnl := tabSet (fun _ => ([] : List Nat)) (msl s n).jnl h (wordsLe 32 b) }
    |> wr (Reg.mslJnlHead n) ((h + 1) % 4096) |> wr (Reg.mslJnlSeq n) (q + 1)

/-- The value of a hexadecimal digit of either case. -/
def hexDigit (c : Nat) : Option Nat :=
  if 48 ≤ c ∧ c ≤ 57 then some (c - 48) else if 65 ≤ c ∧ c ≤ 70 then some (c - 55) else if 97 ≤ c ∧ c ≤ 102 then some (c - 87) else none

/-- R538: the characters of a sentence before a start character within it, which ends it as an error. -/
def mslPart : List Nat → List Nat
  | [] => []
  | c :: t => c :: t.takeWhile (fun x => x != 36 && x != 33)

/-- R538: the error code of a sentence as received, 0 when it is valid. -/
def mslCode (chars : List Nat) (framing : Bool) : Nat :=
  let ended := chars.drop (chars.length - 2) == [13, 10]
  let body := if ended then chars.take (chars.length - 2) else chars
  let n := body.length
  let sum := (body.drop 1).take (n - 4) |>.foldl (· ^^^ ·) 0
  if framing then 4
  else if body.any (fun c => c < 0x20 || 0x7E < c) || !(body.head? == some 36 || body.head? == some 33) then 5
  else if 82 < chars.length then 3
  else if ended = false ∨ n < 4 ∨ body.getD (n - 3) 0 ≠ 42 then 2
  else match hexDigit (body.getD (n - 2) 0), hexDigit (body.getD (n - 1) 0) with
    | some a, some b => if 16 * a + b = sum then 0 else 1
    | _, _ => 2

/-- R540: the address field of a map matches a sentence's; "?" matches any character. -/
def addrMatch (s : State) (k : Nat) (chars : List Nat) : Bool :=
  (List.range 5).all (fun i => fmap s k (4 + i) 1 == 63 || fmap s k (4 + i) 1 == chars.getD (1 + i) 0)
    && chars.getD 6 44 == 44

/-- R538-R540: MSL_SENTENCE: line `n` has received characters from a start character to its LF, or to an error; `tag` when a TAG
block came before it. A start character within them ends the partial sentence as an error; what it begins is another command. -/
def execMslSentence (n : Fin 2) (chars : List Nat) (framing tag : Bool) (sof : SofStamp) (s : State) :
    Host.Outcome State Fault Refusal :=
  .next (if bitOf (effRd s (Reg.mslCfg n)) 0 = false then s
  else
    let code := mslCode (mslPart chars) framing
    let s1 := pmcAdd (144 + 4 * n) chars.length s
    if code = 0 then
      let body := chars.take (chars.length - 2)
      let ks := (List.range (cfgCount s 0x0B01)).filter (fun k => fmap s k 0 1 % 2 == n.val && addrMatch s k body)
      s1 |> mslWrite n 1 0 tag sof body |> bump (Reg.mslCntSentence n) 1 |> pmcInc (144 + 4 * n + 1)
        |> (fun t => each ks (fun k u => putMslMap k { mslMap u k with data := some body, fresh := true, age := 0 } u) t)
    else
      let s2 := s1 |> mslWrite n 2 code tag sof ((mslPart chars).filter (fun c => c != 13 && c != 10)) |> pmcInc (144 + 4 * n + 2)
      if code ≤ 2 then s2 |> bump (Reg.mslCntChecksum n) 1 |> raise_ 0x12 n else bump (Reg.mslCntFormat n) 1 s2)

/-- R547: an enabled line has received no character for 1 s. -/
def execMslSilent (n : Fin 2) (s : State) : Host.Outcome State Fault Refusal :=
  .next (if bitOf (effRd s (Reg.mslCfg n)) 0 then raise_ 0x12 (2 + n) s else s)

/-- R542: MSL_MAP, one word per control clock. -/
def runMslMap (e : Entry) (s : State) : State :=
  let first := bitsOf e.arg1 8 0
  let n := bitsOf e.arg2 9 0
  let todo := (List.range n).flatMap (fun i => [(s.now + 1 + i, Act.fieldMap (first + i)), (s.now + 1 + i, Act.next)])
  let s1 := pmcAdd (144 + 4 * (e.arg0 % 2) + 3) n s
  if n = 0 then s1 else goOn e ((List.range n).map (fun i => fmap s (first + i) 0x0C 4)) (s.now + n) todo s1

/-- R542: MSL_MAP of line `n`: `count` field maps from `first` on. -/
def execMslMap (pos : Nat) (n : Fin 2) (first count : Nat) (s : State) : Host.Outcome State Fault Refusal :=
  .next (dispatch (fun e _ t => runMslMap e t) ⟨0x22, 0x12, n, first, count, 0, 0, pos⟩ {} s)

/-- At a minor-cycle boundary the ages rise (R542). -/
def mslAge (s : State) : State :=
  { s with mslMaps := (s.mslMaps.map (fun e => (e.1, { e.2 with age := min 256 (e.2.age + 1) }))).filter (fun e => e.2 != {}) }

/-- Start and module reset. -/
def mslStart (s : State) : State := { s with msl := [], mslMaps := [] }

end Sys2Proof.Machine
end

