-- ==== Sys2Proof/Machine/Grn.lean ====
section
/-! DEFINITION. The Granary and the performance counters (R648-R672): the entries GRN_TICK and PMC_MARK, commits, freezes, the
clear, and the counter snapshot. -/

namespace Sys2Proof.Machine

/-- R653: the result of an image condition, from the word's readable cell and its reference value. -/
def condHolds (s : State) (k : Nat) (c : ICell) : Bool :=
  let lim := fOfBits f32 (cfgNat s 0x0D01 k 8 4)
  match cfgNat s 0x0D01 k 3 1 with
  | 1 => c.tag != .good
  | 2 => usableF c && fLt lim (w32 c.val)
  | 3 => usableF c && fLt (w32 c.val) lim
  | 4 =>
    match tabGet (fun _ => (none : Option Word)) s.grn.condRef k with
    | some r => r != c.val
    | none => false
  | _ => false

/-- Remember what an evaluation found: the result, and the value that COND 0x4 compares with next. -/
def condKeep (k : Nat) (b : Bool) (v : Word) (s : State) : State :=
  { s with grn := { s.grn with
      condTrue := tabSet (fun _ => false) s.grn.condTrue k b
      condRef := if cfgNat s 0x0D01 k 3 1 = 4 then tabSet (fun _ => none) s.grn.condRef k (some v) else s.grn.condRef } }

/-- R653: evaluate image-condition trigger k in the slot of its GRN_TICK. -/
def condEval (e : Entry) (k : Nat) (s : State) : State :=
  if cfgNat s 0x0D01 k 0 1 ≠ 2 then s
  else if flag s (Reg.grnTrigCfg k) 31 = false then
    { s with grn := { s.grn with condTrue := tabSet (fun _ => false) s.grn.condTrue k false } }
  else
    let w := cfgNat s 0x0D01 k 4 4
    let s0 := hostTouch w s
    let c := imgHost s0 w
    let b := condHolds s0 k c
    let was := tabGet (fun _ => false) s.grn.condTrue k && cfgNat s 0x0D01 k 3 1 != 4
    let s1 := pmcInc 181 (condKeep k b c.val s0)
    if b && !was then
      let r := { newRec s1 k 0xFFFF c.val.toNat (262144 + k) [] (trigSnaps s1 k) with gen := seqGen s1, slot := e.slot }
      dropCheck s1 (fireCore r (some (fld s1 (Reg.grnTrigCfg k) 15 0)) s1)
    else s1

/-- R653: GRN_TICK. -/
def runGrnTick (e : Entry) (s : State) : State :=
  each (List.range (e.arg1 % 512)) (fun i => condEval e (e.arg0 % 256 + i)) s

/-- R653: GRN_TICK over `count` triggers from `first` on. -/
def execGrnTick (pos first count : Nat) (s : State) : Host.Outcome State Fault Refusal :=
  .next (dispatch (fun e _ t => runGrnTick e t) ⟨0x32, 0x16, first, count, 0, 0, 0, pos⟩ {} s)

/-- R655: the record at the front of the capture queue is committed, or staged during a freeze. -/
def execRecordCommit (s : State) : Host.Outcome State Fault Refusal := .next (commitFront s)

/-! ### Freezes (R660, R661) -/

/-- R660: a freeze begins for session slot k. -/
def freezeBegin (k : Nat) (s : State) : State :=
  { s with grn := { s.grn with freeze := some k, freezeClk := s.now, stageLost := 0 } }

/-- R660, R661: a freeze ends: the staged records are committed, and the number lost is recorded. -/
def freezeEnd (s : State) : State :=
  let lost := s.grn.stageLost
  let s1 := commitStaged { s with grn := { s.grn with freeze := none, stageLost := 0 } }
  if lost = 0 then s1 else fixedRec 0x10A 0x1600 lost [snapWord lost] [] s1

/-- R660: the freeze of session slot k ends with its session. -/
def freezeDrop (k : Nat) (s : State) : State := if s.grn.freeze = some k then freezeEnd s else s

/-- R660: the freeze has stood for 10 s. -/
def execFreezeExpired (s : State) : Host.Outcome State Fault Refusal :=
  .next (match s.grn.freeze with
  | some k =>
    s |> advanceTo (s.grn.freezeClk + 2000000000) |> freezeEnd |> raise_ 0x16 1
      |> fixedRec 0x10B 0x1600 k [snapWord k, snapWord 10000] []
  | none => s)

/-! ### The clear (R662, R663) -/

/-- R663: the clear that session slot k ordered. -/
def grnClear (k : Nat) (s : State) : State :=
  let n := grnCountNow s
  let x := session s k
  let r := newRec s 0x100 0x1600 n 0
    [snapWord n, snapWord x.ip, snapWord (x.role <<< 8 + k), snapWord s.grn.oldestSeq] []
  let s1 := commitRing r s
  { s1 with grn := { s1.grn with oldestSeq := s1.grn.headSeq, clears := satAdd 0xFFFFFFFF s1.grn.clears 1 } }
    |> setFlag (Reg.stat 0x16) 2 true |> pmcInc 183 |> raise_ 0x16 0

/-- R663: the background erasure ends. -/
def execGrnEraseDone (s : State) : Host.Outcome State Fault Refusal :=
  .next (setFlag (Reg.stat 0x16) 2 false { s with grn := { s.grn with
    ring := s.grn.ring.filter (fun e => match e.2 with
      | some r => decide (s.grn.oldestSeq ≤ r.seq)
      | none => false) } })

/-! ### Performance counters (R667-R670) -/

/-- The two words that show a 48-bit count, the second with the sticky bit in bit 31. -/
def countWords (v : Nat) (sticky : Bool) : Nat × Nat := (v % 2 ^ 32, b2n sticky <<< 31 + v / 2 ^ 32 % 65536)

/-- R669: the snapshot. -/
def pmcSnap (s : State) : State :=
  let ev (i : Nat) (t : State) : State :=
    let p := countWords (tabGet (fun _ => (0 : Nat)) s.pmc.cnt i) (bitOf s.pmc.sticky i)
    wr (Reg.pmcSnapHi i) p.2 (wr (Reg.pmcSnapLo i) p.1 t)
  let th (k : Nat) (t : State) : State :=
    let p := countWords (tabGet (fun _ => (0 : Nat)) s.pmc.thr k) (bitOf s.pmc.sticky (224 + k))
    wr (Reg.pmcThrSnapHi k) p.2 (wr (Reg.pmcThrSnapLo k) p.1 t)
  s |> each (List.range 224) ev |> each (List.range 16) th |> wideSet Reg.pmcSnapGenLo s.tbu.gen
    |> wr Reg.pmcSnapSlot (2 ^ 31 + s.tbu.slot)

/-- R670: PMC_MARK. -/
def runPmcMark (e : Entry) (s : State) : State :=
  let v := tabGet (fun _ => (0 : Nat)) s.pmc.cnt 0
  let k := e.arg0 % 16
  s |> wr (Reg.pmcMarkLo k) (v % 2 ^ 32) |> wr (Reg.pmcMarkHi k) (e.slot <<< 16 + v / 2 ^ 32 % 65536)

/-- R670: PMC_MARK of mark k. -/
def execPmcMark (pos k : Nat) (s : State) : Host.Outcome State Fault Refusal :=
  .next (dispatch (fun e _ t => runPmcMark e t) ⟨0x34, 0x17, k, 0, 0, 0, 0, pos⟩ {} s)

/-- R667: one more event on a counter that stands at 2^48 - 1: event counter i, or threshold counter i - 224. -/
def wrapCounter (i : Nat) (s : State) : State :=
  if i < 224 then pmcInc i s
  else { s with pmc := { s.pmc with
      thr := tabSet (fun _ => (0 : Nat)) s.pmc.thr (i - 224) 0, sticky := s.pmc.sticky ||| 2 ^ i, wrapped := true } }

/-- R667, R668: COUNTER_WRAP of event counter i, or of threshold counter i - 224. -/
def execCounterWrap (i : Fin 240) (s : State) : Host.Outcome State Fault Refusal :=
  let v := if i.val < 224 then tabGet (fun _ => (0 : Nat)) s.pmc.cnt i else tabGet (fun _ => (0 : Nat)) s.pmc.thr (i - 224)
  .next (if v = 2 ^ 48 - 1 then wrapCheck (wrapCounter i s) else s)

end Sys2Proof.Machine
end

