-- ==== Sys2Proof/Machine/Initial.lean ====
section
/-! DEFINITION. The values that a Sheaf gives registers: section 12 (R153), the parts of section 6 that R153 lists, and the
trigger definitions of section 13 (R664). -/

namespace Sys2Proof.Machine

/-- n bytes at offset `off` of record i of a part of a bank, little-endian; 0 when there is no such record. -/
def bankCfg (s : State) (b id i off n : Nat) : Nat :=
  match bankPart s b id with
  | some p => if i < p.count then bankNat s b (p.base + p.size * i + off) n else 0
  | none => 0

/-- Is a section present in a bank. -/
def hasSection (s : State) (b k : Nat) : Bool := (dirEntry s b k).1

/-- R153: the registers whose initial values a part of section 6 carries: the part, the record and the offset in it. -/
def partPlace (a : Nat) : Option (Nat × Nat × Nat) :=
  let o := a % 0x1000
  if a / 0x1000 = 0x107 ∧ 0x200 ≤ o ∧ o < 0x2C0 then some (0x0602, (o - 0x200) / 4, 0)
  else if a / 0x1000 = 0x108 ∧ 0x100 ≤ o ∧ o < 0x140 ∧ o % 16 < 8 then some (0x0603, (o - 0x100) / 16, o % 16)
  else if a / 0x1000 = 0x109 ∧ 0x100 ≤ o ∧ o < 0x120 then some (0x0604, 0, o - 0x100)
  else if a / 0x1000 = 0x10A ∧ 0x200 ≤ o ∧ o < 0x300 ∧ o % 32 < 24 then some (0x0605, (o - 0x200) / 32, o % 32)
  else if a / 0x1000 = 0x106 ∧ 0x100 ≤ o ∧ o < 0x108 then some (0x0606, 0, o - 0x100)
  else none

/-- The record of section 12 for a register. -/
def initRecord (s : State) (b a : Nat) : Option Nat :=
  match bankPart s b 0x0C01 with
  | none => none
  | some p =>
    ((List.range p.count).find? (fun i => bankNat s b (p.base + 8 * i) 4 == a)).map (fun i => bankNat s b (p.base + 8 * i + 4) 4)

/-- R652, R664: the initial value of TRIGk_CFG. -/
def trigInit (s : State) (b k : Nat) : Nat :=
  b2n (bitOf (bankCfg s b 0x0D01 k 0x0F 1) 0) <<< 31 + bankCfg s b 0x0D01 k 0x0C 2

/-- The value that a Sheaf bank gives a register; its reset value where the Sheaf names none. -/
def bankVal (s : State) (b a : Nat) : Nat :=
  match partPlace a with
  | some (id, i, off) => bankCfg s b id i off 4
  | none =>
    if Reg.grnTrigCfg 0 ≤ a ∧ a < Reg.grnTrigCfg 256 then trigInit s b ((a - Reg.grnTrigCfg 0) / 4)
    else (initRecord s b a).getD (resetValue a).toNat

/-- The value that the active Sheaf gives a register. -/
def sheafVal (s : State) (a : Nat) : Nat :=
  match s.active with
  | some b => bankVal s b a
  | none => (resetValue a).toNat

/-- R242: the mode that the Sheaf gives a universal channel: that of its ACHn.CFG record (log entry 33). -/
def sheafMode (s : State) (n : Nat) : Nat := sheafVal s (Reg.achCfg n) % 16

/-- The byte addresses of the registers of a page that satisfy `p`. -/
def rowAddrs (p : RegRow → Bool) (page : Nat) : List Nat :=
  match blockOf page with
  | none => []
  | some b =>
    ((hdrRows ++ blockRows b).filter p).flatMap (fun r => (List.range r.cnt).map (fun i => regAddr page (r.off + r.step * i)))

end Sys2Proof.Machine
end

