-- ==== Sys2Proof/Machine/Sign.lean ====
section
/-! DEFINITION. The verification of a pure Ed25519 signature (RFC 8032, which R128 names), over lists of bytes held
as natural numbers 0-255. -/

namespace Sys2Proof.Machine

/-! ### The curve -/

/-- The prime 2^255 - 19 and the order of the base point. -/
def edP : Nat := 2 ^ 255 - 19
def edL : Nat := 2 ^ 252 + 27742317777372353535851937790883648493

/-- x to the power e modulo the prime, over n bits of e. -/
def edPow : Nat → Nat → Nat → Nat
  | 0, _, _ => 1
  | n + 1, x, e =>
    let r := edPow n (x * x % edP) (e / 2)
    if e % 2 = 1 then r * x % edP else r

/-- The inverse modulo the prime. -/
def edInv (x : Nat) : Nat := edPow 255 x (edP - 2)

/-- The constant d = -121665 / 121666 of the curve, and a square root of -1. -/
def edD : Nat := (edP - 121665) * edInv 121666 % edP
def edI : Nat := edPow 255 2 ((edP - 1) / 4)

/-- The affine sum of two points of the curve. -/
def edAdd (p q : Nat × Nat) : Nat × Nat :=
  let k := edD * (p.1 * q.1 % edP) % edP * (p.2 * q.2 % edP) % edP
  ((p.1 * q.2 + q.1 * p.2) % edP * edInv (1 + k) % edP,
    (p.2 * q.2 + p.1 * q.1) % edP * edInv (1 + (edP - k)) % edP)

/-- n times a point, over m bits of n. -/
def edMul : Nat → Nat → Nat × Nat → Nat × Nat
  | 0, _, _ => (0, 1)
  | m + 1, n, p =>
    let r := edMul m (n / 2) (edAdd p p)
    if n % 2 = 1 then edAdd r p else r

/-- RFC 8032, 5.1.3: the point that 32 bytes encode, none when decoding fails. -/
def edDecode (b : List Nat) : Option (Nat × Nat) :=
  let v := leNat (b.take 32)
  let y := v % 2 ^ 255
  let sign := v / 2 ^ 255 % 2
  if b.length ≠ 32 ∨ edP ≤ y then none
  else
    let u := (y * y + (edP - 1)) % edP
    let w := (edD * (y * y % edP) + 1) % edP
    let x := u * edPow 255 w 3 % edP * edPow 255 (u * edPow 255 w 7 % edP) ((edP - 5) / 8) % edP
    let c := w * (x * x % edP) % edP
    let root := if c = u then some x else if c = (edP - u) % edP then some (x * edI % edP) else none
    match root with
    | none => none
    | some r => if r = 0 ∧ sign = 1 then none else some (if r % 2 = sign then r else edP - r, y)

/-- The base point. -/
def edBase : Nat × Nat := (15112221349535400772501151409588531511454012693041857206046113283949847762202,
  46316835694926478169428394003475163141307993866256225615783033603165251855960)

/-- A valid Ed25519 public key: 32 bytes that decode to a point (R479, R573). -/
def edKeyOk (key : List Nat) : Bool := (edDecode key).isSome

/-- RFC 8032, 5.1.7: does a 64-byte signature of a message verify under a public key. -/
def edVerify (key msg sig : List Nat) : Bool :=
  let sBytes := sig.drop 32
  let n := leNat sBytes
  match edDecode key, edDecode (sig.take 32) with
  | some a, some r =>
    let k := leNat (sha512 (sig.take 32 ++ key ++ msg)) % edL
    sig.length == 64 && decide (n < edL) &&
      edMul 4 8 (edMul 256 n edBase) == edMul 4 8 (edAdd r (edMul 256 k a))
  | _, _ => false

end Sys2Proof.Machine
end

