-- ==== Sys2Proof/Machine/Ses.lean ====
section
/-! DEFINITION. QAP sessions (R548-R575): the session gate, the handshake, tags, sequence numbers and replays, the close of a
session, and the keys. A request is taken to stand at the slot boundary at which it is applied or sampled (log entry 32). -/

namespace Sys2Proof.Machine

/-! ### Answers (R550-R556) -/

/-- R553, R575: the serial number as it enters a proof. -/
def serialBytes (s : State) : List Nat := leBytes 4 (rd s Reg.sysSerialLo) ++ leBytes 4 (rd s Reg.sysSerialHi)

/-- A request as the bytes that its tag covers (R555). -/
def QapMsg.bytes (m : QapMsg) (op : Nat) : List Nat := qapHeader op 0 m.slot 0 m.seq m.req m.body.length ++ m.body

/-- A response to a request: its bytes, tagged when a key is given. -/
def qapAnswer (m : QapMsg) (op slot status seq : Nat) (body key : List Nat) : List Nat :=
  let b := qapHeader op 1 slot status seq m.req body.length ++ body
  if key = [] then b else b ++ qapTag key b

/-- R548: answer to the address and port that sent the request. -/
def qapSend (m : QapMsg) (b : List Nat) (s : State) : State := s |> emit (.udp m.port m.ip m.udp b) |> pmcInc 137

/-- An untagged answer. -/
def qapPlain (m : QapMsg) (op slot status : Nat) (body : List Nat) (s : State) : State :=
  qapSend m (qapAnswer m op slot status 0 body []) s

/-! ### The gate and OPEN (R553, R559, R560) -/

/-- Change the session block. -/
def sesUpd (f : SesSt → SesSt) (s : State) : State := { s with ses := f s.ses }

/-- R553: the body of a response to OPEN. -/
def openBody (nonce serial : List Nat) (retry : Nat) : List Nat := nonce ++ serial ++ leBytes 2 retry ++ leBytes 6 0

/-- R559: an OPEN is answered BUSY. -/
def openBusy (m : QapMsg) (s : State) : State :=
  let retry := 100 + Config.randomBits s.draws % 301
  let s1 := drawNext s |> qapPlain m 1 0xFF 1 (openBody (leBytes 16 0) (leBytes 8 0) retry) |> bump Reg.sesCntBusy 1 |> pmcInc 153
  if s1.ses.busyRaised then s1 else s1 |> sesUpd (fun x => { x with busyRaised := true }) |> raise_ 0x14 5

/-- The lowest free slot. -/
def freeSlot (s : State) : Option Nat := (List.range 16).find? (fun k => (session s k).state == 0)

/-- R561: what is left of the lock of a role, in ms, rounded up and saturating. -/
def lockMs (s : State) (c : Nat) : Nat := min 65535 ((c + 60000000000 - s.now + 199999) / 200000)

/-- R553: an admitted OPEN takes slot k. -/
def openSlot (m : QapMsg) (k : Nat) (s : State) : State :=
  let nonce := leBytes 16 (Config.randomBits s.draws)
  let x : Session :=
    { state := 1, role := m.body.headD 0, port := m.port, udp := m.udp, ip := m.ip, nonceH := (m.body.drop 4).take 16,
      nonceM := nonce, lastClk := s.now }
  drawNext s |> putSession k x |> qapPlain m 1 k 0 (openBody nonce (serialBytes s) 0)

/-- R560: a handled OPEN. -/
def openHandled (m : QapMsg) (s : State) : State :=
  let r := m.body.headD 0
  if m.body.length ≠ 20 ∨ 3 < r then qapPlain m 1 0xFF 9 [] s
  else
    match freeSlot s, roleLocked s r with
    | none, _ => qapPlain m 1 0xFF 6 [] s
    | some _, some c => qapPlain m 1 0xFF 7 (openBody (leBytes 16 0) (leBytes 8 0) (lockMs s c)) s
    | some k, none => if s.ses.factory ∧ r ≠ 3 then qapPlain m 1 0xFF 5 [] s else openSlot m k s

/-- A datagram whose length differs from what its fields ask for is discarded (R550). -/
def badLength (s : State) : State := bump Reg.sesCntFormat 1 s

/-- R553, R559: QAP_OPEN. -/
def execQapOpen (m : QapMsg) (s : State) : Host.Outcome State Fault Refusal :=
  let s1 := pmcInc 136 s
  .next (if m.wrongLen then badLength s1
  else
    let s2 := pmcInc 152 s1
    if s2.ses.gateOpen = false ∨ 4 ≤ s2.ses.handled then openBusy m s2
    else s2 |> sesUpd (fun x => { x with handled := x.handled + 1 }) |> openHandled m)

/-- R559, R571: a new 100 ms window. -/
def newWindow (s : State) : State :=
  let s1 := sesUpd (fun x => { x with handled := 0, busyRaised := false, dropRaised := false }) s
  each (List.range 16) (fun k t => putSession k { session t k with notes := 0 } t) s1

/-- R559: the session gate opens 475 ms after reset release, and the first window begins. -/
def execSessionGateOpen (s : State) : Host.Outcome State Fault Refusal :=
  let s0 := advanceTo (s.pwr.relClk + 95000000) s
  let s1 := s0 |> newWindow |> sesUpd (fun x => { x with gateOpen := true, winClk := s0.now })
  .next (if s.ses.gateOpen then s else wr Reg.rstTGate (startUs s1) s1)

/-- R559: ADMISSION_WINDOW: the next window begins, a multiple of 100 ms after the opening. -/
def execAdmissionWindow (s : State) : Host.Outcome State Fault Refusal :=
  .next (if s.ses.gateOpen then
    let s1 := advanceTo (s.ses.winClk + 20000000) s
    newWindow (sesUpd (fun x => { x with winClk := x.winClk + (s1.now - x.winClk) / 20000000 * 20000000 }) s1)
  else s)

/-! ### PROVE (R554, R561, R575) -/

/-- R575: the installation key. -/
def instKey (s : State) : List Nat := sha256 ("QAP-INSTALL".toList.map Char.toNat ++ s.ses.instCode ++ serialBytes s)

/-- R554, R560, R575: the key of a role, empty where it has none. -/
def roleKey (s : State) (r : Nat) : List Nat :=
  if s.ses.factory then (if r = 3 then instKey s else []) else tabGet (fun _ => ([] : List Nat)) s.ses.roleKeys r

/-- What the proof and the session key of a slot are computed over. -/
def proofData (s : State) (label : String) (x : Session) : List Nat :=
  label.toList.map Char.toNat ++ x.nonceH ++ x.nonceM ++ serialBytes s

/-- R554: does a PROOF verify for the slot. A role without a key has none that does. -/
def proofOk (s : State) (x : Session) (proof : List Nat) : Bool :=
  let k := roleKey s x.role
  k != [] && proof == hmac256 k (proofData s "QAP-PROVE" x)

/-- R561: a failed proof for role r from host address ip. -/
def proofFail (r ip : Nat) (s : State) : State :=
  let f := (s.now :: tabGet (fun _ => ([] : List Nat)) s.ses.fails r).take 5
  let s1 := s |> sesUpd (fun x => { x with fails := tabSet (fun _ => []) x.fails r f }) |> bump Reg.sesCntProofFail 1
    |> raise_ 0x14 2 |> fixedRec 0x107 0x1400 r [snapWord r, snapWord ip] []
  if f.length = 5 ∧ s.now - f.getLastD 0 ≤ 12000000000 then
    s1 |> sesUpd (fun x => { x with locked := tabSet (fun _ => none) x.locked r (some s.now) })
      |> bump Reg.sesCntLockout 1 |> raise_ 0x14 3 |> fixedRec 0x108 0x1400 r [snapWord r, snapWord ip] []
  else s1

/-- R554: a correct proof opens slot m.slot. -/
def proveOpen (m : QapMsg) (x : Session) (s : State) : State :=
  let ks := hmac256 (roleKey s x.role) (proofData s "QAP-SESSION" x)
  let resp := qapAnswer m 2 m.slot 0 1 ([x.role, 0] ++ leBytes 2 60) ks
  let y : Session :=
    { x with
      state := 2, key := ks, lastClk := s.now, seqOut := 1, port := m.port, ip := m.ip, udp := m.udp,
      lastReq := m.bytes 2 ++ m.tag, lastResp := resp }
  s |> putSession m.slot y |> bump Reg.sesCntOpen 1 |> pmcInc 154 |> raise_ 0x14 0 |> qapSend m resp

/-! ### Tagged requests (R555-R558) -/

/-- R557: a SEQ that is new to the session: above the highest, or one of the 64 below it not seen yet. -/
def seqFresh (x : Session) (q : Nat) : Bool :=
  decide (x.seqIn < q) || (q != 0 && decide (q < x.seqIn) && decide (x.seqIn - q ≤ 64) && !bitOf x.seen (x.seqIn - 1 - q))

/-- R557: remember a SEQ. -/
def seqNote (x : Session) (q : Nat) : Session :=
  if x.seqIn < q then
    let d := q - x.seqIn
    let old := if x.seqIn = 0 ∨ 64 < d then 0 else 2 ^ (d - 1)
    { x with seqIn := q, seen := ((if 64 < d then 0 else x.seen <<< d) + old) % 2 ^ 64 }
  else { x with seen := x.seen ||| 2 ^ (x.seqIn - 1 - q) }

/-- R558: send a tagged response and keep it. -/
def qapRespond (m : QapMsg) (op status : Nat) (body : List Nat) (s : State) : State :=
  let x := session s m.slot
  let resp := qapAnswer m op m.slot status (x.seqOut + 1) body x.key
  s |> putSession m.slot { x with seqOut := x.seqOut + 1, lastReq := m.bytes op ++ m.tag, lastResp := resp } |> qapSend m resp

/-- R557, R569: a request passes the gate of its session. -/
def qapAccept (m : QapMsg) (s : State) : State :=
  let x := seqNote (session s m.slot) m.seq
  s |> putSession m.slot { x with lastClk := s.now, port := m.port, ip := m.ip, udp := m.udp }
    |> sesUpd (fun y => { y with curSeq := m.seq })

/-- R555-R558: the request of an open session: its tag, then its SEQ, then what `handle` does with it. -/
def qapChecked (op : Nat) (m : QapMsg) (handle : State → State) (s : State) : State :=
  let x := session s m.slot
  let s1 := pmcInc 155 s
  if qapTag x.key (m.bytes op) ≠ m.tag then s1 |> bump Reg.sesCntTagFail 1 |> pmcInc 156 |> raise_ 0x14 4
  else if seqFresh x m.seq then s1 |> qapAccept m |> handle
  else if m.bytes op ++ m.tag = x.lastReq then s1 |> bump Reg.sesCntResend 1 |> pmcInc 158 |> qapSend m x.lastResp
  else s1 |> bump Reg.sesCntReplay 1 |> pmcInc 157

/-- R550, R556: a tagged request. -/
def qapRequest (op : Nat) (m : QapMsg) (handle : State → State) (s : State) : State :=
  let s1 := pmcInc 136 s
  if m.wrongLen then badLength s1
  else if 16 ≤ m.slot ∨ (session s1 m.slot).state ≠ 2 then qapPlain m op m.slot 0x0B [] s1
  else qapChecked op m handle s1

/-- R554: QAP_PROVE. On a slot that is already open it is a tagged request like any other, and is malformed. -/
def execQapProve (m : QapMsg) (s : State) : Host.Outcome State Fault Refusal :=
  let x := session s m.slot
  .next (if m.slot < 16 ∧ x.state = 1 ∧ m.wrongLen = false then
    let s1 := pmcInc 136 s
    if m.body.length ≠ 32 then qapPlain m 2 m.slot 9 [] s1
    else if proofOk s1 x m.body then proveOpen m x s1
    else s1 |> qapPlain m 2 m.slot 8 [] |> putSession m.slot {} |> proofFail x.role m.ip
  else qapRequest 2 m (qapRespond m 2 9 []) s)

/-! ### The end of a session (R553, R561, R569) -/

/-- R566, R569: an open session ends. -/
def sesFree (k : Nat) (s : State) : State := s |> putSession k {} |> raise_ 0x14 1 |> freezeDrop k |> updOwnerGone k

/-- R561: the lock of a role has stood for 300 s. -/
def execLockoutExpire (r : Fin 4) (s : State) : Host.Outcome State Fault Refusal :=
  .next (match tabGet (fun _ => (none : Option Nat)) s.ses.locked r with
  | some c => s |> advanceTo (c + 60000000000) |> sesUpd (fun x => { x with locked := tabSet (fun _ => none) x.locked r none })
  | none => s)

/-- R553: no PROVE has come within 5 s. -/
def execProvingTimeout (k : Fin 16) (s : State) : Host.Outcome State Fault Refusal :=
  let x := session s k
  .next (if x.state = 1 then s |> advanceTo (x.lastClk + 1000000000) |> putSession k {} else s)

/-- R569: no request has been accepted for 60 s. -/
def execIdleTimeout (k : Fin 16) (s : State) : Host.Outcome State Fault Refusal :=
  let x := session s k
  .next (if x.state = 2 then s |> advanceTo (x.lastClk + 12000000000) |> bump Reg.sesCntTimeout 1 |> sesFree k else s)

/-- R569: QAP_CLOSE. -/
def execQapClose (m : QapMsg) (s : State) : Host.Outcome State Fault Refusal :=
  .next (qapRequest 0x0A m (fun t =>
    if m.body = [] then t |> qapRespond m 0x0A 0 [] |> sesFree m.slot else qapRespond m 0x0A 9 [] t) s)

/-! ### SUBSCRIBE, FREEZE, UNFREEZE (R565, R566) -/

/-- R565: the pages that a mask may name. -/
def pageBits : Nat := livePages.foldl (fun m p => m + 2 ^ p) 0

/-- R565: QAP_SUBSCRIBE. -/
def execQapSubscribe (m : QapMsg) (s : State) : Host.Outcome State Fault Refusal :=
  .next (qapRequest 6 m (fun t =>
    let mask := leNat m.body &&& pageBits
    if m.body.length = 8 then
      t |> putSession m.slot { session t m.slot with mask := mask } |> qapRespond m 6 0 (leBytes 8 mask)
    else qapRespond m 6 9 [] t) s)

/-- R566: QAP_FREEZE. -/
def execQapFreeze (m : QapMsg) (s : State) : Host.Outcome State Fault Refusal :=
  .next (qapRequest 7 m (fun t =>
    if m.body ≠ [] then qapRespond m 7 9 [] t
    else match t.grn.freeze with
      | some k => qapRespond m 7 (if k = m.slot then 0 else 1) [] t
      | none => t |> freezeBegin m.slot |> qapRespond m 7 0 []) s)

/-- R566, R660: QAP_UNFREEZE. -/
def execQapUnfreeze (m : QapMsg) (s : State) : Host.Outcome State Fault Refusal :=
  .next (qapRequest 8 m (fun t =>
    if m.body ≠ [] then qapRespond m 8 9 [] t
    else if t.grn.freeze = some m.slot then t |> freezeEnd |> qapRespond m 8 0 []
    else qapRespond m 8 5 [] t) s)

/-! ### Overlay commit (R67, R567) -/

/-- R67: the OVERLAY registers whose values differ from their Sheaf values. -/
def overlayDiff (s : State) : List Nat := (livePages.flatMap (rowAddrs (fun r => r.kept == .overlay))).filter (fun a => rd s a != sheafVal s a)

/-- R67: the overlay takes the values that differ. -/
def overlayStore (s : State) : State :=
  let d := overlayDiff s
  { s with
    overlay := d.foldl (fun t a => tabSet (fun _ => none) t a (some (BitVec.ofNat 32 (rd s a)))) [],
    overlayDig := (List.range 8).map (fun k => rd s (Reg.sysSheafDig k)) }
    |> wr Reg.sysOverlayUse d.length |> setFlag (Reg.stat 0) 4 false

/-- R67, R567: QAP_COMMIT. -/
def execQapCommit (m : QapMsg) (s : State) : Host.Outcome State Fault Refusal :=
  .next (qapRequest 9 m (fun t =>
    if m.body ≠ [] then qapRespond m 9 9 [] t
    else if (session t m.slot).role < 2 then qapRespond m 9 5 [] t
    else if (overlayDiff t).length ≤ 4096 then
      let t1 := overlayStore t
      qapRespond m 9 0 (leBytes 2 (rd t1 Reg.sysOverlayUse) ++ [0, 0]) t1
    else qapRespond m 9 4 (leBytes 2 (rd t Reg.sysOverlayUse) ++ [0, 0]) t) s)

end Sys2Proof.Machine
end

