-- ==== Sys2Proof/Machine/Slv.lean ====
section
/-! DEFINITION. The solver engine (R397-R416): job slots from SLV_START to SLV_COLLECT, deadlines and the wedged engine. -/

namespace Sys2Proof.Machine

/-! ### SLV_START (R397-R400) -/

/-- Every later job ends NOT_RUN once the engine is wedged (R405). -/
def slvWedged (s : State) : Bool := flag s (Reg.stat 0x0C) 5

/-- The gathering of a slot, which ends with what ends its job. -/
def dropGather (j : Nat) (s : State) : State :=
  { s with seq := { s.seq with outst := s.seq.outst.filter (fun o => o.e.opcode ≠ 0x12 ∨ bitsOf o.e.arg0 2 0 ≠ j) } }

/-- R397, R400: SLV_START: the slot gathers its words and waits in the order of the entries; a wedged engine runs nothing (R405). -/
def runSlvStart (e : Entry) (s : State) : State :=
  let j := bitsOf e.arg0 2 0
  let d := bitsOf e.arg1 5 0
  let ws := gatherWords s d
  let n := ws.length
  let s0 := dropGather j s
  let old := jobSlot s j
  let st := rd s (Reg.slvSlotState j)
  let s1 := { s0 with slv := { s0.slv with
      queue := s0.slv.queue.filter (· ≠ j) ++ [j]
      running := if s0.slv.running = some j then none else s0.slv.running } }
    |> putJob j { desc := d, warm := old.warm, published := old.published }
    |> wr (Reg.slvSlotState j) (1 <<< 28 + bitsOf st 23 20 <<< 20 + bitsOf st 16 15 <<< 15 + bitsOf st 7 0)
    |> setFld (Reg.slvSlotRun j) 31 26 d
  if slvWedged s then jobEnds j 7 s1
  else
    s1 |> goOn e [] (s.now + max 1 n)
        (((ws.zip (List.range n)).map (fun p => (s.now + 1 + p.2, Act.fetch p.1))) ++ [(s.now + max 1 n, Act.gathered)])
      |> when_ s1.slv.running.isSome (fun t => t |> bump Reg.slvCntStartWait 1 |> raise_ 0x0C 8)

/-- R397: SLV_START of job slot `slot` with descriptor `d`. -/
def execSlvStart (pos slot d : Nat) (s : State) : Host.Outcome State Fault Refusal :=
  .next (dispatch (fun e _ t => runSlvStart e t) ⟨0x12, 0x0C, slot, d, 0, 0, 0, pos⟩ {} s)

/-- The clock at which the gathering of slot j ends. -/
def gatherEnd (s : State) (j : Nat) : Nat :=
  match s.seq.outst.find? (fun o => o.e.opcode == 0x12 && bitsOf o.e.arg0 2 0 == j) with
  | some o => o.last
  | none => s.now

/-- R400: the engine takes the job that waits longest, once its inputs are gathered. -/
def execSolverJobStart (s : State) : Host.Outcome State Fault Refusal :=
  .next (match s.slv.queue with
    | [] => s
    | j :: rest =>
      let s1 := advanceTo (max (gatherEnd s j) s.slv.freeClk) s
      let x := jobSlot s1 j
      if s1.slv.running.isSome ∨ slvWedged s1 ∨ x.ready = false ∨ s1.slv.queue.head? ≠ some j then s1
      else
        { s1 with slv := { s1.slv with queue := rest, running := some j, abandonClk := none } }
          |> putJob j { x with startClk := s1.now } |> setFld (Reg.slvSlotState j) 31 28 2
          |> bump Reg.slvCntJobs 1 |> pmcInc (24 + j))

/-! ### End of a job (R401-R405) -/

/-- Draw a free count and add it to an event counter. -/
def freeCount (i : Nat) (f : Nat → Nat) (s : State) : State := drawNext (pmcAdd i (f s.draws) s)

/-- The engine stops working on slot j at the present clock: its registers, counters and events. -/
def jobStops (j : Nat) (r : JobRun) (cause cycles : Nat) (iter : Option JobIter) (s : State) : State :=
  let x := jobSlot s j
  { s with slv := { s.slv with running := none } }
    |> putJob j { x with endClk := s.now, iter := iter, checkDue := iter.isSome && cause != 4 }
    |> setFld (Reg.slvSlotState j) 31 24 (3 * 16 + cause)
    |> setFld (Reg.slvSlotState j) 14 8 (min 127 r.count)
    |> setFlag (Reg.slvSlotState j) 19 (r.clamps != 0)
    |> setFld (Reg.slvSlotRun j) 25 0 (min 0x3FFFFFF cycles)
    |> when_ (r.count != 0) (wrF (Reg.slvSlotSolverRho j) (fConv f32 r.rho))
    |> pmcAdd 32 cycles |> freeCount 33 Config.fmaIssues |> freeCount 34 Config.divIssues |> pmcAdd 35 r.count
    |> pmcAdd 36 r.clamps |> bump Reg.slvCntPivotClamp r.clamps
    |> when_ (r.clamps != 0) (raise_ 0x0C 5)
    |> (match cause with
      | 1 => bump Reg.slvCntConverged 1
      | 2 => fun t => t |> bump Reg.slvCntIterCap 1 |> raise_ 0x0C 9
      | 3 => fun t => t |> bump Reg.slvCntAbandoned 1 |> raise_ 0x0C 1
      | 4 => fun t => t |> bump Reg.slvCntNumeric 1 |> raise_ 0x0C 0
      | _ => id)

/-- Where the running job of slot j stands after at most `fuel` iterations. -/
def jobAt (s : State) (j fuel : Nat) : JobRun :=
  let x := jobSlot s j
  let job := jobOf s x
  let cap := desc s x.desc 8 1
  runJob job (jobTol s x.desc) cap (min fuel cap) ⟨0, jobStart s x job, FVal.zero, 0, 0⟩

/-- What a job leaves: no iterate when it ended NUMERIC or before its first iteration ended (R404, R405). -/
def JobRun.left (r : JobRun) : Option JobIter := if r.cause = 4 ∨ r.count = 0 then none else some r.iter

/-- R401: the running job ends by itself after `cycles` solver cycles, within its bound (R388); `upset` is its result as the work
area holds it where a defect of the engine made it differ. -/
def execSolverJobEnd (cycles : Nat) (upset : Option (List Nat)) (s : State) : Host.Outcome State Fault Refusal :=
  .next (match s.slv.running with
    | none => s
    | some j =>
      let x := jobSlot s j
      let r := jobAt s j 255
      let c := min cycles (jobBound (jobOf s x) r.count)
      let s1 := advanceTo (x.startClk + (c + 3) / 4) s
      let it := match r.left, upset with
        | some i, some u => some { i with x := u }
        | i, _ => i
      jobStops j r r.cause c it s1)

/-- R405: SLV_DEADLINE: abandon the running or queued job of a slot, `iters` iterations of which have ended. -/
def runSlvDeadline (iters : Nat) (e : Entry) (s : State) : State :=
  let j := bitsOf e.arg0 2 0
  if s.slv.running = some j then
    let r := jobAt s j iters
    let cycles := 4 * (s.now - (jobSlot s j).startClk)
    if r.cause ≠ 0 then jobStops j r r.cause cycles r.left s
    else
      let s1 := jobStops j r 3 cycles r.left s
      { s1 with slv := { s1.slv with freeClk := s1.now + 8, abandonClk := some s1.now } }
  else if s.slv.queue.contains j then
    dropGather j { s with slv := { s.slv with queue := s.slv.queue.filter (· ≠ j) } }
      |> putJob j { jobSlot s j with iter := none, endClk := s.now }
      |> setFld (Reg.slvSlotState j) 31 24 0x33 |> bump Reg.slvCntAbandoned 1 |> raise_ 0x0C 1
  else s

/-- R405: SLV_DEADLINE of job slot `slot`. -/
def execSlvDeadline (pos slot iters : Nat) (s : State) : Host.Outcome State Fault Refusal :=
  .next (dispatch (fun e io t => runSlvDeadline io.iters e t) ⟨0x13, 0x0C, slot, 0, 0, 0, 0, pos⟩ { iters := iters } s)

/-- R405, R611: the engine has not become free 256 control clocks after an abandonment. -/
def execWedged (s : State) : Host.Outcome State Fault Refusal :=
  .next (match s.slv.abandonClk with
    | none => s
    | some c =>
      let s1 := advanceTo (c + 256) s
      let q := s1.slv.queue
      { s1 with slv := { s1.slv with queue := [], abandonClk := none } }
        |> setFlag (Reg.stat 0x0C) 5 true |> (fun t => each q (fun j u => jobEnds j 7 (dropGather j u)) t) |> raise_ 0x0C 10
        |> when_ (flag s1 Reg.redCfg 17) (requestSwap .wedged))

/-- R412: a collect of slot j that waits for the lane check begins now, or at the clock after its dispatch when that is later. -/
def collectMoves (j : Nat) (s : State) : State :=
  { s with seq := { s.seq with outst := s.seq.outst.map (fun o =>
      match o.todo.find? (fun a => a.2 == Act.collect) with
      | some a =>
        if bitsOf o.e.arg0 2 0 = j then
          let early := a.1 - max (o.born + 1) s.now
          { o with todo := o.todo.map (fun b => (b.1 - early, b.2)), last := o.last - early }
        else o
      | none => o) } }

/-- R407, R412: the lane check of job slot `slot` ends `clocks` after its start, within its bound. -/
def execLaneCheckDone (slot : Fin 8) (clocks : Nat) (s : State) : Host.Outcome State Fault Refusal :=
  .next (
    let x := jobSlot s slot
    if x.checkDue then
      let s1 := laneCheck slot (advanceTo (x.endClk + min clocks (checkBound (jobOf s x))) s)
      settle s1.now (collectMoves slot s1)
    else s)

/-! ### SLV_COLLECT (R396, R409-R413) -/

/-- R409-R413: SLV_COLLECT: it begins at the clock after its dispatch, or at the end of the lane check, and writes a word per control
clock, the first at that clock. -/
def runSlvCollect (e : Entry) (s : State) : State :=
  let j := bitsOf e.arg0 2 0
  let x := jobSlot s j
  let first := if x.checkDue then max (s.now + 1) (x.endClk + checkBound (jobOf s x)) else s.now + 1
  let st := desc s x.desc 0xE0 4
  let ws := resultWords s j ++ (if st < imgWords then [st] else [])
  goOn e ws (first + (ws.length - 1)) ((first, Act.collect) :: (List.range ws.length).map (fun i => (first + i, Act.next))) s

/-- R409: SLV_COLLECT of job slot `slot`. -/
def execSlvCollect (pos slot : Nat) (s : State) : Host.Outcome State Fault Refusal :=
  .next (dispatch (fun e _ t => runSlvCollect e t) ⟨0x14, 0x0C, slot, 0, 0, 0, 0, pos⟩ {} s)

/-! ### Start, activation and takeover (R414-R416) -/

/-- Start and module reset. -/
def slvStart (s : State) : State := { s with slv := {} }

/-- R416: at an activation the running job is abandoned, ages restart and warm-start data is discarded. -/
def slvActivate (s : State) : State :=
  let s1 := { s with slv := { s.slv with running := none, queue := [] } }
  each (List.range 8) (fun j t =>
    dropGather j t |> putJob j { desc := (jobSlot t j).desc } |> setFld (Reg.slvSlotState j) 7 0 0
      |> when_ (fld t (Reg.slvSlotState j) 31 28 == 1 || fld t (Reg.slvSlotState j) 31 28 == 2) (setFld (Reg.slvSlotState j) 31 24 0x33)) s1

/-- R415: a module that becomes ACTIVE finds every job that has not been collected NOT_RUN. -/
def slvTakeover (s : State) : State :=
  let s1 := { s with slv := { s.slv with running := none, queue := [] } }
  each (List.range 8) (fun j t =>
    if fld t (Reg.slvSlotState j) 31 28 = 0 then t
    else t |> putJob j { jobSlot t j with iter := none, checkDue := false } |> jobEnds j 7) s1

end Sys2Proof.Machine
end

