-- ==== Sys2Proof/Machine/Values.lean ====
section
/-! DEFINITION. The stated ranges of the writable registers and of the loop words: what cause VALUE of R60 judges, for a host
write and for a record of section 12 (R153). -/

namespace Sys2Proof.Machine

/-- What a range refers to besides the value: the other registers as they stand once the request, or the Sheaf, is applied; the
mode that the Sheaf gives a universal channel; and the number of texts of section 14. -/
structure RangeCtx where
  get : Nat → Nat
  modeOf : Nat → Nat
  texts : Nat

/-- A binary32 word is finite. -/
def finite32 (v : Nat) : Bool := (fOfBits f32 v).isFin

/-- A binary32 word lies from `lo` to `hi`. -/
def in32 (lo hi : Rat) (v : Nat) : Bool :=
  match fRat (fOfBits f32 v) with
  | some q => decide (lo ≤ q) && decide (q ≤ hi)
  | none => false

/-- A number lies from `lo` to `hi`. -/
def within (lo hi v : Nat) : Bool := decide (lo ≤ v) && decide (v ≤ hi)

/-- A signed field of n bits lies from `lo` to `hi`. -/
def withinI (n : Nat) (lo hi : Int) (v : Nat) : Bool := decide (lo ≤ signedOf n v) && decide (signedOf n v ≤ hi)

/-- R239: a trim offset lies within 1 % of the span of the mode for which the trim was made. -/
def trimOfsOk (mode sensor v : Nat) : Bool :=
  match achRange mode sensor with
  | some r => in32 (-(r.2 - r.1) / 100) ((r.2 - r.1) / 100) v
  | none => in32 0 0 v

/-- R253: FAULT_VALUE lies in the range of the channel's Sheaf mode where that is an output mode. -/
def faultValueOk (mode v : Nat) : Bool :=
  if mode = 4 ∨ mode = 5 ∨ mode = 6 then
    match achRange mode 0 with
    | some r => in32 r.1 r.2 v
    | none => finite32 v
  else finite32 v

/-- Ranges of an ACH page (R239, R242, R243, R253, R268, R272). -/
def achRangeOk (c : RangeCtx) (n off v : Nat) : Bool :=
  match off with
  | 0x100 => bitsOf v 31 24 != 0 && bitsOf v 23 16 != 0 && v % 16 ≤ 9 && (v % 16 == 0 || v % 16 == c.modeOf n)
  | 0x104 | 0x108 | 0x118 => finite32 v
  | 0x10C => bitsOf v 9 8 != 3 && bitsOf v 7 4 ≤ 2 && v % 16 ≤ 6
  | 0x110 => in32 0 100 v
  | 0x114 => in32 (-50) 100 v
  | 0x144 => faultValueOk (c.modeOf n) v
  | 0x180 => v % 16 ≤ 9 && trimOfsOk (v % 16) (c.get (Reg.achSensor n)) (c.get (Reg.achTrimOfs n))
  | 0x184 => in32 (9 / 10) (11 / 10) v
  | 0x188 => trimOfsOk (c.get (Reg.achTrimCfg n) % 16) (c.get (Reg.achSensor n)) v
  | 0x200 => within 5 20 (bitsOf v 12 8)
  | 0x208 => v % 512 == 0 || within 4 266 (v % 512)
  | _ => true

/-- Ranges of the GMU page (R340). -/
def gmuRangeOk (off v : Nat) : Bool :=
  match off with
  | 0x100 => bitsOf v 9 8 != 3
  | 0x104 => in32 50 50000 v
  | 0x108 => in32 1 50000 v
  | 0x10C | 0x110 => in32 (1 / 10) 10000 v
  | 0x114 => in32 (1 / 100) 10000 v
  | 0x118 | 0x11C => in32 (-10) 10 v
  | _ => true

/-- Ranges of a SYN set (R342). -/
def synRangeOk (off v : Nat) : Bool :=
  if off < 0x200 then true
  else match off % 32 with
    | 0x00 => bitsOf v 15 0 != 0 && bitsOf v 21 16 ≤ 47 && bitsOf v 29 24 ≤ 47
    | 0x04 => bitsOf v 23 16 != 0 && within 200 4000 (bitsOf v 11 0)
    | 0x08 => withinI 16 (-18000) 17999 (bitsOf v 31 16) && within 1 3000 (bitsOf v 15 0)
    | 0x0C => within 1 49 (bitsOf v 31 24) && within 50 120 (bitsOf v 23 16) && within 1 200 (bitsOf v 7 0)
    | 0x10 =>
      withinI 16 (-2000) 2000 (bitsOf v 31 16) && withinI 16 (-2000) 2000 (bitsOf v 15 0)
        && signedOf 16 (bitsOf v 15 0) ≤ signedOf 16 (bitsOf v 31 16)
    | 0x14 => within 1 100 (bitsOf v 15 8)
    | _ => true

/-- R484: the bit timing of the nominal and of the data phase. -/
def nbtOk (v : Nat) : Bool :=
  let brp := bitsOf v 31 24 + 1
  let seg1 := bitsOf v 7 0 + 1
  let seg2 := bitsOf v 14 8 + 1
  let len := 1 + seg1 + seg2
  2 ≤ seg1 && bitsOf v 22 16 + 1 ≤ seg2 && 8 ≤ len && 80 ≤ len * brp
def dbtOk (v : Nat) : Bool :=
  let brp := bitsOf v 20 16 + 1
  let seg2 := bitsOf v 11 8 + 1
  let len := 1 + (bitsOf v 4 0 + 1) + seg2
  bitsOf v 15 12 + 1 ≤ seg2 && 5 ≤ len && 16 ≤ len * brp

/-- Ranges of an MBC page (R484, R516). -/
def mbcRangeOk (off v : Nat) : Bool :=
  match off with
  | 0x100 => v % 4 != 3
  | 0x104 => bitsOf v 15 8 != 0 && within 1 127 (bitsOf v 7 0)
  | 0x108 => nbtOk v
  | 0x10C => dbtOk v
  | _ => true

/-- Ranges of the MGT page (R682). -/
def mgtRangeOk (off v : Nat) : Bool :=
  match off with
  | 0x100 => withinI 16 (-400) 1250 (v % 65536)
  | 0x104 => within 100 1000 (v % 1024)
  | 0x108 => within 10 16000 (v % 65536)
  | 0x10C => within 1 2000 (v % 65536)
  | _ => true

/-- R704: a rectangle of the panel. -/
def rectOk (v : Nat) : Bool :=
  let x := bitsOf v 31 24
  let y := bitsOf v 23 16
  let w := bitsOf v 15 8
  let h := bitsOf v 7 0
  x + w ≤ 240 && y + h ≤ 120 && !(w != 0 && h != 0 && decide (224 < x + w) && decide (116 < y + h))

/-- Ranges of the FPD page (R704, R713). -/
def fpdRangeOk (c : RangeCtx) (off v : Nat) : Bool :=
  if 0x140 ≤ off ∧ off < 0x160 then (if off % 8 = 0 then rectOk v else !bitOf v 31 || decide (v % 65536 < c.texts))
  else if off = 0x10C then v % 128 ≤ 119
  else true

/-- Ranges of the CLE page outside the loop windows (R380). -/
def cleRangeOk (off v : Nat) : Bool :=
  if 0x300 ≤ off ∧ off < 0x380 then (List.range 8).all (fun j => bitsOf v (4 * j + 3) (4 * j) ≤ 1)
  else if 0x400 ≤ off ∧ off < 0x800 then finite32 v
  else true

/-- Ranges of the pages that hold few of them. -/
def smallRangeOk (b : Block) (off v : Nat) : Bool :=
  match b, off with
  | .tbu, 0x104 => within 1 4096 (v % 8192)
  | .tbu, 0x10C => v % 256 != 0
  | .lsp, 0x104 => within 1 100 (bitsOf v 15 8) && v % 256 != 0
  | .dio, 0x104 => v % 256 != 0
  | .net, 0x100 => within 1 4094 (bitsOf v 27 16)
  | .net, 0x110 => v % 256 ≤ 127
  | .red, 0x100 => within 1 365 (v % 512)
  | .ses, 0x100 => v % 4 != 3
  | .dio, o => o < 0x200 || (bitsOf v 17 16 != 3 && v % 16 ≤ 4)
  | .piu, o => o < 0x100 || (if o % 16 = 0 then within 5 100 (bitsOf v 15 8) && v % 16 ≤ 3 else within 1 4096 (v % 8192))
  | .pmc, o => !(decide (0x100 ≤ o) && decide (o < 0x140)) || bitsOf v 31 24 ≤ 0x11
  | _, _ => true

/-- R60: the value of a register at byte address `a` lies in its stated ranges. -/
def rangeOk (c : RangeCtx) (a v : Nat) : Bool :=
  let p := (a - 0x100000) / 0x1000
  let off := (a - 0x100000) % 0x1000
  if off < 0x040 then true
  else match blockOf p with
    | some .ach => achRangeOk c (p - 0x20) off v
    | some .gmu => gmuRangeOk off v
    | some .syn => synRangeOk off v
    | some .mbc => mbcRangeOk off v
    | some .mgt => mgtRangeOk off v
    | some .fpd => fpdRangeOk c off v
    | some .cle => cleRangeOk off v
    | some b => smallRangeOk b off v
    | none => true

/-- R63: a value of EVT_EN sets no bit that the page's chapter leaves unnamed. -/
def eventsOk (a v : Nat) : Bool :=
  match blockOf ((a - 0x100000) / 0x1000) with
  | some b => (a - 0x100000) % 0x1000 != 0x014 || v &&& eventBits b == v
  | none => true

/-- R60, R153: a value sets no reserved bit and lies in its ranges. -/
def valueOk (c : RangeCtx) (a v : Nat) : Bool :=
  match findRow ((a - 0x100000) / 0x1000) ((a - 0x100000) % 0x1000) with
  | some r => v &&& r.mask == v && eventsOk a v && rangeOk c a v
  | none => false

/-! ### Loop words (R350) -/

/-- A word index of the image. -/
def wOk (v : Nat) : Bool := v < imgWords

/-- A word index or none. -/
def wOrNone (v : Nat) : Bool := v < imgWords || v == 0xFFFFFFFF

/-- The words of a loop record that a shadow write may change (R350): BOUND1-HYST, the gain sets, and 0x180-0x1B4. -/
def loopShdWord (w : Nat) : Bool := (16 ≤ w && w < 24) || (24 ≤ w && w < 96) || (96 ≤ w && w < 110)

/-- A finite number that is not below 0. -/
def atLeast0 (v : Nat) : Bool :=
  match fRat (fOfBits f32 v) with
  | some q => decide (0 ≤ q)
  | none => false

/-- R350: the stated range of an SHD word of a loop record. -/
def loopWordOk (w v : Nat) : Bool :=
  if w = 109 then bitsOf v 15 5 == 0 && bitsOf v 31 16 != 0 && v % 32 != 0
  else if w = 23 then atLeast0 v
  else if 24 ≤ w ∧ w < 96 then
    match (w - 24) % 8 with
    | 1 | 2 | 3 | 6 => atLeast0 v
    | _ => finite32 v
  else if w = 100 ∨ 103 ≤ w then atLeast0 v
  else finite32 v

end Sys2Proof.Machine
end

