-- ==== Sys2Proof/Machine/Check.lean ====
section
/-! DEFINITION. The load checks of a Sheaf (R117-R160): orders 1 to 10 of R157 over the bytes of a bank, the section check of
the safety unit (R158, R477), and the check of a program image (R674, R688). -/

namespace Sys2Proof.Machine

/-- How a check fails: the cause code of R157, the section number and the record index (R159). -/
structure Reject where
  cause : Nat
  section_ : Nat
  index : Nat
deriving DecidableEq, Repr

/-- A failure that belongs to no single record. -/
def rejectAll (cause k : Nat) (bad : Bool) : Option Reject := if bad then some ⟨cause, k, 0xFFFFFFFF⟩ else none

/-- The first failure of a list of checks. -/
def firstOf (l : List (Option Reject)) : Option Reject := l.findSome? id

/-! ### Orders 1 to 6 -/

/-- R120: TOTAL_LENGTH. -/
def totalLen (s : State) (b : Nat) : Nat := bankNat s b 0x008 4

/-- R117: the length of the Sheaf; `len` bytes are there. -/
def sizeBad (s : State) (b len : Nat) : Bool := !within 0x200 0x800000 (totalLen s b) || totalLen s b % 16 != 0 || decide (len < totalLen s b)

/-- R120, R126: the header and the trailer name the format. -/
def formatBad (s : State) (b : Nat) : Bool :=
  bankNat s b 0 4 != 0x46485351 || bankNat s b 4 2 != 1 || bankNat s b 0x00C 4 != 15
    || bankNat s b (totalLen s b - 128) 4 != 0x47495351

/-- The DIGEST and SIGNATURE of a trailer at offset `t` (R126). -/
def trailerDigest (s : State) (b t : Nat) : List Nat := bankBytes s b (t + 0x10) 32
def trailerSign (s : State) (b t : Nat) : List Nat := bankBytes s b (t + 0x30) 64

/-- R127: the digest differs from the one computed over the bytes [o, t). -/
def digestBad (s : State) (b o t : Nat) : Bool := sha256 (bankBytes s b o (t - o)) != trailerDigest s b t

/-- R126: the identifier of a verification key. -/
def keyIdOf (key : List Nat) : Nat := leNat ((sha256 key).take 8)

/-- R128: no key of a list has the identifier of the trailer at `t` and verifies its signature. -/
def signBad (s : State) (b t : Nat) (keys : List (List Nat)) : Bool :=
  !keys.any (fun k => !k.isEmpty && keyIdOf k == bankNat s b (t + 8) 8 && edVerify k (trailerDigest s b t) (trailerSign s b t))

/-- R124, R125: a directory entry breaks the layout; `t` is the offset of the trailer. -/
def dirBad (s : State) (b t : Nat) : Bool :=
  let e (k : Nat) : Bool × Nat × Nat := dirEntry s b k
  let present := (List.range 16).filter (fun k => 1 ≤ k && (e k).1)
  (List.range 15).any (fun i => bankNat s b (0x080 + 16 * i) 1 != i + 1)
    || [1, 3, 5, 12, 15].any (fun k => !(e k).1)
    || (e 1).2.1 != 0 || (e 1).2.2 != 0x180
    || (List.range 16).any (fun k => 1 ≤ k && !(e k).1 && ((e k).2.1 != 0 || (e k).2.2 != 0))
    || present.any (fun k => 2 ≤ k && ((e k).2.1 % 16 != 0 || decide ((e k).2.1 < 0x180) || decide (t < (e k).2.1 + (e k).2.2)))
    || (present.zip (present.drop 1)).any (fun p => decide ((e p.2).2.1 < (e p.1).2.1 + (e p.1).2.2))

/-- R122: the first of two issues, laid out as SYS.HWISSUE[15:0], is greater. -/
def issueAbove (a b : Nat) : Bool := decide (b % 256 * 256 + b / 256 % 256 < a % 256 * 256 + a / 256 % 256)

/-- R121, R122: the Sheaf does not fit the hardware. -/
def hardwareBad (s : State) (b : Nat) : Bool :=
  let base := fld s Reg.sysStation 14 13
  let req := bankNat s b 0x01A 1
  (req == 1 && base != 1) || (req == 2 && base != 2) || (base == 2 && bankNat s b 0x018 2 % 2 == 1)
    || issueAbove (bankNat s b 0x01C 2) (rd s Reg.sysHwissue % 65536)

/-! ### Order 7: structure (R119, R131-R133) -/

/-- A part of the table of R133: identifier, record size (0: a byte block), least and greatest count, and whether its section
requires it. -/
structure PartRow where
  id : Nat
  size : Nat
  lo : Nat
  hi : Nat
  req : Bool
deriving DecidableEq, Repr

/-- R133: the parts of sections 2 to 14. -/
def partRows : List PartRow :=
  [⟨0x0201, 4, 4096, 4096, true⟩, ⟨0x0202, 16, 0, 4096, true⟩,
   ⟨0x0301, 4, 4096, 4096, true⟩, ⟨0x0302, 16, 1, 32768, true⟩, ⟨0x0303, 32, 0, 256, false⟩,
   ⟨0x0401, 16, 1, 1, true⟩, ⟨0x0402, 16, 0, 256, true⟩,
   ⟨0x0501, 8, 1, 16384, true⟩, ⟨0x0502, 8, 0, 1024, false⟩, ⟨0x0503, 12, 0, 4096, false⟩,
   ⟨0x0601, 128, 32, 32, true⟩, ⟨0x0602, 16, 48, 48, true⟩, ⟨0x0603, 32, 4, 4, true⟩, ⟨0x0604, 256, 1, 1, true⟩,
   ⟨0x0605, 64, 8, 8, true⟩, ⟨0x0606, 32, 1, 1, true⟩,
   ⟨0x0701, 512, 0, 256, true⟩,
   ⟨0x0801, 256, 0, 64, true⟩, ⟨0x0802, 0, 0, 1048576, true⟩,
   ⟨0x0901, 32, 0, 4096, true⟩, ⟨0x0902, 16, 0, 2048, true⟩,
   ⟨0x0A01, 16, 0, 256, true⟩, ⟨0x0A02, 16, 0, 512, true⟩,
   ⟨0x0B01, 32, 0, 512, true⟩, ⟨0x0C01, 8, 1, 16384, true⟩, ⟨0x0D01, 64, 0, 256, true⟩,
   ⟨0x0E01, 0, 0, 524288, true⟩, ⟨0x0E02, 0, 0, 524288, true⟩]

/-- R477: the parts of section 15. -/
def sec15Rows : List PartRow :=
  [⟨0x0F01, 16, 1, 1, true⟩, ⟨0x0F02, 16, 16, 16, true⟩, ⟨0x0F03, 16, 8, 8, true⟩, ⟨0x0F04, 16, 8, 8, true⟩, ⟨0x0F05, 16, 2, 2, true⟩]

/-- The rows of a section. -/
def rowsOf (k : Nat) : List PartRow := (partRows ++ sec15Rows).filter (fun r => r.id / 256 == k)

/-- The offsets of the n part headers from `off` on. -/
def partOffs (s : State) (b : Nat) : Nat → Nat → List Nat
  | 0, _ => []
  | n + 1, off => off :: partOffs s b n (partAt s b off).next

/-- R132, R133: the part that a row names has another record size, a reserved field or padding that is not zero, or a LENGTH
that differs from what its records take. -/
def partBad (s : State) (b : Nat) (r : PartRow) : Bool :=
  match bankPart s b r.id with
  | none => false
  | some p =>
    let off := p.base - 16
    let bytes := if p.size = 0 then p.count else p.size * p.count
    let up := (bytes + 15) / 16 * 16
    r.size != p.size || bankNat s b (off + 2) 2 != 0 || p.next != p.base + up || (bankBytes s b (p.base + bytes) (up - bytes)).any (· != 0)

/-- R131-R133: the header of section k, or the chain of its parts, breaks the layout: a part that leaves the section, an unknown
or a repeated one, a required one missing, or bytes left over; `tail` bytes follow its last part. -/
def framingBad (s : State) (b tail k : Nat) : Bool :=
  let d := dirEntry s b k
  let o := d.2.1
  let n := bankNat s b (o + 2) 2
  let stop := o + d.2.2 - tail
  let offs := partOffs s b n (o + 16)
  let ids := offs.map (fun x => bankNat s b x 2)
  bankNat s b o 1 != k || bankNat s b (o + 1) 1 != 1 || decide (16 < n) || bankNat s b (o + 4) 4 != d.2.2
    || bankNat s b (o + 8) 8 != 0 || decide (d.2.2 < 16 + tail)
    || offs.any (fun x => decide (stop < (partAt s b x).next))
    || (match offs.getLast? with | some x => (partAt s b x).next | none => o + 16) != stop
    || !decide ids.Nodup || ids.any (fun i => !(rowsOf k).any (fun r => r.id == i)) || (rowsOf k).any (fun r => r.req && !ids.contains r.id)

/-- The first record index of a part (R159). -/
def recBase (s : State) (b id : Nat) : Nat :=
  ((rowsOf (id / 256)).filter (fun r => r.id < id)).foldl (fun n r =>
    match bankPart s b r.id with
    | some p => n + (if r.size = 0 then 1 else p.count)
    | none => n) 0

/-- The number of records of a part of a bank. -/
def bankCount (s : State) (b id : Nat) : Nat :=
  match bankPart s b id with
  | some p => p.count
  | none => 0

/-- The first record of a part that `bad` rejects. -/
def scan (s : State) (b cause id : Nat) (bad : Nat → Bool) : Option Reject :=
  ((List.range (bankCount s b id)).find? bad).map (fun i => ⟨cause, id / 256, recBase s b id + i⟩)

/-- A byte block that is rejected: it counts as one record. -/
def scanBlock (s : State) (b cause id : Nat) (bad : Bool) : Option Reject :=
  if bad then some ⟨cause, id / 256, recBase s b id⟩ else none

/-- R136: an opcode: its code, the pages it may name, the bits its arguments define, and the schedules that may hold it (bit 0
bring-up, bit 1 run, bit 2 shaft records and standstill list). -/
structure OpRow where
  code : Nat
  tlo : Nat
  thi : Nat
  m0 : Nat
  m1 : Nat
  m2 : Nat
  m3 : Nat
  allowed : Nat
deriving DecidableEq, Repr

/-- R136: the opcodes; R319 reserves ARG0[15:11] of GMU_SNAP. -/
def opRows : List OpRow :=
  let w := 0xFFFFFFFF
  [⟨0x00, 0x00, 0x00, 0, 0, 0, 0, 7⟩, ⟨0x01, 0x20, 0x3F, 0x7F, w, 0, 0, 7⟩, ⟨0x02, 0x20, 0x3F, 0, w, w, 0, 7⟩,
   ⟨0x03, 0x07, 0x07, 0, w, 0xFFFF, w, 7⟩, ⟨0x04, 0x07, 0x07, 0xFFFF, w, 0xFFFF, w, 7⟩, ⟨0x05, 0x08, 0x08, 3, w, 0, 0, 7⟩,
   ⟨0x06, 0x09, 0x09, 0x7FF, w, 0, 0, 3⟩, ⟨0x07, 0x0A, 0x0A, 7, w, w, 0, 2⟩, ⟨0x10, 0x05, 0x05, 0xFFFF, w, w, 0, 7⟩,
   ⟨0x11, 0x0B, 0x0B, 0xFF, 0x1FF, 0, 0, 7⟩, ⟨0x12, 0x0C, 0x0C, 7, 0x3F, 0, 0, 2⟩, ⟨0x13, 0x0C, 0x0C, 7, 0, 0, 0, 2⟩,
   ⟨0x14, 0x0C, 0x0C, 7, 0, 0, 0, 2⟩, ⟨0x20, 0x0E, 0x11, 0xFFF, 0, 0, 0, 6⟩, ⟨0x21, 0x0E, 0x11, 0, 0x7FF, 0xFFF, 0, 3⟩,
   ⟨0x22, 0x12, 0x12, 1, 0x1FF, 0x3FF, 0, 3⟩, ⟨0x23, 0x13, 0x13, 0xFF, 0, 0, 0, 3⟩, ⟨0x24, 0x13, 0x13, 0x1FF, 0, 0, 0, 2⟩,
   ⟨0x30, 0x0D, 0x0D, 0, w, 0, 0, 3⟩, ⟨0x31, 0x15, 0x15, 0, 0, 0, 0, 3⟩, ⟨0x32, 0x16, 0x16, 0xFF, 0x1FF, 0, 0, 3⟩,
   ⟨0x33, 0x1A, 0x1A, 7, 0, 0, 0, 3⟩, ⟨0x34, 0x17, 0x17, 0xF, 0, 0, 0, 7⟩]

/-- R119, R136: an entry sets a reserved bit of a defined opcode. -/
def entryReserved (e : Entry) : Bool :=
  match opRows.find? (fun r => r.code == e.opcode) with
  | none => false
  | some r => e.arg0 &&& r.m0 != e.arg0 || e.arg1 &&& r.m1 != e.arg1 || e.arg2 &&& r.m2 != e.arg2 || e.arg3 &&& r.m3 != e.arg3

/-- R119: the reserved bytes and bits of a record of each part: offset, size in bytes, and the reserved bits (0: all). -/
def reservedOf (id : Nat) : List (Nat × Nat × Nat) :=
  match id with
  | 0x0201 | 0x0301 => [(0, 4, 0xFFF80000)]
  | 0x0303 => [(18, 14, 0)]
  | 0x0401 => [(4, 12, 0)]
  | 0x0502 => [(6, 2, 0xFFFE)]
  | 0x0503 => [(6, 2, 0)]
  | 0x0602 => [(4, 12, 0)]
  | 0x0603 => [(8, 24, 0)]
  | 0x0604 => [(32, 224, 0)]
  | 0x0605 => [(24, 40, 0)]
  | 0x0606 => [(8, 24, 0)]
  | 0x0701 => [(0, 4, 0x00F100FC), (0x24, 0x1C, 0), (0x1B4, 4, 0xFFE0), (0x1B8, 0x48, 0)]
  | 0x0801 => [(1, 1, 0xFC), (0xFB, 5, 0)] ++ (List.range 12).flatMap (fun k => [(0x26 + 16 * k, 2, 0), (0x2C + 16 * k, 4, 0)])
  | 0x0901 => [(0, 4, 0x60000000), (4, 1, 0xE0), (6, 1, 0xFC), (0x0C, 20, 0)]
  | 0x0902 => [(0, 4, 0x60000000), (4, 1, 0xF0), (0x0C, 4, 0)]
  | 0x0A01 => [(2, 1, 0xF8), (3, 13, 0)]
  | 0x0A02 => [(0, 2, 0xF800), (8, 8, 0)]
  | 0x0B01 => [(0, 1, 0xFE), (3, 1, 0), (0x0B, 1, 0), (0x18, 8, 0)]
  | 0x0D01 => (0x0F, 1, 0xFE) :: (List.range 16).map (fun k => (0x10 + 3 * k, 3, 0x7C0000))
  | _ => []

/-- R119: a record sets a reserved bit. -/
def recordReserved (s : State) (b id i : Nat) : Bool :=
  (reservedOf id).any (fun r =>
    let v := bankCfg s b id i r.1 r.2.1
    (if r.2.2 = 0 then v else v &&& r.2.2) != 0)
    || ((id == 0x0202 || id == 0x0302 || id == 0x0303 || id == 0x0402) && entryReserved (partEntry s b id i))

/-- R119: the reserved fields of the header, the directory and the trailer at `t`, and the reserved codes of BASE_REQ (R120), for
which the spec names no cause (log entry 82). -/
def headerReserved (s : State) (b t : Nat) : Bool :=
  [(0x01B, 1), (0x01E, 2), (0x02C, 4), (0x050, 48), (0x170, 16), (t + 4, 4), (t + 0x70, 16)].any (fun r => bankNat s b r.1 r.2 != 0)
    || 2 < bankNat s b 0x01A 1 || bankNat s b 0x018 2 / 2048 != 0
    || (List.range 15).any (fun i =>
      let o := 0x080 + 16 * i
      bankNat s b (o + 1) 1 / 2 != 0 || bankNat s b (o + 2) 2 != 0 || bankNat s b (o + 12) 4 != 0)

/-- R157 order 7 for section k: its framing, then part by part. -/
def structureSec (s : State) (b k : Nat) : Option Reject :=
  if hasSection s b k then
    firstOf (rejectAll 7 k (framingBad s b 0 k) :: (rowsOf k).flatMap (fun r =>
      [rejectAll 7 k (partBad s b r), scan s b 7 r.id (recordReserved s b r.id)]))
  else none

/-- R157 order 7; a reserved field of the header, the directory or the trailer is reported as a failure of section 1 that belongs
to no record (log entry 82). -/
def checkStructure (s : State) (b t : Nat) : Option Reject :=
  firstOf (rejectAll 7 1 (headerReserved s b t) :: ((List.range 13).map (fun i => structureSec s b (i + 2))))

/-! ### Order 8: capacity -/

/-- R394, R392: the dimensions of a job descriptor within their limits. -/
def dimBad (s : State) (b i : Nat) : Bool :=
  let f (o n : Nat) : Nat := bankCfg s b 0x0801 i o n
  (f 0 1 == 1 && 128 < f 2 2) || (f 0 1 == 2 && 48 < f 2 2) || (f 0 1 == 4 && 16 < f 2 2)

/-- The entries of the run schedule with an opcode: record index in part 0x0302, and entry. -/
def runEntries (s : State) (b op : Nat) : List (Nat × Entry) :=
  (((List.range (bankCount s b 0x0302)).map (fun i => (i, partEntry s b 0x0302 i))).filter (fun p => p.2.opcode == op))

/-- R394: the work areas of the descriptors that the run schedule names, offset and size. -/
def workAreas (s : State) (b : Nat) : List (Nat × Nat) :=
  ((runEntries s b 0x12).map (fun p => p.2.arg1 % 64)).eraseDups.map (fun d =>
    (bankCfg s b 0x0801 d 0xE4 4, bankCfg s b 0x0801 d 0xE8 4))

/-- R394: work areas overlap, or exceed 1 MiB together. -/
def workOver (s : State) (b : Nat) : Bool :=
  let l := workAreas s b
  1048576 < (l.map (·.2)).foldl (· + ·) 0 || !decide (l.Pairwise (fun x y => x.1 + x.2 ≤ y.1 ∨ y.1 + y.2 ≤ x.1))

/-- R527: an entry of the run schedule names a publication record that an earlier one names. -/
def pubRepeat (s : State) (b i : Nat) : Bool :=
  let e := partEntry s b 0x0302 i
  e.opcode == 0x23 && (runEntries s b 0x23).any (fun p => p.1 < i && p.2.arg0 == e.arg0)

/-- R133: descriptors of one controller. -/
def descsOf (s : State) (b n : Nat) : Nat := ((List.range (bankCount s b 0x0901)).filter (fun i => bankCfg s b 0x0901 i 6 1 % 4 == n)).length

/-- R133: the peer stations that subscriptions name. -/
def peersOf (s : State) (b : Nat) : Nat := ((List.range (bankCount s b 0x0A02)).map (fun i => bankCfg s b 0x0A02 i 0 2)).eraseDups.length

/-- R151: the lines of all published segments. -/
def pubLines (s : State) (b : Nat) : Nat :=
  (List.range (bankCount s b 0x0502)).foldl (fun m i => if bitOf (bankCfg s b 0x0502 i 6 2) 0 then m + bankCfg s b 0x0502 i 2 2 else m) 0

/-- R133, R151, R394, R527: the capacity limits of a part besides its count. -/
def capacityPart (s : State) (b id : Nat) : List (Option Reject) :=
  match id with
  | 0x0302 => [scan s b 8 0x0302 (pubRepeat s b)]
  | 0x0502 => [rejectAll 8 5 (1024 < pubLines s b)]
  | 0x0801 => [scan s b 8 0x0801 (dimBad s b), rejectAll 8 8 (workOver s b)]
  | 0x0901 => [rejectAll 8 9 ((List.range 4).any (fun n => 1024 < descsOf s b n))]
  | 0x0A02 => [rejectAll 8 10 (64 < peersOf s b)]
  | _ => []

/-- R157 order 8 for section k, part by part. -/
def capacitySec (s : State) (b k : Nat) : Option Reject :=
  if hasSection s b k then
    firstOf ((rowsOf k).flatMap (fun r =>
      rejectAll 8 k ((bankPart s b r.id).isSome && !within r.lo r.hi (bankCount s b r.id)) :: capacityPart s b r.id))
  else none

/-- R157 order 8. -/
def checkCapacity (s : State) (b : Nat) : Option Reject := firstOf ((List.range 13).map (fun i => capacitySec s b (i + 2)))

/-! ### Order 9: references -/

/-- R149: the producer range that holds word w: KIND and OWNER. -/
def bankProducer (s : State) (b w : Nat) : Option (Nat × Nat) :=
  ((List.range (bankCount s b 0x0501)).find? (fun i =>
      let f := bankCfg s b 0x0501 i 0 4
      f ≤ w && w < f + bankCfg s b 0x0501 i 4 2)).map (fun i => (bankCfg s b 0x0501 i 6 1, bankCfg s b 0x0501 i 7 1))

/-- R135: w is a word index, and n destination words from w on lie in producer ranges of a page. -/
def destOk (s : State) (b w n page : Nat) : Bool :=
  wOk w && w + n ≤ imgWords && (List.range n).all (fun i => bankProducer s b (w + i) == some (1, page))

/-- A destination word that may be none. -/
def destOrNone (s : State) (b w page : Nat) : Bool := w == 0xFFFFFFFF || destOk s b w 1 page

/-- The Sheaf FUNC of a discrete channel, and the Sheaf mode of a universal one. -/
def sheafFunc (s : State) (b n : Nat) : Nat := bankCfg s b 0x0602 n 0 1 % 16
def bankMode (s : State) (b n : Nat) : Nat := bankVal s b (Reg.achCfg n) % 16

/-- R291: every channel of a mask has one of the FUNCs. -/
def maskFuncs (s : State) (b m0 m1 : Nat) (fs : List Nat) : Bool :=
  (List.range 48).all (fun n => !bitOf ((m1 % 65536) <<< 32 + m0) n || fs.contains (sheafFunc s b n))

/-- R135-R137: the arguments of an entry. -/
def argsOk (s : State) (b : Nat) (e : Entry) : Bool :=
  let n := e.target - 0x20
  match e.opcode with
  | 0x01 =>
    e.arg0 ≤ 64 && (if bankMode s b n = 4 ∨ bankMode s b n = 5 ∨ bankMode s b n = 6 then wOk e.arg1 else e.arg1 == 0)
  | 0x02 => destOk s b e.arg1 1 e.target && destOrNone s b e.arg2 e.target
  | 0x03 => destOk s b e.arg3 2 0x07 && maskFuncs s b e.arg1 e.arg2 [1, 2]
  | 0x04 => e.arg3 + 2 ≤ imgWords && maskFuncs s b e.arg1 e.arg2 [3]
  | 0x05 => destOk s b e.arg1 4 0x08
  | 0x06 => destOk s b e.arg1 (((List.range 16).filter (fun g => bitOf e.arg0 g)).foldl (fun m g => m + gmuGroupLen g) 0) 0x09
  | 0x07 => wOk e.arg1 && destOk s b e.arg2 1 0x0A && hasSection s b 6
  | 0x10 => e.arg0 ≤ 4096 && wOk e.arg1 && e.arg1 + e.arg0 ≤ imgWords && wOk e.arg2 && destOk s b e.arg2 e.arg0 0x05
  | 0x11 => e.arg1 ≤ 256 && e.arg0 + e.arg1 ≤ 256 && e.arg0 + e.arg1 ≤ max e.arg0 (bankCount s b 0x0701)
  | 0x12 => e.arg1 < bankCount s b 0x0801
  | 0x20 => e.arg0 < bankCount s b 0x0901 && bankCfg s b 0x0901 e.arg0 6 1 % 4 + 0x0E == e.target
  | 0x21 =>
    e.arg2 ≤ 2048 && e.arg1 + e.arg2 ≤ max e.arg1 (bankCount s b 0x0902)
      && (List.range e.arg2).all (fun i => bankCfg s b 0x0902 (e.arg1 + i) 4 1 % 4 + 0x0E == e.target)
  | 0x22 => e.arg2 ≤ 512 && e.arg1 + e.arg2 ≤ max e.arg1 (bankCount s b 0x0B01)
  | 0x23 => e.arg0 < bankCount s b 0x0A01
  | 0x24 => e.arg0 < bankCount s b 0x0A02
  | 0x30 => destOk s b e.arg1 8 0x0D
  | 0x32 => e.arg1 ≤ 256 && e.arg0 + e.arg1 ≤ max e.arg0 (bankCount s b 0x0D01)
  | 0x33 => e.arg0 ≤ 4
  | _ => true

/-- R137, R145: an entry of a schedule (0 bring-up, 1 run, 2 shaft and standstill) breaks a rule. -/
def entryBad (s : State) (b which : Nat) (e : Entry) : Bool :=
  match opRows.find? (fun r => r.code == e.opcode) with
  | none => true
  | some r => !within r.tlo r.thi e.target || !bitOf r.allowed which || !argsOk s b e

/-- Two ranges of words share one. -/
def overlap (a n b m : Nat) : Bool := decide (a < b + m) && decide (b < a + n)

/-- R149, R150: producer record i breaks a rule. -/
def producerBad (s : State) (b i : Nat) : Bool :=
  let f (j : Nat) : Nat := bankCfg s b 0x0501 j 0 4
  let n (j : Nat) : Nat := bankCfg s b 0x0501 j 4 2
  let kind := bankCfg s b 0x0501 i 6 1
  let owner := bankCfg s b 0x0501 i 7 1
  n i == 0 || imgWords < f i + n i
    || !(match kind with
      | 1 => (blockOf owner).isSome
      | 2 => owner == 0
      | 3 => owner == 1 || owner == 2
      | _ => false)
    || (List.range i).any (fun j => overlap (f i) (n i) (f j) (n j))

/-- R151: segment record i breaks a layout rule. -/
def segmentBad (s : State) (b i : Nat) : Bool :=
  let f (j : Nat) : Nat := bankCfg s b 0x0502 j 0 2
  let n (j : Nat) : Nat := bankCfg s b 0x0502 j 2 2
  n i == 0 || 16384 < f i + n i
    || (List.range i).any (fun j => overlap (f i) (n i) (f j) (n j) || bankCfg s b 0x0502 i 4 2 == bankCfg s b 0x0502 j 4 2)

/-- R152: tag link i breaks a rule. -/
def linkBad (s : State) (b i : Nat) : Bool :=
  let f (j : Nat) : Nat := bankCfg s b 0x0503 j 0 4
  let n (j : Nat) : Nat := bankCfg s b 0x0503 j 4 2
  !within 1 4096 (n i) || imgWords < f i + n i || !wOk (bankCfg s b 0x0503 i 8 4)
    || (List.range i).any (fun j => overlap (f i) (n i) (f j) (n j))

/-- The context of ranges that a bank gives (R153). -/
def bankCtx (s : State) (b : Nat) : RangeCtx :=
  ⟨bankVal s b, bankMode s b, match bankPart s b 0x0E01 with | some p => bankNat s b p.base 4 | none => 0⟩

/-- The registers that a part of section 6 gives, with the record that gives them. -/
def partRegs (id : Nat) : List (Nat × Nat) :=
  let page (p lo n step : Nat) : List Nat := (List.range n).map (fun i => regAddr p (lo + step * i))
  let all := page 0x07 0x200 48 4 ++ (List.range 4).flatMap (fun n => [regAddr 0x08 (0x100 + 16 * n), regAddr 0x08 (0x104 + 16 * n)])
    ++ page 0x09 0x100 8 4 ++ (List.range 8).flatMap (fun n => page 0x0A (0x200 + 32 * n) 6 4) ++ page 0x06 0x100 2 4
  all.filterMap (fun a => match partPlace a with | some p => if p.1 = id then some (a, p.2.1) else none | none => none)

/-- R153, R303: a record of a part of section 6 gives a register a value outside its ranges. -/
def partValueBad (s : State) (b id i : Nat) : Bool := (partRegs id).any (fun r => r.2 == i && !valueOk (bankCtx s b) r.1 (bankVal s b r.1))

/-- R295: PIn is the shaft source with other teeth or another sense than TBU.SHAFT_CFG. -/
def shaftMismatch (s : State) (b n : Nat) : Bool :=
  let c := bankVal s b Reg.tbuShaftCfg
  bitOf c 31 && bitsOf c 29 28 == n
    && (bankVal s b (Reg.piuTeeth n) % 8192 != c % 8192 || bitOf (bankVal s b (Reg.piuCfg n)) 4 != bitOf c 27)

/-- R339: the channels of a breaker set. -/
def setChannelsBad (s : State) (b n : Nat) : Bool :=
  let v := bankCfg s b 0x0605 n 0 4
  sheafFunc s b (bitsOf v 21 16) != 4 || (bitOf v 23 && sheafFunc s b (bitsOf v 29 24) != 1 && sheafFunc s b (bitsOf v 29 24) != 2)

/-- R350, R351: loop record k breaks a rule. -/
def loopBad (s : State) (b k : Nat) : Bool :=
  let w (j : Nat) : Nat := bankCfg s b 0x0701 k (4 * j) 4
  let fl := w 0
  let src := bitsOf fl 11 8
  64 < bitsOf fl 31 24 || bitsOf fl 19 18 == 3 || !within 1 8 (bitsOf fl 15 12) || 3 < src
    || !wOk (w 1) || !destOk s b (w 2) 1 0x0B || !wOrNone (w 3) || !wOrNone (w 4) || !wOrNone (w 6) || !wOrNone (w 7)
    || !destOrNone s b (w 8) 0x0B
    || !(match src with
      | 1 => wOk (w 5)
      | 2 => w 5 < 32 && bankMode s b (w 5) != 0
      | 3 => w 5 < 4
      | _ => w 5 == 0)
    || (List.range 128).any (fun j => loopShdWord j && !loopWordOk j (w j))
    || (crossCond w).isSome

/-- R392, R391: the shape and size that operand k of a descriptor must have, and whether it stands in the table block. -/
def operandNeed (ty k n p m : Nat) : Option (Nat × Nat × Nat × Bool) :=
  match ty, k with
  | 1, 0 => some (1, n, n, false) | 1, 1 => some (2, n, 1, false)
  | 2, 0 => some (1, n, n, false) | 2, 1 => some (2, n, 1, false) | 2, 2 => some (0, p, n, false) | 2, 3 => some (2, p, 1, false)
  | 2, 4 => some (0, m, n, false) | 2, 5 => some (2, m, 1, false)
  | 3, 0 | 4, 0 => some (0, n + 1, 24, true)
  | 3, 1 | 3, 2 | 3, 3 | 4, 1 => some (2, n, 1, false)
  | 3, 4 => some (2, 18, 1, false) | 3, 5 | 4, 4 => some (2, 6, 1, false)
  | 4, 2 => some (2, 12, 1, false) | 4, 3 => some (3, 1, 1, false) | 4, 5 => some (0, n, 2, false)
  | 5, 0 => some (0, n, p, true) | 5, 1 => some (2, p, 1, false)
  | _, _ => none

/-- R391, R392: operand k of descriptor i breaks a rule. -/
def operandBad (s : State) (b i k : Nat) : Bool :=
  let f (o n : Nat) : Nat := bankCfg s b 0x0801 i o n
  let o := 0x20 + 16 * k
  let src := f o 1
  let len := if f (o + 1) 1 = 1 then f (o + 2) 2 * (f (o + 2) 2 + 1) / 2 else f (o + 2) 2 * f (o + 4) 2
  match operandNeed (f 0 1) k (f 2 2) (f 4 2) (f 6 2) with
  | none => src != 0
  | some (shape, rows, cols, table) =>
    !(src == 2 || (src == 1 && !table)) || f (o + 1) 1 != shape || f (o + 2) 2 != rows || f (o + 4) 2 != cols
      || (if src = 1 then !wOk (f (o + 8) 4) || decide (imgWords < f (o + 8) 4 + len)
          else f (o + 8) 4 % 8 != 0 || decide (bankCount s b 0x0802 < f (o + 8) 4 + 8 * len))

/-- R390: a tolerance as a number. -/
def tolQ (v : Nat) : Option Rat := fRat (fOfBits f64 v)

/-- R390, R394: descriptor i breaks a rule. -/
def descBad (s : State) (b i : Nat) : Bool :=
  let f (o n : Nat) : Nat := bankCfg s b 0x0801 i o n
  let ty := f 0 1
  let n := f 2 2
  let res := n + (if ty = 3 ∧ bitOf (f 1 1) 1 then 12 else 0)
  !within 1 5 ty
    || !(match ty with
      | 2 => f 4 2 ≤ 6 && f 6 2 ≤ 128
      | 5 => within 1 64 (f 4 2) && f 6 2 == 0
      | _ => f 4 2 == 0 && f 6 2 == 0)
    || f 8 1 == 0 || 16 < f 9 1 || !within 8 52 (f 0x0A 1) || 16 < f 0x0B 1
    || !(match tolQ (f 0x10 8), tolQ (f 0x18 8) with
      | some t, some l => decide (0 < t) && decide (t ≤ l) && decide (l < 1)
      | _, _ => false)
    || (List.range 12).any (operandBad s b i)
    || f 0xE4 4 % 64 != 0 || f 0xE8 4 < Config.workNeed ty n (f 4 2) (f 6 2) || 1048576 < f 0xE4 4 + f 0xE8 4
    || f 0xEC 4 % 8 != 0 || !within 1 64 (f 0xF8 2) || !within 1 64 (f 0xFA 1)
    || bankCount s b 0x0802 < f 0xEC 4 + 8 * res * (f 0xF8 2 + 1) * f 0xFA 1
    || imgWords < f 0xF0 4 + f 0xF8 2 || !wOrNone (f 0xF4 4)
    || !destOk s b (f 0x0C 4) res 0x0C || !destOrNone s b (f 0xE0 4) 0x0C

/-- R497: a transmit descriptor breaks a rule. -/
def txBad (s : State) (b i : Nat) : Bool :=
  let f (o n : Nat) : Nat := bankCfg s b 0x0901 i o n
  let fd := bitOf (f 4 1) 0
  let len := dlcLen fd (f 5 1)
  (!bitOf (f 0 4) 31 && bitsOf (f 0 4) 28 11 != 0) || (bitOf (f 4 1) 1 && !fd) || (if fd then 15 else 8) < f 5 1
    || (bitOf (f 4 1) 3 && len ≤ f 7 1) || imgWords < f 8 4 + (len + 3) / 4

/-- R510: a map record breaks a rule. -/
def mapBad (s : State) (b i : Nat) : Bool :=
  let f (o n : Nat) : Nat := bankCfg s b 0x0902 i o n
  f 5 1 % 4 != 0 || 60 < f 5 1 || !within 1 16 (f 6 1) || 64 < f 5 1 + 4 * f 6 1 || f 7 1 == 0
    || (!bitOf (f 0 4) 31 && bitsOf (f 0 4) 28 11 != 0) || !destOk s b (f 8 4) (f 6 1) (0x0E + f 4 1 % 4)

/-- R527: a publication record names a segment that is not published. -/
def pubBad (s : State) (b i : Nat) : Bool :=
  !(List.range (bankCount s b 0x0502)).any (fun j =>
    bankCfg s b 0x0502 j 4 2 == bankCfg s b 0x0A01 i 0 2 && bitOf (bankCfg s b 0x0502 j 6 2) 0)

/-- R150, R530: a subscription record breaks a rule. -/
def subBad (s : State) (b i : Nat) : Bool :=
  let f (o : Nat) : Nat := bankCfg s b 0x0A02 i o 2
  f 6 == 0 || 16384 < f 4 + f 6 || (List.range (16 * f 6)).any (fun w => bankProducer s b (16 * f 4 + w) != some (2, 0))

/-- R540: a field map breaks a rule. -/
def fieldBad (s : State) (b i : Nat) : Bool :=
  let f (o n : Nat) : Nat := bankCfg s b 0x0B01 i o n
  !within 1 40 (f 1 1) || !within 1 5 (f 2 1) || f 9 1 == 0 || f 0x0A 1 < f 9 1 || !destOk s b (f 0x0C 4) 1 0x12

/-- R522: the addresses of a QPB-4882 base. -/
def addrBad (s : State) (b a : Nat) : Bool :=
  fld s Reg.sysStation 14 13 == 2 &&
    ((a == Reg.netIpAddr && (bankVal s b a % 2 == 1
        || (bankVal s b a + 1) % 2 ^ 32 == bankVal s b a ||| (2 ^ 32 - 1 - bankVal s b Reg.netIpMask)))
      || (a == Reg.netSpAddr && bankVal s b a % 2 == 1))

/-- R153: a register whose initial value section 12 gives. -/
def initReg (a : Nat) : Bool :=
  decide (0x100000 ≤ a) && a % 4 == 0 &&
    (match findRow ((a - 0x100000) / 0x1000) ((a - 0x100000) % 0x1000) with
    | some r => r.sheaf
    | none => false)

/-- R153, R736, R522: record i of section 12 breaks a rule. -/
def initBad (s : State) (b i : Nat) : Bool :=
  let a := bankCfg s b 0x0C01 i 0 4
  let v := bankCfg s b 0x0C01 i 4 4
  (i != 0 && a ≤ bankCfg s b 0x0C01 (i - 1) 0 4) || !initReg a
    || (match partPlace a with
      | some _ => !hasSection s b 6 || v != bankVal s b a
      | none => !valueOk (bankCtx s b) a v)
    || (a % 0x1000 == 0x01C && bitsOf v 1 0 < bitsOf v 5 4)
    || (!hasSection s b 6 && (List.range 32).any (fun n => a == Reg.achCfg n) && v % 16 != 0)
    || addrBad s b a

/-- R153: a register that section 12 must name and does not. -/
def initMissing (s : State) (b : Nat) : Bool :=
  (livePages.flatMap (rowAddrs (fun r => r.sheaf))).any (fun a => (partPlace a).isNone && (initRecord s b a).isNone)

/-- The events that a block defines below bit 15 (the event table of each chapter). -/
def eventCount : Block → Nat
  | .sys => 7 | .pwr => 9 | .rst => 7 | .tbu => 14 | .seq => 4 | .img => 4 | .lsp => 3 | .dio => 5 | .piu => 12 | .gmu => 3
  | .syn => 7 | .cle => 8 | .slv => 11 | .saf => 15 | .mbc => 9 | .msl => 6 | .net => 9 | .ses => 8 | .red => 15 | .grn => 5
  | .pmc => 1 | .mgt => 7 | .upd => 8 | .fpd => 3 | .ach => 14

/-- R652: an event that a page defines. -/
def eventOk (p k : Nat) : Bool :=
  match blockOf p with
  | some blk => k == 15 || k < eventCount blk
  | none => false

/-- R652: a snapshot source of a trigger. -/
def snapOk (e : Nat) : Bool :=
  if bitOf e 23 then true
  else bitsOf e 17 16 == 0 && (findRow (bitsOf e 15 0 / 1024) (4 * (bitsOf e 15 0 % 1024))).isSome

/-- R652: trigger definition k breaks a rule. -/
def trigBad (s : State) (b k : Nat) : Bool :=
  let f (o n : Nat) : Nat := bankCfg s b 0x0D01 k o n
  let kind := f 0 1
  let cond := f 3 1
  !(match kind with
    | 0 => f 1 1 == 0 && f 2 1 == 0 && cond == 0 && f 4 4 == 0 && f 8 4 == 0
    | 1 => eventOk (f 1 1) (f 2 1) && cond == 0 && f 4 4 == 0 && f 8 4 == 0
    | 2 => f 1 1 == 0 && f 2 1 == 0 && within 1 4 cond && wOk (f 4 4) && (cond == 2 || cond == 3 || f 8 4 == 0)
    | _ => false)
    || 16 < f 0x0E 1
    || (List.range 16).any (fun j => if j < f 0x0E 1 then !snapOk (f (0x10 + 3 * j) 3) else f (0x10 + 3 * j) 3 != 0)

/-- R702: the codes of a text record; `fonts` fonts are defined besides font 0. -/
def textOk (fonts : Nat) : Nat → List Nat → Bool
  | 0, _ => false
  | n + 1, l =>
    match l with
    | [] => false
    | 0 :: _ => true
    | 1 :: t => textOk fonts n (t.drop 2)
    | 2 :: f :: t => f ≤ fonts && textOk fonts n t
    | 3 :: t => textOk fonts n (t.drop 1)
    | 0x10 :: t => textOk fonts n (t.drop 6)
    | c :: t => (within 0x11 0x15 c || within 0x20 0x7E c) && textOk fonts n t

/-- R702: part 0x0E01 breaks a rule. -/
def textsBad (s : State) (b : Nat) : Bool :=
  match bankPart s b 0x0E01, bankPart s b 0x0E02 with
  | some p, some g =>
    let n := bankNat s b p.base 4
    let fonts := bankNat s b g.base 4
    p.count < 4 + 4 * n || 4096 < n
      || (List.range n).any (fun i =>
        let o := bankNat s b (p.base + 4 + 4 * i) 4
        p.count ≤ o || !textOk fonts p.count (bankBytes s b (p.base + o) (p.count - o)))
  | _, _ => false

/-- R702: part 0x0E02 breaks a rule. -/
def fontsBad (s : State) (b : Nat) : Bool :=
  match bankPart s b 0x0E02 with
  | some g =>
    let fonts := bankNat s b g.base 4
    7 < fonts || g.count < 4 + 8 * fonts
      || (List.range fonts).any (fun i =>
        let o := g.base + 4 + 8 * i
        let w := bankNat s b o 1
        let h := bankNat s b (o + 1) 1
        !within 1 32 w || !within 1 32 h || g.count < bankNat s b (o + 4) 4 + (w * h + 7) / 8 * bankNat s b (o + 3) 1)
  | none => false

/-- R157 order 9 for section k. -/
def referenceSec (s : State) (b k : Nat) : Option Reject :=
  if hasSection s b k then
    firstOf (match k with
    | 2 => [scan s b 9 0x0202 (fun i => entryBad s b 0 (partEntry s b 0x0202 i))]
    | 3 => [scan s b 9 0x0302 (fun i => entryBad s b 1 (partEntry s b 0x0302 i)),
            scan s b 9 0x0303 (fun i => entryBad s b 2 (partEntry s b 0x0303 i))]
    | 4 => [scan s b 9 0x0402 (fun i => entryBad s b 2 (partEntry s b 0x0402 i))]
    | 5 => [scan s b 9 0x0501 (producerBad s b), scan s b 9 0x0502 (segmentBad s b), scan s b 9 0x0503 (linkBad s b)]
    | 6 => [scan s b 9 0x0602 (partValueBad s b 0x0602),
            scan s b 9 0x0603 (fun n => partValueBad s b 0x0603 n || shaftMismatch s b n),
            scan s b 9 0x0604 (partValueBad s b 0x0604),
            scan s b 9 0x0605 (fun n => partValueBad s b 0x0605 n || setChannelsBad s b n),
            scan s b 9 0x0606 (partValueBad s b 0x0606)]
    | 7 => [scan s b 9 0x0701 (loopBad s b)]
    | 8 => [scan s b 9 0x0801 (descBad s b)]
    | 9 => [scan s b 9 0x0901 (txBad s b), scan s b 9 0x0902 (mapBad s b)]
    | 10 => [scan s b 9 0x0A01 (pubBad s b), scan s b 9 0x0A02 (subBad s b)]
    | 11 => [scan s b 9 0x0B01 (fieldBad s b)]
    | 12 => [scan s b 9 0x0C01 (initBad s b), rejectAll 9 12 (initMissing s b)]
    | 13 => [scan s b 9 0x0D01 (trigBad s b)]
    | 14 => [scanBlock s b 9 0x0E01 (textsBad s b), scanBlock s b 9 0x0E02 (fontsBad s b)]
    | _ => [])
  else none

/-- R157 order 9. -/
def checkReference (s : State) (b : Nat) : Option Reject := firstOf ((List.range 13).map (fun i => referenceSec s b (i + 2)))

/-! ### Order 10: the schedules -/

/-- R139: FIRST and COUNT of a slot. -/
def slotFirst (s : State) (b id i : Nat) : Nat := bitsOf (bankCfg s b id i 0 4) 18 4
def slotCount (s : State) (b id i : Nat) : Nat := bitsOf (bankCfg s b id i 0 4) 3 0

/-- R139: an index word breaks a rule. -/
def indexBad (s : State) (b id i : Nat) : Bool :=
  8 < slotCount s b id i || slotFirst s b id i != (if i = 0 then 0 else slotFirst s b id (i - 1) + slotCount s b id (i - 1))
    || (i == 4095 && slotFirst s b id i + slotCount s b id i != bankCount s b (id + 1))

/-- The slot that holds entry i of the run schedule. -/
def slotOf (s : State) (b i : Nat) : Nat :=
  ((List.range 4096).find? (fun k => slotFirst s b 0x0301 k ≤ i && i < slotFirst s b 0x0301 k + slotCount s b 0x0301 k)).getD 4096

/-- R143: a job slot is not used by exactly one start, one deadline and one collect at ascending slots. -/
def jobOrderBad (s : State) (b j : Nat) : Bool :=
  let at_ (op : Nat) : List Nat := ((runEntries s b op).filter (fun p => p.2.arg0 == j)).map (fun p => slotOf s b p.1)
  match at_ 0x12, at_ 0x13, at_ 0x14 with
  | [], [], [] => false
  | [x], [y], [z] => !(decide (x < y) && decide (y < z))
  | _, _, _ => true

/-- R157 order 10. -/
def checkSchedule (s : State) (b : Nat) : Option Reject :=
  let n := bankCount s b 0x0302
  firstOf
    [scan s b 10 0x0201 (indexBad s b 0x0201),
     scan s b 10 0x0301 (indexBad s b 0x0301),
     rejectAll 10 3 ((List.range n).all (fun i => (partEntry s b 0x0302 i).opcode == 0)),
     rejectAll 10 3 ((List.range 8).any (jobOrderBad s b)),
     scan s b 10 0x0401 (fun _ =>
       bankCfg s b 0x0401 0 2 2 != bankCount s b 0x0402 || 4096 < bankCfg s b 0x0401 0 0 2 + bankCfg s b 0x0401 0 2 2)]

/-! ### The safety unit's check (R158, R477) -/

/-- KIND of an input position in the section. -/
def secKind (s : State) (b i : Nat) : Nat := bankCfg s b 0x0F02 i 0 1 % 16

/-- R446, R455, R477: an IN_CFG word breaks a range. -/
def inCfgBad (s : State) (b i : Nat) : Bool :=
  let v := bankCfg s b 0x0F02 i 0 4
  let kind := v % 16
  let pair := kind == 3 || kind == 4
  let disc := bitsOf v 31 25
  8 < kind || (kind != 1 && bitsOf v 5 4 != 0) || bitsOf v 7 6 != 0 || bitsOf v 15 9 != 0 || 500 < bitsOf v 24 16
    || (if pair && i % 2 == 0 then !within 1 100 disc else disc != 0)
    || (bitOf v 8 && !within 1 4 kind)
    || (pair && (bitsOf (bankCfg s b 0x0F02 (if i % 2 = 0 then i + 1 else i - 1) 0 4) 3 0 != kind
      || bitOf (bankCfg s b 0x0F02 (if i % 2 = 0 then i + 1 else i - 1) 0 4) 8 != bitOf v 8))

/-- R477: a GROUP_CFG word breaks a rule. -/
def groupCfgBad (s : State) (b g : Nat) : Bool :=
  let v := bankCfg s b 0x0F03 g 0 4
  let m := bitsOf v 31 16
  (bitOf v 0 && m == 0) || bitsOf v 15 12 != 0 || bitsOf v 7 2 != 0
    || (List.range 16).any (fun i => bitOf m i && (!within 1 4 (secKind s b i)
      || ((secKind s b i == 3 || secKind s b i == 4) && !bitOf m (if i % 2 = 0 then i + 1 else i - 1))))
    || (bitOf v 0 && !bitOf v 1 && secKind s b (bitsOf v 11 8) != 5)

/-- R477: an OUT_CFG word breaks a range. -/
def outCfgBad (s : State) (b o : Nat) : Bool :=
  let v := bankCfg s b 0x0F04 o 0 4
  bitsOf v 31 16 != 0 || bitsOf v 7 1 != 0 || (6 ≤ o && bitOf v 0)

/-- R477: the words of a brake break a rule. A brake that names no group and whose coil is not wired is not in use, and its
words are not judged (log entry 35). -/
def brakeCfgBad (s : State) (b n : Nat) : Bool :=
  let io := bankCfg s b 0x0F05 n 0 4
  let test := bankCfg s b 0x0F05 n 4 4
  let coil := bankCfg s b 0x0F05 n 8 4
  if bitsOf (bankCfg s b 0x0F04 (6 + n) 0 4) 15 8 = 0 then bitOf s.saf.wired n
  else
    bitsOf io 31 18 != 0 || bitsOf io 15 13 != 0
      || secKind s b (bitsOf io 3 0) != 6 || secKind s b (bitsOf io 7 4) != 7 || (bitOf io 12 && secKind s b (bitsOf io 11 8) != 8)
      || !within 1 168 (bitsOf test 31 24) || bitsOf test 23 16 == 0 || bitsOf test 15 8 < 5 || !within 1 100 (bitsOf test 7 0)
      || !within 1 200 (bitsOf coil 31 24) || !within 1 200 (bitsOf coil 23 16) || bitsOf coil 31 24 < bitsOf coil 23 16
      || !within 1 100 (bitsOf coil 15 8) || !within 1 50 (bitsOf coil 7 0)

/-- R477: record i of a part of section 15 sets a byte that its registers do not use, or breaks the rules of the part. -/
def safRecordBad (s : State) (b id i : Nat) : Bool :=
  match id with
  | 0x0F01 => bankCfg s b id i 0 2 != 1 || bankCfg s b id i 2 14 != 0
  | 0x0F02 => bankCfg s b id i 4 12 != 0 || inCfgBad s b i
  | 0x0F03 => bankCfg s b id i 4 12 != 0 || groupCfgBad s b i
  | 0x0F04 => bankCfg s b id i 4 12 != 0 || outCfgBad s b i
  | _ => bankCfg s b id i 12 4 != 0 || brakeCfgBad s b i

/-- The offset of the safety trailer. -/
def safTrailer (s : State) (b : Nat) : Nat := (dirEntry s b 15).2.1 + (dirEntry s b 15).2.2 - 128

/-- R129: the safety digest of a bank. -/
def safDigest (s : State) (b : Nat) : List Nat := trailerDigest s b (safTrailer s b)

/-- The safety-section keys. -/
def safKeys (s : State) : List (List Nat) := (List.range 2).map (fun k => tabGet (fun _ => ([] : List Nat)) s.saf.keys k)

/-- R129, R158: the length, the trailer, the digest, the signature or the framing of section 15 fails, which belongs to no single
record of it. -/
def safetyFraming (s : State) (b : Nat) : Bool :=
  let d := dirEntry s b 15
  let t := safTrailer s b
  d.2.2 < 144 || 65536 < d.2.2 || bankNat s b t 4 != 0x46415351 || bankNat s b (t + 4) 4 != 0 || bankNat s b (t + 0x70) 16 != 0
    || digestBad s b d.2.1 t || signBad s b t (safKeys s)
    || framingBad s b 128 15 || sec15Rows.any (fun r => partBad s b r || bankCount s b r.id != r.lo)

/-- R158, R159, R477: the safety unit's check of section 15, with the first record that it refuses. -/
def safetyCheck (s : State) (b : Nat) : Option Reject :=
  firstOf (rejectAll 11 15 (safetyFraming s b) :: sec15Rows.map (fun r => scan s b 11 r.id (safRecordBad s b r.id)))

/-! ### The checks together -/

/-- The Sheaf verification keys. -/
def sheafKeyList (s : State) : List (List Nat) := (List.range 4).map (fun k => tabGet (fun _ => ([] : List Nat)) s.ses.sheafKeys k)

/-- R157-R159: the load check of the Sheaf in bank b, of which `len` bytes are there. -/
def loadCheck (s : State) (b len : Nat) : Option Reject :=
  let t := totalLen s b - 128
  if sizeBad s b len then some ⟨1, 0, 0xFFFFFFFF⟩
  else if formatBad s b then some ⟨2, 0, 0xFFFFFFFF⟩
  else if digestBad s b 0 t then some ⟨3, 0, 0xFFFFFFFF⟩
  else if signBad s b t (sheafKeyList s) then some ⟨4, 0, 0xFFFFFFFF⟩
  else if dirBad s b t then some ⟨5, 0, 0xFFFFFFFF⟩
  else if hardwareBad s b then some ⟨6, 0, 0xFFFFFFFF⟩
  else firstOf [checkStructure s b t, checkCapacity s b, checkReference s b, checkSchedule s b, safetyCheck s b]

/-- R127: the digest of the Sheaf in bank b. -/
def sheafDigest (s : State) (b : Nat) : List Nat := trailerDigest s b (totalLen s b - 128)

/-- R674, R688: the check of a program image of `len` bytes in bank b, built for program slot `slot`. -/
def progCheck (s : State) (b len slot : Nat) : Option Reject :=
  let n := bankNat s b 8 4
  let t := n - 128
  if !within 0x200 0x400000 n || n % 16 != 0 || len < n then some ⟨1, 0, 0xFFFFFFFF⟩
  else if bankNat s b 0 4 != 0x47525051 || bankNat s b 4 2 != 1 || bankNat s b t 4 != 0x47535051 then some ⟨2, 0, 0xFFFFFFFF⟩
  else if digestBad s b 0 t then some ⟨3, 0, 0xFFFFFFFF⟩
  else if signBad s b t (sheafKeyList s) then some ⟨4, 0, 0xFFFFFFFF⟩
  else
    rejectAll 7 0 (bankNat s b 6 1 != slot || 2 ≤ bankNat s b 7 1 || !within 64 57344 (bankNat s b 0x0C 4)
      || !within 10 60000 (bankNat s b 0x10 4) || n ≤ bankNat s b 0x14 4 || bankNat s b 0x1C 4 != 0 || bankNat s b (t + 4) 4 != 0
      || bankNat s b (t + 0x70) 16 != 0)

end Sys2Proof.Machine
end

