-- ==== Sys2Proof/Machine/Saf.lean ====
section
/-! DEFINITION. The safety unit (R440-R481): the trip matrix, guards, resets, outputs, brakes, the saved safety state, and the
start, takeover and handover of the unit. Its two channels are one computation; a difference between them comes with the
CHANNEL_COMPARE command. Its clock is counted in control clocks (log entry 29). -/

namespace Sys2Proof.Machine

/-- Change the safety unit's state. -/
def safUpd (f : SafSt → SafSt) (s : State) : State := { s with saf := f s.saf }

/-- Store a brake. -/
def putBrake (n : Nat) (b : Brake) (s : State) : State :=
  safUpd (fun x => { x with brakes := tabSet (fun _ => ({} : Brake)) x.brakes n b }) s

/-! ### Inputs and groups (R446-R452) -/

/-- R453: latch groups of a mask that are enabled. -/
def latchGroups (mask : Nat) (s : State) : State :=
  each (List.range 8) (fun g t =>
    if bitOf mask g && grpOn t g && !bitOf t.saf.latch g then
      t |> safUpd (fun x => { x with latch := putBit x.latch g true }) |> bump Reg.safCntTrip 1 |> raise_ 0x0D 0
    else t) s

/-- R452, R463: a latch clears; overcurrent latches of outputs that name the group clear with it. -/
def clearGroup (g : Nat) (s : State) : State :=
  let hit := (List.range 6).filter (fun o => bitOf (fld s (Reg.safOutCfg o) 15 8) g)
  safUpd (fun x => { x with
    latch := putBit x.latch g false
    outFault := (hit.foldl (fun m o => if bitOf x.overcur o then putBit m o false else m) x.outFault)
    overcur := hit.foldl (fun m o => putBit m o false) x.overcur }) s

/-- R448: the pair k of a discrepancy: clear it, or note since when its members differ. -/
def pairCheck (k : Nat) (s : State) : State :=
  if siPair s (2 * k) = false then s
  else
    let a := siPermits s (2 * k)
    let b := siPermits s (2 * k + 1)
    if bitOf s.saf.disc k then
      if !a && !b then safUpd (fun x => { x with discSeen := putBit x.discSeen k true }) s
      else if a && b && bitOf s.saf.discSeen k then
        safUpd (fun x => { x with disc := putBit x.disc k false, discSeen := putBit x.discSeen k false }) s
      else s
    else
      let since := tabGet (fun _ => (none : Option Nat)) s.saf.pairSince k
      let v := if a = b then none else some (since.getD s.now)
      safUpd (fun x => { x with pairSince := tabSet (fun _ => (none : Option Nat)) x.pairSince k v }) s

/-- R455: the test of one guard. -/
def guardCheck (u : List Nat) (s : State) : State :=
  if u.all (fun i => bitOf s.saf.passed i) then s
  else if u.any (siDemands s) then
    safUpd (fun x => { x with opened := u.foldl (fun m i => putBit m i true) x.opened }) s
  else if u.all (fun i => bitOf s.saf.opened i && !siBad s i) then
    s |> safUpd (fun x => { x with passed := u.foldl (fun m i => putBit m i true) x.passed }) |> raise_ 0x0D 6
  else s

/-- R450, R452: one group. -/
def groupCheck (g : Nat) (s : State) : State :=
  if grpOn s g = false then s
  else if grpDemand s g then latchGroups (2 ^ g) s
  else if bitOf s.saf.latch g && flag s (Reg.safGroupCfg g) 1 && guardsPassed s g then clearGroup g s
  else s

/-! ### Brakes (R464-R469) -/

/-- R468: the Granary record of a test result. -/
def bkRecord (n : Nat) (s : State) : State := fixedRec 0x105 0x0D00 n [snapWord (bkWord s n)] [] s

/-- R464: both switches open, in alternating order. -/
def bkApply (n : Nat) (s : State) : State :=
  let b := brake s n
  putBrake n { b with state := 0, applying := true, yFirst := !b.yFirst, opClk := s.now } s

/-- R464: the midpoint shows the first switch still conducting. -/
def bkSwitchFault (n : Nat) (s : State) : State :=
  s |> putBrake n { brake s n with swFault := true, locked := true } |> raise_ 0x0D 12

/-- R465: a release fails: the brake is applied again. -/
def bkReleaseFail (n : Nat) (s : State) : State :=
  s |> putBrake n { brake s n with relFail := true, needCycle := true } |> raise_ 0x0D 12 |> bkApply n

/-- R467: a test ends ABORT. -/
def bkAbort (cause n : Nat) (s : State) : State :=
  let b := brake s n
  s |> putBrake n { b with state := 0, btReq := false, last := cause, needCycle := b.due }
    |> bump Reg.safCntBtAbort 1 |> raise_ 0x0D 10 |> bkRecord n

/-- R466: a test starts. -/
def bkStart (byStart : Bool) (n : Nat) (s : State) : State :=
  putBrake n { brake s n with state := 3, btReq := true, byStart := byStart, testClk := s.now } s

/-- R466: the DUE count runs while the unit is LIVE. -/
def bkCount (n : Nat) (s : State) : State :=
  let b := brake s n
  let run := s.saf.unit == 2 && !b.due
  match b.since with
  | some c => if run then s else putBrake n { b with left := b.left - (s.now - c), since := none } s
  | none => if run then putBrake n { b with since := some s.now } s else s

/-- R464-R467: one evaluation of a brake. In FAULT_WAIT a released brake stays so (R444), and nothing that needs LIVE begins. -/
def bkEval (n : Nat) (s0 : State) : State :=
  let s1 := bkCount n s0
  let m := bkGroups s1 n
  if m = 0 then s1
  else
    let req := bkReq s1 n
    let s2 := if req then s1 else putBrake n { brake s1 n with needCycle := false } s1
    let b := brake s2 n
    let s3 :=
      if b.testing = false then s2
      else if s2.saf.unit ≠ 2 then bkAbort 5 n s2
      else if grpsPermit s2 m = false then bkAbort 4 n s2
      else if b.state = 4 ∧ bkConfirm s2 n = false then bkAbort 3 n s2
      else if b.state = 3 ∧ bkConfirm s2 n then putBrake n { b with state := 4, testClk := s2.now, dist := 0, move := 0 } s2
      else s2
    let c := brake s3 n
    if c.testing then s3
    else
      let want := safDrives s3 && req && grpsPermit s3 m && !c.locked && !c.needCycle
      if c.released then (if want && !c.due then s3 else bkApply n s3)
      else if want && s3.saf.unit == 2 then
        (if c.due then bkStart false n s3
         else putBrake n { c with state := 1, applying := false, opClk := s3.now } s3)
      else s3

/-! ### The saved safety state (R470, R471) -/

/-- Bytes 0x14-0x1D of the record; an overcurrent latch is not kept in it (R463). -/
def safKey (s : State) : List Nat :=
  let x := s.saf
  let b0 := brake s 0
  let b1 := brake s 1
  let kept := (List.range 6).foldl (fun m o => if bitOf x.overcur o then putBit m o false else m) (x.outFault % 64)
  leBytes 2 x.passed ++ [x.latch % 256, x.disc % 256] ++ leBytes 2 x.cross ++ leBytes 2 x.stuck ++ [kept] ++
    [b2n b0.locked + b2n b1.locked <<< 1 + b2n b0.due <<< 2 + b2n b1.due <<< 3 + b2n b0.swFault <<< 4
      + b2n b1.swFault <<< 5 + b2n b0.appFail <<< 6 + b2n b1.appFail <<< 7]

/-- R470: the 64-byte record with sequence number `q`. -/
def safRecord (s : State) (q : Nat) : List Nat :=
  let b := leBytes 4 q ++ leBytes 4 (rd s Reg.sysSerialLo) ++ leBytes 4 (rd s Reg.sysSerialHi) ++ s.saf.dig.take 8 ++
    safKey s ++ leBytes 2 0 ++ leBytes 4 (bkDueSec s 0) ++ leBytes 4 (bkDueSec s 1) ++ List.replicate 16 0
  b ++ leBytes 4 (crc32c b) ++ leBytes 4 (crc32 b)

/-- R471: write a record into the own store, and send it to the partner. -/
def safWrite (s : State) : State :=
  let q := (s.saf.seq + 1) % 2 ^ 32
  let r := safRecord s q
  let s1 := safUpd (fun x => { x with seq := q, store := (r :: x.store).take 2, lastKey := safKey s }) s
  if pairBase s then sendFrame 0x06 0 s.tbu.gen [r] s1 else s1

/-- R471: a record of every change of a field, taken at once. -/
def safChanged (s : State) : State := if safDrives s && safKey s != s.saf.lastKey then safWrite s else s

/-! ### Evaluation -/

/-- R443-R465: the matrix, the guards, the latches and the brakes follow the state; a change is recorded. -/
def safEval (s : State) : State :=
  let s1 :=
    if 2 ≤ s.saf.unit then
      let a := each (List.range 8) pairCheck s
      each (List.range 8) groupCheck (each (guardUnits a) guardCheck a)
    else s
  s1 |> bkEval 0 |> bkEval 1 |> bkEval 0 |> bkEval 1 |> safChanged

/-- A latch set by a brake, with what follows from it. -/
def bkLatch (n : Nat) (s : State) : State := safEval (latchGroups (bkGroups s n) s)

/-! ### Resets (R458-R461) -/

/-- A refused reset: LAST_REFUSED, its counter and event. -/
def refuse (cause g i : Nat) (s : State) : State :=
  s |> wr Reg.safLastRefused (cause <<< 28 + g <<< 24 + i) |> bump Reg.safCntResetRefused 1 |> raise_ 0x0D 2

/-- R460: group g attempts to clear at the release of input i. -/
def tryClear (i g : Nat) (s : State) : State :=
  let c := rd s (Reg.safGroupCfg g)
  if grpOn s g = false ∨ bitOf c 1 ∨ bitsOf c 11 8 ≠ i ∨ bitOf s.saf.latch g = false then s
  else if s.saf.unit ≠ 2 then refuse 3 g i s
  else if grpDemand s g then refuse 1 g i s
  else if guardsPassed s g = false then refuse 2 g i s
  else s |> clearGroup g |> bump Reg.safCntReset 1 |> raise_ 0x0D 1

/-- R459, R461: an input becomes stuck. -/
def setStuck (i : Nat) (s : State) : State :=
  if bitOf s.saf.stuck i then s
  else s |> safUpd (fun x => { x with stuck := putBit x.stuck i true }) |> bump Reg.safCntResetStuck 1 |> raise_ 0x0D 3

/-- R459: the release of a press that began at clock c. -/
def pressRelease (i c : Nat) (s : State) : State :=
  if s.now - c < 20000000 then refuse 4 0 i s
  else if s.now - c ≤ 600000000 then each (List.range 8) (tryClear i) s
  else setStuck i s

/-- Note the active edge of a press, or take it away. -/
def setPress (i : Nat) (c : Option Nat) (s : State) : State :=
  safUpd (fun x => { x with press := tabSet (fun _ => (none : Option Nat)) x.press i c }) s

/-- R458: an edge of a reset input. -/
def resetEdge (i : Nat) (on : Bool) (s : State) : State :=
  if on then setPress i (some s.now) s
  else
    let p := tabGet (fun _ => (none : Option Nat)) s.saf.press i
    let s1 := s |> setPress i none |> safUpd (fun x => { x with offClk := tabSet (fun _ => (0 : Nat)) x.offClk i s.now })
    match p with
    | some c => if bitOf s.saf.stuck i then s1 else pressRelease i c s1
    | none => s1

/-- R447: a qualified state changes at the present clock. -/
def qualify (i : Nat) (on : Bool) (s : State) : State :=
  if bitOf s.saf.q i = on then s
  else
    let s1 := safUpd (fun x => { x with q := putBit x.q i on }) s
    safEval (if siKind s1 i = 5 ∧ 2 ≤ s1.saf.unit then resetEdge i on s1 else s1)

/-- R464: brakes that left RELEASED or RELEASING between two states and whose midpoint (bit n of `mid`) shows the first switch
still conducting. -/
def midpointCheck (old : State) (mid : Nat) (s : State) : State :=
  each (List.range 2) (fun n t =>
    if (brake old n).released && !(brake t n).released && bitOf mid n then bkSwitchFault n t else t) s |> safChanged

/-- R449: the first clock at or after the present one of a grid with a given origin and period. -/
def gridClk (s : State) (origin period : Nat) : Nat := origin + (s.now - origin + period - 1) / period * period

/-- R449: a SINGLE_TESTED input is blanked from the start of its source's pulse until 100 µs after its end. Source k pulses every
40 ms, 10 ms after source k - 1. -/
def blanked (s : State) (i : Nat) : Bool :=
  match s.saf.pulseClk with
  | some c => siKind s i == 1 && safDrives s && decide ((s.now + 16000000 - c - 2000000 * siSource s i) % 8000000 < 80000)
  | none => false

/-- R445: the raw level of an input follows its voltage in mV, with hysteresis. -/
def siRawLevel (last : Bool) (mv : Nat) : Bool := if 11000 ≤ mv then true else if mv ≤ 5000 then false else last

/-- R445, R447, R449: SAFETY_INPUT_CHANGE: until control clock `clk` the terminal of SIn has shown the voltage `run.mv` for
`run.us` µs in which its filter ran. The raw state follows the thresholds, and the qualified state follows it when it has stood for FILTER. `mid` gives the
midpoints of brakes that this applies. -/
def execSafetyInputChange (n : Fin 16) (run : VoltRun) (clk mid : Nat) (s : State) : Host.Outcome State Fault Refusal :=
  .next (
    let s1 := advanceTo clk s
    if blanked s1 n then s1
    else
      let last := bitOf s1.saf.raw n
      let raw := siRawLevel last run.mv
      let stood := min 50000 ((if raw = last then tabGet (fun _ => (0 : Nat)) s1.saf.rawUs n else 0) + run.us)
      let s2 := safUpd (fun x => { x with
        raw := putBit x.raw n raw, rawUs := tabSet (fun _ => (0 : Nat)) x.rawUs n stood }) s1
      if fld s2 (Reg.safInCfg n) 24 16 * 100 ≤ stood then midpointCheck s2 mid (qualify n raw s2) else s2)

/-- R458, R460: RESET_PRESS_RELEASE: the qualified release of reset input SIn at clock `clk`. -/
def execResetPressRelease (n : Fin 16) (clk : Nat) (s : State) : Host.Outcome State Fault Refusal :=
  .next (if siKind s n = 5 then
    qualify n false (safUpd (fun x => { x with raw := putBit x.raw n false }) (advanceTo clk s))
  else s)

/-- R459: a reset input has been active for 3.0 s. -/
def execResetStuck (n : Fin 16) (s : State) : Host.Outcome State Fault Refusal :=
  .next (match tabGet (fun _ => (none : Option Nat)) s.saf.press n with
    | some c => if siKind s n = 5 ∧ bitOf s.saf.q n then safChanged (setStuck n (advanceTo (c + 600000000) s)) else s
    | none => s)

/-- R461: a stuck reset input has stayed inactive for 1.0 s. -/
def execResetStuckClear (n : Fin 16) (s : State) : Host.Outcome State Fault Refusal :=
  .next (if bitOf s.saf.stuck n ∧ bitOf s.saf.q n = false then
    s |> advanceTo (tabGet (fun _ => (0 : Nat)) s.saf.offClk n + secClk)
      |> safUpd (fun x => { x with stuck := putBit x.stuck n false }) |> safChanged
  else s)

/-- R448: the members of pair k have differed for longer than DISC_TIME. -/
def execDiscrepancy (k : Fin 8) (s : State) : Host.Outcome State Fault Refusal :=
  .next (match tabGet (fun _ => (none : Option Nat)) s.saf.pairSince k with
    | some c =>
      if siPair s (2 * k) ∧ bitOf s.saf.disc k = false ∧ 2 ≤ s.saf.unit then
        s |> advanceTo (c + 2000000 * fld s (Reg.safInCfg (2 * k)) 31 25 + 1)
          |> safUpd (fun x => { x with
              disc := putBit x.disc k true, discSeen := putBit x.discSeen k false
              pairSince := tabSet (fun _ => (none : Option Nat)) x.pairSince k none })
          |> bump Reg.safCntDiscrepancy 1 |> raise_ 0x0D 4 |> safEval
      else s
    | none => s)

/-- R449: one input fed from the source that has just pulsed; it stayed on, or followed. -/
def crossCheck (on i : Nat) (s : State) : State :=
  let put (n : Nat) (t : State) : State := safUpd (fun x => { x with followed := tabSet (fun _ => (0 : Nat)) x.followed i n }) t
  if bitOf on i then
    if bitOf s.saf.cross i then put 0 s
    else s |> put 0 |> safUpd (fun x => { x with cross := putBit x.cross i true }) |> bump Reg.safCntCross 1 |> raise_ 0x0D 5
  else if bitOf s.saf.cross i then
    let n := tabGet (fun _ => (0 : Nat)) s.saf.followed i + 1
    if 2 ≤ n then s |> put 0 |> safUpd (fun x => { x with cross := putBit x.cross i false }) else put n s
  else s

/-- R449: the next pulse of test source `src` ends, 300 µs after it began; `on` has a bit for every input that stayed on through the
pulse. The first pulse since the unit entered LIVE ends now and sets the grid of all (log entry 93). -/
def execSafetyTestSourcePulse (src : Fin 4) (on : Nat) (s : State) : Host.Outcome State Fault Refusal :=
  .next (if safDrives s then
    let s1 := match s.saf.pulseClk with
      | some c => advanceTo (gridClk s (c + 2000000 * src + 60000) 8000000) s
      | none => safUpd (fun x => { x with pulseClk := some ((s.now + 8000000 - 60000 - 2000000 * src) % 8000000) }) s
    safEval (each ((List.range 16).filter (fun i => siKind s i == 1 && siSource s i == src.val)) (crossCheck on) s1)
  else s)

/-! ### Channel fault (R443, R444) -/

/-- The unit enters FAULT: outputs and brakes are de-energised. -/
def safFault (s : State) : State := safEval (safUpd (fun x => { x with unit := 4 }) s)

/-- R443, R444: a channel fault. -/
def channelFault (s : State) : State :=
  if s.saf.chFault then s
  else
    let s1 := s |> safUpd (fun x => { x with chFault := true }) |> bump Reg.safCntChannelFault 1 |> raise_ 0x0D 13
    if s.saf.unit = 2 ∧ role s = roleActive ∧ fld s Reg.redPartner 2 0 = roleStandby ∧ flag s Reg.redPartner 4 = false then
      s1 |> safUpd (fun x => { x with unit := 3, faultClk := s.now }) |> requestSwap .safety |> safEval
    else if s.saf.unit = 0 then s1
    else safFault s1

/-- R443: CHANNEL_COMPARE: the channels' qualified inputs have differed for `inUs` µs, their latches or commands for `outUs` µs. -/
def execChannelCompare (inUs outUs : Nat) (s : State) : Host.Outcome State Fault Refusal :=
  .next (if 1000 < inUs ∨ 30 < outUs then channelFault s else s)

/-- R444: 12 ms after FAULT_WAIT began. -/
def execFaultWaitExpire (s : State) : Host.Outcome State Fault Refusal :=
  .next (if s.saf.unit = 3 then safFault (advanceTo (s.saf.faultClk + 2400000) s) else s)

/-! ### Outputs (R463) -/

/-- R463: OUT_FAULT latches for output o, from overcurrent or not; another fault makes an overcurrent latch one that stays. -/
def outFault (o : Nat) (oc : Bool) (s : State) : State :=
  if bitOf s.saf.outFault o then
    (if oc then s else safChanged (safUpd (fun x => { x with overcur := putBit x.overcur o false }) s))
  else
    s |> safUpd (fun x => { x with outFault := putBit x.outFault o true, overcur := putBit x.overcur o oc })
      |> bump Reg.safCntOutFault 1 |> raise_ 0x0D 7 |> safChanged

/-- R463: the next switch test of output o, 500 ms after the last, when the other channel tested its switch; `cut` tells whether
midpoint and terminal voltage were cut. The first since the unit entered LIVE is now (log entry 93). -/
def execSoPulseTest (o : Fin 6) (cut : Bool) (s : State) : Host.Outcome State Fault Refusal :=
  .next (if flag s (Reg.safOutCfg o) 0 ∧ safDrives s then
    let s1 := match tabGet (fun _ => (none : Option Nat)) s.saf.soClk o with
      | some c => advanceTo (gridClk s (c + 100000000) 100000000) s
      | none => s
    let s2 := safUpd (fun x => { x with soClk := tabSet (fun _ => (none : Option Nat)) x.soClk o (some s1.now) }) s1
    if soOn s2 o ∧ cut = false then outFault o false s2 else s2
  else s)

/-- R463: output o carries more than 1.5 A for 100 µs. -/
def execSoOvercurrent (o : Fin 6) (s : State) : Host.Outcome State Fault Refusal :=
  .next (if soOn s o then outFault o true s else s)

/-- R463: the terminal of output o stays above 12 V for 2 ms after both switches open. -/
def execSoTerminalStuck (o : Fin 6) (s : State) : Host.Outcome State Fault Refusal :=
  .next (if safDrives s ∧ soOn s o = false then outFault o false (safUpd (fun x => { x with term := putBit x.term o true }) s) else s)

/-! ### Brake timers and the brake test -/

/-- R465: the coil current lies within I_MIN-I_MAX. -/
def coilOk (s : State) (n ma : Nat) : Bool := decide (10 * bkCoil s n 23 16 ≤ ma) && decide (ma ≤ 10 * bkCoil s n 31 24)

/-- R465: RELEASE_TIME after a release: coil current and feedback are verified. -/
def execBrakeReleaseTimeout (n : Fin 2) (ma : Nat) (s : State) : Host.Outcome State Fault Refusal :=
  .next (
    let b := brake s n
    if b.state = 1 then
      let s1 := s |> advanceTo (b.opClk + 2000000 * bkCoil s n 15 8) |> putBrake n { b with coilMa := ma }
      if coilOk s n ma ∧ (bkIo s n 12 12 = 0 ∨ bkFb s n) then
        safEval (putBrake n { brake s1 n with state := 2, relFail := false } s1)
      else safEval (bkReleaseFail n s1)
    else s)

/-- R465: the coil current of a released brake leaves its window. -/
def execCoilCurrentLost (n : Fin 2) (ma : Nat) (s : State) : Host.Outcome State Fault Refusal :=
  .next (
    let b := brake s n
    if b.state = 2 ∧ coilOk s n ma = false then safEval (bkReleaseFail n (putBrake n { b with coilMa := ma } s)) else s)

/-- R465: APPLY_TIME after an application: coil current and feedback are verified; `first` shows the first switch still
conducting (R464). -/
def execBrakeApplyTimeout (n : Fin 2) (ma : Nat) (first : Bool) (s : State) : Host.Outcome State Fault Refusal :=
  .next (
    let b := brake s n
    if b.applying then
      let s1 := s |> advanceTo (b.opClk + 2000000 * bkCoil s n 7 0) |> putBrake n { b with coilMa := ma, applying := false }
      let s2 := if first then bkSwitchFault n s1 else s1
      if 50 ≤ ma ∨ (bkIo s n 12 12 = 1 ∧ bkFb s n) then
        s2 |> putBrake n { brake s2 n with appFail := true, locked := true } |> raise_ 0x0D 12 |> bkLatch n
      else safChanged s2
    else s)

/-- R466: BT_INTERVAL hours have passed since the last passing test. -/
def execBtDue (n : Fin 2) (s : State) : Host.Outcome State Fault Refusal :=
  .next (
    let b := brake s n
    match b.since with
    | some c =>
      let s1 := advanceTo (c + b.left) s
      s1 |> putBrake n { brake s1 n with due := true, since := none, left := 0 } |> raise_ 0x0D 11 |> safEval
    | none => s)

/-- R466: a write of BT_STARTn starts the test when its conditions hold. -/
def btStart (n : Nat) (s : State) : State :=
  let b := brake s n
  let m := bkGroups s n
  if m ≠ 0 ∧ s.saf.unit = 2 ∧ b.state = 0 ∧ grpsPermit s m ∧ bkReq s n = false then safEval (bkStart true n s) else s

/-- R467: CONFIRM_IN is not on within CONFIRM_TIME. -/
def execBtConfirmTimeout (n : Fin 2) (s : State) : Host.Outcome State Fault Refusal :=
  .next (
    let b := brake s n
    if b.state = 3 then safEval (bkAbort 3 n (advanceTo (b.testClk + 20000000 * bkTest s n 7 0) s)) else s)

/-- R467, R469: a test passes. -/
def bkPass (n : Nat) (s : State) : State :=
  let b := brake s n
  let b1 := { b with state := 0, btReq := false, due := false, last := 1, since := none
                     left := bkTest s n 31 24 * 3600 * secClk }
  let b2 := if b.byStart then { b1 with locked := false, swFault := false, appFail := false } else b1
  s |> putBrake n b2 |> bump Reg.safCntBtPass 1 |> raise_ 0x0D 8 |> bkRecord n |> safEval

/-- R467: BT_TIME ends with the distance below BT_COUNTS. -/
def execBtTimeEnd (n : Fin 2) (s : State) : Host.Outcome State Fault Refusal :=
  .next (
    let b := brake s n
    if b.state = 4 then bkPass n (advanceTo (b.testClk + 20000000 * bkTest s n 15 8) s) else s)

/-- R467: a test fails at once. -/
def bkFail (n : Nat) (s : State) : State :=
  s |> putBrake n { brake s n with state := 0, btReq := false, locked := true, last := 2 }
    |> bump Reg.safCntBtFail 1 |> raise_ 0x0D 9 |> bkRecord n |> bkLatch n

/-- R467: the safety unit's decoder counts a tooth edge of brake n's test. -/
def bkEdge (rev : Bool) (n : Nat) (s : State) : State :=
  let b := brake s n
  let d := b.dist + (if rev then -1 else 1)
  let m := min 0xFFFF (max b.move d.natAbs)
  let s1 := putBrake n { b with dist := d, move := m } s
  if bkTest s n 23 16 ≤ m then bkFail n s1 else s1

/-- R467: SAFETY_PI_EDGE: a tooth edge of pulse input `pi`, with A leading B or B leading A. The distance does not depend on which
of the two counts upwards. -/
def execSafetyPiEdge (pi : Fin 4) (aLeads : Bool) (s : State) : Host.Outcome State Fault Refusal :=
  .next (each ((List.range 2).filter (fun n => (brake s n).state == 4 && bkIo s n 17 16 == pi.val)) (bkEdge (!aLeads)) s)

/-! ### Start, takeover and handover (R472-R476) -/

/-- The newest record of the own store. -/
def storedRec (s : State) : Option (List Nat) := s.saf.store.head?

/-- n bytes of a record from an offset. -/
def recNat (r : List Nat) (off n : Nat) : Nat := leNat ((r.drop off).take n)

/-- R473, R476: the power-on state: all groups latched, all guards UNTESTED, both brakes DUE, locks from the own store. -/
def safFresh (s : State) : State :=
  let lk := match storedRec s with
    | some r => recNat r 0x1D 1
    | none => 0
  let mk (n : Nat) : Brake :=
    { due := true, locked := bitOf lk n, swFault := bitOf lk (4 + n), appFail := bitOf lk (6 + n) }
  s |> safUpd (fun x => { x with
      latch := 0xFF, passed := 0, opened := 0, disc := 0, discSeen := 0, pairSince := [], cross := 0, followed := []
      stuck := 0, press := [] })
    |> putBrake 0 (mk 0) |> putBrake 1 (mk 1)

/-- R476: the OUT_FAULT latches are taken from the own store, but for outputs whose switch test has just passed. -/
def safFaultsFromStore (s : State) : State :=
  let f := match storedRec s with
    | some r => recNat r 0x1C 1 % 64
    | none => 0
  safUpd (fun x => { x with
    outFault := (List.range 6).foldl (fun m o => if bitOf x.swPass o then putBit m o false else m) f, overcur := 0 }) s

/-- R473: restore every field of a record. -/
def safRestore (r : List Nat) (s : State) : State :=
  let lk := recNat r 0x1D 1
  let mk (n : Nat) : Brake :=
    { due := bitOf lk (2 + n), locked := bitOf lk n, swFault := bitOf lk (4 + n), appFail := bitOf lk (6 + n)
      left := secClk * recNat r (0x20 + 4 * n) 4 }
  s |> safUpd (fun x => { x with
      passed := recNat r 0x14 2, opened := recNat r 0x14 2, latch := recNat r 0x16 1, disc := recNat r 0x17 1
      discSeen := 0, pairSince := [], cross := recNat r 0x18 2, followed := [], stuck := recNat r 0x1A 2
      outFault := recNat r 0x1C 1 % 64, overcur := 0, press := [] })
    |> putBrake 0 (mk 0) |> putBrake 1 (mk 1)

/-- R461: every reset input that is active when the unit starts or takes over is stuck. -/
def stuckAtStart (s : State) : State :=
  each ((List.range 16).filter (fun i => siKind s i == 5 && (bitOf s.saf.q i || bitOf s.saf.raw i))) setStuck s

/-- The unit enters LIVE. -/
def safLive (s : State) : State :=
  s |> safUpd (fun x => { x with unit := 2, perClk := s.now, pulseClk := none, soClk := [] }) |> stuckAtStart |> safEval

/-- The unit enters COLD (R472); a stale store is announced on entry. -/
def safCold (s : State) : State :=
  let s1 := safEval (safUpd (fun x => { x with unit := 1, press := [] }) s)
  if s1.saf.current then s1 else raise_ 0x0D 14 s1

/-- R476: self-test done and section accepted: LIVE in a single-slot base or with the token, COLD as a standby. -/
def safTryStart (s : State) : State :=
  if s.saf.tested && s.saf.accepted && s.saf.unit == 0 then
    let s1 := safFaultsFromStore (safFresh s)
    if s.saf.chFault then safFault s1
    else if pairBase s && !(s.red.own == .present && s.red.partner != .present) then safCold s1
    else safLive s1
  else s

/-- The unit as it stands without supply: its own store, record count, keys and digest stay. -/
def safOff (s : State) : State :=
  safUpd (fun x => { store := x.store, seq := x.seq, keys := x.keys }) s

/-- R476: power-on of the unit; its self-test begins. -/
def safPowerOn (s : State) : State := safOff s

/-- R635: the safety unit's own supply leaves its window: it restarts as at power-on, with the accepted section in force. -/
def safBrownOut (s : State) : State :=
  let a := s.saf.accepted
  let d := s.saf.dig
  safUpd (fun x => { x with accepted := a, dig := d }) (safPowerOn s)

/-- R635. -/
def execSafetySupplyBrownOut (s : State) : Host.Outcome State Fault Refusal := .next (safBrownOut s)

/-- R737: a coil circuit counts as not wired only when both channels read above 100 kΩ. -/
def coilWired (x y : Nat) : Bool := !(decide (100000 < x) && decide (100000 < y))

/-- R476, R737: the self-test ends: the outputs whose switch test passed, FS+ present, and the coil resistances in ohms that
channels X and Y read. -/
def execSafetySelfTestDone (pass : Nat) (fs : Bool) (x0 y0 x1 y1 : Nat) (s : State) : Host.Outcome State Fault Refusal :=
  .next (if s.saf.tested then s
    else safTryStart (safUpd (fun x => { x with
      tested := true, swPass := if fs then pass % 64 else 0
      wired := b2n (coilWired x0 y0) + 2 * b2n (coilWired x1 y1) }) s))

/-- The first 8 digest bytes are shown on the page; R477: the configuration registers show the accepted section. -/
def safLoad (s : State) : State :=
  s |> (fun t => each (List.range 16) (fun k u => wr (Reg.safInCfg k) (cfgNat u 0x0F02 k 0 4) u) t)
    |> (fun t => each (List.range 8) (fun k u => wr (Reg.safGroupCfg k) (cfgNat u 0x0F03 k 0 4) u) t)
    |> (fun t => each (List.range 8) (fun k u => wr (Reg.safOutCfg k) (cfgNat u 0x0F04 k 0 4) u) t)
    |> (fun t => each (List.range 2) (fun k u => u |> wr (Reg.safBkIo k) (cfgNat u 0x0F05 k 0 4)
        |> wr (Reg.safBkTest k) (cfgNat u 0x0F05 k 4 4) |> wr (Reg.safBkCoil k) (cfgNat u 0x0F05 k 8 4)) t)

/-- R129, R476, R636: the safety unit has accepted the section of the active Sheaf, whose safety digest is `d`; a new section
restarts it as at power-on. -/
def safAccept (d : List Nat) (s : State) : State :=
  if s.saf.accepted && s.saf.unit != 0 && s.saf.dig == d then s
  else
    let s1 := if s.saf.unit = 0 then s else safUpd (fun x => { x with chFault := s.saf.chFault }) (safPowerOn s)
    safTryStart (safLoad (safUpd (fun x => { x with accepted := true, dig := d }) s1))

/-- R473: the safety unit senses its own token and not its partner's. -/
def safTakeover (s : State) : State :=
  match (if s.saf.current then storedRec s else none) with
  | some r => if (r.drop 0x0C).take 8 = s.saf.dig.take 8 then safLive (safRestore r s) else safLive (raise_ 0x0D 14 (safFresh s))
  | none => safLive (raise_ 0x0D 14 (safFresh s))

/-- R473: SAFETY_TAKEOVER. -/
def execSafetyTakeover (s : State) : Host.Outcome State Fault Refusal :=
  .next (if s.saf.unit = 1 ∧ s.red.own = .present ∧ s.red.partner ≠ .present then safTakeover s else s)

/-- R474: the former active unit de-energises 1 ms after it senses the partner's token, and enters COLD; after a channel fault
it enters FAULT. -/
def execSafetyHandover (s : State) : Host.Outcome State Fault Refusal :=
  .next (if safDrives s ∧ s.red.partner = .present then
    let s1 := advanceTo (s.now + 200000) s
    if s1.saf.chFault then safFault s1 else safCold s1
  else s)

/-- R471: every 1 ms the active safety unit writes a record with the counts refreshed. -/
def execSafetyRecordPeriodic (s : State) : Host.Outcome State Fault Refusal :=
  .next (if safDrives s then
    let s1 := advanceTo (s.saf.perClk + 200000) s
    safWrite (safUpd (fun x => { x with perClk := s1.now }) s1)
  else s)

/-- R471: a record is valid: both check values, a newer SEQ, and the digest of the own section. -/
def recordOk (s : State) (r : List Nat) : Bool :=
  r.length == 64 && recNat r 0x38 4 == crc32c (r.take 56) && recNat r 0x3C 4 == crc32 (r.take 56)
    && decide (s.saf.seq < recNat r 0 4) && s.saf.accepted && (r.drop 0x0C).take 8 == s.saf.dig.take 8

/-- R471, R472: a partner record arrives. -/
def safReceive (r : List Nat) (s : State) : State :=
  if recordOk s r then
    safUpd (fun x => { x with seq := recNat r 0 4, store := (r :: x.store).take 2, current := true, recClk := s.now }) s
  else s

/-- R471: SAFETY_RECORD_RECEIVED. -/
def execSafetyRecordReceived (bytes : List Nat) (s : State) : Host.Outcome State Fault Refusal := .next (safReceive bytes s)

/-- R472: no valid record has arrived for 5 ms. -/
def execStoreStale (s : State) : Host.Outcome State Fault Refusal :=
  .next (if s.saf.current then
    let s1 := s |> advanceTo (s.saf.recClk + 1000000) |> safUpd (fun x => { x with current := false })
    if s1.saf.unit = 1 then raise_ 0x0D 14 s1 else s1
  else s)

/-! ### SAF_EXPORT (R480) -/

/-- R480: SAF_EXPORT: eight words, one per control clock. -/
def runSafExport (e : Entry) (s : State) : State :=
  let ws := [safInWord s, safGroupWord s, safOutWord s, s.saf.opened <<< 16 + s.saf.passed, safFaultWord s, bkWord s 0,
    bkWord s 1, safWord7 s]
  let t : Tag := if s.saf.unit = 1 ∨ s.saf.unit = 2 then .good else .bad
  addWrites e ((List.range 8).map (fun i => (s.now + 1 + i, e.arg1 + i, ⟨BitVec.ofNat 32 (ws.getD i 0), t⟩))) s

/-- R480: SAF_EXPORT with its first destination word. -/
def execSafExport (pos dst : Nat) (s : State) : Host.Outcome State Fault Refusal :=
  .next (dispatch (fun e _ t => runSafExport e t) ⟨0x30, 0x0D, 0, dst, 0, 0, 0, pos⟩ {} s)

end Sys2Proof.Machine
end

