-- ==== Sys2Proof/Machine/Activate.lean ====
section
/-! DEFINITION. Register writes that take effect at the next major-cycle boundary, the application of section 12 and of the
overlay (R68, R154), and what a change of Sheaf does to the blocks at an activation boundary (R161-R164). -/

namespace Sys2Proof.Machine

/-! ### Deferred writes (R95, R115, R242, R274, R277, R307, R340, R487, R516, R544, R546) -/

/-- A register whose write takes effect at the next major-cycle boundary. -/
def deferred (a : Nat) : Bool :=
  let p := (a - 0x100000) / 0x1000
  let off := (a - 0x100000) % 0x1000
  match blockOf p with
  | some .tbu => off == 0x100 || off == 0x104
  | some .ach => off == 0x100
  | some .lsp => off == 0x100
  | some .dio => decide (0x200 ≤ off)
  | some .piu => decide (0x100 ≤ off)
  | some .gmu => within 0x100 0x114 off
  | some .mbc => off == 0x100 || off == 0x108 || off == 0x10C
  | some .net => within 0x100 0x110 off
  | some .msl => decide (0x100 ≤ off)
  | _ => false

/-- The value of a register in force before it is written: it stays in force until the boundary. -/
def keepOld (a : Nat) (s : State) : State :=
  match tabGet (fun _ => (none : Option Word)) s.effOld a with
  | some _ => s
  | none => { s with effOld := tabSet (fun _ => none) s.effOld a (some (BitVec.ofNat 32 (rd s a))) }

/-- The new value of a register comes into force. -/
def dropOld (a : Nat) (s : State) : State := { s with effOld := tabSet (fun _ => none) s.effOld a none }

/-- What follows when the new value of the register at offset `off` of page p comes into force in place of `old`. -/
def pageEffect (p off old : Nat) (s : State) : State :=
  match blockOf p with
  | some .tbu => if off = 0x104 then shaftConfigure s else tbuApply s
  | some .ach => if old % 16 = achMode s (p - 0x20) then s else achModeChange (p - 0x20) s
  | some .piu => let n := (off - 0x100) / 16; putPiu n { piu s n with indexed := false } s
  | some .mbc => if off = 0x100 then mbcMajor (p - 0x0E) s else mbcTiming (p - 0x0E) s
  | _ => s

/-- What follows when the new value of register `a` comes into force in place of `old`. -/
def configEffect (a old : Nat) (s : State) : State := pageEffect ((a - 0x100000) / 0x1000) ((a - 0x100000) % 0x1000) old s

/-- A deferred write takes effect; bit timing waits for the end of the attempt in progress (R516). -/
def takeEffect (a : Nat) (s : State) : State :=
  let n := (a - 0x100000) / 0x1000 - 0x0E
  match tabGet (fun _ => (none : Option Word)) s.effOld a with
  | none => s
  | some old =>
    if (a = Reg.mbcNbt n ∨ a = Reg.mbcDbt n) ∧ (mbc s n).att.isSome then mbcUpd n (fun x => { x with timingDue := true }) s
    else configEffect a old.toNat (withLines (dropOld a) s)

/-- CONFIG_TAKE_EFFECT: at a major-cycle boundary every deferred write takes effect, in ascending address. -/
def execConfigTakeEffect (s : State) : Host.Outcome State Fault Refusal := .next (each s.effOld (fun e => takeEffect e.1) s)

/-! ### Section 12 and the overlay (R68, R153, R154) -/

/-- The registers that a Sheaf gives their values: those of section 12 and of section 6, and TRIGk_CFG. -/
def sheafRegs : List Nat := livePages.flatMap (rowAddrs (fun r => r.sheaf)) ++ (List.range 256).map Reg.grnTrigCfg

/-- R154: every register takes the value that the active Sheaf gives it; the station address is the header's N, or N + 1 in
slot B of a QPB-4882 base (R25, R120). -/
def applyInit (s : State) : State :=
  let s1 := each sheafRegs (fun a t => wrOrEnable a (sheafVal s a) t) { s with effOld := [] }
  match s.active with
  | some b => setFld Reg.sysStation 10 0 (bankNat s b 0x018 2 + slotAdd s) s1
  | none => s1

/-- The digest words that SYS.SHEAF_DIG0-7 show. -/
def digWords (d : List Nat) : List Nat := wordsLe 8 d

/-- Bank and digest of the Sheaf in force (R127). -/
def showSheaf (b : Nat) (s : State) : State :=
  let d := digWords (sheafDigest s b)
  setFld Reg.sysSheafBank 0 0 b (each (List.range 8) (fun k => wr (Reg.sysSheafDig k) (d.getD k 0)) { s with active := some b })

/-- R68: the overlay follows section 12 when it is bound to the Sheaf in force; otherwise it stays idle. -/
def applyOverlay (s : State) : State :=
  if s.overlay = [] then setFlag (Reg.stat 0) 4 false s
  else if s.overlayDig = (List.range 8).map (fun k => rd s (Reg.sysSheafDig k)) then
    setFlag (Reg.stat 0) 4 false (each s.overlay (fun e t => match e.2 with | some w => wrOrEnable e.1 w.toNat t | none => t) s)
  else s |> setFlag (Reg.stat 0) 4 true |> raise_ 0x00 5

/-! ### Activation (R161-R163) -/

/-- R162: the words that the new Sheaf produces, and the words that only the outgoing one produced. -/
def prodWords (s : State) (b : Nat) : List Nat :=
  (List.range (bankCount s b 0x0501)).flatMap (fun i =>
    (List.range (bankCfg s b 0x0501 i 4 2)).map (fun j => bankCfg s b 0x0501 i 0 4 + j))

/-- Give a word another tag wherever the word can be read from, its value unchanged. -/
def retagWord (t : Tag) (w : Nat) (s : State) : State :=
  let one (bank : Nat) (u : State) : State := putCell bank w ⟨(bankCell u bank w).val, t⟩ u
  one (lineDone s (w / 16)) (one (lineEngine s (w / 16)) s)

/-- R162: the tags at an activation boundary. -/
def activateTags (old : Option Nat) (new : Nat) (s : State) : State :=
  let gone := match old with
    | some o => (prodWords s o).filter (fun w => (bankProducer s new w).isNone)
    | none => []
  each gone (retagWord .bad) (each (prodWords s new) (retagWord .held) s)

/-- R161: the shaft queue is emptied, and the new records are armed from the current angle. -/
def activateShaft (s : State) : State :=
  let s1 := each s.tbu.queue (fun _ => shaftMiss) s
  showShaft { s1 with tbu := { s1.tbu with queue := [], done := [], angleOld := shaftFromIndex s1 } }

/-- The bytes of record k of a part of a bank; none where there is no such record. -/
def recordBytes (s : State) (b id k : Nat) : List Nat :=
  match bankPart s b id with
  | some p => if k < p.count then bankBytes s b (p.base + p.size * k) p.size else []
  | none => []

/-- Record k of a part is defined in both Sheafs, byte for byte the same. -/
def sameRecord (s : State) (old : Option Nat) (new id k : Nat) : Bool :=
  match old with
  | some o => recordBytes s o id k != [] && recordBytes s o id k == recordBytes s new id k
  | none => false

/-- R163, R361, R365, R377: the loop tables of the new Sheaf replace the effective and the shadow tables. A loop that is newly defined,
or one of whose words outside the coefficients changes, makes a first step (log entry 84); a gain set that changes is marked; a
CLE_RUN dispatched before completes its loops on the tables of its dispatch. -/
def activateLoops (old : State) (s : State) : State :=
  let n := cfgCount s 0x0701
  let was (k w : Nat) : Nat := loopWord old old.cle.eff k w
  let now (k w : Nat) : Nat := loopSheaf s k w
  let changed (k : Nat) : Nat := (List.range 9).foldl (fun m g =>
    if (List.range 8).any (fun j => was k (0x18 + 8 * g + j) != now k (0x18 + 8 * g + j)) then m ||| 2 ^ g else m) 0
  let anew (k : Nat) : Bool := decide (cfgCount old 0x0701 ≤ k) || (List.range 9).any (fun w => was k w != now k w)
  let keep (tab : Tab (Option Word)) : Tab (Option Word) :=
    (List.range (max n (cfgCount old 0x0701) * 128)).foldl (fun t i =>
      let v := loopWord old tab (i / 128) (i % 128)
      if v = now (i / 128) (i % 128) then t else tabSet (fun _ => none) t i (some (BitVec.ofNat 32 v))) []
  let s1 := keepTables (fun o => keep (o.tab.getD old.cle.eff)) s
  each (List.range n) (fun k t =>
      if anew k then loopUpd k (fun y => { y with first := true }) t
      else if changed k = 0 then t
      else loopUpd k (fun y => { y with changed := y.changed ||| changed k }) t)
    { s1 with cle := { s1.cle with eff := [], shd := [], armed := false } }

/-- R161, R162: of the entries of the outgoing Sheaf only loop steps go on, and nothing is published from them; lanes that are behind
the boundary still dispatch the slots before it from the outgoing Sheaf. -/
def activateSeq (old : Option Nat) (s : State) : State :=
  { s with seq := { s.seq with
    outst := (s.seq.outst.filter (fun o => o.e.opcode = 0x11)).map (fun o => { o with words := [], left := [] })
    past := if s.seq.behind = 0 then none else s.seq.past <|> old.map (fun b => (b, if s.seq.sched = 1 then 0x0201 else 0x0301)) } }

/-- R515: queued frames stay where their descriptor is the same in the new Sheaf. -/
def activateTx (old : Option Nat) (new : Nat) (s : State) : State :=
  each (List.range 4) (fun n t =>
    let q := (mbc t n).queue
    let keep := q.filter (fun i => sameRecord s old new 0x0901 i.desc || (match (mbc t n).att with | some a => a.1.uid == i.uid | none => false))
    t |> mbcUpd n (fun x => { x with queue := keep }) |> bump (Reg.mbcCntSuperseded n) (q.length - keep.length)) s

/-- R515: map records of the new Sheaf that equal the outgoing ones keep latch, age and mark; the others start empty at age 0. -/
def activateMaps (old : Option Nat) (new : Nat) (s : State) : State :=
  let n := bankCount s new 0x0902
  { s with maps := (List.range n).foldl (fun t k =>
      tabSet (fun _ => ({} : MapSt)) t k (if sameRecord s old new 0x0902 k then mapSt s k else { age := 0 })) [] }

/-- R163, R534, R542: subscriptions and field maps whose records equal the outgoing ones keep their instances, latches and ages; the
others start anew (log entry 83). -/
def activateNet (old : Option Nat) (new : Nat) (s : State) : State :=
  { s with
    net := { s.net with subs := s.net.subs.filter (fun e => sameRecord s old new 0x0A02 e.1) }
    mslMaps := s.mslMaps.filter (fun e => sameRecord s old new 0x0B01 e.1) }

/-- R163: the image conditions of the new section 13 start anew. -/
def activateTrigs (s : State) : State := { s with grn := { s.grn with condTrue := [], condRef := [] } }

/-- What follows at an activation when the register at offset `off` of page p has another value than `old`: as for a deferred write, but a channel whose mode
changes runs no calibration (R238), and new bit timing leaves the error counters (R515). -/
def sheafPageEffect (p off old : Nat) (s : State) : State :=
  match blockOf p with
  | some .ach => if old % 16 = achMode s (p - 0x20) then s else achModeSheaf (p - 0x20) s
  | some .mbc => if off = 0x100 then mbcMajor (p - 0x0E) s else s
  | _ => pageEffect p off old s

/-- What follows at an activation for register `a`. -/
def sheafEffect (a old : Nat) (s : State) : State := sheafPageEffect ((a - 0x100000) / 0x1000) ((a - 0x100000) % 0x1000) old s

/-- R163: registers whose new value changes what runs. -/
def activateEffects (old : State) (s : State) : State :=
  each (sheafRegs.filter (fun a => deferred a && effRd old a != rd s a)) (fun a t => sheafEffect a (effRd old a) t) s

/-- R161-R163, R416, R515: bank `new` takes effect in place of `old`, at the first clock of a major- or minor-cycle boundary. -/
def activateSheaf (old : Option Nat) (new : Nat) (s : State) : State :=
  s |> activateShaft |> achDropAll |> slvActivate |> activateSeq old |> activateTx old new |> activateMaps old new |> activateNet old new
    |> activateTags old new
    |> showSheaf new |> activateTrigs |> activateLoops { s with active := old }
    |> withLines (fun t => applyOverlay (applyInit t)) |> activateEffects s
    |> each (List.range 4) mbcJudge |> joinGroups |> raise_ 0x04 3

end Sys2Proof.Machine
end

