-- ==== Sys2Proof/Machine/Copy.lean ====
section
/-! DEFINITION. The Sluice copy (R590-R599, R605): the engine-state store, the frames of a copy, and how a receiver counts,
refuses and applies them. -/

namespace Sys2Proof.Machine

/-! ### The engine-state store (R595, R596) -/

/-- R596: the registers that a copy carries: LIVE ones, and host-written SHEAF and OVERLAY ones. -/
def copyRegs : List Nat :=
  livePages.flatMap (rowAddrs (fun r => r.kept == .live || ((r.kept == .sheaf || r.kept == .overlay) && r.acc != .ro)))

/-- Words of a loop table that belong to loop k. -/
def loopTab (k : Nat) (t : Tab (Option Word)) : List (Nat × Word) :=
  (t.filter (fun e => e.1 / 128 = k)).filterMap (fun e => e.2.map (fun w => (e.1 % 128, w)))

/-- R596: the pieces of the store, in the model's own order. -/
def engineStore (s : State) : List EngRec :=
  copyRegs.map (fun a => .reg a (rd s a) (wideGet s a)) ++ [.tbu s.tbu, .dio s.dio.cmd s.dio.pulse, .syn s.syn, .armed s.cle.armed]
    ++ (List.range 32).map (fun n => .ach n (ach s n).code (rd s (Reg.achRbStat n)) (ach s n).complClk (ach s n).clearRun)
    ++ (List.range 4).map (fun n => .piu n (piu s n).count (piu s n).tooth (piu s n).rev (piu s n).indexed)
    ++ (List.range 256).map (fun k => .loop k (loopSt s k) (loopTab k s.cle.eff) (loopTab k s.cle.shd))
    ++ (List.range 8).map (fun j => .job j (jobSlot s j).warm (jobSlot s j).published)
    ++ (List.range 4).map (fun n => .queue n (mbc s n).queue)
    ++ (List.range (cfgCount s 0x0902)).map (fun k => .map k (mapSt s k).age (mapSt s k).fresh (mapSt s k).stale)
    ++ (List.range (cfgCount s 0x0B01)).map (fun k => .mslMap k (mslMap s k).age (mslMap s k).fresh (mslMap s k).stale)
    ++ (List.range (cfgCount s 0x0A02)).map (fun k => .sub k (subSt s k).age (subSt s k).accepted)

/-- R599: the store is taken at a minor-cycle boundary; the pieces that differ from the boundary before are the records that the
generation changed. -/
def storeTake (s : State) : State :=
  if pairBase s ∧ (role s = roleActive ∨ role s = roleSolo) then
    let new := engineStore s
    let old := s.slu.store
    let diff := ((List.range new.length).zip new).filter (fun p => decide (old[p.1]? ≠ some p.2))
    { s with slu := { s.slu with store := new, changed := diff } }
  else { s with slu := { s.slu with store := [], changed := [] } }

/-- The pieces that stand in record r of the store when it is swept; a SHEAF or OVERLAY register only when a host wrote it. -/
def storeRec (s : State) (r : Nat) : List (Nat × EngRec) :=
  ((List.range s.slu.store.length).zip s.slu.store).filter (fun p => p.1 % 8192 == r && (match p.2 with
    | .reg a v _ => decide (v ≠ sheafVal s a)
    | _ => true))

/-! ### Sending (R590, R591, R594, R605) -/

/-- Split a list into pieces of n. -/
def chunks {α : Type} (n : Nat) : Nat → List α → List (List α)
  | 0, _ => []
  | k + 1, l => if l.isEmpty then [] else l.take n :: chunks n k (l.drop n)

/-- A piece of at most 16 records for each frame. -/
def frames16 {α : Type} (l : List α) : List (List α) := chunks 16 (l.length / 16 + 1) l

/-- The 76-byte record of a line: its index, values and tags. -/
def lineRec (s : State) (line : Nat) : List Nat :=
  leBytes 4 line ++ lineBytes ((List.range 16).map (fun j => imgHost s (16 * line + j)))

/-- An ENGINE frame. -/
def sendEngine (sweep : Bool) (gen : Nat) (recs : List (Nat × EngRec)) (s : State) : State :=
  let up := fld s Reg.redState 17 16
  let lane := if up = 3 then s.red.frameSeq % 2 else up / 2
  let s1 := { s with red := { s.red with frameSeq := (s.red.frameSeq + 1) % 2 ^ 32 } }
  if up = 0 then s1 else s1 |> emit (.engine sweep s.red.frameSeq gen recs) |> pmcInc (160 + lane)

/-- R605: the partner needs a sweep. -/
def sweepDue (s : State) : Bool := fld s Reg.redPartner 2 0 == roleSyncing || flag s Reg.redPartner 4

/-- R605: step k of a sweep: 64 lines and 32 records. -/
def sweepLines (k : Nat) : List Nat := (List.range 64).map (fun i => 64 * k + i)
def sweepRecs (s : State) (k : Nat) : List (Nat × EngRec) := (List.range 32).flatMap (fun i => storeRec s (32 * k + i))

/-- R590: the clocks that a copy of `bytes` bytes takes: 20.0 Gbit/s with both lanes up, half of it with one. -/
def copyClocks (s : State) (bytes : Nat) : Nat := bytes * (if fld s Reg.redState 17 16 = 3 then 2 else 4) / 25

/-- Bytes of the frames that carry n records of a size. -/
def frameBytes (n size : Nat) : Nat := (n + 15) / 16 * 20 + n * size

/-- The LINE, ENGINE and FINAL_OUTPUT frames of a copy (R591). -/
def sendLines (flag gen : Nat) (lines : List Nat) (s : State) : State :=
  each (frames16 lines) (fun l u => sendFrame 0x02 flag gen (l.map (lineRec u)) u) s
def sendRecs (sweep : Bool) (gen : Nat) (recs : List (Nat × EngRec)) (s : State) : State :=
  each (frames16 recs) (sendEngine sweep gen) s
def sendFinal (gen : Nat) (final : Option (List Nat)) (s : State) : State :=
  match final with
  | some w => sendFrame 0x05 0 gen [w.flatMap (leBytes 4)] s
  | none => s

/-- R594, R605: the registers and counters of a copy of `n` lines and `recs` engine records that takes `dur` clocks from clock `clk`;
the sweep, if it is part of it, goes on at `next`. -/
def noteCopy (gen n recs dur clk : Nat) (sw : Bool) (next : Nat) (s : State) : State :=
  let s2 := s |> wideSet Reg.redCopyGenLo gen |> wr Reg.redCopyTime (min 32767 n <<< 16 + min 65535 (dur / 200))
    |> pmcInc 165 |> pmcAdd 167 n |> pmcAdd 168 recs |> when_ sw (pmcAdd 169 96)
    |> when_ sw (wr Reg.redSyncProgress (96 * (s.red.sweepNext + 1)))
  let s3 := { s2 with red := { s2.red with sweepNext := next, copyStarted := true, sendEnd := clk + dur } }
  if 60000 < dur then s3 |> bump Reg.redCntCopyLong 1 |> raise_ 0x15 6 else s3

/-- R594, R605: send a copy of the readable generation: lines, engine records, sweep, FINAL_OUTPUT in a planned swap, COMMIT. -/
def sendCopy (final : Option (List Nat)) (s : State) : State :=
  let gen := wideGet s Reg.imgGenReadLo
  let lines := s.img.copySet
  let eng := s.slu.changed
  let sw := sweepDue s
  let k := s.red.sweepNext
  let swl := if sw then sweepLines k else []
  let swe := if sw then sweepRecs s k else []
  let next := if sw then (k + 1) % 256 else k
  let recs := min 1024 (Config.engineRecs s.draws)
  let bytes := frameBytes lines.length 76 + frameBytes recs 68 + frameBytes swl.length 76 + (if sw then frameBytes 32 68 else 0)
    + (if final.isSome then frameBytes 1 136 else 0) + frameBytes 1 32
  let count := (frames16 lines).length + (frames16 eng).length + (frames16 swl).length + (frames16 swe).length
    + b2n final.isSome + 1
  let commit := leBytes 4 (lines.length + swl.length) ++ leBytes 4 (eng.length + swe.length) ++ leBytes 4 count ++ leBytes 4 (96 * next)
    ++ leBytes 4 (rd s (Reg.sysSheafDig 0)) ++ leBytes 4 (rd s (Reg.sysSheafDig 1)) ++ List.replicate 8 0
  drawNext s |> each (lines ++ swl) (fun l => touchLines l 1) |> sendLines 0 gen lines |> sendRecs false gen eng |> sendLines 1 gen swl |> sendRecs true gen swe
    |> sendFinal gen final |> sendFrame 0x04 0 gen [commit]
    |> noteCopy gen lines.length recs (copyClocks s bytes) s.now sw next

/-- R136, R594: a partner takes the copy. -/
def copyTaken (s : State) : Bool :=
  (role s == roleActive || role s == roleSolo) && flag s Reg.redPartner 8 && fld s Reg.redState 17 16 != 0
    && (fld s Reg.redPartner 2 0 == roleStandby || fld s Reg.redPartner 2 0 == roleSyncing)

/-- R594: SLU_COPY; a second one in a minor cycle does nothing. -/
def runSluCopy (s : State) : State := if copyTaken s ∧ s.red.copyStarted = false then sendCopy none s else s

/-- R594: SLU_COPY at position `pos`. -/
def execSluCopy (pos : Nat) (s : State) : Host.Outcome State Fault Refusal :=
  .next (dispatch (fun _ _ t => runSluCopy t) ⟨0x31, 0x15, 0, 0, 0, 0, 0, pos⟩ {} s)

/-! ### Applying (R594, R596, R598) -/

/-- A clock of the sender on the receiver's control clock. -/
def shiftClk (off : Int) (c : Nat) : Nat := ((c : Int) + off).toNat

/-- R99: the timebase is adopted; the slots that have passed since the boundary of the copy are added, with the
fraction that they carry. -/
def applyTbu (off : Int) (t : TbuSt) (s : State) : State :=
  let e := shiftClk off t.edge
  let k := ((s.now - e) * 65536 + 65535 - t.frac) / max 1 t.len
  let run := t.frac + k * t.len
  { s with tbu := { s.tbu with
      running := true, slot := (t.slot + k) % 4096, gen := t.gen + (t.slot % 512 + k) / 512, edge := e + run / 65536
      len := t.len, frac := run % 65536, freq := t.freq, err := t.err, stretch := t.stretch
      angleOld := t.angleOld, backed := t.backed, angle := t.angle, edgeClk := shiftClk off t.edgeClk, interval := t.interval
      angleClk := shiftClk off t.angleClk, tooth := t.tooth, sinceIndex := t.sinceIndex, rev := t.rev, reverse := t.reverse
      overspeed := t.overspeed, done := t.done, queue := t.queue, epoch := t.epoch } }

/-- A host-written register that takes effect later keeps its old value in force until its boundary. -/
def applyReg (a v pair : Nat) (s : State) : State :=
  if rd s a = v ∧ wideGet s a = pair then s
  else s |> when_ (deferred a && rd s a != v) (keepOld a) |> wrOrEnable a v |> wideSet a pair

/-- Replace the words of loop k in a loop table. -/
def putLoopTab (k : Nat) (l : List (Nat × Word)) (t : Tab (Option Word)) : Tab (Option Word) :=
  l.foldl (fun u e => tabSet (fun _ => none) u (128 * k + e.1) (some e.2)) (t.filter (fun e => e.1 / 128 ≠ k))

/-- Apply one piece of the engine-state store. -/
def applyEng (off : Int) (r : EngRec) (s : State) : State :=
  match r with
  | .reg a v pair => applyReg a v pair s
  | .tbu t => applyTbu off t s
  | .ach n code rb c run =>
    s |> putAch n { ach s n with code := code, complClk := shiftClk off c, clearRun := run }
      |> wr (Reg.achRbStat n) (putBit rb 3 (flag s (Reg.achRbStat n) 3))
  | .dio cmd pulse => { s with dio := { s.dio with cmd := cmd, pulse := pulse } }
  | .piu n count tooth rev indexed => putPiu n { piu s n with count := count, tooth := tooth, rev := rev, indexed := indexed } s
  | .syn y => { s with syn := { y with
      armClk := shiftClk off y.armClk, deadSince := s.syn.deadSince
      timing := y.timing.map (fun t => (t.1, t.2.1, t.2.2.1, shiftClk off t.2.2.2)) } }
  | .loop k x eff shd =>
    putLoop k { x with edge := shiftClk off x.edge } { s with cle := { s.cle with
      eff := putLoopTab k eff s.cle.eff, shd := putLoopTab k shd s.cle.shd } }
  | .armed b => { s with cle := { s.cle with armed := b } }
  | .job j warm published => putJob j { jobSlot s j with warm := warm, published := published } s
  | .queue n q => mbcUpd n (fun x => { x with queue := q.map (fun i => { i with ready := shiftClk off i.ready }) }) s
  | .map k age fresh stale =>
    let x := mapSt s k
    if x.age = 0 ∧ x.fresh then putMap k { x with stale := stale } s
    else putMap k { x with age := age, fresh := fresh, stale := stale } s
  | .mslMap k age fresh stale =>
    let x := mslMap s k
    if x.age = 0 ∧ x.fresh then putMslMap k { x with stale := stale } s
    else putMslMap k { x with age := age, fresh := fresh, stale := stale } s
  | .sub k age acc =>
    let x := subSt s k
    putSub k { x with age := age, accepted := acc } s

/-- R594: a line of the copy, in every lane. -/
def applyLine (l : Nat × List (Word × Nat)) (s : State) : State :=
  each ((List.range 16).zip l.2) (fun p t => putCell (lineDone t l.1) (16 * l.1 + p.1) ⟨p.2.1, tagOf p.2.2⟩ t) s

/-- Forget the copy being received. -/
def dropCopy (s : State) : State :=
  { s with slu := { s.slu with frames := 0, lines := [], engines := [], swept := false, final := none, nak := [], failed := false } }

/-- R594, R605: a complete copy of generation `gen` is applied; SWEEP_NEXT is `next`. -/
def applyCopy (gen next : Nat) (clk : Nat) (s : State) : State :=
  let off : Int := (s.now : Int) - (clk : Int)
  let u := s.slu
  let k := next / 96 % 256
  let got := if u.swept then (if s.red.sweepNext = (k + 255) % 256 then s.red.sweepGot + 96 else 96) else s.red.sweepGot
  let s1 := each u.engines (fun e t => applyEng off e.2 t) (each u.lines applyLine s)
  let s2 := { s1 with
    img := { s1.img with gen := gen + 1, copySet := u.lines.map (fun l => l.1) }
    red := { s1.red with
      copyCame := true, final := u.final, sweepNext := if u.swept then k else s.red.sweepNext
      sweepGot := if 24576 ≤ got then 0 else got, passDone := s.red.passDone || decide (24576 ≤ got) } }
  let s3 := s2 |> wideSet Reg.imgGenReadLo gen |> wideSet Reg.redCopyGenLo gen |> wr Reg.redSyncProgress (min got 24576)
    |> pmcInc 166
  let s4 := wr Reg.redCopyTime (min 32767 u.lines.length <<< 16 + min 65535 ((s.now - u.startClk) / 200)) s3
  dropCopy (if 24576 ≤ got then setStale false s4 else s4)

/-- R593: the copy of this minor cycle is lost. -/
def loseCopy (s : State) : State :=
  let s1 := dropCopy { s with red := { s.red with sweepGot := 0, passDone := false, copyCame := true } }
  s1 |> wr Reg.redSyncProgress 0 |> bump Reg.redCntCopyLost 1 |> raise_ 0x15 5 |> when_ (role s == roleStandby) (setStale true)

/-- COPY_LOST: the minor cycle that ends at this boundary brought no complete copy (R593); what came in it is forgotten at
MINOR_CYCLE_BOUNDARY. -/
def execCopyLost (s : State) : Host.Outcome State Fault Refusal :=
  .next (if listening s ∧ s.tbu.slot % 512 = 0 ∧ s.tbu.minorDone = false ∧ s.red.copyCame = false then loseCopy s else s)

/-! ### Receiving (R591-R593) -/

/-- R592: a frame with a wrong CRC is answered by NAK; one that fails again is lost. -/
def frameBad (f : SluFrame) (s : State) : State :=
  let again := s.slu.nak.contains f.seq
  let s1 := sendFrame 0x07 0 s.tbu.gen [leBytes 4 f.seq ++ leBytes 4 0] (pmcInc 164 s)
  let s2 := { s1 with slu := { s1.slu with nak := if again then s1.slu.nak.erase f.seq else f.seq :: s1.slu.nak } }
  if again ∧ listening s then { s2 with slu := { s2.slu with failed := true } } else s2

/-- R592: the sender repeats a frame once. -/
def resend (q : Nat) (s : State) : State :=
  let s1 := bump Reg.redCntNak 1 s
  match s.out.find? (fun o => match o with
    | .sluice _ _ n _ _ => n == q
    | .engine _ n _ _ => n == q
    | _ => false) with
  | some o => emit o s1
  | none => s1

/-- A frame of a copy is counted. -/
def countFrame (f : SluFrame) (l : List (Nat × List (Word × Nat))) (e : List (Nat × EngRec)) (s : State) : State :=
  { s with slu := { s.slu with
      startClk := if s.slu.frames = 0 then s.now else s.slu.startClk
      frames := s.slu.frames + 1, lines := s.slu.lines ++ l, engines := s.slu.engines ++ e
      swept := s.slu.swept || f.sweep, nak := s.slu.nak.erase f.seq } }

/-- R593, R594: COMMIT: the copy is applied when its counts agree and no frame failed twice, and is lost otherwise. -/
def commitFrame (f : SluFrame) (lines engines frames next clk : Nat) (dig : List Nat) (s : State) : State :=
  let u := s.slu
  let s1 := { s with slu := { s.slu with dig := dig } }
  let own := leBytes 4 (rd s (Reg.sysSheafDig 0)) ++ leBytes 4 (rd s (Reg.sysSheafDig 1))
  let s2 := setFlag Reg.redState 18 (dig != own) s1
  if u.failed ∨ u.frames + 1 ≠ frames ∨ u.lines.length ≠ lines ∨ u.engines.length ≠ engines then loseCopy s2
  else applyCopy f.gen next clk s2

end Sys2Proof.Machine
end

