-- ==== Sys2Proof/Machine/Red.lean ====
section
/-! DEFINITION. The pair (R579-R612): heartbeats and their checks, the token lines, the Sluice frames as they arrive, takeover,
planned swaps, hold, and the commands of the RED page. -/

namespace Sys2Proof.Machine

/-- SYS.STATION.SLOT: the module sits in slot B. -/
def slotB (s : State) : Bool := flag s Reg.sysStation 15

/-! ### Heartbeats (R586, R587, R603) -/

/-- R586: a heartbeat of the partner is valid. -/
def heartbeatOk (s : State) (b : List Nat) : Bool :=
  b.length == 48 && leNat (b.take 4) == 0x54424851 && b.getD 4 0 == 1 && leNat ((b.drop 44).take 4) == crc32c (b.take 44)
    && leNat ((b.drop 16).take 8) != serialNo s

/-- R603: SWAP_DUE, raised on entry. -/
def swapDueCheck (s : State) : State :=
  let due := role s == roleActive && flag s Reg.redPartner 8 && fld s Reg.redPartner 2 0 == roleStandby
    && decide (fld s Reg.redCfg 8 0 ≤ fld s Reg.redPartner 31 16)
  let s1 := setFlag Reg.redState 11 due s
  if due && !flag s Reg.redState 11 then raise_ 0x15 8 s1 else s1

/-- RED.PARTNER from the fields of a heartbeat. -/
def partnerWord (b : List Nat) : Nat :=
  let f := leNat ((b.drop 24).take 4)
  leNat ((b.drop 28).take 2) <<< 16 + 2 ^ 8 + b2n (bitOf f 4) <<< 7 + b2n (bitOf f 5) <<< 6 + b2n (bitOf f 1) <<< 5
    + b2n (bitOf f 0) <<< 4 + b.getD 5 0 % 8

/-- R586, R587: a valid heartbeat of the partner by a path: the partner is present, and a SOLO module becomes ACTIVE. -/
def heartbeatIn (sluice : Bool) (b : List Nat) (s : State) : State :=
  if pairBase s ∧ heartbeatOk s b then
    let own := leBytes 4 (rd s (Reg.sysSheafDig 0)) ++ leBytes 4 (rd s (Reg.sysSheafDig 1))
    let dig := (b.drop 32).take 8
    let s1 := { s with
      red := { s.red with
        hbNet := s.red.hbNet || !sluice, hbSluice := s.red.hbSluice || sluice, heard := true
        serial := some (leNat ((b.drop 16).take 8))
        reason := if bitOf (leNat ((b.drop 24).take 4)) 3 then b.getD 30 0 % 16 else s.red.reason }
      slu := { s.slu with dig := dig } }
    let s2 := s1 |> wr Reg.redPartner (partnerWord b) |> setFlag Reg.redState 18 (dig != own)
    let s3 := if role s = roleSolo then s2 |> takeRole roleActive |> raise_ 0x15 3
      else if role s = roleReset ∧ slotB s ∧ s.pwr.bringClk ≠ 0 ∧ s.red.partner = .present then enterSyncing s2
      else s2
    swapDueCheck (setLaneMode s3)
  else s

/-- R586: HEARTBEAT_RX: a heartbeat of 48 bytes arrives by the network (0) or the Sluice (1). -/
def execHeartbeatRx (path : Fin 2) (bytes : List Nat) (s : State) : Host.Outcome State Fault Refusal :=
  .next (heartbeatIn (path == 1) bytes (pmcInc (if path.val = 1 then 170 else 140) s))

/-- R588: runs of checks at which the partner's line contradicts its heartbeats; TOKEN_FAULT at the second one of a run. -/
def tokenCheck (miss : Nat) (s : State) : State :=
  let r := s.red
  let a := if role s = roleStandby ∧ r.partner = .absent ∧ miss = 0 then min 2 (r.absentRun + 1) else 0
  let p := if role s = roleStandby ∧ r.partner = .present ∧ miss = 2 then min 2 (r.silentRun + 1) else 0
  let s1 := { s with red := { r with absentRun := a, silentRun := p } }
  let s2 := s1 |> setFlag Reg.redState 14 (r.ownFault || a == 2) |> setFlag Reg.redState 15 (p == 2)
  if (a = 2 ∧ r.absentRun < 2) ∨ (p = 2 ∧ r.silentRun < 2) then raise_ 0x15 12 s2 else s2

/-- R581, R636: a SYNCING module whose partner neither drives nor is heard resets itself. -/
def syncAbort (s : State) : State := { s with pwr := { s.pwr with order := some ⟨8, false, false⟩ } }

/-- R581, R587: the partner is missed at two checks: it is no longer present, and an ACTIVE module becomes SOLO. -/
def partnerLost (s : State) : State :=
  let s1 := setFlag Reg.redPartner 8 false s
  setLaneMode (if role s = roleActive then
    s1 |> takeRole roleSolo |> raise_ 0x15 2 |> (fun t => { t with red := { t.red with swap := t.red.swap.filter (fun q => q.stage != 0) } }) else s1)

/-- R587: the check at slot 256 of a minor cycle. -/
def heartbeatCheck (s : State) : State :=
  let net := s.red.hbNet
  let slu := s.red.hbSluice
  let miss := if net || slu then 0 else min 2 (fld s Reg.redState 10 9 + 1)
  let s1 := { s with red := { s.red with hbNet := false, hbSluice := false } }
  let s2 := s1 |> setFlag Reg.redState 8 net |> setFlag Reg.redState 7 slu |> setFld Reg.redState 10 9 miss
  let s3 := if net || slu then s2 else s2 |> bump Reg.redCntHbMiss 1 |> pmcInc 171
  let s4 := if miss = 2 ∧ flag s3 Reg.redPartner 8 then partnerLost s3 else s3
  let s5 := if role s4 = roleStandby ∧ net = true ∧ slu = false then setStale true s4 else s4
  let s6 := tokenCheck miss s5
  if role s6 = roleSyncing ∧ miss = 2 ∧ s6.red.partner ≠ .present then syncAbort s6 else s6

/-- R587: HEARTBEAT_CHECK, once in a minor cycle, in its slot 256. -/
def execHeartbeatCheck (s : State) : Host.Outcome State Fault Refusal :=
  .next (if pairBase s ∧ s.tbu.running ∧ s.tbu.slot % 512 = 256 ∧ s.red.checked = false then
    heartbeatCheck { s with red := { s.red with checked := true } }
  else s)

/-! ### The token lines (R582-R585, R600) -/

/-- R600: the analogue output stages of a module let go. -/
def achLetGo (s : State) : State :=
  each s.ach (fun e t => putAch e.1 { ach t e.1 with connected := false } t) s

/-- R585: the module in slot B gives way when both modules drive the token. -/
def dualActive (s : State) : State :=
  if slotB s then
    s |> bump Reg.redCntDualActive 1 |> raise_ 0x15 13 |> releaseToken 0xF |> achLetGo |> enterSyncing
  else s

/-- R583: the own line reads `l`. -/
def ownLine (l : Line) (s : State) : State :=
  let bad := l != s.red.own
  let s1 := { s with red := { s.red with ownFault := bad } }
  let s2 := setFlag Reg.redState 14 (bad || s.red.absentRun == 2) s1
  if bad && !s.red.ownFault then raise_ 0x15 12 s2 else s2

/-- R581, R584, R585, R600: the partner's line reads `l`. -/
def partnerLine (l : Line) (s : State) : State :=
  let s1 := { s with red := { s.red with partner := l } }
  if l = .present then
    if s.red.own = .present then dualActive s1
    else
      let s2 := achLetGo s1
      if role s = roleReset ∧ slotB s ∧ s.red.heard ∧ s.pwr.bringClk ≠ 0 then enterSyncing s2 else s2
  else if l = .released ∧ role s = roleSyncing then syncAbort s1
  else s1

/-- R582: TOKEN_LINE_CHANGE: the own or the partner's token line takes a state, which has held for its time. -/
def execTokenLineChange (mine : Bool) (l : Line) (s : State) : Host.Outcome State Fault Refusal :=
  .next (if pairBase s then (if mine then ownLine l s else partnerLine l s) else s)

/-- R583: CLOCK_STOP: the supervisor clamps the token; nothing is dispatched any more. -/
def execClockStop (s : State) : Host.Outcome State Fault Refusal :=
  .next (clampToken 0x4 { s with seq := { s.seq with halted := true } })

/-! ### The Sluice (R590-R594) -/

/-- The records of a frame with a correct CRC. -/
def frameIn (f : SluFrame) (s : State) : State :=
  match f.body with
  | .heartbeat b => heartbeatIn true b (pmcInc 170 s)
  | .safety b => safReceive b s
  | .nak q => resend q s
  | .lines l => if listening s then countFrame f l [] s else s
  | .engine l => if listening s then countFrame f [] l s else s
  | .final w => if listening s then countFrame f [] [] { s with slu := { s.slu with final := some w } } else s
  | .commit lines engines frames next dig clk =>
    if listening s then commitFrame f lines engines frames next clk dig s else s

/-- R591: SLUICE_FRAME_RX on lane `lane`. -/
def execSluiceFrameRx (lane : Fin 2) (f : SluFrame) (s : State) : Host.Outcome State Fault Refusal :=
  .next (if pairBase s ∧ flag s Reg.redState (16 + lane) then
    let s1 := pmcInc (162 + lane) s
    if f.crcOk then frameIn f s1 else frameBad f s1
  else s)

/-- R590: SLUICE_LANE: a lane goes down. -/
def execSluiceLane (lane : Fin 2) (s : State) : Host.Outcome State Fault Refusal :=
  .next (if flag s Reg.redState (16 + lane) then s |> setFlag Reg.redState (16 + lane) false |> raise_ 0x15 14 else s)

/-- R590: SLUICE_LANE_UP: the Sluice runs only in a QPB-4882 base. -/
def execSluiceLaneUp (lane : Fin 2) (s : State) : Host.Outcome State Fault Refusal :=
  .next (if pairBase s then setFlag Reg.redState (16 + lane) true s else s)

/-! ### Takeover (R588, R598-R601) -/

/-- The present slot is the first of a minor cycle (R84). -/
def atMinor (s : State) : Bool := s.tbu.slot % 512 == 0

/-- R588: does a STANDBY module take over at this boundary. -/
def takesOver (s : State) : Bool :=
  atMinor s && role s == roleStandby && decide (2 ≤ (lanesIn s).length)
    && (s.red.partner == .released || (s.red.partner == .absent && fld s Reg.redState 10 9 == 2))

/-- The bank whose Sheaf has a digest that begins with these bytes. -/
def bankOfDig (s : State) (d : List Nat) : Option Nat := [0, 1].find? (fun b => (sheafDigest s b).take 8 == d)

/-- R598, R692: a Sheaf of its own is activated at the takeover boundary. -/
def takeoverSheaf (s : State) : State :=
  match s.active with
  | some b =>
    if s.slu.due.isSome then activateSheaf s.slu.due b { s with slu := { s.slu with due := none } }
    else if flag s Reg.redState 18 then activateSheaf (bankOfDig s s.slu.dig) b s
    else s
  | none => s

/-- R600: outputs at the takeover boundary, from the FINAL_OUTPUT record or from the copy. -/
def takeoverOutputs (final : Option (List Nat)) (s : State) : State :=
  let s1 := achTakeover (final.map (fun l => (l.take 32).map (fun w => w % 2 ^ 18))) s
  { s1 with dio := { s1.dio with
      connected := true
      cmd := match final with
        | some l => l.getD 32 0 + l.getD 33 0 <<< 32
        | none => s1.dio.cmd } }

/-- R588, R599-R601: the takeover. -/
def takeover (s : State) : State :=
  let stale := flag s Reg.sysRole 8
  let announced := s.red.partner == .released
  let final := if s.slu.final.isSome then s.slu.final else s.red.final
  let cause := if announced then (if s.red.reason = 0 then 0xF else s.red.reason) else 0xA
  let s1 := { s with
    red := { s.red with
      own := .present, clamped := false, final := none, swap := none, reason := 0, absentRun := 0, silentRun := 0
      planned := if cause = 1 ∨ cause = 2 ∨ 5 ≤ cause ∧ cause ≤ 8 then some s.tbu.gen else none, byHandback := cause == 2 }
    img := { s.img with gen := s.tbu.gen } }
  dropCopy (seqRestart 2 s1)
    |> takeRole (if flag s Reg.redPartner 8 then roleActive else roleSolo)
    |> wr Reg.redSwitchCause (2 ^ 31 + b2n stale <<< 29 + b2n final.isSome <<< 28 + cause)
    |> wideSet Reg.redSwitchGenLo s.tbu.gen |> bump Reg.redCntTakeover 1 |> raise_ 0x15 0 |> pmcInc 174
    |> takeoverOutputs final |> cleTakeover stale |> slvTakeover |> synTakeover |> takeoverSheaf |> mbcService
    |> setStale false |> setLaneMode |> swapDueCheck

/-- R588: TAKEOVER. -/
def execTakeover (s : State) : Host.Outcome State Fault Refusal := .next (if takesOver s then withLines takeover s else s)

/-- R606: SYNC_DONE, at a minor-cycle boundary. -/
def execSyncDone (s : State) : Host.Outcome State Fault Refusal :=
  .next (if atMinor s ∧ role s = roleSyncing ∧ s.red.passDone ∧ s.saf.current ∧ 2 ≤ (lanesIn s).length ∧ s.red.barred = false then
    s |> takeRole roleStandby |> raise_ 0x15 7 else s)

/-! ### Planned swaps (R602) -/

/-- R591: the words of a FINAL_OUTPUT record: DRIVEN and DAC codes of AC00-AC31, OUT_LO, OUT_HI. -/
def finalWords (s : State) : List Nat :=
  (List.range 32).map (fun n => b2n (achIsOut s n && (ach s n).connected) <<< 31 + (ach s n).code % 2 ^ 18)
    ++ [dioOut s % 2 ^ 32, dioOut s / 2 ^ 32]

/-- R602 steps 1 and 2: PLANNED_SWAP_BOUNDARY. A request whose partner is no longer available does not proceed. -/
def execPlannedSwapBoundary (s : State) : Host.Outcome State Fault Refusal :=
  .next (match s.red.swap with
    | some ⟨w, 0⟩ =>
      if atMinor s = false then s
      else if role s = roleActive ∧ swapPartnerOk s w then
        sendCopy (some (finalWords s)) { s with seq := { s.seq with halted := true }, red := { s.red with swap := some ⟨w, 1⟩ } }
      else { s with red := { s.red with swap := none } }
    | _ => s)

/-- R602, R581: what the module does after it gave up the role. -/
def afterSwap (w : SwapWhy) (s : State) : State :=
  let s1 := leaveRole s
  let reset (src : Nat) : State := { takeRole roleReset s1 with pwr := { s1.pwr with order := some ⟨src, false, true⟩ } }
  match w with
  | .hold =>
    takeRole roleHold { s1 with seq := { s1.seq with sched := 2, pos := 8, extraDone := true }, img := { s1.img with gen := s1.tbu.gen } }
  | .safety => enterSyncing { s1 with red := { s1.red with barred := true } }
  | .reset => reset 5
  | .button => reset 4
  | .wedged => reset 7
  | .swap => s1 |> setStale false |> takeRole roleStandby
  | .handback => s1 |> setStale false |> takeRole roleStandby

/-- R602 step 3: PLANNED_SWAP_RELEASE, at the end of the copy. -/
def execPlannedSwapRelease (s : State) : Host.Outcome State Fault Refusal :=
  .next (match s.red.swap with
    | some ⟨w, 1⟩ => advanceTo s.red.sendEnd s |> releaseToken (swapCode w) |> afterSwap w |> setLaneMode
    | _ => s)

/-! ### Hold (R607) -/

/-- R607: a HOLD order; UNPROTECTED was judged when it was written. -/
def holdOrder (s : State) : State :=
  if role s = roleActive ∧ availableStandby s then requestSwap .hold s else { s with red := { s.red with holdPending := true } }

/-- R607: a HOLD order takes effect at a minor-cycle boundary. -/
def holdBoundary (s : State) : State :=
  if s.red.holdPending then
    let s1 := { s with red := { s.red with holdPending := false } }
    if role s = roleActive ∧ availableStandby s then requestSwap .hold s1
    else if driving s ∧ role s ≠ roleHold then s1 |> setFlag Reg.redState 13 true |> takeRole roleHold |> setLaneMode
    else if role s = roleStandby ∨ role s = roleSyncing then afterSwap .hold s1 |> setLaneMode
    else s1
  else s

/-- R607: RESUME leaves HOLD. -/
def resume (s : State) : State :=
  if role s = roleHold then
    if flag s Reg.redState 13 then
      setFlag Reg.redState 13 false s |> takeRole (if pairBase s ∧ flag s Reg.redPartner 8 then roleActive else roleSolo)
        |> setLaneMode
    else enterSyncing s
  else s

/-- R604: CLR_LATENT. -/
def clrLatent (s : State) : State := s |> setFlag Reg.redState 12 false |> wr Reg.redLatent 0

/-- R603: IDLE_HOUR: a powered hour has passed. -/
def execIdleHour (s : State) : Host.Outcome State Fault Refusal :=
  let h := fld s Reg.redIdle 20 16 + 1
  let d := fld s Reg.redIdle 15 0
  .next (swapDueCheck (if driving s then wr Reg.redIdle 0 s
    else if h < 24 then wr Reg.redIdle (h <<< 16 + d) s
    else wr Reg.redIdle (min 65535 (d + 1)) s))

/-- R608: LANE_C_ENGINE_TEST: lane C's self-test of its engines fails while it shadows. -/
def execLaneCEngineTest (s : State) : Host.Outcome State Fault Refusal :=
  .next (if laneState s 2 = 2 then laneFault 2 s else s)

/-- R608: lane l holds a word of the copy set that differs from the others. -/
def laneDiffers (s : State) (l : Nat) : Bool :=
  s.img.laneDiff.any (fun e => e.1 / 524288 == l && e.2.isSome && s.img.copySet.contains (e.1 % 262144 / 16)
    && e.1 % 524288 / 262144 == lineDone s (e.1 % 262144 / 16))

/-- R608: the comparison of a boundary: lane C while it shadows, every lane of a module that applies copies. -/
def laneCompare (s : State) : State :=
  if laneMode s = 1 ∧ laneState s 2 = 2 then pmcInc 172 (if laneDiffers s 2 then laneFault 2 s else s)
  else if listening s then
    each ((List.range 3).filter (fun l => laneState s l == 1 && laneDiffers s l && l != lowLane s)) laneFault s
  else s

/-- R580, R586, R602-R608: what the pair does at a minor-cycle boundary besides a takeover: the HOLD order, the comparison of
lanes, the store of the next copy, the heartbeat. -/
def redMinor (s : State) : State :=
  let s1 := laneCompare (holdBoundary s)
  let s2 := if role s1 = roleStandby ∧ (lanesIn s1).length < 2 then enterSyncing s1 else s1
  let s3 := storeTake { s2 with red := { s2.red with copyStarted := false, copyCame := false, checked := false } }
  swapDueCheck (sendHeartbeat false s3)

end Sys2Proof.Machine
end

