-- ==== Sys2Proof/Machine/Upd.lean ====
section
/-! DEFINITION. The update path (R684-R692): what a write of UPD.CTRL does, the staging window, and the checks, bank writes,
preloads and activations that follow. -/

namespace Sys2Proof.Machine

/-! ### Commands (R686, R689) -/

/-- R689: the refusal code of a command, by OP, from a session; 0 when the path accepts it. -/
def updRefusal (s : State) (sess op : Nat) : Nat :=
  let p := updPhase s
  if op = 1 then (if p = 0 then 0 else 1)
  else if p = 0 then
    (if op = 6 ∧ s.tbu.slot = 0 ∧ s.upd.actAt = some (s.tbu.gen, sess) then 3 else 2)
  else if sess ≠ updOwner s then 1
  else if op = 6 ∨ (op = 2 ∧ p = 1) ∨ (op = 3 ∧ p = 3) ∨ ((op = 4 ∨ op = 5) ∧ p = 5) then 0
  else 2

/-- R689: a command is refused. -/
def updRefuse (op code : Nat) (s : State) : State :=
  s |> wr Reg.updRefused (op <<< 8 + code) |> bump Reg.updCntRefused 1 |> raise_ 0x19 7

/-- R684: the bank that an update of a target writes. -/
def updWriteBank (s : State) (target : Nat) : Nat :=
  1 - (if target = 0 then fld s Reg.sysSheafBank 0 0 else progUse s (target - 1))

/-- UPD.STATE.PHASE takes a value. -/
def setPhase (p : Nat) (s : State) : State := setFld Reg.updState 3 0 p s

/-- R686: BEGIN. -/
def updBegin (sess target : Nat) (s : State) : State :=
  { eraseBank 2 s with upd := { s.upd with oldNext := none, wrote := false } }
    |> wr Reg.updState (sess <<< 16 + updWriteBank s target <<< 12 + target <<< 8 + 1) |> wr Reg.updStagedLen 0

/-- R686: CHECK. -/
def updCheck (s : State) : State := s |> setPhase 2 |> bump Reg.updCntChecks 1

/-- R686: PROGRAM: the target bank is EMPTY from here on. -/
def updProgram (s : State) : State :=
  setPhase 4 (setBankState (updTarget s) (updBank s) 0 { s with upd := { s.upd with wrote := true } })

/-- R686: ACTIVATE_RESET: NEXT names the target bank. -/
def updArmReset (s : State) : State :=
  { s with upd := { s.upd with oldNext := some (rd s Reg.updNext) } }
    |> setNextBank (updTarget s) (updBank s) |> setPhase 7 |> raise_ 0x19 5

/-- R690: ACTIVATE_AT: preload, or armed for reset where the safety digest differs (R164) or no Sheaf is in force. -/
def updActivateAt (s : State) : State :=
  let reset := match s.active with
    | some b => updTarget s == 0 && safDigest s b != safDigest s (updBank s)
    | none => true
  if reset then updArmReset s else setFlag Reg.updState 4 false (setPhase 6 s)

/-- R686, R689: a command of UPD.CTRL that its session may give. -/
def updCommand (sess v : Nat) (s : State) : State :=
  match v % 16 with
  | 1 => updBegin sess (bitsOf v 11 8) s
  | 2 => updCheck s
  | 3 => updProgram s
  | 4 => updActivateAt s
  | 5 => updArmReset s
  | 6 => updAbort s
  | _ => s

/-- R686: the owner writes a word of the staging window at byte offset `off`. -/
def stagingWrite (off v : Nat) (s : State) : State :=
  let s1 := { s with sheaf := tabSet (fun _ => (0 : Word)) s.sheaf (2 * 2097152 + off / 4) (BitVec.ofNat 32 v) }
  if rd s Reg.updStagedLen < off + 4 then wr Reg.updStagedLen (off + 4) s1 else s1

/-! ### Check and programming (R686-R688) -/

/-- The report of a rejected Sheaf or image (R159, R654). -/
def reportReject (r : Reject) (s : State) : State :=
  s |> wr Reg.updReject (r.section_ <<< 8 + r.cause) |> wr Reg.updRejectIndex r.index |> bump Reg.updCntRejects 1
    |> fixedRec 0x103 0x1900 r.cause [snapWord r.cause, snapWord r.section_, snapWord r.index] [] |> raise_ 0x19 1

/-- R688: the check of what is staged. -/
def stagedCheck (s : State) : Option Reject :=
  if updTarget s = 0 then loadCheck s 2 (rd s Reg.updStagedLen) else progCheck s 2 (rd s Reg.updStagedLen) (updTarget s - 1)

/-- R686: UPD_CHECK_DONE. -/
def execUpdCheckDone (s : State) : Host.Outcome State Fault Refusal :=
  .next (if updPhase s = 2 then
    let s1 := pmcInc 223 s
    match stagedCheck s with
    | none => s1 |> setPhase 3 |> raise_ 0x19 0
    | some r => s1 |> updIdle |> reportReject r
  else s)

/-- Copy the staging buffer into a physical bank. -/
def copyBank (dst : Nat) (s : State) : State :=
  let words := s.sheaf.filter (fun e => e.1 / 2097152 = 2)
  each words (fun e t =>
    { t with sheaf := tabSet (fun _ => (0 : Word)) t.sheaf (dst * 2097152 + e.1 % 2097152) e.2 }) (eraseBank dst s)

/-- R687: UPD_PROGRAM_DONE: written and read back, or not. -/
def execUpdProgramDone (ok : Bool) (s : State) : Host.Outcome State Fault Refusal :=
  .next (if updPhase s = 4 then
    if ok then
      copyBank (targetBank (updTarget s) (updBank s)) s |> setBankState (updTarget s) (updBank s) 1 |> setPhase 5 |> raise_ 0x19 2
    else updIdle s |> bump Reg.updCntActFail 1 |> raise_ 0x19 4
  else s)

/-! ### Activation (R690-R692) -/

/-- R690: PRELOAD_DONE. -/
def execPreloadDone (ok : Bool) (s : State) : Host.Outcome State Fault Refusal :=
  .next (if updPhase s = 6 then
    if ok then setFlag Reg.updState 4 true s
    else s |> setBankState (updTarget s) (updBank s) 0 |> updIdle |> bump Reg.updCntActFail 1 |> raise_ 0x19 4
  else s)

/-- AT_GEN. -/
def updAtGen (s : State) : Nat := rd s Reg.updAtGenLo + rd s Reg.updAtGenHi <<< 32

/-- R692: on a STANDBY or SYNCING module the Sheaf changes now, and its run-time effects wait for the takeover. -/
def activateWaiting (b : Nat) (s : State) : State :=
  let due := if s.slu.due.isSome then s.slu.due else s.active
  let s1 := showSheaf b { s with slu := { s.slu with due := due } }
  let own := leBytes 4 (rd s1 (Reg.sysSheafDig 0)) ++ leBytes 4 (rd s1 (Reg.sysSheafDig 1))
  joinGroups (setFlag Reg.redState 18 (s1.slu.dig != [] && s1.slu.dig != own) s1)

/-- R690: a program stops, changes bank and starts again. -/
def activateProg (p b : Nat) (s : State) : State :=
  let s1 := progEnd p 1 s
  progStart p (putProg p { prog s1 p with stops := [], newImage := true, fresh := none } (progLoad p b s1))

/-- R690: SHEAF_ACTIVATE: the first major-cycle boundary at or after AT_GEN with the preload complete. -/
def execSheafActivate (s : State) : Host.Outcome State Fault Refusal :=
  .next (if updPhase s = 6 ∧ flag s Reg.updState 4 ∧ s.tbu.slot = 0 ∧ updAtGen s ≤ s.tbu.gen then
    let t := updTarget s
    let b := updBank s
    let s1 := s |> setBankState t b 2 |> setNextBank t b
    let s2 := if t = 0 then (if listening s then activateWaiting b s1 else activateSheaf s.active b s1) else activateProg (t - 1) b s1
    { updIdle s2 with upd := { oldNext := none, wrote := false, actAt := some (s.tbu.gen, updOwner s) } }
      |> wideSet Reg.updActGenLo s.tbu.gen |> bump Reg.updCntActivations 1 |> raise_ 0x19 3
  else s)

/-- R691: a newly named program image fails: the other bank is taken. -/
def progFallBack (p : Nat) (load : Bool) (s : State) : State :=
  let bad := progUse s p
  let s1 := s |> progEnd p 1 |> setBankState (p + 1) bad 0 |> setNextBank (p + 1) (1 - bad)
  let s2 := putProg p { prog s1 p with stops := [], newImage := false, fresh := none } s1
  let s3 := progLoad p (1 - bad) (s2 |> bump Reg.updCntActFail 1 |> raise_ 0x19 4)
  progStart p (if load then setFld (Reg.mgtProgState p) 7 4 4 s3 else s3)

/-- R691: PROG_ACTIVATION_FAIL: the newly named image of program p fails to load, or has reached FAILED within 60 s of its first
start. -/
def execProgActivationFail (p : Fin 4) (load : Bool) (s : State) : Host.Outcome State Fault Refusal :=
  let young : Bool := match (prog s p).fresh with
    | some c => decide (s.now - c ≤ 12000000000)
    | none => false
  .next (if (prog s p).newImage ∧ (load ∨ (progState s p = 4 ∧ young)) then progFallBack p load s else s)

/-- R677: PROG_RESTART, 100 ms after the stop. -/
def execProgRestart (p : Fin 4) (s : State) : Host.Outcome State Fault Refusal :=
  .next (match (prog s p).restartAt with
    | some c => progStart p (putProg p { prog s p with restartAt := none } (advanceTo c s))
    | none => s)

end Sys2Proof.Machine
end

