-- ==== Sys2Proof/Machine/Panel.lean ====
section
/-! DEFINITION. What the bistable panel draws (R700-R706): fonts, texts, image words, and the system texts. -/

namespace Sys2Proof.Machine

/-! ### Characters -/

/-- The codes of the characters of a text. -/
def chars (t : String) : List Nat := t.toList.map Char.toNat

/-- Digits of a number in a base, most significant first. -/
def digitsIn (base : Nat) : Nat → Nat → List Nat
  | 0, _ => []
  | k + 1, n => if n < base then [n] else digitsIn base k (n / base) ++ [n % base]

/-- The character of a digit. -/
def digitChar (d : Nat) : Nat := if d < 10 then 48 + d else 55 + d

/-- A number in decimal, and in hexadecimal. -/
def decChars (n : Nat) : List Nat := (digitsIn 10 64 n).map digitChar
def hexChars (n : Nat) : List Nat := (digitsIn 16 64 n).map digitChar

/-- A signed number with k decimals, `n` counting units of the last one. -/
def fixedChars (n : Int) (k : Nat) : List Nat :=
  let d := (digitsIn 10 64 n.natAbs).map digitChar
  let d1 := List.replicate (k + 1 - d.length) 48 ++ d
  (if n < 0 then [45] else []) ++ d1.take (d1.length - k) ++ (if k = 0 then [] else 46 :: d1.drop (d1.length - k))

/-- R19: the name of a tag. -/
def tagName : Tag → List Nat
  | .good => chars "GOOD" | .held => chars "HELD" | .subst => chars "SUBST" | .degraded => chars "DEGRADED"
  | .limited => chars "LIMITED" | .init => chars "INIT" | .bad => chars "BAD"

/-- R76: the name of a role. -/
def roleName (r : Nat) : List Nat :=
  match r with
  | 0 => chars "RESET" | 1 => chars "SYNCING" | 2 => chars "STANDBY" | 3 => chars "ACTIVE" | 4 => chars "SOLO" | _ => chars "HOLD"

/-- R702, R703: an image word in `width` characters: hyphens where it is not usable (R353), "#" where it does not fit. -/
def wordChars (fmt width : Nat) (c : ICell) : List Nat :=
  let x := fOfBits f32 c.val.toNat
  let usable := c.tag != .bad && c.tag != .init && (fmt == 0 || 6 < fmt || x.isFin) && decide (fmt ≤ 8)
  let t := if fmt = 0 then fixedChars (signedOf 32 c.val.toNat) 0
    else if fmt ≤ 6 then fixedChars (roundHalfUp (fRat0 x * (10 ^ (fmt - 1) : Nat))) (fmt - 1)
    else if fmt = 7 then hexChars c.val.toNat
    else tagName c.tag
  if !usable then List.replicate width 45
  else if width < t.length then List.replicate width 35
  else List.replicate (width - t.length) 32 ++ t

/-! ### Fonts -/

/-- Offset of the header of font f, 1-7, in part 0x0E02 of the active Sheaf. -/
def fontHdr (f : Nat) : Nat := 4 + 8 * (f - 1)

/-- n bytes at an offset of a byte-block part of the active Sheaf. -/
def blockNat (s : State) (id off n : Nat) : Nat := leNat (cfgBlock s id off n)

/-- Width and height of a font. -/
def fontSize (s : State) (f : Nat) : Nat × Nat :=
  if f = 0 then (8, 12) else (blockNat s 0x0E02 (fontHdr f) 1, blockNat s 0x0E02 (fontHdr f + 1) 1)

/-- Is a pixel of a glyph inked (R702): glyphs row by row, one bit a pixel, from bit 0 of their first byte on. -/
def glyphBit (s : State) (f ch row col : Nat) : Bool :=
  if f = 0 then Config.font0 ch row col
  else
    let h := fontHdr f
    let first := blockNat s 0x0E02 (h + 2) 1
    let size := fontSize s f
    let i := row * size.1 + col
    decide (first ≤ ch) && decide (ch < first + blockNat s 0x0E02 (h + 3) 1)
      && bitOf (blockNat s 0x0E02 (blockNat s 0x0E02 (h + 4) 4 + (ch - first) * ((size.1 * size.2 + 7) / 8) + i / 8) 1) (i % 8)

/-! ### Drawing (R702, R703) -/

/-- The pen of a text. -/
structure Pen where
  x : Nat := 0
  y : Nat := 0
  font : Nat := 0
  ink : Nat := 3
deriving DecidableEq, Repr

/-- X, Y, W and H of a region; 4 is the whole panel. -/
def regionRect (s : State) (r : Nat) : Nat × Nat × Nat × Nat :=
  if r = 4 then (0, 0, 240, 120)
  else
    let v := rd s (Reg.fpdRegionRect r)
    (bitsOf v 31 24, bitsOf v 23 16, bitsOf v 15 8, bitsOf v 7 0)

/-- Set a pixel of the next image, within the panel and outside the marker strip (R701). -/
def setPixel (x y v : Nat) (t : Tab Nat) : Tab Nat :=
  if x < 240 ∧ y < 120 ∧ inMarker x y = false then tabSet (fun _ => (0 : Nat)) t (240 * y + x) (v % 4) else t

/-- The places of a rectangle of w by h, row by row. -/
def places (w h : Nat) : List (Nat × Nat) := (List.range h).flatMap (fun y => (List.range w).map (fun x => (x, y)))

/-- R703: draw one character at the pen, clipped to the region, and advance the pen. -/
def drawChar (s : State) (r : Nat × Nat × Nat × Nat) (ch : Nat) (p : Pen × Tab Nat) : Pen × Tab Nat :=
  let size := fontSize s p.1.font
  let on := (places size.1 size.2).filter (fun q =>
    glyphBit s p.1.font ch q.2 q.1 && decide (p.1.x + q.1 < r.2.2.1) && decide (p.1.y + q.2 < r.2.2.2))
  (⟨p.1.x + size.1, p.1.y, p.1.font, p.1.ink⟩,
   on.foldl (fun t q => setPixel (r.1 + p.1.x + q.1) (r.2.1 + p.1.y + q.2) p.1.ink t) p.2)

/-- Draw characters. -/
def drawChars (s : State) (r : Nat × Nat × Nat × Nat) (l : List Nat) (p : Pen × Tab Nat) : Pen × Tab Nat :=
  l.foldl (fun q ch => drawChar s r ch q) p

/-- The characters of SYS.LABEL0-7. -/
def labelChars (s : State) : List Nat :=
  ((List.range 8).flatMap (fun k => leBytes 4 (rd s (Reg.sysLabel k)))).takeWhile (fun c => c != 0)

/-- LAST_FAULT as page mnemonic and event bit. -/
def faultChars (s : State) : List Nat :=
  (leBytes 4 (pageId (s.fpd.lastFault / 256))).take 3 ++ 46 :: decChars (s.fpd.lastFault % 16)

/-- The serial number in 16 hexadecimal digits. -/
def serialChars (s : State) : List Nat :=
  let h := hexChars (serialNo s)
  List.replicate (16 - h.length) 48 ++ h

/-- R702: draw a text record. -/
def drawText (s : State) (r : Nat × Nat × Nat × Nat) : Nat → List Nat → Pen × Tab Nat → Pen × Tab Nat
  | 0, _, p => p
  | n + 1, l, p =>
    match l with
    | [] => p
    | 0x00 :: _ => p
    | 0x01 :: t => drawText s r n (t.drop 2) (⟨t.getD 0 0, t.getD 1 0, p.1.font, p.1.ink⟩, p.2)
    | 0x02 :: t => drawText s r n (t.drop 1) (⟨p.1.x, p.1.y, t.getD 0 0, p.1.ink⟩, p.2)
    | 0x03 :: t => drawText s r n (t.drop 1) (⟨p.1.x, p.1.y, p.1.font, t.getD 0 0⟩, p.2)
    | 0x10 :: t =>
      drawText s r n (t.drop 6) (drawChars s r (wordChars (t.getD 4 0) (t.getD 5 0) (imgHost s (leNat (t.take 4) % imgWords))) p)
    | 0x11 :: t => drawText s r n t (drawChars s r (labelChars s) p)
    | 0x12 :: t => drawText s r n t (drawChars s r (decChars (fld s Reg.sysStation 10 0)) p)
    | 0x13 :: t => drawText s r n t (drawChars s r (roleName (role s)) p)
    | 0x14 :: t => drawText s r n t (drawChars s r (serialChars s) p)
    | 0x15 :: t => drawText s r n t (drawChars s r (faultChars s) p)
    | c :: t => drawText s r n t (drawChar s r c p)

/-- Fill a rectangle of the next image with level 0. -/
def fillRect (r : Nat × Nat × Nat × Nat) (t : Tab Nat) : Tab Nat :=
  (places r.2.2.1 r.2.2.2).foldl (fun u q => setPixel (r.1 + q.1) (r.2.1 + q.2) 0 u) t

/-- The bytes of text record i of part 0x0E01, from its offset to the end of the block. -/
def textBytes (s : State) (i : Nat) : List Nat :=
  match cfgPart s 0x0E01 with
  | some p => let o := blockNat s 0x0E01 (4 + 4 * i) 4; cfgBlock s 0x0E01 o (p.count - o)
  | none => []

/-- R710: the lines of the NO_SHEAF image: serial number, issue letters, "NO SHEAF", SP address (R630). -/
def noSheafLines (s : State) : List (List Nat) :=
  let iss := (leBytes 2 (rd s Reg.sysHwissue % 65536)).filter (fun c => c != 0)
  [serialChars s, iss, chars "NO SHEAF",
   chars (if fld s Reg.sysStation 14 13 = 2 ∧ slotB s then "192.168.58.31" else "192.168.58.30")]

/-- R702, R706, R711: the text that an update of region r draws; none when it shows the next image as it stands. -/
def regionText (s : State) (r : Nat) : Option (List Nat) :=
  let src := rd s (Reg.fpdRegionSrc r)
  if s.fpd.sysText ≠ 0 ∧ r = fld s Reg.fpdFpCfg 17 16 then
    some (if s.fpd.sysText = 1 then chars "press again to reset unprotected" else textBytes s (fld s Reg.fpdFpCfg 15 0))
  else if bitOf src 31 then some (textBytes s (bitsOf src 15 0))
  else none

/-- R706: draw what an update of region r draws at its start. -/
def drawRegion (r : Nat) (s : State) : State :=
  let rect := regionRect s r
  if r = 4 then
    let lines := (List.range 4).zip (noSheafLines s)
    { s with fpd := { s.fpd with next := lines.foldl (fun t q =>
        (drawChars s rect q.2 (⟨(Config.noSheafPen q.1).1, (Config.noSheafPen q.1).2, 0, 3⟩, t)).2) (fillRect rect s.fpd.next) } }
  else match regionText s r with
    | some b => { s with fpd := { s.fpd with next := (drawText s rect (b.length + 1) b ({}, fillRect rect s.fpd.next)).2 } }
    | none => s

end Sys2Proof.Machine
end

