-- ==== Sys2Proof/Machine/Fpd.lean ====
section
/-! DEFINITION. The faceplate (R696-R713): status LEDs, the composition of the segment LCD, and the panel's requests, updates,
marker and power sequence. -/

namespace Sys2Proof.Machine

/-! ### Status LEDs (R696) -/

/-- What a status LED shows. -/
inductive Led where
  | off | green | greenFlash | amber | amberFlash | red | redFlash
  /-- flashing at 2 Hz under SYS.CTRL.IDENTIFY (R77) -/
  | identify
deriving DecidableEq, Repr

/-- R696: the SUPPLY LED; the shutdown phase, which both inputs may be absent in, shows red (log entry 96). -/
def ledSupply (s : State) : Led :=
  let st := rd s (Reg.stat 0x01)
  let cfg := rd s Reg.pwrCfg
  if fld s Reg.sysService 1 0 = 2 then .red
  else if bitOf st 0 = false ∧ bitOf st 1 = false then .off
  else if (bitOf cfg 0 && !bitOf st 0) || (bitOf cfg 1 && !bitOf st 1) || bitOf st 4 then .amber
  else .green

/-- R696: the ROLE LED. -/
def ledRole (s : State) : Led :=
  if noSheaf s then .off
  else match role s with
    | 0 => .off | 1 => .amberFlash | 2 => .amber | 3 => .green | 4 => .greenFlash | _ => .red

/-- R696: the HEALTH LED. -/
def ledHealth (s : State) : Led :=
  if flag s Reg.redState 3 then .redFlash
  else if sevMax s = 3 then .red
  else if sevMax s = 2 then .amber
  else .green

/-- R696: the SAFETY LED. -/
def ledSafety (s : State) : Led :=
  match s.saf.unit with
  | 0 => .off | 1 => .off | 3 => .red | 4 => .red
  | _ =>
    if (List.range 2).any (fun n => (brake s n).locked || (brake s n).due)
        || (List.range 8).any (fun g => grpOn s g && bitOf s.saf.latch g) then .amber
    else if (List.range 8).all (fun g => !grpOn s g || grpPermit s g) then .green
    else .off

/-- R696, R77: the four LEDs: SUPPLY, ROLE, HEALTH, SAFETY. -/
def leds (s : State) : List Led :=
  match s.pwr.identify with
  | some c => if s.now < c then List.replicate 4 .identify else [ledSupply s, ledRole s, ledHealth s, ledSafety s]
  | none => [ledSupply s, ledRole s, ledHealth s, ledSafety s]

/-! ### The segment LCD (R697-R699) -/

/-- The segments a-g of a decimal digit, bit 0 segment a (log entry 37). -/
def segments (d : Nat) : Nat := [0x3F, 0x06, 0x5B, 0x4F, 0x66, 0x6D, 0x7D, 0x07, 0x7F, 0x6F].getD d 0

/-- Four digits of a number with leading blanks, digit 0 in the low byte; at least `least` digits are shown. -/
def fourDigits (least n : Nat) : Nat :=
  let d := (digitsIn 10 4 (n % 10000)).map segments
  let d1 := List.replicate (least - d.length) (segments 0) ++ d
  leNat (List.replicate (4 - d1.length) 0 ++ d1)

/-- Pending events of severity alarm or fault, over all pages. -/
def alarmCount (s : State) : Nat :=
  livePages.foldl (fun m p => m + ((List.range 16).filter (fun k => bitOf (evtPend s p) k && decide (2 ≤ severity s p k))).length) 0

/-- Is an event of a severity pending. -/
def sevPending (s : State) (v : Nat) : Bool :=
  livePages.any (fun p => (List.range 16).any (fun k => bitOf (evtPend s p) k && severity s p k == v))

/-- R699: the annunciators, bit k. -/
def annunciators (s : State) : Nat :=
  let st (p : Nat) : Nat := peek s (Reg.stat p)
  let r := role s
  let bs := fld s Reg.tbuBusState 1 0
  let l : List Bool := [r == 3, r == 2, r == 4, r == 1, r == 5, flag s Reg.sysRole 8, bs == 2, bs == 0, bs == 3, bs == 1,
    laneState s 0 == 1, laneState s 1 == 1, laneState s 2 == 1,
    (match s.seq.lateClk with | some c => decide (s.now - c ≤ 2000000000) | none => false),
    slipping s, flag s Reg.redState 3, sevPending s 2, sevPending s 3, bitOf (st 0x0D) 1, bitOf (st 0x0D) 2,
    fld s Reg.tbuShipState 1 0 == 1, linkBit s 0 0, linkBit s 1 0, fld s Reg.redState 17 16 == 3,
    fld s Reg.sysService 1 0 == 0 && fld s Reg.rstState 3 0 == 3, noSheaf s, flag s Reg.redState 11, s.grn.freeze.isSome,
    flag s Reg.rstButton 1, s.saf.stuck != 0, bitOf (rd s (Reg.stat 0)) 5, bitOf (st 0x01) 4]
  (List.range 32).foldl (fun m k => m + b2n (l.getD k false) <<< k) 0

/-- R699: the frame memory that the module composes. -/
def lcdCompose (s : State) : State :=
  let freq := fourDigits 3 ((rd s Reg.tbuFreq + 5) / 10) ||| 2 ^ 15
  s |> wr (Reg.fpdLcdFrame 0) (fourDigits 1 (fld s Reg.sysStation 10 0)) |> wr (Reg.fpdLcdFrame 1) (fourDigits 1 (min 9999 (alarmCount s)))
    |> wr (Reg.fpdLcdFrame 2) freq |> wr (Reg.fpdLcdFrame 3) (annunciators s)

/-- R699: in AUTO the module composes the frame memory; the 250 ms start again. -/
def lcdRefresh (s : State) : State :=
  let s1 := { s with fpd := { s.fpd with lcdClk := s.now } }
  if flag s Reg.fpdLcdCfg 0 then s1 else lcdCompose s1

/-- R699: LCD_AUTO_COMPOSE: 250 ms have passed without an FPD_REFRESH of the LCD. -/
def execLcdAutoCompose (s : State) : Host.Outcome State Fault Refusal := .next (lcdRefresh (advanceTo (s.fpd.lcdClk + 50000000) s))

/-- R698: LCD_FRAME: the frame memory is scanned. -/
def execLcdFrame (s : State) : Host.Outcome State Fault Refusal :=
  .next (pmcInc 220 (emit (.lcd ((List.range 4).foldl (fun m k => m + rd s (Reg.fpdLcdFrame k) <<< (32 * k)) 0)) s))

/-! ### Requests and updates of the panel (R705-R708) -/

/-- Two rectangles overlap. -/
def overlaps (a b : Nat × Nat × Nat × Nat) : Bool :=
  decide (a.1 < b.1 + b.2.2.1) && decide (b.1 < a.1 + a.2.2.1) && decide (a.2.1 < b.2.1 + b.2.2.2)
    && decide (b.2.1 < a.2.1 + a.2.2.2)

/-- R705: the conditions under which a request of region r starts. -/
def mayStart (s : State) (r : Nat) : Bool :=
  let f := s.fpd
  f.rail == 6 && f.clearing.isNone && !f.clearDue && decide (f.updates.length < 4) && f.marker != 2
    && !f.updates.any (fun u => overlaps u.rect (regionRect s r))

/-- A request by region, and its change. -/
def pendOf (s : State) (r : Nat) : Nat := tabGet (fun _ => (0 : Nat)) s.fpd.pend r
def setPend (r v : Nat) (s : State) : State :=
  { s with fpd := { s.fpd with pend := tabSet (fun _ => (0 : Nat)) s.fpd.pend r v } }

/-- R705: region r is requested. -/
def requestRegion (r : Nat) (s : State) : State :=
  let rect := regionRect s r
  if s.fpd.railFault ∨ rect.2.2.1 = 0 ∨ rect.2.2.2 = 0 then s
  else if pendOf s r = 2 then s |> bump Reg.fpdCntReplaced 1 |> raise_ 0x1A 1
  else setPend r (if mayStart s r then 1 else 2) s

/-- R705: every region of a bit mask is requested, in region order. -/
def requestRegions (mask : Nat) (s : State) : State := each ((List.range 4).filter (bitOf mask)) requestRegion s

/-- R707: the temperature band. -/
def panelBand (s : State) : Nat :=
  let t := signedOf 16 (fld s Reg.fpdPanelTemp 15 0)
  ([-100, 0, 100, 200, 300, 400, 550].filter (fun (b : Int) => decide (b ≤ t))).length

/-- R700: the pixels of a rectangle outside the marker strip. -/
def rectPixels (r : Nat × Nat × Nat × Nat) : List (Nat × Nat) :=
  ((places r.2.2.1 r.2.2.2).map (fun q => (r.1 + q.1, r.2.1 + q.2))).filter (fun q =>
    decide (q.1 < 240) && decide (q.2 < 120) && !inMarker q.1 q.2)

/-- R707: frames of the waveform from one level to another. -/
def waveLen (band a b : Nat) : Nat := if a = b then 0 else min 64 (Config.panelWave band a b)

/-- R706, R707: an update of region r starts. -/
def startUpdate (r : Nat) (s : State) : State :=
  let band := panelBand s
  let s1 := drawRegion r s
  let rect := regionRect s1 r
  let target := (rectPixels rect).map (fun q => (240 * q.2 + q.1, pixel s1.fpd.next q.1 q.2))
  let left := target.foldl (fun m t => max m (waveLen band (tabGet (fun _ => (0 : Nat)) s1.fpd.shown t.1) t.2)) 0
  let f := s1.fpd
  { s1 with fpd := { f with
      updates := f.updates ++ [⟨r, rect, left, target⟩], band := band
      marker := if f.marker = 3 then 1 else f.marker
      markerLeft := if f.marker = 3 then min 64 (Config.markerWave band false) else f.markerLeft } }

/-- R707: an update ends: its target is what the panel shows. -/
def endUpdate (u : PanelUpd) (s : State) : State :=
  { s with fpd := { s.fpd with shown := u.target.foldl (fun t p => tabSet (fun _ => (0 : Nat)) t p.1 p.2) s.fpd.shown } }
    |> bump Reg.fpdCntUpdates 1 |> pmcInc 221

/-- Updates without a frame left end. -/
def endUpdates (s : State) : State :=
  each (s.fpd.updates.filter (fun u => u.left == 0)) endUpdate
    { s with fpd := { s.fpd with updates := s.fpd.updates.filter (fun u => u.left != 0) } }

/-- R705: requests start, in region order, or wait. -/
def startPending (s : State) : State :=
  endUpdates (each [0, 1, 2, 3, 4] (fun r t =>
    if pendOf t r = 0 then t
    else if mayStart t r then startUpdate r (setPend r 0 (when_ (pendOf t r == 2) (bump Reg.fpdCntWaited 1) t))
    else setPend r 2 t) s)

/-- R708: the marker advances by a frame. -/
def markerFrame (s : State) : State :=
  let f := s.fpd
  if f.marker = 1 ∨ f.marker = 2 then
    if f.markerLeft ≤ 1 then { s with fpd := { f with marker := if f.marker = 1 then 0 else 3, markerLeft := 0 } }
    else { s with fpd := { f with markerLeft := f.markerLeft - 1 } }
  else s

/-- R708: the marker is written when nothing runs or waits. -/
def markerStart (s : State) : State :=
  let f := s.fpd
  if f.rail = 6 ∧ f.updates = [] ∧ f.pend = [] ∧ f.marker = 0 ∧ f.clearing.isNone ∧ f.clearDue = false then
    { s with fpd := { f with marker := 2, markerLeft := max 1 (min 64 (Config.markerWave (panelBand s) true)) } }
  else s

/-- R709, R710: a full clear advances by a frame, and a clear that was ordered starts when nothing runs. -/
def clearFrame (s : State) : State :=
  let f := s.fpd
  match f.clearing with
  | some n =>
    if 1 < n then { s with fpd := { f with clearing := some (n - 1) } }
    else
      let s1 := { s with fpd := { f with clearing := none, clearDue := false, shown := [], marker := 0, rail := 6 } }
      if f.clearDue then requestRegions 15 s1 else s1
  | none =>
    if f.clearDue ∧ f.updates = [] ∧ f.marker ≠ 1 ∧ f.marker ≠ 2 then
      { s with fpd := { f with clearing := some (Config.clearWave (panelBand s)), band := panelBand s } }
    else s

/-- The panel is powered off, in reverse order (R709). -/
def panelOff (s : State) : State := { s with fpd := { s.fpd with rail := 0, updates := [], clearing := none } }

/-- R712: frames still needed: those of the running updates, then those of the marker. -/
def framesNeeded (s : State) : Nat :=
  s.fpd.updates.foldl (fun m u => max m u.left) 0
    + (if s.fpd.marker = 3 then 0 else if s.fpd.marker = 2 then s.fpd.markerLeft else min 64 (Config.markerWave (panelBand s) true))

/-- R712: from step 5 of the shutdown phase on, the panel finishes within its energy and its time, or stops. -/
def shutdownJudge (s : State) : State :=
  let mj := fld s Reg.pwrHoldup 31 16
  if s.fpd.rail = 0 then s
  else if s.fpd.updates = [] ∧ s.fpd.pend = [] ∧ s.fpd.marker = 3 then panelOff s
  else if mj < 40 * framesNeeded s + 50 ∨ s.pwr.shedClk + 300000000 < s.now + 4000000 then
    panelOff s |> bump Reg.fpdCntStopped 1 |> pmcInc 222 |> raise_ 0x1A 0
  else s

/-- R707: a frame of the running updates. -/
def updatesFrame (s : State) : State :=
  endUpdates { s with fpd := { s.fpd with updates := s.fpd.updates.map (fun u => { u with left := u.left - 1 }) } }

/-- R707: PANEL_FRAME, with the panel temperature in 0.1 °C and the hold-up energy estimate in mJ. -/
def execPanelFrame (temp : Int) (mj : Nat) (s : State) : Host.Outcome State Fault Refusal :=
  let s1 := s |> wr Reg.fpdPanelTemp (toSigned 16 temp) |> setFld Reg.pwrHoldup 31 16 (min 65535 mj)
  .next (if s1.fpd.rail < 5 then s1
    else
      let s2 := clearFrame (markerFrame (updatesFrame s1))
      let s3 := if s2.pwr.phase = .shed then shutdownJudge s2 else s2
      if s3.fpd.rail = 6 then markerStart (startPending s3) else s3)

/-- R705: FPD_REFRESH (0 the LCD, 1-4 panel regions 0-3). -/
def runFpdRefresh (e : Entry) (s : State) : State :=
  match e.arg0 with
  | 0 => lcdRefresh s
  | n => if n ≤ 4 then requestRegion (n - 1) s else s

/-- R136: FPD_REFRESH at position `pos`. -/
def execFpdRefresh (pos target : Nat) (s : State) : Host.Outcome State Fault Refusal :=
  .next (dispatch (fun e _ t => runFpdRefresh e t) ⟨0x33, 0x1A, target % 8, 0, 0, 0, 0, pos⟩ {} s)

/-- R710: CTRL.CLEAR. -/
def panelClear (s : State) : State :=
  if s.fpd.railFault then s else { s with fpd := { s.fpd with pend := [], clearDue := true } }

/-! ### Panel power and system texts (R709-R712) -/

/-- R709, R712, R713: the brightness of the front-light, which is on from the end of the power-on sequence to step 5 of the shutdown
phase. -/
def frontLight (s : State) : Nat := if s.fpd.rail = 6 ∧ s.pwr.phase ≠ .shed then fld s Reg.fpdFlLevel 7 0 else 0

/-- R710: the panel powers on, and the regions of `mask` (4: the NO_SHEAF image) are requested. -/
def panelOn (mask : Nat) (s : State) : State :=
  each ((List.range 5).filter (bitOf mask)) requestRegion { s with fpd := { s.fpd with rail := 1 } }

/-- R709: PANEL_RAIL_UP: the rail that was waited for lies within its window. -/
def execPanelRailUp (s : State) : Host.Outcome State Fault Refusal :=
  .next (if 1 ≤ s.fpd.rail ∧ s.fpd.rail ≤ 3 then { s with fpd := { s.fpd with rail := s.fpd.rail + 1 } }
    else if s.fpd.rail = 4 then
      { s with fpd := { s.fpd with rail := 5, clearing := some (Config.clearWave (panelBand s)), band := panelBand s } }
    else s)

/-- R709: PANEL_RAIL_FAULT: a rail misses its window. -/
def execPanelRailFault (s : State) : Host.Outcome State Fault Refusal :=
  .next (if 1 ≤ s.fpd.rail ∧ s.fpd.rail ≤ 4 then
    raise_ 0x1A 2 { panelOff s with fpd := { (panelOff s).fpd with railFault := true, pend := [], clearDue := false } }
  else s)

/-- R711: a system text stands, or ends; its region is requested. -/
def sysText (k : Nat) (s : State) : State :=
  if s.fpd.sysText = k then s
  else requestRegion (fld s Reg.fpdFpCfg 17 16) { s with fpd := { s.fpd with sysText := k } }

/-- R711, R712: the start of the shutdown phase discards pending requests and asks for the shutdown text. -/
def panelShutdown (s : State) : State :=
  let s1 := { s with fpd := { s.fpd with pend := [] } }
  if fld s Reg.fpdFpCfg 15 0 = 0xFFFF then s1 else sysText 2 s1

end Sys2Proof.Machine
end

