-- ==== Sys2Proof/Machine/Power.lean ====
section
/-! DEFINITION. Power, start-up and reset (R614-R647): supply, ride-through and shutdown, the keep-alive domain, the first
second, module resets and the reset button. -/

namespace Sys2Proof.Machine

/-- Change the power state. -/
def pwrUpd (f : PwrSt → PwrSt) (s : State) : State := { s with pwr := f s.pwr }

/-! ### The keep-alive domain (R625-R628) -/

/-- R625: the CRC over counter, shutdown time and tamper latch. -/
def keepCrc (k : KeepSt) : Nat := crc32c (leBytes 8 k.cycles ++ leBytes 8 k.shut ++ [b2n k.tamper])

/-- Write the domain, with a fresh CRC. -/
def keepPut (k : KeepSt) (s : State) : State :=
  wideSet Reg.pwrKeepCyclesLo k.cycles (pwrUpd (fun p => { p with keep := { k with crc := keepCrc k } }) s)

/-- R627, R619 step 4: the ship time of this moment as the shutdown time. -/
def keepShut (s : State) : State := keepPut { s.pwr.keep with shut := shipNow s } s

/-- The tamper latch is set (R625, R79). -/
def tamperSet (s : State) : State :=
  let s1 := keepPut { s.pwr.keep with tamper := true } s
  if s.pwr.phase = .keepAlive then s1
  else s1 |> setFlag Reg.pwrKeepState 0 true |> setFlag (Reg.stat 0) 5 true |> raise_ 0x00 4

/-- R626, R628: the check of the domain at power-on. -/
def keepCheck (cellMv : Nat) (s : State) : State :=
  let k := s.pwr.keep
  let low := decide (cellMv < 2600)
  let st := min 65535 cellMv <<< 16 + b2n low <<< 1
  let s1 := if k.crc = keepCrc k then
      let miss := k.shut == 0
      let t := s |> keepPut { k with cycles := (k.cycles + 1) % 2 ^ 64, shut := 0 } |> wideSet Reg.pwrKeepShutLo k.shut
        |> wr Reg.pwrKeepState (st + b2n miss <<< 3 + b2n k.tamper) |> pwrUpd (fun p => { p with shutMissing := miss })
      { t with tbu := { t.tbu with ship := k.shut } }
    else
      s |> keepPut { cycles := 1, shut := 0, tamper := true } |> wideSet Reg.pwrKeepShutLo 0
        |> wr Reg.pwrKeepState (st + 4 + 1) |> raise_ 0x01 7
  when_ low (raise_ 0x01 6) s1

/-- R78, R79: the tamper latch is found set at a start: SYS.STAT shows it and TAMPER is raised. -/
def tamperFound (s : State) : State :=
  if s.pwr.keep.tamper then s |> setFlag (Reg.stat 0) 5 true |> raise_ 0x00 4 else s

/-! ### What a start keeps (R642, R643) -/

/-- R642: registers that a start keeps: SEALED, NV and KEEP ones, and KEEP_STATE, which a start takes from the domain. -/
def startKeeps (a : Nat) : Bool :=
  (match findRow ((a - 0x100000) / 0x1000) ((a - 0x100000) % 0x1000) with
    | some r => r.kept == .sealed || r.kept == .nv || r.kept == .keep
    | none => false)
    || a == Reg.pwrKeepState

/-- R642, R643: the module as a start finds it; the safety unit, and what bars the module from its pair, continue over a module
reset. -/
def freshState (powerOn : Bool) (s : State) : State :=
  let keepWide := [(Reg.pwrKeepCyclesLo, s.pwr.keep.cycles), (Reg.pwrKeepShutLo, if powerOn then 0 else s.pwr.keep.shut)]
  let g := s.grn
  let base : State :=
    { pending := s.pending, now := s.now, out := s.out, draws := s.draws
      regs := tabKeep startKeeps s.regs
      overlay := s.overlay, overlayDig := s.overlayDig
      sheaf := tabKeep (fun i => i / 2097152 != 2) s.sheaf
      grn := { ring := g.ring, headSeq := g.headSeq, oldestSeq := g.oldestSeq }
      ses := { roleKeys := s.ses.roleKeys, sheafKeys := s.ses.sheafKeys, factory := s.ses.factory, instCode := s.ses.instCode }
      pwr := { phase := .resetHeld, keep := s.pwr.keep, originClk := s.now, powerOn := powerOn, slotPins := s.pwr.slotPins,
               failed := !powerOn && s.pwr.failed }
      red := { partner := s.red.partner, barred := !powerOn && s.red.barred }
      saf := s.saf
      fpd := { shown := s.fpd.shown } }
  let s1 := each keepWide (fun e => wideSet e.1 e.2) base
  if powerOn then safPowerOn s1 else s1

/-! ### Supply (R614-R618) -/

/-- A measurement of an input: voltage and current, and A_OK or B_OK. -/
def supplyRead (b : Bool) (mv ma : Nat) (s : State) : State :=
  s |> wr (if b then Reg.pwrSupplyB else Reg.pwrSupplyA) (min 65535 ma <<< 16 + min 65535 (mv / 10))
    |> setFlag (Reg.stat 0x01) (b2n b) (decide (33000 ≤ mv))

/-- R616: one input is above 80 V. -/
def surgeNow (s : State) : Bool := decide (8000 < fld s Reg.pwrSupplyA 15 0) || decide (8000 < fld s Reg.pwrSupplyB 15 0)

/-- R617: the usable energy in mJ of a bank of `cap` µF at `bankMv` mV, and HOLDUP, which shows both. -/
def holdupShow (cap bankMv : Nat) (s : State) : State :=
  let mj := cap * (bankMv * bankMv - 24000 * 24000) / 2 / 1000000000
  wr Reg.pwrHoldup (min 65535 mj <<< 16 + min 65535 (bankMv / 10)) s

/-- The supplies show what was last measured (R616, R617, R644). -/
def showSupply (m : PwrMeas) (s : State) : State :=
  s |> supplyRead false m.aMv m.aMa |> supplyRead true m.bMv m.bMa |> (fun t => setFlag (Reg.stat 0x01) 2 (surgeNow t) t)
    |> wr Reg.pwrInputPower (min 131071 m.inMw) |> holdupShow (fld s Reg.pwrHoldupCap 15 0) m.bankMv

/-- The supplies show a measurement, where there is one. -/
def showSupplies (x : Option PwrMeas) (s : State) : State :=
  match x with
  | some m => showSupply m s
  | none => s

/-- R275, R304: LOAD_POWER and FS_VOLT show what was last measured. -/
def showMeasured (io : SlotIo) (s : State) : State :=
  let s1 := match io.loopMw with
    | some mw => wr Reg.lspLoadPower (min mw 65535) s
    | none => s
  match io.fieldMv with
  | some mv => wr Reg.dioFsVolt (min mv 65535) s1
  | none => s1

/-! ### The monitoring outputs of J4 (R721) -/

/-- R721: PF_N is low: from a detected power failure until the supply becomes valid again or the module powers off. -/
def pfLow (s : State) : Bool := s.pwr.failed && s.pwr.phase != .keepAlive

/-- R721: HU_N is low: the module runs and HOLDUP_LOW is 0. -/
def huLow (s : State) : Bool :=
  (s.pwr.phase == .running || s.pwr.phase == .rideThrough || s.pwr.phase == .shutdown) && !flag s (Reg.stat 0x01) 4

/-- R4: the cold-start limit of the variant, in 0.1 °C. -/
def coldLimit (s : State) : Int := if fld s Reg.sysVariant 3 0 = 1 then -400 else -250

/-- R629 step 1: power-on. -/
def powerOn (source aMv bMv cellMv : Nat) (temp : Int) (s : State) : State :=
  let s1 := pwrUpd (fun p => { p with source := source }) (freshState true s)
  let s2 := keepCheck cellMv (supplyRead true bMv 0 (supplyRead false aMv 0 s1))
  let s3 := tamperFound s2
  if temp < coldLimit s3 then pwrUpd (fun p => { p with phase := .coldHold, coldHeld := true }) s3 else s3

/-- R618: the ride-through may still end well: no more than 20 ms have passed. -/
def ridesThrough (s : State) : Bool := decide (s.now ≤ s.pwr.failClk + 4000000)

/-- R615: SUPPLY_VALID: power-on, the end of a ride-through within its 20 ms, or a return that the shutdown phase does not heed
(R622). -/
def execSupplyValid (aMv bMv cellMv : Nat) (temp : Int) (s : State) : Host.Outcome State Fault Refusal :=
  let s1 := pwrUpd (fun p => { p with failed := false }) s
  let back := pwrUpd (fun p => { p with supplyReturn := true }) s1
  .next (match s.pwr.phase with
    | .keepAlive => powerOn 1 aMv bMv cellMv temp s
    | .rideThrough =>
      if ridesThrough s then
        s1 |> pwrUpd (fun p => { p with phase := .running }) |> setFlag (Reg.stat 0x01) 3 false |> bump Reg.pwrCntDip 1
          |> pmcInc 217 |> raise_ 0x01 1
      else back
    | .shutdown => back
    | .shed => back
    | _ => s1)

/-- R4: COLD_HOLD_RELEASE: the lowest board temperature, in 0.1 °C, reaches the limit. -/
def execColdHoldRelease (temp : Int) (s : State) : Host.Outcome State Fault Refusal :=
  .next (if s.pwr.phase = .coldHold ∧ coldLimit s ≤ temp then pwrUpd (fun p => { p with phase := .resetHeld }) s else s)

/-- R618: POWER_FAIL: a running module rides through; one that is still held in reset is off. -/
def execPowerFail (s : State) : Host.Outcome State Fault Refusal :=
  .next (match s.pwr.phase with
    | .running =>
      s |> pwrUpd (fun p => { p with phase := .rideThrough, failClk := s.now, failed := true, supplyReturn := false }) |> setFlag (Reg.stat 0x01) 3 true
        |> pmcInc 216 |> raise_ 0x01 0
    | .coldHold => pwrUpd (fun p => { p with phase := .keepAlive }) s
    | .resetHeld => pwrUpd (fun p => { p with phase := .keepAlive }) s
    | _ => s)

/-- R616: SUPPLY_LOW: an input stands at `mv` and draws `ma`; one that PWR.CFG names raises its event below 33 V. -/
def execSupplyLow (b : Bool) (mv ma : Nat) (s : State) : Host.Outcome State Fault Refusal :=
  let s1 := supplyRead b mv ma s
  .next (if mv < 33000 ∧ flag s Reg.pwrCfg (b2n b) then
    s1 |> bump (if b then Reg.pwrCntLowB else Reg.pwrCntLowA) 1 |> raise_ 0x01 (2 + b2n b) else s1)

/-- R616: SURGE: an input stands at `mv`; above 80 V it raises SURGE. -/
def execSurge (b : Bool) (mv ma : Nat) (s : State) : Host.Outcome State Fault Refusal :=
  let s0 := supplyRead b mv ma s
  let s1 := setFlag (Reg.stat 0x01) 2 (decide (80000 < mv) || surgeNow s0) s0
  .next (if 80000 < mv then s1 |> bump Reg.pwrCntSurge 1 |> raise_ 0x01 4 else s1)

/-- R645: INPUT_POWER_HIGH: INPUT_POWER reads `mw`, above 72,000 mW for 1 s. -/
def execInputPowerHigh (mw : Nat) (s : State) : Host.Outcome State Fault Refusal :=
  let s1 := wr Reg.pwrInputPower (min 131071 mw) s
  .next (if 72000 < mw then raise_ 0x01 8 s1 else s1)

/-! ### Start-up (R629-R633) -/

/-- R722: SYS.STATION.BASE and SLOT from the slot pins. -/
def slotIdentity (pins : Nat) : Nat × Nat := match pins with | 3 => (1, 0) | 4 => (2, 0) | 5 => (2, 1) | _ => (0, 0)

/-- R80: the check of the SEALED values at start fails for the registers `bad`: they read 0 (`sealedLost`). -/
def sealedCheck (bad : List Nat) (s : State) : State :=
  let s1 := pwrUpd (fun p => { p with sealedBad := bad }) s
  if bad = [] then s1 else raise_ 0x00 6 s1

/-- R646: RST.CAUSE and PREV_CAUSE at reset release. -/
def causeWrite (s : State) : State :=
  let p := s.pwr
  let c := (if p.powerOn then 1 else 2) <<< 28 + p.source <<< 16 + b2n p.shutMissing <<< 3 + b2n p.unprotected <<< 2
    + b2n p.swapped <<< 1 + b2n p.coldHeld
  s |> wr Reg.rstPrevCause (rd s Reg.rstCause) |> wr Reg.rstCause c |> when_ (!p.powerOn) (bump Reg.rstCntModuleReset 1)

/-- R637, R640: the button is stuck. -/
def buttonStuck (s : State) : State :=
  s |> setFlag Reg.rstButton 1 true |> bump Reg.rstCntButtonStuck 1 |> raise_ 0x02 0

/-- R654: the START record. -/
def startRecord (s : State) : State :=
  fixedRec 0x101 0x1600 (rd s Reg.rstCause) []
    [.reg Reg.rstCause, .reg Reg.rstPrevCause, .reg Reg.pwrKeepCyclesLo, .reg Reg.sysRole] s

/-- R629 step 3: RESET_RELEASE: the slot pins, the button as it reads, and the SEALED registers
whose check fails. -/
def execResetRelease (pins : Fin 8) (closed : Bool) (bad : List Nat) (s : State) : Host.Outcome State Fault Refusal :=
  .next (if s.pwr.phase = .resetHeld then
    let id := slotIdentity pins
    let s1 := pwrUpd (fun p => { p with phase := .running, relClk := s.now, slotPins := pins }) s
    let s2 := { s1 with
      pmc := { s1.pmc with cnt := [], thr := [], sticky := 0 }
      tbu := { s1.tbu with
        ship := if s.pwr.powerOn then s1.tbu.ship else s.pwr.keep.shut, shipClk := s.now, rate := 21474836480 } }
    s2 |> sealedCheck bad |> when_ (!s.pwr.powerOn) tamperFound |> setFld Reg.sysStation 14 13 id.1 |> setFlag Reg.sysStation 15 (id.2 == 1)
      |> wr Reg.tbuShipHi (s2.tbu.ship / 2 ^ 32) |> wr Reg.rstTRelease (startUs s2) |> causeWrite |> raise_ 0x00 0
      |> when_ s.pwr.shutMissing (raise_ 0x02 5) |> when_ s.pwr.coldHeld (raise_ 0x02 6)
      |> when_ closed (fun t => buttonStuck (pwrUpd (fun p => { p with pressClk := some t.now }) (setFlag Reg.rstButton 0 true t)))
      |> startRecord
  else s)

/-- R629 step 3: LANE_SELF_TEST_DONE: the lanes that passed come into service. -/
def execLaneSelfTestDone (pass : Fin 8) (s : State) : Host.Outcome State Fault Refusal :=
  .next (if s.pwr.phase = .running ∧ s.pwr.selfTest = false then
    let s1 := each (List.range 3) (fun l => setFld Reg.redLanes (4 * l + 3) (4 * l) (b2n (bitOf pass l))) s
    setFld Reg.rstState 3 0 2 (pwrUpd (fun p => { p with selfTest := true }) s1)
  else s)

/-- R630, R688: a bank is accepted. -/
def bankAccept (b : Nat) (s : State) : State :=
  let s1 := s |> bump Reg.updCntChecks 1 |> showSheaf b |> setBankState 0 b 2 |> wr Reg.rstTSheaf (startUs s)
  safLoad (safAccept (safDigest s1 b) s1)

/-- R159, R688, R691: a bank is rejected: it is reported, and a bank that was armed for this start becomes EMPTY. -/
def bankReject (b : Nat) (r : Reject) (s : State) : State :=
  let s1 := reportReject r (bump Reg.updCntChecks 1 s)
  if bankState s 0 b = 1 then s1 |> setBankState 0 b 0 |> setNextBank 0 (1 - b) else s1

/-- R630: the module enters NO_SHEAF. -/
def enterNoSheaf (s : State) : State :=
  { s with saf := { s.saf with unit := 0, accepted := false } } |> setFld Reg.rstState 3 0 5 |> raise_ 0x02 3 |> panelOn 16

/-- The load check of a Sheaf bank; an empty bank holds nothing to check. -/
def bankCheck (s : State) (b : Nat) : Option (Option Reject) :=
  if bankState s 0 b = 0 then none else some (loadCheck s b 0x800000)

/-- R630: SHEAF_BANK_CHECK: the bank that NEXT names, then the other one. -/
def execSheafBankCheck (s : State) : Host.Outcome State Fault Refusal :=
  .next (if fld s Reg.rstState 3 0 = 2 ∧ s.active.isNone then
    let b := nextBank s 0
    match bankCheck s b with
    | some none => bankAccept b s
    | first =>
      let s1 := match first with
        | some (some r) => bankReject b r s |> setFlag Reg.rstCause 4 true |> raise_ 0x02 4
        | _ => s
      match bankCheck s1 (1 - b) with
      | some none => bankAccept (1 - b) s1
      | some (some r) => enterNoSheaf (bankReject (1 - b) r s1)
      | none => enterNoSheaf s1
  else s)

/-- The stages of a driving module connect their terminals (R584, R600). -/
def stagesConnect (s : State) : State :=
  let s1 := each (List.range 32) (fun n t => if achIsOut t n then putAch n { ach t n with connected := true } t else t) s
  { s1 with dio := { s1.dio with connected := true } }

/-- R98: the timebase starts, in SLEWING at the slot of the busbar's position `p` (1/256 slot) where VA was valid, with what p has
beyond that slot as the phase error, otherwise in FREE_RUN at slot 0. -/
def timebaseStart (va : Bool) (p freq : Nat) (s : State) : State :=
  let s1 := { s with
    tbu := { s.tbu with
      running := true, slot := if va then p / 256 else 0, gen := 0, edge := s.now, frac := 0, epoch := shipNow s
      minorClk := s.now, rated := 0, rateClk := s.now, ticked := true, minorDone := true, majorDone := true
      majClk := s.now, freq := freq, err := if va then p % 256 else 0 }
    img := { s.img with gen := 0 }
    gmu := { s.gmu with freqA := if va then freq else s.gmu.freqA } }
  let s2 := if va then s1 |> setFld Reg.tbuBusState 1 0 1 |> setFld Reg.tbuBusState 9 8 3 |> setFld Reg.tbuBusState 5 4 0
    else s1 |> setFld Reg.tbuBusState 1 0 0 |> setFld Reg.tbuBusState 9 8 0 |> setFld Reg.tbuBusState 5 4 0
  let s3 := tbuApply s2
  shaftConfigure { s3 with tbu := { s3.tbu with majFreq := s3.tbu.freq } }

/-- R581: the role at the start of bring-up service. -/
def bringupRole (s : State) : State :=
  let alone (t : State) : State :=
    takeRole (if pairBase t ∧ flag t Reg.redPartner 8 then roleActive else roleSolo)
      { t with red := { t.red with own := if pairBase t then .present else t.red.own } }
  if pairBase s = false then alone s
  else if s.red.partner = .present then enterSyncing s
  else if slotB s = false then alone s
  else s

/-- R617, R624: the hold-up bank as measured at a start: capacitance in µF, voltage in mV. -/
def holdupRead (cap bankMv : Nat) (s : State) : State :=
  let s1 := s |> wr Reg.pwrHoldupCap (min 65535 cap) |> holdupShow cap bankMv
  if cap * 4608 < 8000000 then s1 |> setFlag (Reg.stat 0x01) 4 true |> raise_ 0x01 5
  else setFlag (Reg.stat 0x01) 4 false s1

/-- R629 step 5: bring-up service starts: whether VA was valid, its slot position with 8 bits of fraction and its frequency (binary64
bits), and what the hold-up bank measures. -/
def bringup (va : Bool) (p freq cap bankMv : Nat) (s : State) : State :=
    let s1 := s |> pwrUpd (fun p => { p with bringClk := s.now }) |> holdupRead cap bankMv |> applyInit |> applyOverlay
      |> setFld Reg.rstState 3 0 3 |> wr Reg.rstTBringup (startUs s)
    let s2 := s1 |> timebaseStart va p freq |> mbcStart |> netStart |> joinGroups |> mslStart |> cleStart
      |> slvStart
    let s3 := bringupRole (seqRestart 1 s2)
    s3 |> achBringup |> dioStart |> setLaneMode |> (fun t => each (List.range 4) (fun p u => progStart p (progTake p u)) t)
      |> panelOn 15 |> (fun t => { t with fpd := { t.fpd with lcdClk := t.now } })

/-- R629 step 5: BRINGUP_START. -/
def execBringupStart (va : Bool) (p : Fin 1048576) (freq cap bankMv : Nat) (s : State) : Host.Outcome State Fault Refusal :=
  .next (if fld s Reg.rstState 3 0 = 2 ∧ s.active.isSome then withLines (bringup va p freq cap bankMv) s else s)

/-- R581: SLOT_B_HEARTBEAT_WAIT_END: 40 ms without a partner heartbeat, and no partner token. -/
def execSlotBHeartbeatWaitEnd (s : State) : Host.Outcome State Fault Refusal :=
  .next (if role s = roleReset ∧ pairBase s ∧ slotB s ∧ fld s Reg.rstState 3 0 = 3 ∧ s.red.heard = false ∧ s.red.partner ≠ .present then
    { advanceTo (s.pwr.bringClk + 8000000) s with red := { s.red with own := .present } } |> takeRole roleSolo |> stagesConnect
      |> setLaneMode
  else s)

/-- R167, R490, R632: full service. -/
def fullService (s : State) : State :=
  let s1 := achDropAll { s with seq := { s.seq with
    sched := if listening s then 0 else 2
    past := if s.seq.behind = 0 then none else s.seq.past <|> s.active.map (fun b => (b, 0x0201)) } }
  s1 |> when_ (!listening s) (fun t => t |> raise_ 0x04 3 |> mbcService) |> wr Reg.sysService 1 |> setFld Reg.rstState 3 0 4
    |> setFld Reg.rstState 18 16 (startMissing s) |> wr Reg.rstTFull (startUs s) |> raise_ 0x00 2

/-- R632: FULL_SERVICE, at a major-cycle boundary at which every condition holds. -/
def execFullService (s : State) : Host.Outcome State Fault Refusal :=
  .next (if fld s Reg.rstState 3 0 = 3 ∧ s.tbu.slot = 0 ∧ startMissing s = 0 then fullService s else s)

/-- R633: START_LATE, at the first major-cycle boundary 2.0 s or more after the start of bring-up service. -/
def execStartLate (s : State) : Host.Outcome State Fault Refusal :=
  .next (if fld s Reg.rstState 3 0 = 3 ∧ s.tbu.slot = 0 ∧ 400000000 ≤ s.now - s.pwr.bringClk ∧ startMissing s ≠ 0 then
    raise_ 0x02 2 (fullService s) else s)

/-! ### The shutdown phase (R619-R623) -/

/-- R619 step 1: SHUTDOWN_START. -/
def execShutdownStart (s : State) : Host.Outcome State Fault Refusal :=
  .next (if s.pwr.phase = .rideThrough then
    s |> pwrUpd (fun p => { p with phase := .shutdown, shutClk := s.now, copyDone := false }) |> setFlag (Reg.stat 0x01) 3 false
      |> wr Reg.sysService 2 |> setFld Reg.rstState 3 0 6 |> commitStaged |> panelShutdown
  else s)

/-- R619 steps 2 and 3: SHUTDOWN_BOUNDARY. -/
def execShutdownBoundary (s : State) : Host.Outcome State Fault Refusal :=
  .next (if s.pwr.phase = .shutdown ∧ s.pwr.copyDone = false then
    let s1 := pwrUpd (fun p => { p with copyDone := true }) { s with seq := { s.seq with halted := true, sched := 0 } }
    let s2 := { s1 with red := { s1.red with sendEnd := s1.now } }
    if copyTaken s2 then sendCopy (some (finalWords s2)) s2 else s2
  else s)

/-- R621: the output stages and the safety unit let go. -/
def stagesLetGo (s : State) : State :=
  safOff (achLetGo (pwrUpd (fun p => { p with stagesFree := true }) { s with dio := { s.dio with connected := false } }))

/-- R620, R654, R659: the power-loss record, after every record that waits, a freeze or not; nothing is recorded after it. -/
def powerLossRecord (s : State) : State :=
  let s1 := commitAll (commitStaged { s with grn := { s.grn with freeze := none } })
  let s2 := fixedRec 0x102 0x1600 0 []
    [.reg Reg.pwrSupplyA, .reg Reg.pwrSupplyB, .reg Reg.pwrHoldup, .reg Reg.sysRole, .reg Reg.sysGenLo, .reg Reg.sysGenHi] s1
  let s3 := commitAll s2
  { s3 with grn := { s3.grn with closed := true } }

/-- R619 steps 4 to 6: SHUTDOWN_SHED, at the end of the copy. -/
def execShutdownShed (s : State) : Host.Outcome State Fault Refusal :=
  .next (if s.pwr.phase = .shutdown ∧ s.pwr.copyDone then
    let s1 := advanceTo s.red.sendEnd s |> powerLossRecord |> keepShut |> releaseToken 0x9
    let s2 := pwrUpd (fun p => { p with phase := .shed, shedClk := s1.now, stagesFree := false })
      { s1 with tbu := { s1.tbu with running := false } }
    let s3 := each s2.ach (fun e t => putAch e.1 { ach t e.1 with railFail := true } t) s2
    if pairBase s3 then s3 else stagesLetGo s3
  else s)

/-- R621: STAGE_LET_GO_TIMEOUT: 10 ms after step 5. -/
def execStageLetGoTimeout (s : State) : Host.Outcome State Fault Refusal :=
  .next (if s.pwr.phase = .shed ∧ s.pwr.stagesFree = false ∧ s.red.partner ≠ .present then
    stagesLetGo (advanceTo (s.pwr.shedClk + 2000000) s) else s)

/-- R619 step 7, R622: DOMAIN_OFF: only the keep-alive domain runs; a supply that has returned starts the module. -/
def execDomainOff (aMv bMv cellMv : Nat) (temp : Int) (s : State) : Host.Outcome State Fault Refusal :=
  .next (if s.pwr.phase = .shed then
    let back := s.pwr.supplyReturn
    let s1 := pwrUpd (fun p => { p with phase := .keepAlive }) (freshState true { s with red := { s.red with barred := false } })
    if back then powerOn 2 aMv bMv cellMv temp s1 else s1
  else s)

/-! ### Resets (R635-R641) -/

/-- R635: BROWN_OUT. -/
def execBrownOut (s : State) : Host.Outcome State Fault Refusal :=
  .next (if s.pwr.phase = .running then pwrUpd (fun p => { p with order := some ⟨3, false, false⟩ }) s else s)

/-- R636, R643: MODULE_RESET: the order is carried out: the Granary's queues are committed and ship time is kept (R627); the
module then waits for its reset release, 1 ms after the order. -/
def execModuleReset (s : State) : Host.Outcome State Fault Refusal :=
  .next (match s.pwr.order with
    | some o =>
      if s.pwr.phase ≠ .running ∧ s.pwr.phase ≠ .rideThrough then s else
      let s1 := keepShut (commitStaged (commitAll s))
      pwrUpd (fun p => { p with source := o.source, unprotected := o.unprotected, swapped := o.swapped }) (freshState false s1)
    | none => s)

/-- R625: TAMPER. -/
def execTamper (s : State) : Host.Outcome State Fault Refusal := .next (tamperSet s)

/-- R628: TAMPER_CLR. -/
def tamperClr (s : State) : State :=
  keepPut { s.pwr.keep with tamper := false } s |> setFlag Reg.pwrKeepState 0 false |> setFlag (Reg.stat 0) 5 false

/-- R78: a valid RESET of SYS.CTRL. -/
def sysReset (s : State) : State :=
  if role s = roleActive ∧ availableStandby s then requestSwap .reset s
  else
    let solo := role s == roleSolo || role s == roleActive
    pwrUpd (fun p => { p with order := some ⟨5, solo, false⟩ }) s

/-- R77: IDENTIFY. -/
def identify (s : State) : State := pwrUpd (fun p => { p with identify := some (s.now + 2000000000) }) s

/-- R77: IDENTIFY_END. -/
def execIdentifyEnd (s : State) : Host.Outcome State Fault Refusal :=
  .next (match s.pwr.identify with
    | some c => pwrUpd (fun p => { p with identify := none }) (advanceTo c s)
    | none => s)

/-! ### The reset button (R637-R640) -/

/-- The unprotected arming ends (R639). -/
def disarmButton (s : State) : State := if flag s Reg.rstButton 2 then s |> setFlag Reg.rstButton 2 false |> sysText 0 else s

/-- R638, R639: a valid press acts. -/
def validPress (s : State) : State :=
  if role s = roleActive ∧ availableStandby s then requestSwap .button s
  else if role s = roleSolo ∨ role s = roleActive then
    if flag s Reg.rstButton 2 ∧ s.now ≤ s.pwr.armClk + 1000000000 then pwrUpd (fun p => { p with order := some ⟨4, true, false⟩ }) (disarmButton s)
    else s |> pwrUpd (fun p => { p with armClk := s.now }) |> setFlag Reg.rstButton 2 true |> raise_ 0x02 1 |> sysText 1
  else pwrUpd (fun p => { p with order := some ⟨4, false, false⟩ }) s

/-- R637: BUTTON_PRESS. -/
def execButtonPress (s : State) : Host.Outcome State Fault Refusal :=
  .next (if s.pwr.phase = .running ∧ flag s Reg.rstButton 0 = false then
    pwrUpd (fun p => { p with pressClk := some s.now }) (setFlag Reg.rstButton 0 true s) else s)

/-- R637, R638: BUTTON_RELEASE: a press acts by its length. -/
def execButtonRelease (s : State) : Host.Outcome State Fault Refusal :=
  .next (match s.pwr.pressClk with
    | some c =>
      let len := s.now - c
      let s1 := s |> setFlag Reg.rstButton 0 false |> setFld Reg.rstButton 31 16 (min 65535 (len / 200000))
        |> pwrUpd (fun p => { p with pressClk := none, freeClk := s.now })
      if flag s Reg.rstButton 1 ∨ 1000000000 < len then s1
      else if len < 100000000 then bump Reg.rstCntButtonShort 1 s1
      else validPress s1
    | none => s)

/-- R637: BUTTON_STUCK: a press has lasted 5.0 s. -/
def execButtonStuck (s : State) : Host.Outcome State Fault Refusal :=
  .next (match s.pwr.pressClk with
    | some c => if flag s Reg.rstButton 1 then s else disarmButton (buttonStuck (advanceTo (c + 1000000000) s))
    | none => s)

/-- R637: BUTTON_STUCK_CLEAR: the button has stayed released for 1.0 s. -/
def execButtonStuckClear (s : State) : Host.Outcome State Fault Refusal :=
  .next (if flag s Reg.rstButton 0 then s else setFlag Reg.rstButton 1 false (advanceTo (s.pwr.freeClk + 200000000) s))

/-- R639: UNPROT_ARM_EXPIRE. -/
def execUnprotArmExpire (s : State) : Host.Outcome State Fault Refusal :=
  .next (if flag s Reg.rstButton 2 then disarmButton (advanceTo (s.pwr.armClk + 1000000000) s) else s)

end Sys2Proof.Machine
end

