-- ==== Sys2Proof/Machine/Boundary.lean ====
section
/-! DEFINITION. The steps of the sequencer: slot, minor-cycle and major-cycle boundaries (R82-R97, R165, R175), and the dispatch
of entries that come from the Sheaf itself or were held back (R105, R147, R173). -/

namespace Sys2Proof.Machine

/-! ### Boundaries -/

/-- R82, R165: SLOT_BOUNDARY: what lanes A, B and C lag from here on by a failure of their own (R174), and what the slot that ends
brought from outside: upsets of stored image words (R188-R190) and what the converters measured. -/
def execSlotBoundary (lagA lagB lagC : Nat) (hits : List EccHit) (io : SlotIo) (s : State) : Host.Outcome State Fault Refusal :=
  .next (if s.tbu.running then
    s |> achSlotEnd |> achSamples io.ach |> slotAdvance |> seqLags [lagA, lagB, lagC] |> each hits strike |> dioSlot |> achSlot
      |> piuSlot |> shaftSlot |> (fun t => when_ (!scrubAfterSwap t) scrubSlot t) |> gmuSample io.codes
      |> showMeasured io |> (fun t => when_ (dispatching t) (pmcInc 1) t)
  else s)

/-- R87, R97, R315: MAJOR_CYCLE_BOUNDARY, in slot 0; `fails` has bit j when the check of grid converter j failed. -/
def execMajorCycleBoundary (fails : Fin 512) (s : State) : Host.Outcome State Fault Refusal :=
  .next (if s.tbu.running ∧ s.tbu.slot = 0 ∧ s.tbu.majorDone = false then
    s |> boundaryTick |> gmuMajor fails |> tbuMajor |> piuMajor |> each (List.range 4) mbcMajor |> missingClear
  else s)

/-- R88-R92, R248, R330, R586: MINOR_CYCLE_BOUNDARY, in the first slot of a minor cycle; in slot 0 the judgement of VA comes
first (R92), so the minor-cycle actions wait for MAJOR_CYCLE_BOUNDARY. `supply` holds the supplies where they were measured in the
minor cycle that ends (R616, R617, R644). -/
def execMinorCycleBoundary (supply : Option PwrMeas) (s : State) : Host.Outcome State Fault Refusal :=
  .next (if s.tbu.running ∧ s.tbu.slot % 512 = 0 ∧ s.tbu.minorDone = false ∧ (s.tbu.slot = 0 → s.tbu.majorDone = true) then
    s |> boundaryTick |> tbuMinor |> achMinor |> synMinor |> mapAge |> mslAge |> netSplit |> redMinor
      |> missingClear |> showSupplies supply
  else s)

/-! ### Entries by opcode (R136) -/

/-- What an entry does when its engine starts it. -/
def runEntry (e : Entry) (io : EntryIo) (s : State) : State :=
  match e.opcode with
  | 0x01 => runAchStart e io s
  | 0x02 => runAchLatch e io s
  | 0x03 => runDioSample e s
  | 0x04 => runDioDrive e s
  | 0x05 => runPiuLatch e s
  | 0x06 => runGmuSnap e s
  | 0x07 => runSynArm e s
  | 0x10 => runImgCopy e s
  | 0x11 => runCleRun e s
  | 0x12 => runSlvStart e s
  | 0x13 => runSlvDeadline io.iters e s
  | 0x14 => runSlvCollect e s
  | 0x20 => runMbcSend e s
  | 0x21 => runMbcMap e s
  | 0x22 => runMslMap e s
  | 0x23 => runNetPublish e s
  | 0x24 => runNetAccept e s
  | 0x30 => runSafExport e s
  | 0x31 => runSluCopy s
  | 0x32 => runGrnTick e s
  | 0x33 => runFpdRefresh e s
  | 0x34 => runPmcMark e s
  | _ => s

/-- The clock at which a producer entry ends, so that one can be tracked again. -/
def nextEnd (s : State) : Nat :=
  if (producers s).length < 32 then s.now else (producers s).foldl (fun m o => min m o.last) neverClk

/-- R173: DISPATCH_AFTER_WAIT: the entry that waits longest is dispatched when an outstanding one completes. -/
def execDispatchAfterWait (s : State) : Host.Outcome State Fault Refusal :=
  .next (match s.seq.held with
    | [] => s
    | (e, io) :: t =>
      if nextEnd s < neverClk then
        let s1 := advanceTo (nextEnd s) s
        let s2 := runEntry e io { s1 with seq := { s1.seq with held := t } }
        catchUp (s2.now + 1) s2.seq.behind s2
      else s)

/-- Dispatch record i of a part of the active Sheaf at clock 10 of the slot (R165). -/
def dispatchRecord (id i : Nat) (io : EntryIo) (s : State) : State :=
  match s.active with
  | some b =>
    dispatchEntry runEntry { partEntry s b id i with slot := seqSlot s, pos := 8 } io { s with seq := { s.seq with extraDone := true } }
  | none => s

/-- R147: STANDSTILL_LIST_RUN: the next entry of the list, in a slot of its own. -/
def execStandstillListRun (io : EntryIo) (s : State) : Host.Outcome State Fault Refusal :=
  .next (if dispatching s ∧ s.seq.swapDue = false ∧ s.seq.extraDone = false then
    match standstillEntry s with
    | some k => dispatchRecord 0x0402 k io { s with seq := { s.seq with standstill := some (k + 1) } }
    | none => s
  else s)

/-- R105: SHAFT_QUEUE_DISPATCH: the oldest entry of the shaft queue, in a slot that holds no standstill entry. -/
def execShaftQueueDispatch (io : EntryIo) (s : State) : Host.Outcome State Fault Refusal :=
  .next (if dispatching s ∧ s.seq.swapDue = false ∧ s.seq.sched = 2 ∧ s.seq.extraDone = false ∧ standstillEntry s = none then
    match s.tbu.queue with
    | i :: t => dispatchRecord 0x0303 i io (showShaft { s with tbu := { s.tbu with queue := t } })
    | [] => s
  else s)

end Sys2Proof.Machine
end

