-- ==== Sys2Proof/Machine/Access.lean ====
section
/-! DEFINITION. Access to the address space of R47: what a read delivers, the checks of a write word by word (R55-R60), and what
an accepted word changes. -/

namespace Sys2Proof.Machine

/-! ### The address map (R47-R50) -/

/-- The rows of R47: first address, address after the last. -/
def mapRows : List (Nat × Nat) :=
  [(0x00100000, 0x00140000), (0x01000000, 0x01100000), (0x02000000, 0x02800000), (0x03000000, 0x03800000),
   (0x04000000, 0x04100000), (0x05000000, 0x05200000), (0x06000000, 0x06100000)]

/-- The row of R47 that an address lies in. -/
def mapRow (a : Nat) : Option Nat := (List.range 7).find? (fun i => decide ((mapRows.getD i (0, 0)).1 ≤ a) && decide (a < (mapRows.getD i (0, 0)).2))

/-- R48, R50: `n` words from address `a` are whole words of one row of R47. -/
def mapped (a n : Nat) : Bool := n == 0 || (a % 4 == 0 && (mapRow a).isSome && mapRow a == mapRow (a + 4 * n - 4))

/-- The page of an address in the page range, and the offset within it. -/
def pageOf (a : Nat) : Nat := (a - 0x100000) / 0x1000
def offOf (a : Nat) : Nat := (a - 0x100000) % 0x1000

/-- The addresses of `n` words from `a` on. -/
def wordAddrs (a n : Nat) : List Nat := (List.range n).map (fun i => a + 4 * i)

/-- The image word of an address of the image window. -/
def imgIndex (a : Nat) : Nat := (a - 0x1000000) / 4

/-! ### Reads -/

/-- A word of an MBC journal; an entry that was never written is empty (R491, R492). -/
def mbcWindow (s : State) (off : Nat) : Nat :=
  (tabGet (fun _ => ([] : List Nat)) (mbc s (off / 0x40000)).jnl (off % 0x40000 / 32)).getD (off % 32 / 4) 0

/-- A word of an MSL journal; an entry that was never written is empty (R539). -/
def mslWindow (s : State) (off : Nat) : Nat :=
  (tabGet (fun _ => ([] : List Nat)) (msl s (off / 0x80000)).jnl (off % 0x80000 / 128)).getD (off % 128 / 4) 0

/-- R389: a word of the solver job memory: the table block, 0 beyond its length; a work area lies as the hardware lays it out
(log entry 34). -/
def solverWindow (s : State) (off : Nat) : Nat :=
  if 0x100000 ≤ off then Config.workWord s.draws (off - 0x100000) % 2 ^ 32
  else match s.active with
    | some b =>
      match bankPart s b 0x0802 with
      | some p => leNat ((List.range 4).map (fun i => if off + i < p.next - p.base then bankByte s b (p.base + off + i) else 0))
      | none => 0
    | none => 0

/-- R52, R193: what a read of an address delivers; reserved pages and offsets, and write-only registers, read 0 (R34, R49, R55). -/
def readWord (s : State) (a : Nat) : Nat :=
  match mapRow a with
  | some 0 => if (findRow (pageOf a) (offOf a)).isSome then peek s a else 0
  | some 1 => (imgHost s (imgIndex a)).val.toNat
  | some 2 => bankWord s 2 ((a - 0x2000000) / 4)
  | some 3 => grnWindow s (a - 0x3000000)
  | some 4 => mbcWindow s (a - 0x4000000)
  | some 5 => solverWindow s (a - 0x5000000)
  | some 6 => mslWindow s (a - 0x6000000)
  | _ => 0

/-- What a read changes: a LO register latches its HI register (R77), HART_RX_LEN clears its flags (R269), and JNL_HEAD starts
the count of entries since its last read (R668). -/
def readEffect (a : Nat) (s : State) : State :=
  match pairLive s a with
  | some v => wr (a + 4) (v / 2 ^ 32) s
  | none =>
    let p := pageOf a
    match mapRow a, blockOf p with
    | some 0, some .ach => if offOf a = 0x210 then hartRxRead (p - 0x20) s else s
    | some 0, some .mbc =>
      if a = Reg.mbcJnlHead (p - 0x0E) then
        { s with pmc := { s.pmc with jnlFill := tabSet (fun _ => (0 : Nat)) s.pmc.jnlFill (p - 0x0E) 0 } }
      else s
    | some 1, _ => pmcInc 10 s
    | some 5, _ => drawNext s
    | _, _ => s

/-- R52: the words of one request, all sampled at one boundary. -/
def readWords (s : State) (l : List Nat) : List Nat × State :=
  l.foldl (fun acc a => (acc.1 ++ [readWord acc.2 a], readEffect a acc.2)) ([], s)

/-! ### What a write would leave (R53, R55) -/

/-- The access code of an address of the page range. -/
def accOf (a : Nat) : Option Access := (findRow (pageOf a) (offOf a)).map (fun r => r.acc)

/-- The value that a MODIFY works on. An image word stands as the generation being built holds it, so that a later request sees
the result of an earlier one (R54). -/
def oldWord (s : State) (a : Nat) : Nat :=
  match mapRow a with
  | some 1 => (imgRead s (imgIndex a)).val.toNat
  | _ => readWord s a

/-- R53: what a word of a request gives its address: the bits to clear of a W1C register, the value of a write-only one, and
otherwise (old and not mask) or (value and mask). -/
def newWord (s : State) (w : ReqWord) : Nat :=
  match mapRow w.a, accOf w.a with
  | some 0, some .w1c | some 0, some .wo => w.v &&& w.m
  | _, _ => (oldWord s w.a &&& (w.m ^^^ 0xFFFFFFFF)) ||| (w.v &&& w.m)

/-! ### Who writes -/

/-- The role of a session; slot 16 is the internal session (R576). -/
def sessRole (s : State) (k : Nat) : Nat := if k = 16 then fld s Reg.sesIntRole 1 0 else (session s k).role

/-- A session that can make requests. -/
def sessOpen (s : State) (k : Nat) : Bool := k == 16 || (decide (k < 16) && (session s k).state == 2)

/-- R380: the operator registers. -/
def operatorReg (a : Nat) : Bool :=
  let off := offOf a
  blockOf (pageOf a) == some .cle && (off == 0x100 || off == 0x104 || within 0x300 0x37C off || within 0x400 0x7FC off)

/-- R56: the lowest role that may write a register of an access code. -/
def leastRole (a : Nat) (acc : Access) : Nat :=
  if offOf a = 0x010 ∨ operatorReg a then 1
  else if acc = .rwk then 3
  else 2

/-- R32, R149: the lowest role that writes an operator word; none for a word whose producer is not the host. -/
def operatorRole (s : State) (w : Nat) : Option Nat :=
  match producerOf s w with
  | some p => if p.1 = 3 then some p.2 else none
  | none => none

/-! ### The checks of R60 -/

/-- Fields of code RWH in a register whose other fields are RW: ACHn.CFG.MODE and DIO.CHn_CFG.FUNC. -/
def rwhField (a : Nat) : Nat :=
  match blockOf (pageOf a) with
  | some .ach => if offOf a = 0x100 then 0xF else 0
  | some .dio => if 0x200 ≤ offOf a then 0xF else 0
  | _ => 0

/-- A word of LOOP_SHD that the shadow window does not let a host change (R350). -/
def loopRo (a : Nat) : Bool := blockOf (pageOf a) == some .cle && within 0xA00 0xBFC (offOf a) && !loopShdWord ((offOf a - 0xA00) / 4)

/-- R60, check 1: a reserved offset or page. -/
def isReserved (a : Nat) : Bool :=
  (findRow (pageOf a) (offOf a)).isNone || (blockOf (pageOf a) == some .fpd && decide (0x800 ≤ offOf a) && offOf a % 64 == 60)

/-- R60, check 2: the register is RO, or the write changes a field that is. -/
def isReadOnly (s : State) (r : RegRow) (a new : Nat) : Bool :=
  r.acc == .ro || r.kept == .sealed
    || (offOf a == 0x01C && (new ^^^ rd s a) &&& 0xFFFFFFFC != 0)
    || (loopRo a && (loopSel s).isSome && new != peek s a)
    || (blockOf (pageOf a) == some .fpd && within 0x110 0x11C (offOf a) && !flag s Reg.fpdLcdCfg 0)

/-- R59: the write would lower LOCK.LEVEL below FLOOR. -/
def belowFloor (s : State) (a new : Nat) : Bool :=
  offOf a == 0x01C && new % 4 != rd s a % 4 && decide (new % 4 < fld s a 5 4)

/-- R60, check 3: the role may not write what the word changes (R56, R57, R59). -/
def roleFails (s : State) (r : RegRow) (role a new : Nat) : Bool :=
  if (offOf a = 0x01C ∨ rwhField a ≠ 0) ∧ new = rd s a then false
  else decide (role < leastRole a r.acc) || (decide (role < 3) && belowFloor s a new)

/-- R60, check 4: the lock level of the page forbids the write (R58). -/
def lockFails (s : State) (role a : Nat) : Bool :=
  match fld s (Reg.lock (pageOf a)) 1 0 with
  | 0 => false
  | 1 => role == 1
  | 2 => role == 1 || (decide (0x100 ≤ offOf a) && Machine.role s != roleHold)
  | _ => !(offOf a == 0x01C && role == 3)

/-- R60, check 5: the write needs HOLD (R55, R576). -/
def holdFails (s : State) (r : RegRow) (a new : Nat) : Bool :=
  Machine.role s != roleHold && (r.acc == .rwh || a == Reg.sesIntRole || (new ^^^ rd s a) &&& rwhField a != 0)

/-- The refusal code that a value of UPD.CTRL meets (R689), 0 when there is none; the fields of CTRL have no such value: none. -/
def updJudge (s : State) (sess v : Nat) : Option Nat :=
  if v % 16 = 0 ∨ 6 < v % 16 ∨ (v % 16 = 1 ∧ 4 < bitsOf v 11 8) then none else some (updRefusal s sess (v % 16))

/-- R78: a RESET whose KEY or acknowledgement is missing. -/
def resetBad (s : State) (v : Nat) : Bool :=
  bitOf v 0 && (bitsOf v 23 8 != 0xA5C3
    || ((role s == roleSolo || (role s == roleActive && !availableStandby s)) && !bitOf v 2))

/-- R607, R612: values of RED.CTRL that are refused. -/
def redCtrlBad (s : State) (v : Nat) : Bool :=
  decide (1 < b2n (bitOf v 0) + b2n (bitOf v 1) + b2n (bitOf v 2)) || (bitOf v 0 && !availableStandby s)
    || (bitOf v 2 && role s != roleHold) || (bitOf v 1 && driving s && !availableStandby s && !bitOf v 3)

/-- R60, check 7, for values that the state judges (R78, R268, R385, R612, R662, R664, R682, R689, R700). -/
def stateValueBad (s : State) (c : RangeCtx) (sess a new : Nat) : Bool :=
  let p := pageOf a
  let off := offOf a
  match blockOf p with
  | some .sys => off == 0x008 && resetBad s new
  | some .ach =>
    let busy := fld s (Reg.achHartStat (p - 0x20)) 2 0 != 0
    busy && (off == 0x208 || within 0x800 0x9FC off || (off == 0x204 && bitOf new 0))
  | some .cle =>
    within 0xA00 0xBFC off && ((loopSel s).isNone || (!loopRo a && !loopWordOk ((off - 0xA00) / 4) new))
  | some .red => off == 0x008 && redCtrlBad s new
  | some .grn =>
    (off == 0x100 && (new != grnCountNow s || s.grn.freeze.isSome))
      || (within (offOf (Reg.grnTrigCfg 0)) (offOf (Reg.grnTrigCfg 255)) off && bitOf new 31
        && cfgNat s 0x0D01 ((off - offOf (Reg.grnTrigCfg 0)) / 4) 0 1 == 0)
  | some .mgt => off == 0x008 && (new % 16) &&& bitsOf new 7 4 != 0
  | some .upd => off == 0x008 && updJudge s sess new != some 0
  | some .fpd => decide (0x800 ≤ off) && decide (119 < c.get Reg.fpdPixRow % 128 + (off - 0x800) / 64)
  | _ => false

/-- R60, check 7. Reserved bits of a W1C register are not received (R55). -/
def valueFails (s : State) (c : RangeCtx) (r : RegRow) (sess a new : Nat) : Bool :=
  (r.acc != .w1c && r.acc != .shd && !valueOk c a new) || stateValueBad s c sess a new

/-- The fields of a tag-window register that a write changes (R187). -/
def tagFields (s : State) (a new : Nat) : List Nat :=
  let old := tagWindow s ((offOf a - 0x800) / 4)
  (List.range 8).filter (fun j => bitsOf old (4 * j + 3) (4 * j) != bitsOf new (4 * j + 3) (4 * j))

/-- The image word of field j of a tag-window register (R194). -/
def tagWord (s : State) (a j : Nat) : Nat := fld s Reg.imgTagBase 5 0 * 4096 + 8 * ((offOf a - 0x800) / 4) + j

/-- An address of the tag window. -/
def inTagWindow (a : Nat) : Bool := blockOf (pageOf a) == some .img && decide (0x800 ≤ offOf a)

/-- R187: the cause with which a tag-window register refuses a write, 0 for none. -/
def tagCause (s : State) (role a new : Nat) : Nat :=
  let who := (tagFields s a new).map (fun j => operatorRole s (tagWord s a j))
  if who.any (fun o => match o with | some r => decide (role < r) | none => role == 0) then 2
  else if lockFails s role a then 3
  else if who.any (fun o => o.isNone) then 5
  else 0

/-- R60: the cause with which a register refuses a write, 0 for none. -/
def regCause (s : State) (c : RangeCtx) (sess role a new : Nat) : Nat :=
  if isReserved a then 6
  else if inTagWindow a then tagCause s role a new
  else match findRow (pageOf a) (offOf a) with
    | none => 6
    | some r =>
      if isReadOnly s r a new then 1
      else if roleFails s r role a new then 2
      else if lockFails s role a then 3
      else if holdFails s r a new then 4
      else if valueFails s c r sess a new then 7
      else 0

/-- R31, R56: the cause with which an image word refuses a host write, 0 for none. -/
def imgCause (s : State) (role w : Nat) : Nat :=
  match operatorRole s w with
  | some r => if role < r then 2 else 0
  | none => if role = 0 then 2 else 5

/-- R56, R60, R686: the staging window takes words of an ENGINEER or CUSTODIAN session that owns the staging, in LOADING. -/
def stagingCause (s : State) (sess : Nat) : Nat :=
  if sessRole s sess < 2 then 2 else if updPhase s = 1 ∧ updOwner s = sess then 0 else 3

/-- R60: the cause with which a word refuses a write, 0 for none. -/
def wordCause (s : State) (c : RangeCtx) (sess : Nat) (w : ReqWord) : Nat :=
  match mapRow w.a with
  | some 0 => regCause s c sess (sessRole s sess) w.a (newWord s w)
  | some 1 => imgCause s (sessRole s sess) (imgIndex w.a)
  | some 2 => stagingCause s sess
  | _ => 1

/-- R61: the page that counts the rejection of a word. -/
def rejectPage (a : Nat) : Nat :=
  match mapRow a with
  | some 0 => if (blockOf (pageOf a)).isSome then pageOf a else 0
  | some 1 => 0x05
  | some 2 => 0x19
  | some 3 => 0x16
  | some 4 => 0x0E + (a - 0x4000000) / 0x40000
  | some 5 => 0x0C
  | _ => 0x12

/-- The ranges as the registers stand once the request is applied. -/
def reqCtx (s : State) (ws : List ReqWord) : RangeCtx :=
  let get (a : Nat) : Nat := match ws.find? (fun w => w.a == a) with
    | some w => newWord s w
    | none => rd s a
  match s.active with
  | some b => { bankCtx s b with get := get }
  | none => ⟨get, fun _ => 0, 0⟩

/-- R60, R61: the words of a request that fail a check. -/
def wordFails (s : State) (sess : Nat) (ws : List ReqWord) : List WordFail :=
  (List.range ws.length).filterMap (fun i =>
    let w := ws.getD i ⟨0, 0, 0⟩
    let k := wordCause s (reqCtx s ws) sess w
    if k = 0 then none else some ⟨i, rejectPage w.a, k⟩)

/-! ### Rejection (R61, R64) -/

/-- R61: a page that holds a failing word counts the rejection. -/
def countReject (sess p cause : Nat) (s : State) : State :=
  s |> wr (Reg.writeRej p) (cause <<< 28 + sess <<< 20 + satAdd 0xFFFFF (fld s (Reg.writeRej p) 19 0) 1) |> raise_ p 15

/-- R689: a refused command of UPD.CTRL among the words. -/
def updRefusals (sess : Nat) (ws : List ReqWord) (s : State) : State :=
  match ws.find? (fun w => w.a == Reg.ctrl 0x19) with
  | some w =>
    match updJudge s sess (newWord s w) with
    | some 0 | none => s
    | some c => updRefuse (newWord s w % 16) c s
  | none => s

/-- R61: a request is rejected whole. A page takes the cause of its own first failing word (DESIGN CHOICE, log entry 77: R61 gives
the cause of the request, not that of each page). -/
def rejectWords (sess : Nat) (ws : List ReqWord) (fails : List WordFail) (s : State) : State :=
  let first := fails.foldl (fun l f => if l.any (fun g => g.page == f.page) then l else l ++ [f]) []
  let s1 := each first (fun f => countReject sess f.page f.cause) s
  if fails.any (fun f => f.cause == 7 && (ws.getD f.pos ⟨0, 0, 0⟩).a == Reg.ctrl 0x19) then updRefusals sess ws s1 else s1

/-! ### Keys (R479, R572-R574) -/

/-- The 32 bytes that KEY_STAGE0-7 of the SES page hold. -/
def stagedKey (s : State) : List Nat :=
  (List.range 8).flatMap (fun i => leBytes 4 (tabGet (fun _ => (0, 0, (0 : Word))) s.ses.stage i).2.2.toNat)

/-- R573: the SEQ of the one WRITE of this session that staged all eight words; none otherwise. -/
def stageSeq (s : State) (sess : Nat) : Option Nat :=
  let e (i : Nat) : Nat × Nat × Word := tabGet (fun _ => (0, 0, (0 : Word))) s.ses.stage i
  let q := (e 0).2.1
  if (List.range 8).all (fun i => (e i).1 == sess + 1 && (e i).2.1 == q) && decide (q < 2 ^ 64) then some q else none

/-- The bytes of two lists, joined by exclusive or. -/
def xorBytes (a b : List Nat) : List Nat := (a.zip b).map (fun p => p.1 ^^^ p.2)

/-- R573: a staged role key, unwrapped. -/
def unwrapKey (s : State) (sess q : Nat) : List Nat :=
  xorBytes (stagedKey s) (hmac256 (session s sess).key ("QAP-WRAP".toList.map Char.toNat ++ leBytes 8 q))

/-- KEY_RESULT of the SES page. -/
def keyResult (r : Nat) (s : State) : State := wr Reg.sesKeyResult r s

/-- R574: an INSTALL or ERASE is complete. -/
def keyDone (v : Nat) (s : State) : State :=
  s |> keyResult 1 |> raise_ 0x14 6 |> fixedRec 0x109 0x1400 v [snapWord v, snapWord 1] []

/-- R573: INSTALL. -/
def sesInstall (sess v : Nat) (s : State) : State :=
  let k := bitsOf v 9 8
  match stageSeq s sess with
  | none => keyResult 3 s
  | some q =>
    if bitOf v 4 then
      if !edKeyOk (stagedKey s) then keyResult 3 s
      else if tabGet (fun _ => ([] : List Nat)) s.ses.sheafKeys k ≠ [] then keyResult 4 s
      else s |> sesUpd (fun x => { x with sheafKeys := tabSet (fun _ => []) x.sheafKeys k (stagedKey s) }) |> keyDone v
    else s |> sesUpd (fun x => { x with
        roleKeys := tabSet (fun _ => []) x.roleKeys k (unwrapKey s sess q), factory := x.factory && k != 3 }) |> keyDone v

/-- R574: the Sheaf key in slot k is the one that the active Sheaf names. -/
def sheafKeyUsed (s : State) (k : Nat) : Bool :=
  match s.active with
  | some b => sheafKeyId s k != 0 && sheafKeyId s k == bankNat s b (totalLen s b - 128 + 8) 8
  | none => false

/-- R574: ERASE. -/
def sesErase (v : Nat) (s : State) : State :=
  let k := bitsOf v 9 8
  if bitOf v 4 then
    if sheafKeyUsed s k then keyResult 5 s
    else s |> sesUpd (fun x => { x with sheafKeys := tabSet (fun _ => []) x.sheafKeys k [] }) |> keyDone v
  else if k = 3 then keyResult 3 s
  else s |> sesUpd (fun x => { x with roleKeys := tabSet (fun _ => []) x.roleKeys k [] }) |> keyDone v

/-- R572-R574: a write of SES.KEY_CTRL; INSTALL and ERASE together are INVALID (log entry 38). -/
def sesKeyCtrl (sess v : Nat) (s : State) : State :=
  match bitOf v 0, bitOf v 1 with
  | false, false => s
  | i, e =>
    if role s ≠ roleHold then keyResult 2 s
    else if i && e then keyResult 3 s
    else if i then sesInstall sess v s else sesErase v s

/-- The bytes of SAF.KEY_STAGE0-7. -/
def safStaged (s : State) : List Nat := (List.range 8).flatMap (fun i => leBytes 4 (rd s (Reg.safKeyStage i)))

/-- R479: a write of SAF.KEY_CTRL; INSTALL and ERASE together are INVALID (log entry 38). -/
def safKeyCtrl (v : Nat) (s : State) : State :=
  let k := b2n (bitOf v 8)
  let put (key : List Nat) (t : State) : State := { t with saf := { t.saf with keys := tabSet (fun _ => []) t.saf.keys k key } }
  let res (r : Nat) (t : State) : State := wr Reg.safKeyResult r t
  match bitOf v 0, bitOf v 1 with
  | false, false => s
  | i, e =>
    if role s ≠ roleHold then res 2 s
    else if i && e then res 3 s
    else if i then
      (if !edKeyOk (safStaged s) then res 3 s
      else if tabGet (fun _ => ([] : List Nat)) s.saf.keys k ≠ [] then res 4 s
      else s |> put (safStaged s) |> res 1)
    else s |> put [] |> res 1

/-! ### What an accepted word changes -/

/-- R55, R75: clear EVT_RAW bits; an occurrence at this very clock wins, and counts as a new one. -/
def evtClear (p v : Nat) (s : State) : State :=
  each ((List.range 16).filter (fun b => bitOf v b && flag s (Reg.evtRaw p) b)) (fun b t =>
    let e := tabGet (fun _ => (0 : Nat)) t.evtClk (16 * p + b)
    if e = 2 * t.now + 3 then t
    else if e = 2 * t.now + 2 then
      evtRises p b { t with evtClk := tabSet (fun _ => (0 : Nat)) t.evtClk (16 * p + b) (2 * t.now + 3) }
    else setFlag (Reg.evtRaw p) b false t) s

/-- R187: tags through the tag window. -/
def tagsWrite (a new : Nat) (s : State) : State :=
  each (tagFields s a new) (fun j t =>
    let w := tagWord s a j
    pmcInc 11 (laneWrite w (fun l => ⟨(laneView t l w).val, tagOf (bitsOf new (4 * j + 3) (4 * j))⟩) t)) s

/-- R32, R186: an operator word. -/
def operatorWrite (w v : Nat) (s : State) : State := pmcInc 11 (imgPut w (BitVec.ofNat 32 v) .good s)

/-- R700, R701: 16 pixels of the next image. -/
def pixWrite (off v : Nat) (s : State) : State :=
  let y := fld s Reg.fpdPixRow 6 0 + (off - 0x800) / 64
  let x := 16 * ((off - 0x800) / 4 % 16)
  { s with fpd := { s.fpd with
      next := (List.range 16).foldl (fun t c =>
        if inMarker (x + c) y then t else setPixel (x + c) y (bitsOf v (2 * c + 1) (2 * c)) t) s.fpd.next } }

/-- A shadow word of the loop that LOOP_SEL names (R385). -/
def shadowWrite (w v : Nat) (s : State) : State :=
  match loopSel s with
  | some k =>
    let x := BitVec.ofNat 32 v
    let same := decide (loopWord s s.cle.eff k w = x.toNat)
    { s with cle := { s.cle with shd := tabSet (fun _ => none) s.cle.shd (128 * k + w) (if same then none else some x) } }
  | none => s

/-- R573: a word of KEY_STAGE, with the session and the SEQ of its request. -/
def stageWrite (sess i v : Nat) (s : State) : State :=
  sesUpd (fun x => { x with
    stage := tabSet (fun _ => (0, 0, (0 : Word))) x.stage i (sess + 1, x.curSeq, BitVec.ofNat 32 v) }) s

/-- The sticky bits of the PMC page that a W1C write clears (R667). -/
def stickyClear (k v : Nat) (s : State) : State :=
  { s with pmc := { s.pmc with
      sticky := (List.range 32).foldl (fun m i => if bitOf v i then putBit m (32 * k + i) false else m) s.pmc.sticky } }

/-- A register that is no plain storage: its write is an order, or lands elsewhere. -/
def isOrder (a : Nat) : Bool :=
  let off := offOf a
  off == 0x008 || off == 0x010 || off == 0x014 ||
  match blockOf (pageOf a) with
  | some .img => decide (0x800 ≤ off)
  | some .ach => off == 0x148 || off == 0x204
  | some .cle => off == 0x104 || within 0xA00 0xBFC off
  | some .saf => off == 0x220
  | some .ses => within 0x200 0x220 off
  | some .pwr => off == 0x104
  | some .grn => off == 0x100
  | some .pmc => within 0x080 0x09C off
  | some .fpd => decide (0x800 ≤ off)
  | _ => false

/-- Store a plain register; what takes effect later leaves the old value in force until then. -/
def storeWord (a new : Nat) (s : State) : State := wr a new (if deferred a then keepOld a s else s)

/-- A write of CTRL of page p. -/
def ctrlWrite (sess p v : Nat) (s : State) : State :=
  match blockOf p with
  | some .sys => s |> when_ (bitOf v 1) identify |> when_ (bitOf v 0) sysReset
  | some .seq => when_ (bitOf v 0) (wr Reg.seqLagMax 0) s
  | some .img => when_ (bitOf v 0) (wr Reg.imgDirtyMax 0) s
  | some .ach => when_ (bitOf v 0) (achCalibrate (p - 0x20)) s
  | some .syn => when_ (bitOf v 0) synDisarm s
  | some .cle => when_ (bitOf v 31) (fun t => { t with cle := { t.cle with armed := true } }) s
  | some .saf => s |> when_ (bitOf v 0) (btStart 0) |> when_ (bitOf v 1) (btStart 1)
  | some .mbc => when_ (bitOf v 0) (mbcRecover (p - 0x0E)) s
  | some .red =>
    s |> when_ (bitOf v 4) clrLatent |> when_ (bitOf v 0) (requestSwap .swap) |> when_ (bitOf v 1) holdOrder
      |> when_ (bitOf v 2) resume
  | some .pmc => when_ (bitOf v 0) pmcSnap s
  | some .mgt =>
    s |> each ((List.range 4).filter (fun i => bitOf v (4 + i))) progStop |> each ((List.range 4).filter (bitOf v)) progStart
  | some .upd => updCommand sess v s
  | some .fpd => s |> when_ (bitOf v 8) panelClear |> requestRegions (v % 16)
  | _ => s

/-- What an accepted word of a register that is an order does. -/
def orderWrite (sess a new : Nat) (s : State) : State :=
  let p := pageOf a
  let off := offOf a
  if off = 0x008 then ctrlWrite sess p new s
  else if off = 0x010 then evtClear p new s
  else if off = 0x014 then evtEnable p new s
  else match blockOf p with
    | some .img => tagsWrite a new s
    | some .ach =>
      if off = 0x148 then when_ (bitOf new 0) (achRestore (p - 0x20)) s
      else s |> when_ (bitOf new 1) (hartAbort (p - 0x20)) |> when_ (bitOf new 0) (hartSend (p - 0x20))
    | some .cle => if off = 0x104 then when_ (bitOf new 8) (cleOscAck (new % 256)) s else shadowWrite ((off - 0xA00) / 4) new s
    | some .saf => safKeyCtrl new (wr a new s)
    | some .ses => if off = 0x220 then sesKeyCtrl sess new (wr a new s) else stageWrite sess ((off - 0x200) / 4) new s
    | some .pwr => when_ (bitOf new 0) tamperClr s
    | some .grn => grnClear sess s
    | some .pmc => stickyClear ((off - 0x080) / 4) new s
    | some .fpd => pixWrite off new s
    | _ => s

/-- R51: apply the words of an accepted request as one: plain registers are stored, then orders act, in ascending address. -/
def applyWords (sess : Nat) (ws : List ReqWord) (s0 : State) : State :=
  let merged := ws.filter (fun w => mapRow w.a == some 1 && w.m != 0xFFFFFFFF)
  let s := each merged (fun w => engineTouch (imgIndex w.a)) s0
  let l := ws.map (fun w => (w.a, newWord s w))
  let inPage (a : Nat) : Bool := mapRow a == some 0
  let store (t : State) : State := each (l.filter (fun e => inPage e.1 && !isOrder e.1)) (fun e => storeWord e.1 e.2) t
  let names (b : Block) : Bool := l.any (fun e => inPage e.1 && blockOf (pageOf e.1) == some b)
  let s1 := if names .dio then withLines store s else store s
  let s2 := when_ (names .mbc) (each (List.range 4) mbcJudge) s1
  each (l.filter (fun e => !(inPage e.1 && !isOrder e.1))) (fun e t =>
    match mapRow e.1 with
    | some 0 => orderWrite sess e.1 e.2 t
    | some 1 => operatorWrite (imgIndex e.1) e.2 t
    | some 2 => stagingWrite (e.1 - 0x2000000) e.2 t
    | _ => t) s2

/-- R568: the places that a STANDBY or SYNCING module lets hosts write. -/
def standbyPlace (a : Nat) : Bool :=
  match mapRow a with
  | some 0 =>
    match blockOf (pageOf a) with
    | some .sys | some .pwr | some .rst | some .ses | some .red | some .grn | some .pmc | some .mgt | some .upd | some .fpd => true
    | _ => false
  | some 2 => true
  | _ => false

/-- R568: a request is refused on a STANDBY or SYNCING module. -/
def standbyRefuses (s : State) (ws : List ReqWord) : Bool := listening s && ws.any (fun w => !standbyPlace w.a)

/-- R60, R61, R568: the words of one request of a session: applied whole, or rejected whole. -/
def writeWords (sess : Nat) (ws : List ReqWord) (s : State) : State :=
  if standbyRefuses s ws then s
  else
    let f := wordFails s sess ws
    if f = [] then applyWords sess ws s else rejectWords sess ws f s

/-- A write of one register by a session, as a request of its own; a session that is not open writes nothing. -/
def writeReg (sess a v : Nat) (s : State) : State :=
  if sessOpen s sess then
    writeWords sess [⟨a, v % 2 ^ 32, 0xFFFFFFFF⟩] (sesUpd (fun x => { x with curSeq := 2 ^ 64 }) s)
  else s

end Sys2Proof.Machine
end

