-- ==== Sys2Proof/Machine/Host.lean ====
section
/-! DEFINITION. The commands by which sessions reach registers: READ, WRITE and MODIFY (R51-R54, R562, R563, R568), and the
writes of registers whose effect is a step of its own, each a request of one word (log entry 32). -/

namespace Sys2Proof.Machine

/-! ### READ, WRITE and MODIFY (R562) -/

/-- ADDR and COUNT of a request body. -/
def reqAddr (m : QapMsg) : Nat := leNat (m.body.take 4)
def reqCount (m : QapMsg) : Nat := leNat ((m.body.drop 4).take 2)

/-- The stamp of the boundary, behind ADDR and COUNT as they were sent (R562). -/
def stampBytes (s : State) : List Nat := leBytes 8 (seqGen s) ++ leBytes 2 (seqSlot s)

/-- The body of a response to READ; one that is no OK carries no words (log entry 39). -/
def readBody (s : State) (m : QapMsg) (ws : List Nat) : List Nat :=
  m.body.take 6 ++ [0, 0] ++ stampBytes s ++ leBytes 6 0 ++ leBytes 8 (wideGet s Reg.imgGenReadLo) ++ ws.flatMap (leBytes 4)

/-- The body of a response to WRITE or MODIFY. -/
def writeBody (s : State) (m : QapMsg) (cause idx : Nat) : List Nat :=
  m.body.take 6 ++ [cause, 0] ++ stampBytes s ++ leBytes 2 idx ++ leBytes 4 0

/-- R188: the image words that a read of address a checks. -/
def readsImage (s : State) (a : Nat) : List Nat :=
  if mapRow a = some 1 then [imgIndex a]
  else if mapRow a = some 0 ∧ inTagWindow a then (List.range 8).map (tagWord s a) else []

/-- R52, R562, R563: an accepted READ. -/
def qapRead (m : QapMsg) (s : State) : State :=
  let a := reqAddr m
  let n := reqCount m
  if m.body.length ≠ 8 ∨ 256 < n then qapRespond m 3 9 [] s
  else if mapped a n then
    let l := wordAddrs a n
    let s1 := each (l.flatMap (readsImage s)) hostTouch s
    let r := readWords s1 l
    qapRespond m 3 0 (readBody r.2 m r.1) r.2
  else s |> raise_ 0x00 3 |> qapRespond m 3 2 (readBody s m [])

/-- R562: the words of a WRITE body, and of a MODIFY body. -/
def writeReqs (m : QapMsg) : List ReqWord :=
  (List.range (reqCount m)).map (fun i => ⟨reqAddr m + 4 * i, leNat ((m.body.drop (8 + 4 * i)).take 4), 0xFFFFFFFF⟩)
def modifyReqs (m : QapMsg) : List ReqWord :=
  (List.range (reqCount m)).map (fun i =>
    ⟨reqAddr m + 4 * i, leNat ((m.body.drop (8 + 8 * i)).take 4), leNat ((m.body.drop (12 + 8 * i)).take 4)⟩)

/-- R51, R60, R61, R562, R563, R568: an accepted WRITE or MODIFY, by its OP and its words. -/
def qapChange (op : Nat) (m : QapMsg) (ws : List ReqWord) (s : State) : State :=
  if mapped (reqAddr m) ws.length then
    if standbyRefuses s ws then qapRespond m op 0x0A (writeBody s m 0 0) s
    else
      match wordFails s m.slot ws with
      | [] => s |> applyWords m.slot ws |> qapRespond m op 0 (writeBody s m 0 0)
      | f :: fs => s |> rejectWords m.slot ws (f :: fs) |> qapRespond m op 3 (writeBody s m f.cause f.pos)
  else s |> raise_ 0x00 3 |> qapRespond m op 2 (writeBody s m 0 0)

/-- QAP_READ. -/
def execQapRead (m : QapMsg) (hits : List EccHit) (s : State) : Host.Outcome State Fault Refusal :=
  .next (qapRequest 3 m (qapRead m) (each hits strike s))

/-- QAP_WRITE. -/
def execQapWrite (m : QapMsg) (s : State) : Host.Outcome State Fault Refusal :=
  .next (qapRequest 4 m (fun t =>
    if reqCount m ≤ 256 ∧ m.body.length = 8 + 4 * reqCount m then qapChange 4 m (writeReqs m) t else qapRespond m 4 9 [] t) s)

/-- QAP_MODIFY. -/
def execQapModify (m : QapMsg) (s : State) : Host.Outcome State Fault Refusal :=
  .next (qapRequest 5 m (fun t =>
    if reqCount m ≤ 256 ∧ m.body.length = 8 + 8 * reqCount m then qapChange 5 m (modifyReqs m) t else qapRespond m 5 9 [] t) s)

/-! ### Common registers -/

/-- REGISTER_WRITE: any register of the page range, by page and word. -/
def execRegisterWrite (sess : Fin 17) (page : Fin 64) (word : Fin 1024) (v : Word) (s : State) : Host.Outcome State Fault Refusal :=
  .next (writeReg sess (regAddr page (4 * word)) v.toNat s)

/-- R75: EVT_RAW_CLEAR. -/
def execEvtRawClear (sess : Fin 17) (page : Fin 64) (v : Word) (s : State) : Host.Outcome State Fault Refusal :=
  .next (writeReg sess (Reg.evtRaw page) v.toNat s)

/-- R73: EVT_EN_WRITE. -/
def execEvtEnWrite (sess : Fin 17) (page : Fin 64) (v : Word) (s : State) : Host.Outcome State Fault Refusal :=
  .next (writeReg sess (Reg.evtEn page) v.toNat s)

/-- R59: LOCK_WRITE. -/
def execLockWrite (sess : Fin 17) (page : Fin 64) (v : Word) (s : State) : Host.Outcome State Fault Refusal :=
  .next (writeReg sess (Reg.lock page) v.toNat s)

/-- R187: TAG_WINDOW_WRITE of TAGk. -/
def execTagWindowWrite (sess : Fin 17) (k : Fin 512) (v : Word) (s : State) : Host.Outcome State Fault Refusal :=
  .next (writeReg sess (regAddr 0x05 (0x800 + 4 * k)) v.toNat s)

/-- R32: OPERATOR_WORD_WRITE of image word w. -/
def execOperatorWordWrite (sess : Fin 17) (w : Fin 262144) (v : Word) (s : State) : Host.Outcome State Fault Refusal :=
  .next (writeReg sess (0x1000000 + 4 * w) v.toNat s)

/-! ### Orders of the SYS, PWR, CLE, ACH, SYN and MBC pages -/

/-- R628: TAMPER_CLR. -/
def execTamperClr (sess : Fin 17) (s : State) : Host.Outcome State Fault Refusal := .next (writeReg sess Reg.pwrKeepCtrl 1 s)

/-- R78: SYS_RESET. -/
def execSysReset (sess : Fin 17) (key : Fin 65536) (unprotected : Bool) (s : State) : Host.Outcome State Fault Refusal :=
  .next (writeReg sess (Reg.ctrl 0x00) (key.val <<< 8 + b2n unprotected <<< 2 + 1) s)

/-- R77: IDENTIFY. -/
def execIdentify (sess : Fin 17) (s : State) : Host.Outcome State Fault Refusal := .next (writeReg sess (Reg.ctrl 0x00) 2 s)

/-- R66: PAGE_COMMIT_ARM. The CLE page is the one with SHD registers. -/
def execPageCommitArm (sess : Fin 17) (s : State) : Host.Outcome State Fault Refusal := .next (writeReg sess (Reg.ctrl 0x0B) (2 ^ 31) s)

/-- R238: RECAL. -/
def execRecal (sess : Fin 17) (ch : Fin 32) (s : State) : Host.Outcome State Fault Refusal := .next (writeReg sess (Reg.ctrl (0x20 + ch)) 1 s)

/-- R254: OUT_RESTORE. -/
def execOutRestore (sess : Fin 17) (ch : Fin 32) (s : State) : Host.Outcome State Fault Refusal :=
  .next (writeReg sess (Reg.achOutRestore ch) 1 s)

/-- R266, R268: HART_SEND. -/
def execHartSend (sess : Fin 17) (ch : Fin 32) (s : State) : Host.Outcome State Fault Refusal :=
  .next (writeReg sess (Reg.achHartCtrl ch) 1 s)

/-- R270: HART_ABORT. -/
def execHartAbort (sess : Fin 17) (ch : Fin 32) (s : State) : Host.Outcome State Fault Refusal :=
  .next (writeReg sess (Reg.achHartCtrl ch) 2 s)

/-- R328: DISARM. -/
def execDisarm (sess : Fin 17) (s : State) : Host.Outcome State Fault Refusal := .next (writeReg sess (Reg.ctrl 0x0A) 1 s)

/-- R373: OSC_ACK. -/
def execOscAck (sess : Fin 17) (loop : Fin 256) (s : State) : Host.Outcome State Fault Refusal :=
  .next (writeReg sess Reg.cleOscAck (0x100 + loop) s)

/-- R506: RECOVER. -/
def execRecover (sess : Fin 17) (n : Fin 4) (s : State) : Host.Outcome State Fault Refusal := .next (writeReg sess (Reg.ctrl (0x0E + n)) 1 s)

/-! ### Orders of the SAF and SES pages -/

/-- R466: BT_START. -/
def execBtStart (sess : Fin 17) (n : Fin 2) (s : State) : Host.Outcome State Fault Refusal :=
  .next (writeReg sess (Reg.ctrl 0x0D) (2 ^ n.val) s)

/-- R479: SAF_KEY_INSTALL. -/
def execSafKeyInstall (sess : Fin 17) (slot : Fin 2) (s : State) : Host.Outcome State Fault Refusal :=
  .next (writeReg sess Reg.safKeyCtrl (slot.val <<< 8 + 1) s)

/-- R479: SAF_KEY_ERASE. -/
def execSafKeyErase (sess : Fin 17) (slot : Fin 2) (s : State) : Host.Outcome State Fault Refusal :=
  .next (writeReg sess Reg.safKeyCtrl (slot.val <<< 8 + 2) s)

/-- R573: SES_KEY_INSTALL. -/
def execSesKeyInstall (sess : Fin 17) (sheaf : Bool) (slot : Fin 4) (s : State) : Host.Outcome State Fault Refusal :=
  .next (writeReg sess Reg.sesKeyCtrl (slot.val <<< 8 + b2n sheaf <<< 4 + 1) s)

/-- R574: SES_KEY_ERASE. -/
def execSesKeyErase (sess : Fin 17) (sheaf : Bool) (slot : Fin 4) (s : State) : Host.Outcome State Fault Refusal :=
  .next (writeReg sess Reg.sesKeyCtrl (slot.val <<< 8 + b2n sheaf <<< 4 + 2) s)

/-! ### Orders of the RED, GRN, PMC and MGT pages -/

/-- R602: SWAP. -/
def execSwap (sess : Fin 17) (s : State) : Host.Outcome State Fault Refusal := .next (writeReg sess (Reg.ctrl 0x15) 1 s)

/-- R607: HOLD. -/
def execHold (sess : Fin 17) (unprotected : Bool) (s : State) : Host.Outcome State Fault Refusal :=
  .next (writeReg sess (Reg.ctrl 0x15) (b2n unprotected <<< 3 + 2) s)

/-- R607: RESUME. -/
def execResume (sess : Fin 17) (s : State) : Host.Outcome State Fault Refusal := .next (writeReg sess (Reg.ctrl 0x15) 4 s)

/-- R604: CLR_LATENT. -/
def execClrLatent (sess : Fin 17) (s : State) : Host.Outcome State Fault Refusal := .next (writeReg sess (Reg.ctrl 0x15) 16 s)

/-- R662, R663: GRN_CLEAR. -/
def execGrnClear (sess : Fin 17) (count : Fin 131072) (s : State) : Host.Outcome State Fault Refusal :=
  .next (writeReg sess Reg.grnClearConfirm count s)

/-- R669: PMC_SNAP. -/
def execPmcSnap (sess : Fin 17) (s : State) : Host.Outcome State Fault Refusal := .next (writeReg sess (Reg.ctrl 0x17) 1 s)

/-- R675: PROG_START of the programs of a mask. -/
def execProgStart (sess : Fin 17) (mask : Fin 16) (s : State) : Host.Outcome State Fault Refusal :=
  .next (writeReg sess (Reg.ctrl 0x18) mask s)

/-- R682: PROG_STOP of the programs of a mask. -/
def execProgStop (sess : Fin 17) (mask : Fin 16) (s : State) : Host.Outcome State Fault Refusal :=
  .next (writeReg sess (Reg.ctrl 0x18) (mask.val <<< 4) s)

/-! ### Orders of the UPD and FPD pages -/

/-- R686: UPD_BEGIN. -/
def execUpdBegin (sess : Fin 17) (target : Fin 16) (s : State) : Host.Outcome State Fault Refusal :=
  .next (writeReg sess (Reg.ctrl 0x19) (target.val <<< 8 + 1) s)

/-- R686: STAGING_WRITE of word i of the staging window. -/
def execStagingWrite (sess : Fin 17) (i : Fin 2097152) (v : Word) (s : State) : Host.Outcome State Fault Refusal :=
  .next (writeReg sess (0x2000000 + 4 * i) v.toNat s)

/-- R688: UPD_CHECK. -/
def execUpdCheck (sess : Fin 17) (s : State) : Host.Outcome State Fault Refusal := .next (writeReg sess (Reg.ctrl 0x19) 2 s)

/-- R686: UPD_PROGRAM. -/
def execUpdProgram (sess : Fin 17) (s : State) : Host.Outcome State Fault Refusal := .next (writeReg sess (Reg.ctrl 0x19) 3 s)

/-- R690: ACTIVATE_AT. -/
def execActivateAt (sess : Fin 17) (s : State) : Host.Outcome State Fault Refusal := .next (writeReg sess (Reg.ctrl 0x19) 4 s)

/-- R686: ACTIVATE_RESET. -/
def execActivateReset (sess : Fin 17) (s : State) : Host.Outcome State Fault Refusal := .next (writeReg sess (Reg.ctrl 0x19) 5 s)

/-- R686: UPD_ABORT. -/
def execUpdAbort (sess : Fin 17) (s : State) : Host.Outcome State Fault Refusal := .next (writeReg sess (Reg.ctrl 0x19) 6 s)

/-- R705: FPD_UPDATE of the regions of a mask. -/
def execFpdUpdate (sess : Fin 17) (mask : Fin 16) (s : State) : Host.Outcome State Fault Refusal :=
  .next (writeReg sess (Reg.ctrl 0x1A) mask s)

/-- R710: FPD_CLEAR. -/
def execFpdClear (sess : Fin 17) (s : State) : Host.Outcome State Fault Refusal := .next (writeReg sess (Reg.ctrl 0x1A) 0x100 s)

end Sys2Proof.Machine
end

