-- ==== Sys2Proof/Machine/Dispatch.lean ====
section
/-! DEFINITION. One arm per command: each calls that command's meaning. -/

namespace Sys2Proof.Machine

/-- The effect of a command on everything but the queue. -/
def exec (i : Instr) (s : State) : Host.Outcome State Fault Refusal :=
  match i with
  | .supplyValid aMv bMv cellMv temp => Sys2Proof.Machine.execSupplyValid aMv bMv cellMv temp s
  | .coldHoldRelease temp => Sys2Proof.Machine.execColdHoldRelease temp s
  | .resetRelease pins closed bad => Sys2Proof.Machine.execResetRelease pins closed bad s
  | .laneSelfTestDone pass => Sys2Proof.Machine.execLaneSelfTestDone pass s
  | .sheafBankCheck => Sys2Proof.Machine.execSheafBankCheck s
  | .bringupStart va p freq cap bankMv => Sys2Proof.Machine.execBringupStart va p freq cap bankMv s
  | .slotBHeartbeatWaitEnd => Sys2Proof.Machine.execSlotBHeartbeatWaitEnd s
  | .sessionGateOpen => Sys2Proof.Machine.execSessionGateOpen s
  | .admissionWindow => Sys2Proof.Machine.execAdmissionWindow s
  | .fullService => Sys2Proof.Machine.execFullService s
  | .startLate => Sys2Proof.Machine.execStartLate s
  | .powerFail => Sys2Proof.Machine.execPowerFail s
  | .shutdownStart => Sys2Proof.Machine.execShutdownStart s
  | .shutdownBoundary => Sys2Proof.Machine.execShutdownBoundary s
  | .shutdownShed => Sys2Proof.Machine.execShutdownShed s
  | .stageLetGoTimeout => Sys2Proof.Machine.execStageLetGoTimeout s
  | .domainOff aMv bMv cellMv temp => Sys2Proof.Machine.execDomainOff aMv bMv cellMv temp s
  | .supplyLow b mv ma => Sys2Proof.Machine.execSupplyLow b mv ma s
  | .surge b mv ma => Sys2Proof.Machine.execSurge b mv ma s
  | .inputPowerHigh mw => Sys2Proof.Machine.execInputPowerHigh mw s
  | .brownOut => Sys2Proof.Machine.execBrownOut s
  | .moduleReset => Sys2Proof.Machine.execModuleReset s
  | .tamper => Sys2Proof.Machine.execTamper s
  | .tamperClr sess => Sys2Proof.Machine.execTamperClr sess s
  | .buttonRelease => Sys2Proof.Machine.execButtonRelease s
  | .buttonStuck => Sys2Proof.Machine.execButtonStuck s
  | .buttonStuckClear => Sys2Proof.Machine.execButtonStuckClear s
  | .unprotArmExpire => Sys2Proof.Machine.execUnprotArmExpire s
  | .sysReset sess key unprotected => Sys2Proof.Machine.execSysReset sess key unprotected s
  | .identify sess => Sys2Proof.Machine.execIdentify sess s
  | .identifyEnd => Sys2Proof.Machine.execIdentifyEnd s
  | .slotBoundary lagA lagB lagC hits io => Sys2Proof.Machine.execSlotBoundary lagA lagB lagC hits io s
  | .minorCycleBoundary supply => Sys2Proof.Machine.execMinorCycleBoundary supply s
  | .majorCycleBoundary fails => Sys2Proof.Machine.execMajorCycleBoundary fails s
  | .configTakeEffect => Sys2Proof.Machine.execConfigTakeEffect s
  | .pageCommitArm sess => Sys2Proof.Machine.execPageCommitArm sess s
  | .pageCommitApply => Sys2Proof.Machine.execPageCommitApply s
  | .toothEdge n clk aLeads both => Sys2Proof.Machine.execToothEdge n clk aLeads both s
  | .indexEdge n clk aLeads => Sys2Proof.Machine.execIndexEdge n clk aLeads s
  | .piLineFault n stands => Sys2Proof.Machine.execPiLineFault n stands s
  | .piStall n => Sys2Proof.Machine.execPiStall n s
  | .shaftQueueDispatch io => Sys2Proof.Machine.execShaftQueueDispatch io s
  | .standstillListRun io => Sys2Proof.Machine.execStandstillListRun io s
  | .ptpSync p off slave => Sys2Proof.Machine.execPtpSync p off slave s
  | .shipHoldover => Sys2Proof.Machine.execShipHoldover s
  | .bankSwap => Sys2Proof.Machine.execBankSwap s
  | .laneStop lane => Sys2Proof.Machine.execLaneStop lane s
  | .dispatchAfterWait => Sys2Proof.Machine.execDispatchAfterWait s
  | .nop pos => Sys2Proof.Machine.execNop pos s
  | .achStart pos ch window cmd => Sys2Proof.Machine.execAchStart pos ch window cmd s
  | .achLatch pos ch dst status meas => Sys2Proof.Machine.execAchLatch pos ch dst status meas s
  | .windowOverrun ch => Sys2Proof.Machine.execWindowOverrun ch s
  | .bringupConversion ch conv => Sys2Proof.Machine.execBringupConversion ch conv s
  | .miswire ch => Sys2Proof.Machine.execMiswire ch s
  | .miswireClear ch => Sys2Proof.Machine.execMiswireClear ch s
  | .recal sess ch => Sys2Proof.Machine.execRecal sess ch s
  | .calibrationEnd ch cal => Sys2Proof.Machine.execCalibrationEnd ch cal s
  | .fieldAlarm ch => Sys2Proof.Machine.execFieldAlarm ch s
  | .outRestore sess ch => Sys2Proof.Machine.execOutRestore sess ch s
  | .mismatchClearApply ch => Sys2Proof.Machine.execMismatchClearApply ch s
  | .loopOverload ch => Sys2Proof.Machine.execLoopOverload ch s
  | .overloadRetry ch => Sys2Proof.Machine.execOverloadRetry ch s
  | .railFail ch => Sys2Proof.Machine.execRailFail ch s
  | .railRecover ch => Sys2Proof.Machine.execRailRecover ch s
  | .lspPowerHigh mw => Sys2Proof.Machine.execLspPowerHigh mw s
  | .hartSend sess ch => Sys2Proof.Machine.execHartSend sess ch s
  | .hartAbort sess ch => Sys2Proof.Machine.execHartAbort sess ch s
  | .hartBusFree ch => Sys2Proof.Machine.execHartBusFree ch s
  | .hartTxDone ch => Sys2Proof.Machine.execHartTxDone ch s
  | .hartFrameReceived ch bytes framing => Sys2Proof.Machine.execHartFrameReceived ch bytes framing s
  | .hartNoResponse ch => Sys2Proof.Machine.execHartNoResponse ch s
  | .hartRxLenRead ch => Sys2Proof.Machine.execHartRxLenRead ch s
  | .dioSample pos mask0 mask1 dst => Sys2Proof.Machine.execDioSample pos mask0 mask1 dst s
  | .dioDrive pos len mask0 mask1 src => Sys2Proof.Machine.execDioDrive pos len mask0 mask1 src s
  | .diQualify ch mv us => Sys2Proof.Machine.execDiQualify ch mv us s
  | .fsLow mv => Sys2Proof.Machine.execFsLow mv s
  | .fsLowClear mv => Sys2Proof.Machine.execFsLowClear mv s
  | .testPulse ch mv => Sys2Proof.Machine.execTestPulse ch mv s
  | .lineStateChange ch cond holds => Sys2Proof.Machine.execLineStateChange ch cond holds s
  | .outputShort ch overload => Sys2Proof.Machine.execOutputShort ch overload s
  | .outputRetry ch => Sys2Proof.Machine.execOutputRetry ch s
  | .pulseEnd ch => Sys2Proof.Machine.execPulseEnd ch s
  | .piuLatch pos input dst => Sys2Proof.Machine.execPiuLatch pos input dst s
  | .gmuSnap pos mask dst => Sys2Proof.Machine.execGmuSnap pos mask dst s
  | .synArm pos set req status => Sys2Proof.Machine.execSynArm pos set req status s
  | .synSettled => Sys2Proof.Machine.execSynSettled s
  | .closeIssued => Sys2Proof.Machine.execCloseIssued s
  | .closeDone => Sys2Proof.Machine.execCloseDone s
  | .synTimeout => Sys2Proof.Machine.execSynTimeout s
  | .armStale => Sys2Proof.Machine.execArmStale s
  | .disarm sess => Sys2Proof.Machine.execDisarm sess s
  | .synFeedback => Sys2Proof.Machine.execSynFeedback s
  | .imgCopy pos count src dst hits => Sys2Proof.Machine.execImgCopy pos count src dst hits s
  | .cleRun pos first count => Sys2Proof.Machine.execCleRun pos first count s
  | .cleRunDeferredStart => Sys2Proof.Machine.execCleRunDeferredStart s
  | .oscAck sess loop => Sys2Proof.Machine.execOscAck sess loop s
  | .slvStart pos slot d => Sys2Proof.Machine.execSlvStart pos slot d s
  | .solverJobStart => Sys2Proof.Machine.execSolverJobStart s
  | .solverJobEnd cycles upset => Sys2Proof.Machine.execSolverJobEnd cycles upset s
  | .slvDeadline pos slot iters => Sys2Proof.Machine.execSlvDeadline pos slot iters s
  | .laneCheckDone slot clocks => Sys2Proof.Machine.execLaneCheckDone slot clocks s
  | .slvCollect pos slot => Sys2Proof.Machine.execSlvCollect pos slot s
  | .wedged => Sys2Proof.Machine.execWedged s
  | .safExport pos dst => Sys2Proof.Machine.execSafExport pos dst s
  | .safetyInputChange n run clk mid => Sys2Proof.Machine.execSafetyInputChange n run clk mid s
  | .discrepancy k => Sys2Proof.Machine.execDiscrepancy k s
  | .safetyTestSourcePulse src on => Sys2Proof.Machine.execSafetyTestSourcePulse src on s
  | .resetPressRelease n clk => Sys2Proof.Machine.execResetPressRelease n clk s
  | .resetStuck n => Sys2Proof.Machine.execResetStuck n s
  | .resetStuckClear n => Sys2Proof.Machine.execResetStuckClear n s
  | .channelCompare inUs outUs => Sys2Proof.Machine.execChannelCompare inUs outUs s
  | .faultWaitExpire => Sys2Proof.Machine.execFaultWaitExpire s
  | .soPulseTest o cut => Sys2Proof.Machine.execSoPulseTest o cut s
  | .brakeReleaseTimeout n ma => Sys2Proof.Machine.execBrakeReleaseTimeout n ma s
  | .brakeApplyTimeout n ma first => Sys2Proof.Machine.execBrakeApplyTimeout n ma first s
  | .btDue n => Sys2Proof.Machine.execBtDue n s
  | .btStart sess n => Sys2Proof.Machine.execBtStart sess n s
  | .btConfirmTimeout n => Sys2Proof.Machine.execBtConfirmTimeout n s
  | .btTimeEnd n => Sys2Proof.Machine.execBtTimeEnd n s
  | .safetyPiEdge pi aLeads => Sys2Proof.Machine.execSafetyPiEdge pi aLeads s
  | .safetyRecordPeriodic => Sys2Proof.Machine.execSafetyRecordPeriodic s
  | .safetyRecordReceived bytes => Sys2Proof.Machine.execSafetyRecordReceived bytes s
  | .storeStale => Sys2Proof.Machine.execStoreStale s
  | .safetyTakeover => Sys2Proof.Machine.execSafetyTakeover s
  | .safetyHandover => Sys2Proof.Machine.execSafetyHandover s
  | .safetySelfTestDone pass fs x0 y0 x1 y1 => Sys2Proof.Machine.execSafetySelfTestDone pass fs x0 y0 x1 y1 s
  | .safKeyInstall sess slot => Sys2Proof.Machine.execSafKeyInstall sess slot s
  | .safKeyErase sess slot => Sys2Proof.Machine.execSafKeyErase sess slot s
  | .mbcSend pos n d => Sys2Proof.Machine.execMbcSend pos n d s
  | .mbcMap pos n first count => Sys2Proof.Machine.execMbcMap pos n first count s
  | .txAttempt n => Sys2Proof.Machine.execTxAttempt n s
  | .txAttemptEnd n e data extra tdc bits => Sys2Proof.Machine.execTxAttemptEnd n e data extra tdc bits s
  | .canFrameReceived n f sof => Sys2Proof.Machine.execCanFrameReceived n f sof s
  | .busError n code data extra bits => Sys2Proof.Machine.execBusError n code data extra bits s
  | .recovered n => Sys2Proof.Machine.execRecovered n s
  | .recover sess n => Sys2Proof.Machine.execRecover sess n s
  | .mslMap pos n first count => Sys2Proof.Machine.execMslMap pos n first count s
  | .mslSentence n chars framing tag sof => Sys2Proof.Machine.execMslSentence n chars framing tag sof s
  | .mslSilent n => Sys2Proof.Machine.execMslSilent n s
  | .netPublish pos k => Sys2Proof.Machine.execNetPublish pos k s
  | .netAccept pos k => Sys2Proof.Machine.execNetAccept pos k s
  | .pubDatagramRx ports b => Sys2Proof.Machine.execPubDatagramRx ports b s
  | .sfpInsert p kind mw => Sys2Proof.Machine.execSfpInsert p kind mw s
  | .linkChange p up => Sys2Proof.Machine.execLinkChange p up s
  | .pathFault p => Sys2Proof.Machine.execPathFault p s
  | .supervisionFrame => Sys2Proof.Machine.execSupervisionFrame s
  | .qapOpen m => Sys2Proof.Machine.execQapOpen m s
  | .qapProve m => Sys2Proof.Machine.execQapProve m s
  | .lockoutExpire r => Sys2Proof.Machine.execLockoutExpire r s
  | .provingTimeout k => Sys2Proof.Machine.execProvingTimeout k s
  | .qapRead m hits => Sys2Proof.Machine.execQapRead m hits s
  | .qapWrite m => Sys2Proof.Machine.execQapWrite m s
  | .qapModify m => Sys2Proof.Machine.execQapModify m s
  | .qapSubscribe m => Sys2Proof.Machine.execQapSubscribe m s
  | .qapFreeze m => Sys2Proof.Machine.execQapFreeze m s
  | .qapUnfreeze m => Sys2Proof.Machine.execQapUnfreeze m s
  | .qapCommit m => Sys2Proof.Machine.execQapCommit m s
  | .qapClose m => Sys2Proof.Machine.execQapClose m s
  | .idleTimeout k => Sys2Proof.Machine.execIdleTimeout k s
  | .evtRawClear sess page v => Sys2Proof.Machine.execEvtRawClear sess page v s
  | .evtEnWrite sess page v => Sys2Proof.Machine.execEvtEnWrite sess page v s
  | .lockWrite sess page v => Sys2Proof.Machine.execLockWrite sess page v s
  | .tagWindowWrite sess k v => Sys2Proof.Machine.execTagWindowWrite sess k v s
  | .operatorWordWrite sess w v => Sys2Proof.Machine.execOperatorWordWrite sess w v s
  | .registerWrite sess page word v => Sys2Proof.Machine.execRegisterWrite sess page word v s
  | .sesKeyInstall sess sheaf slot => Sys2Proof.Machine.execSesKeyInstall sess sheaf slot s
  | .sesKeyErase sess sheaf slot => Sys2Proof.Machine.execSesKeyErase sess sheaf slot s
  | .heartbeatRx path bytes => Sys2Proof.Machine.execHeartbeatRx path bytes s
  | .heartbeatCheck => Sys2Proof.Machine.execHeartbeatCheck s
  | .tokenLineChange mine l => Sys2Proof.Machine.execTokenLineChange mine l s
  | .clockStop => Sys2Proof.Machine.execClockStop s
  | .takeover => Sys2Proof.Machine.execTakeover s
  | .sluCopy pos => Sys2Proof.Machine.execSluCopy pos s
  | .sluiceFrameRx lane f => Sys2Proof.Machine.execSluiceFrameRx lane f s
  | .copyLost => Sys2Proof.Machine.execCopyLost s
  | .sluiceLane lane => Sys2Proof.Machine.execSluiceLane lane s
  | .syncDone => Sys2Proof.Machine.execSyncDone s
  | .swap sess => Sys2Proof.Machine.execSwap sess s
  | .plannedSwapBoundary => Sys2Proof.Machine.execPlannedSwapBoundary s
  | .plannedSwapRelease => Sys2Proof.Machine.execPlannedSwapRelease s
  | .hold sess unprotected => Sys2Proof.Machine.execHold sess unprotected s
  | .resume sess => Sys2Proof.Machine.execResume sess s
  | .clrLatent sess => Sys2Proof.Machine.execClrLatent sess s
  | .idleHour => Sys2Proof.Machine.execIdleHour s
  | .grnTick pos first count => Sys2Proof.Machine.execGrnTick pos first count s
  | .recordCommit => Sys2Proof.Machine.execRecordCommit s
  | .freezeExpired => Sys2Proof.Machine.execFreezeExpired s
  | .grnClear sess count => Sys2Proof.Machine.execGrnClear sess count s
  | .grnEraseDone => Sys2Proof.Machine.execGrnEraseDone s
  | .pmcSnap sess => Sys2Proof.Machine.execPmcSnap sess s
  | .pmcMark pos k => Sys2Proof.Machine.execPmcMark pos k s
  | .counterWrap k => Sys2Proof.Machine.execCounterWrap k s
  | .progWatchdog p => Sys2Proof.Machine.execProgWatchdog p s
  | .progMemoryFault p => Sys2Proof.Machine.execProgMemoryFault p s
  | .progRestart p => Sys2Proof.Machine.execProgRestart p s
  | .progStart sess mask => Sys2Proof.Machine.execProgStart sess mask s
  | .progStop sess mask => Sys2Proof.Machine.execProgStop sess mask s
  | .progDatagram p tx ip port far bytes tooMany => Sys2Proof.Machine.execProgDatagram p tx ip port far bytes tooMany s
  | .sensorLimit k v peak => Sys2Proof.Machine.execSensorLimit k v peak s
  | .updBegin sess target => Sys2Proof.Machine.execUpdBegin sess target s
  | .stagingWrite sess w v => Sys2Proof.Machine.execStagingWrite sess w v s
  | .updCheck sess => Sys2Proof.Machine.execUpdCheck sess s
  | .updCheckDone => Sys2Proof.Machine.execUpdCheckDone s
  | .updProgram sess => Sys2Proof.Machine.execUpdProgram sess s
  | .updProgramDone ok => Sys2Proof.Machine.execUpdProgramDone ok s
  | .activateAt sess => Sys2Proof.Machine.execActivateAt sess s
  | .preloadDone ok => Sys2Proof.Machine.execPreloadDone ok s
  | .sheafActivate => Sys2Proof.Machine.execSheafActivate s
  | .activateReset sess => Sys2Proof.Machine.execActivateReset sess s
  | .updAbort sess => Sys2Proof.Machine.execUpdAbort sess s
  | .progActivationFail p load => Sys2Proof.Machine.execProgActivationFail p load s
  | .fpdRefresh pos target => Sys2Proof.Machine.execFpdRefresh pos target s
  | .lcdAutoCompose => Sys2Proof.Machine.execLcdAutoCompose s
  | .lcdFrame => Sys2Proof.Machine.execLcdFrame s
  | .fpdUpdate sess mask => Sys2Proof.Machine.execFpdUpdate sess mask s
  | .fpdClear sess => Sys2Proof.Machine.execFpdClear sess s
  | .panelFrame temp mj => Sys2Proof.Machine.execPanelFrame temp mj s
  | .panelRailFault => Sys2Proof.Machine.execPanelRailFault s
  | .hartStartCharacter ch => Sys2Proof.Machine.execHartStartCharacter ch s
  | .ptpDelayResponse p => Sys2Proof.Machine.execPtpDelayResponse p s
  | .sluiceLaneUp lane => Sys2Proof.Machine.execSluiceLaneUp lane s
  | .safetySupplyBrownOut => Sys2Proof.Machine.execSafetySupplyBrownOut s
  | .soOvercurrent o => Sys2Proof.Machine.execSoOvercurrent o s
  | .soTerminalStuck o => Sys2Proof.Machine.execSoTerminalStuck o s
  | .coilCurrentLost n ma => Sys2Proof.Machine.execCoilCurrentLost n ma s
  | .laneCEngineTest => Sys2Proof.Machine.execLaneCEngineTest s
  | .sensorFault k => Sys2Proof.Machine.execSensorFault k s
  | .panelRailUp => Sys2Proof.Machine.execPanelRailUp s
  | .discreteStageLetGo => Sys2Proof.Machine.execDiscreteStageLetGo s
  | .buttonPress => Sys2Proof.Machine.execButtonPress s

end Sys2Proof.Machine
end

