-- ==== Sys2Proof/Safety.lean ====
section
/-! DEFINITION. The terms in which claims are stated: the invariant of what State stores by address (registers, 64-bit pairs, values
in force, overlay, non-volatile banks and the station image are in their one canonical form, so that equal contents are equal
data), the frames of commands, and a register write that the checks of R60 accept. -/

namespace Sys2Proof.Machine

/-- Everything State stores by address or number stands in canonical form (keys rising, and no entry equal to what an unlisted key
reads as): registers, 64-bit pairs, values in force, overlay, Sheaf banks; of the image the words, line pointers, dirty marks and
words that differ in one lane (R179-R192); sessions, pulse inputs, channels, loops, job slots, brakes, message-bus controllers,
map records, subscriptions, field maps and programs. -/
abbrev State.tidy (s : State) : Prop :=
  tabWf resetValue s.regs = true ∧ tabWf (fun _ => (0 : Nat)) s.wide = true ∧ tabWf (fun _ => (none : Option Word)) s.effOld = true ∧
    tabWf (fun _ => (none : Option Word)) s.overlay = true ∧ tabWf (fun _ => (0 : Word)) s.sheaf = true ∧
    tabWf (fun _ => cellInit) s.img.words = true ∧ tabWf (fun _ => false) s.img.ptr = true ∧
    tabWf (fun _ => false) s.img.dirty = true ∧ tabWf (fun _ => (none : Option ICell)) s.img.laneDiff = true ∧
    tabWf (fun _ => ({} : Session)) s.ses.slots = true ∧ tabWf (fun _ => ({} : PiuIn)) s.piu = true ∧
    tabWf (fun _ => ({} : AchCh)) s.ach = true ∧ tabWf (fun _ => ({} : LoopSt)) s.cle.loops = true ∧
    tabWf (fun _ => ({} : JobSlot)) s.slv.slots = true ∧ tabWf (fun _ => ({} : Brake)) s.saf.brakes = true ∧
    tabWf (fun _ => ({} : MbcSt)) s.mbc = true ∧ tabWf (fun _ => ({} : MapSt)) s.maps = true ∧
    tabWf (fun _ => ({} : SubSt)) s.net.subs = true ∧ tabWf (fun _ => ({} : MapSt)) s.mslMaps = true ∧
    tabWf (fun _ => ({} : ProgSt)) s.mgt.progs = true

/-- `s` with what the raising of events may change taken from `t`: registers, event occurrences, Granary, performance counters,
notifications and FPD.LAST_FAULT (R72-R75, R652-R658, R666). -/
def evented (s t : State) : State :=
  { s with regs := t.regs, evtClk := t.evtClk, grn := t.grn, pmc := t.pmc, ses := t.ses, fpd := t.fpd }

/-- `s` with what the passage of control clocks may change taken from `t`: the clock, what entries in progress write, read and send
(R166), and what follows from that: events, counters, faults of lanes (R608, R609), publications and notifications that leave. -/
def lapsed (s t : State) : State :=
  { evented s t with
    now := t.now, img := t.img, seq := t.seq, pwr := t.pwr, red := t.red, dio := t.dio, ach := t.ach, cle := t.cle, slv := t.slv,
    mbc := t.mbc, maps := t.maps, mbcBad := t.mbcBad, net := t.net, mslMaps := t.mslMaps, mgt := t.mgt, out := t.out,
    draws := t.draws }

/-- Every register outside the list holds in `t` what it holds in `s`. -/
def OnlyRegs (l : List Nat) (s t : State) : Prop := ∀ a, a ∉ l → rd t a = rd s a

/-- A saturating counter has counted one more. -/
def Counted (a : Nat) (s t : State) : Prop := rd t a = satAdd 0xFFFFFFFF (rd s a) 1

/-- The state in which the checks of a one-word request run: the request is not a WRITE that stages a key (R573). -/
def asked (s : State) : State := sesUpd (fun x => { x with curSeq := 2 ^ 64 }) s

/-- A write of `v` to `a` by session `sess` passes every check of R60: the session is open, its module takes writes (R568), and the
word fails no check. -/
abbrev Accepts (s : State) (sess a v : Nat) : Prop :=
  sessOpen s sess = true ∧ standbyRefuses (asked s) [⟨a, v % 2 ^ 32, 0xFFFFFFFF⟩] = false ∧
    wordFails (asked s) sess [⟨a, v % 2 ^ 32, 0xFFFFFFFF⟩] = []

/-- A tagged request of operation `op` that its session accepts (R550, R555-R557): of the right length, for an open slot, with the
tag of the session key and a fresh SEQ. -/
abbrev Asks (s : State) (op : Nat) (m : QapMsg) : Prop :=
  m.wrongLen = false ∧ m.slot < 16 ∧ (session s m.slot).state = 2 ∧ qapTag (session s m.slot).key (m.bytes op) = m.tag ∧
    seqFresh (session s m.slot) m.seq = true

/-- The state in which an accepted request acts: it is noted in its session and in the counters of requests. -/
def taken (s : State) (m : QapMsg) : State := qapAccept m (pmcInc 155 (pmcInc 136 s))

/-- The tagged answer to a request of operation `op`, with its status and body (R551, R558). -/
def answer (s : State) (op status : Nat) (m : QapMsg) (body : List Nat) : Out :=
  .udp m.port m.ip m.udp (qapAnswer m op m.slot status ((session s m.slot).seqOut + 1) body (session s m.slot).key)

/-- The schedule in force gives entry `e` next (R37, R140). -/
abbrev Due (s : State) (e : Entry) : Prop :=
  dispatching s = true ∧ s.seq.swapDue = false ∧ nextEntry s = some { e with slot := seqSlot s }

/-- The state at the clock of position `pos`, in which the scheduled entry acts (R165). -/
def atTurn (pos : Nat) (s : State) : State := beginDispatch pos { s with seq := { s.seq with pos := s.seq.pos + 1 } }

/-- The state one clock after that, in which an entry that acts on image words at once reads them (R166). -/
def atRead (pos : Nat) (s : State) : State := advanceTo ((atTurn pos s).now + 1) (atTurn pos s)

/-- What the entry now acting reads from word `w` where all lanes store the same (R166, R169-R171). -/
def asRead (u : State) (w : Nat) : ICell := laneFetch u u.seq.nextUid 0 w

/-- From u to t one outstanding entry is left (R166): its TARGET page, its destination words, and the clock at which the last of
them is written. -/
def Leaves (u t : State) (page : Nat) (words : List Nat) (last : Nat) : Prop :=
  t.seq.outst.map (fun e => (e.e.target, e.words, e.last)) = u.seq.outst.map (fun e => (e.e.target, e.words, e.last)) ++ [(page, words, last)]

/-- The words that the newest outstanding entry is still to write: the clock, the word and the value of each. -/
def writes (t : State) : List (Nat × Nat × Word) :=
  ((t.seq.outst.getLast?.map (fun e => e.todo)).getD []).filterMap (fun x => match x.2 with
    | .put w c => some (x.1, w, c.val)
    | _ => none)

end Sys2Proof.Machine
end

