-- ==== Sys2Proof/Certificates/Slice0/Obligations.lean ====
section
/-! DEFINITION. The statements for the provers, each a proposition over all states and operands. A statement that rests on a choice
of the model names the row of the assumption log. -/

open Sys2Proof Sys2Proof.Machine

/-- Power failure, ride-through and its end. A POWER_FAIL in a running module starts a ride-through: the clock of the
  failure is kept, RIDE_THROUGH of PWR.STAT is set and no other bit of it changes, POWER_FAIL is raised and PF_N is
  low; a module still held in reset is off; in any other phase nothing changes. A SUPPLY_VALID within 20 ms ends the
  ride-through: RIDE_THROUGH is cleared, CNT_DIP counts it, RIDE_THROUGH is raised, the module runs on and PF_N is
  high; after that, and in the shutdown phase, it is only remembered and PF_N is high.
  (spec/18_power_start_up_and_reset.md (R615), spec/18_power_start_up_and_reset.md (R618),
  spec/18_power_start_up_and_reset.md (R622), spec/22_connectors_and_ratings.md (R721)) -/
def Obligations.PowerFailAndReturn : Prop := ∀ s : State, s.tidy →
  (s.pwr.phase = .running → ∃ t, exec .powerFail s = .next t ∧ flag t (Reg.evtRaw 0x01) 0 = true ∧ flag t (Reg.stat
    0x01) 3 = true ∧ (∀ i : Nat, i < 32 → i ≠ 3 → flag t (Reg.stat 0x01) i = flag s (Reg.stat 0x01) i) ∧ pfLow t =
    true ∧ OnlyRegs [Reg.stat 0x01, Reg.evtRaw 0x01, Reg.evtRaw 0x16] s t ∧ t =
    { evented s t with pwr :=
                         { s.pwr with phase := .rideThrough, failClk := s.now, failed := true, supplyReturn := false }
                         }) ∧
  (s.pwr.phase = .resetHeld ∨ s.pwr.phase = .coldHold → ∃ t, exec .powerFail s = .next t ∧ t =
    { s with pwr := { s.pwr with phase := .keepAlive } }) ∧
  (s.pwr.phase = .keepAlive ∨ s.pwr.phase = .rideThrough ∨ s.pwr.phase = .shutdown ∨ s.pwr.phase = .shed → ∃ t, exec
    .powerFail s = .next t ∧ t = s) ∧
  (∀ (aMv bMv cellMv : Nat) (temp : Int), s.pwr.phase = .rideThrough → s.now ≤ s.pwr.failClk + 4000000 → ∃ t, exec
    (.supplyValid aMv bMv cellMv temp) s = .next t ∧ flag t (Reg.evtRaw 0x01) 1 = true ∧ flag t (Reg.stat 0x01) 3 =
    false ∧ Counted Reg.pwrCntDip s t ∧ pfLow t = false ∧ OnlyRegs [Reg.stat 0x01, Reg.pwrCntDip, Reg.evtRaw 0x01,
    Reg.evtRaw 0x16] s t ∧ t = { evented s t with wide := t.wide, effOld := t.effOld, sheaf := t.sheaf, active :=
                                                    t.active, img := t.img, seq := t.seq, tbu := t.tbu, pwr :=
                                                    { s.pwr with phase := .running, failed := false }, red := t.red,
                                                    dio := t.dio, piu := t.piu, gmu := t.gmu, syn := t.syn, ach :=
                                                    t.ach, cle := t.cle, slv := t.slv, saf := t.saf, mbc := t.mbc,
                                                    maps := t.maps, mbcBad := t.mbcBad, net := t.net, msl := t.msl,
                                                    mslMaps := t.mslMaps, mgt := t.mgt, slu := t.slu, upd := t.upd }) ∧
  (∀ (aMv bMv cellMv : Nat) (temp : Int), s.pwr.phase = .shutdown ∨ s.pwr.phase = .shed ∨ s.pwr.phase = .rideThrough ∧
    s.pwr.failClk + 4000000 < s.now → ∃ t, exec (.supplyValid aMv bMv cellMv temp) s = .next t ∧ t =
    { s with pwr := { s.pwr with supplyReturn := true, failed := false } } ∧ pfLow t = false)

/-- What the supply measurements set and raise. SUPPLY_LOW and SURGE put voltage and current of an input into its
  SUPPLY register and decide its OK bit by 33 V; below 33 V on an input that CFG names, SUPPLY_LOW counts and raises
  its event. Above 80 V SURGE sets its STAT bit, counts and raises its event; at 80 V or below the bit stands where an
  input is above 80 V. INPUT_POWER_HIGH puts the power into INPUT_POWER and above 72 W raises its event. Nothing else
  changes. (spec/18_power_start_up_and_reset.md (R614), spec/18_power_start_up_and_reset.md (R616),
  spec/18_power_start_up_and_reset.md (R624), spec/18_power_start_up_and_reset.md (R645)) -/
def Obligations.SupplyMeasurements : Prop := ∀ s : State, s.tidy →
  (∀ (b : Bool) (mv ma : Nat), mv < 33000 → flag s Reg.pwrCfg (b2n b) = true → ∃ t, exec (.supplyLow b mv ma) s =
    .next t ∧ (rd t (if b then Reg.pwrSupplyB else Reg.pwrSupplyA) = min 65535 ma <<< 16 + min 65535 (mv / 10)) ∧ flag
    t (Reg.stat 0x01) (b2n b) = false ∧ (Counted (if b then Reg.pwrCntLowB else Reg.pwrCntLowA) s t) ∧ flag t
    (Reg.evtRaw 0x01) (2 + b2n b) = true ∧ (OnlyRegs [if b then Reg.pwrSupplyB else Reg.pwrSupplyA, Reg.stat 0x01, if
    b then Reg.pwrCntLowB else Reg.pwrCntLowA, Reg.evtRaw 0x01, Reg.evtRaw 0x16] s t) ∧ t = evented s t) ∧
  (∀ (b : Bool) (mv ma : Nat), 33000 ≤ mv ∨ flag s Reg.pwrCfg (b2n b) = false → ∃ t, exec (.supplyLow b mv ma) s =
    .next t ∧ (rd t (if b then Reg.pwrSupplyB else Reg.pwrSupplyA) = min 65535 ma <<< 16 + min 65535 (mv / 10)) ∧ flag
    t (Reg.stat 0x01) (b2n b) = decide (33000 ≤ mv) ∧ (OnlyRegs [if b then Reg.pwrSupplyB else Reg.pwrSupplyA,
    Reg.stat 0x01] s t) ∧ t = { s with regs := t.regs }) ∧
  (∀ (b : Bool) (mv ma : Nat), 80000 < mv → ∃ t, exec (.surge b mv ma) s = .next t ∧ flag t (Reg.evtRaw 0x01) 4 = true
    ∧ (rd t (if b then Reg.pwrSupplyB else Reg.pwrSupplyA) = min 65535 ma <<< 16 + min 65535 (mv / 10)) ∧ flag t
    (Reg.stat 0x01) 2 = true ∧ flag t (Reg.stat 0x01) (b2n b) = true ∧ Counted Reg.pwrCntSurge s t ∧ (OnlyRegs [if b
    then Reg.pwrSupplyB else Reg.pwrSupplyA, Reg.stat 0x01, Reg.pwrCntSurge, Reg.evtRaw 0x01, Reg.evtRaw 0x16] s t) ∧
    t = evented s t) ∧
  (∀ (b : Bool) (mv ma : Nat), mv ≤ 80000 → ∃ t, exec (.surge b mv ma) s = .next t ∧ (rd t (if b then Reg.pwrSupplyB
    else Reg.pwrSupplyA) = min 65535 ma <<< 16 + min 65535 (mv / 10)) ∧ flag t (Reg.stat 0x01) 2 = surgeNow t ∧
    (OnlyRegs [if b then Reg.pwrSupplyB else Reg.pwrSupplyA, Reg.stat 0x01] s t) ∧ t = { s with regs := t.regs }) ∧
  (∀ (mw : Nat), 72000 < mw → ∃ t, exec (.inputPowerHigh mw) s = .next t ∧ flag t (Reg.evtRaw 0x01) 8 = true ∧ rd t
    Reg.pwrInputPower = min 131071 mw ∧ OnlyRegs [Reg.pwrInputPower, Reg.evtRaw 0x01, Reg.evtRaw 0x16] s t ∧ t =
    evented s t) ∧
  (∀ (mw : Nat), mw ≤ 72000 → ∃ t, exec (.inputPowerHigh mw) s = .next t ∧ rd t Reg.pwrInputPower = mw ∧ OnlyRegs
    [Reg.pwrInputPower] s t ∧ t = { s with regs := t.regs })

/-- Power-on, the cold-start hold, the keep-alive domain and tampering. At power-on (SUPPLY_VALID in the keep-alive
  phase) the module is held in reset with cause power-on: with a keep-alive domain whose CRC is right the power cycle
  counter rises by one, the shutdown time moves into ship time, KEEP_STATE shows cell voltage, a low cell and a
  missing time, and a cell below 2.6 V raises its event; with a wrong CRC the counter is 1, the tamper latch is set,
  KEEP_STATE shows both, and KEEP_FAIL and TAMPER are raised. Below the cold-start limit the module is held, until
  COLD_HOLD_RELEASE gives a temperature at the limit or above. TAMPER sets the latch under a fresh CRC, with
  KEEP_STATE and STAT of SYS, and raises its event; where only the domain runs, the latch alone. DOMAIN_OFF leaves
  only the domain running, with the Granary ring, the overlay and the non-volatile banks kept, or starts the module as
  after a power-on where the supply has returned. (spec/00_scope.md (R4), spec/18_power_start_up_and_reset.md (R622),
  spec/18_power_start_up_and_reset.md (R625), spec/18_power_start_up_and_reset.md (R626),
  spec/18_power_start_up_and_reset.md (R628), spec/18_power_start_up_and_reset.md (R629)) -/
def Obligations.PowerOnAndKeepAlive : Prop := ∀ s : State, s.tidy →
  (∀ (aMv bMv cellMv : Nat) (temp : Int), s.pwr.phase = .keepAlive → s.pwr.keep.crc = keepCrc s.pwr.keep →
    s.pwr.keep.tamper = false → coldLimit s ≤ temp → ∃ t, exec (.supplyValid aMv bMv cellMv temp) s = .next t ∧
    t.pwr.phase = .resetHeld ∧ t.pwr.powerOn = true ∧ t.pwr.source = 1 ∧ t.pwr.keep.cycles = (s.pwr.keep.cycles + 1) %
    2 ^ 64 ∧ t.pwr.keep.shut = 0 ∧ t.tbu.ship = s.pwr.keep.shut ∧ t.pwr.shutMissing = (s.pwr.keep.shut == 0) ∧
    t.pwr.originClk = s.now ∧ rd t Reg.pwrKeepState = (min 65535 cellMv <<< 16 + b2n (decide (cellMv < 2600)) <<< 1) +
    b2n (s.pwr.keep.shut == 0) <<< 3 ∧ (cellMv < 2600 → flag t (Reg.evtRaw 0x01) 6 = true) ∧ t.seq = {} ∧ t.img = {} ∧
    t.out = s.out ∧ t.now = s.now ∧ t.overlay = s.overlay) ∧
  (∀ (aMv bMv cellMv : Nat) (temp : Int), s.pwr.phase = .keepAlive → s.pwr.keep.crc ≠ keepCrc s.pwr.keep → coldLimit s
    ≤ temp → ∃ t, exec (.supplyValid aMv bMv cellMv temp) s = .next t ∧ t.pwr.phase = .resetHeld ∧ t.pwr.keep.cycles =
    1 ∧ t.pwr.keep.shut = 0 ∧ t.pwr.keep.tamper = true ∧ flag t Reg.pwrKeepState 2 = true ∧ flag t Reg.pwrKeepState 0
    = true ∧ flag t Reg.pwrKeepState 3 = false ∧ flag t (Reg.evtRaw 0x01) 7 = true ∧ flag t (Reg.evtRaw 0x00) 4 =
    true) ∧
  (∀ (aMv bMv cellMv : Nat) (temp : Int), s.pwr.phase = .keepAlive → temp < coldLimit s → ∃ t, exec (.supplyValid aMv
    bMv cellMv temp) s = .next t ∧ t.pwr.phase = .coldHold ∧ t.pwr.coldHeld = true) ∧
  (∀ (temp : Int), s.pwr.phase = .coldHold → coldLimit s ≤ temp → ∃ t, exec (.coldHoldRelease temp) s = .next t ∧ t =
    { s with pwr := { s.pwr with phase := .resetHeld } }) ∧
  (∀ (temp : Int), temp < coldLimit s → ∃ t, exec (.coldHoldRelease temp) s = .next t ∧ t = s) ∧
  (s.pwr.phase ≠ .keepAlive → ∃ t, exec .tamper s = .next t ∧ flag t (Reg.evtRaw 0x00) 4 = true ∧ t.pwr.keep.tamper =
    true ∧ flag t Reg.pwrKeepState 0 = true ∧ flag t (Reg.stat 0) 5 = true ∧ t.pwr.keep.cycles = s.pwr.keep.cycles ∧
    t.pwr.keep.shut = s.pwr.keep.shut ∧ t.pwr.keep.crc = keepCrc t.pwr.keep ∧ OnlyRegs [Reg.pwrKeepState, Reg.stat 0,
    Reg.evtRaw 0x00, Reg.evtRaw 0x16] s t ∧ t = { evented s t with wide := t.wide, pwr := t.pwr }) ∧
  (s.pwr.phase = .keepAlive → ∃ t, exec .tamper s = .next t ∧ t.pwr.keep.tamper = true ∧ t.pwr.keep.crc = keepCrc
    t.pwr.keep ∧ t = { s with pwr := { s.pwr with keep := t.pwr.keep }, wide := t.wide }) ∧
  (∀ (aMv bMv cellMv : Nat) (temp : Int), s.pwr.phase = .shed → s.pwr.supplyReturn = false → ∃ t, exec (.domainOff aMv
    bMv cellMv temp) s = .next t ∧ t.pwr.phase = .keepAlive ∧ t.pwr.keep = s.pwr.keep ∧ t.seq = {} ∧ t.img = {} ∧
    t.grn.ring = s.grn.ring ∧ t.sheaf = tabKeep (fun i => i / 2097152 != 2) s.sheaf ∧ t.overlay = s.overlay ∧ t.out =
    s.out) ∧
  (∀ (aMv bMv cellMv : Nat) (temp : Int), s.pwr.phase = .shed → s.pwr.supplyReturn = true → coldLimit s ≤ temp → ∃ t,
    exec (.domainOff aMv bMv cellMv temp) s = .next t ∧ t.pwr.phase = .resetHeld ∧ t.pwr.source = 2 ∧ t.pwr.powerOn =
    true)

/-- Reset release, the lane self-test and the Sheaf bank check. At reset release the module runs: the clock and the
  slot pins are kept; RST.CAUSE holds kind and source of the start and its flags, PREV_CAUSE what CAUSE held; the base
  and slot of the pins stand in SYS.STATION; ship time goes on from the domain; RESET_RELEASED is raised, and the
  events of lost SEALED values, of a missing shutdown time, of a cold-start hold and of a closed button; without a
  Sheaf and with an empty capture queue exactly a START record that carries RST.CAUSE waits in it. LANE_SELF_TEST_DONE
  brings the lanes that passed into service, and the module waits for a Sheaf. SHEAF_BANK_CHECK takes the bank that
  NEXT names if its check passes; where that bank is rejected this is shown in RST.CAUSE and raised; where the other
  bank is not accepted either, the module enters NO_SHEAF, with the safety unit off.
  (spec/18_power_start_up_and_reset.md (R629), spec/18_power_start_up_and_reset.md (R630),
  spec/18_power_start_up_and_reset.md (R646), spec/19_granary_and_counters.md (R654)) -/
def Obligations.ResetReleaseAndSelfTest : Prop := ∀ s : State, s.tidy →
  (∀ (pins : Fin 8) (closed : Bool) (bad : List Nat), s.pwr.phase = .resetHeld → ∃ t, exec (.resetRelease pins closed
    bad) s = .next t ∧ flag t (Reg.evtRaw 0x00) 0 = true ∧ t.pwr.phase = .running ∧ t.pwr.relClk = s.now ∧
    t.pwr.slotPins = pins.val ∧ t.pwr.sealedBad = bad ∧ rd t Reg.rstPrevCause = rd s Reg.rstCause ∧ (rd t Reg.rstCause
    = ((if s.pwr.powerOn then 1 else 2) <<< 28 + s.pwr.source <<< 16 + b2n s.pwr.shutMissing <<< 3 + b2n
    s.pwr.unprotected <<< 2 + b2n s.pwr.swapped <<< 1 + b2n s.pwr.coldHeld) % 2 ^ 32) ∧ fld t Reg.sysStation 14 13 =
    (slotIdentity pins.val).1 ∧ flag t Reg.sysStation 15 = ((slotIdentity pins.val).2 == 1) ∧ (t.tbu.ship = (if
    s.pwr.powerOn then s.tbu.ship else s.pwr.keep.shut)) ∧ t.tbu.shipClk = s.now ∧ (bad ≠ [] → flag t (Reg.evtRaw
    0x00) 6 = true) ∧ (s.pwr.shutMissing = true → flag t (Reg.evtRaw 0x02) 5 = true) ∧ (s.pwr.coldHeld = true → flag t
    (Reg.evtRaw 0x02) 6 = true) ∧ (closed = true → flag t Reg.rstButton 0 = true ∧ flag t Reg.rstButton 1 = true ∧
    t.pwr.pressClk = some s.now ∧ flag t (Reg.evtRaw 0x02) 0 = true) ∧ (s.active = none → s.grn.closed = false →
    s.grn.queue = [] → t.grn.queue.map (fun r => (r.trig, r.source, r.ctx)) = [(0x101, 0x1600, rd t Reg.rstCause)]) ∧
    t = { evented s t with tbu := t.tbu, pwr := t.pwr }) ∧
  (∀ (pass : Fin 8), s.pwr.phase = .running → s.pwr.selfTest = false → ∃ t, exec (.laneSelfTestDone pass) s = .next t
    ∧ (∀ l : Nat, l < 3 → laneState t l = b2n (bitOf pass.val l)) ∧ fld t Reg.rstState 3 0 = 2 ∧ OnlyRegs
    [Reg.redLanes, Reg.rstState] s t ∧ t = { s with regs := t.regs, pwr := { s.pwr with selfTest := true } }) ∧
  (∀ (pass : Fin 8), s.pwr.phase ≠ .running ∨ s.pwr.selfTest = true → ∃ t, exec (.laneSelfTestDone pass) s = .next t ∧
    t = s) ∧
  (fld s Reg.rstState 3 0 = 2 → s.active = none → ∃ t, exec .sheafBankCheck s = .next t ∧ (bankCheck s (nextBank s 0)
    = some none → t.active = some (nextBank s 0) ∧ bankState t 0 (nextBank s 0) = 2 ∧ fld t Reg.rstState 3 0 = 2) ∧ t
    = { evented s t with active := t.active, red := t.red, saf := t.saf, out := t.out }) ∧
  (∀ (r : Reject) (u : State), fld s Reg.rstState 3 0 = 2 → s.active = none → bankCheck s (nextBank s 0) = some (some
    r) → raise_ 0x02 4 (setFlag Reg.rstCause 4 true (bankReject (nextBank s 0) r s)) = u → ∃ t, exec .sheafBankCheck s
    = .next t ∧ flag t Reg.rstCause 4 = true ∧ flag t (Reg.evtRaw 0x02) 4 = true ∧ (bankCheck u (1 - nextBank s 0) =
    some none → t.active = some (1 - nextBank s 0) ∧ bankState t 0 (1 - nextBank s 0) = 2 ∧ fld t Reg.rstState 3 0 =
    2) ∧ (bankCheck u (1 - nextBank s 0) ≠ some none → t.active = none ∧ fld t Reg.rstState 3 0 = 5 ∧ t.saf.unit = 0 ∧
    t.saf.accepted = false ∧ flag t (Reg.evtRaw 0x02) 3 = true) ∧ t =
    { evented s t with active := t.active, red := t.red, saf := t.saf, out := t.out }) ∧
  (fld s Reg.rstState 3 0 = 2 → s.active = none → bankState s 0 0 = 0 → bankState s 0 1 = 0 → ∃ t, exec
    .sheafBankCheck s = .next t ∧ flag t (Reg.evtRaw 0x02) 3 = true ∧ t.active = none ∧ fld t Reg.rstState 3 0 = 5 ∧
    t.saf.unit = 0 ∧ t.saf.accepted = false ∧ t =
    { evented s t with active := t.active, red := t.red, saf := t.saf, out := t.out })

/-- Bring-up service, the slot B wait and full service. Bring-up service starts the timebase with generation 0, in
  SLEWING at the slot of the busbar with what is beyond it as the phase error where VA was valid, else in FREE_RUN at
  slot 0; the image starts at generation 0, RST.STATE shows bring-up and T_BRINGUP when it began. Slot B without a
  partner becomes SOLO with its own token 40 ms after the start of bring-up, and its stages drive. Full service, at a
  major-cycle boundary with nothing missing, or late 2.0 s after the start of bring-up, puts SERVICE and RST.STATE to
  full service with the time and what is missing, dispatches the run schedule (a listening module dispatches nothing)
  and raises FULL_SERVICE, a late one START_LATE as well; before its time nothing changes. (spec/03_angle_timebases.md
  (R98), spec/17_pair_redundancy_and_solo_voting.md (R581), spec/18_power_start_up_and_reset.md (R629),
  spec/18_power_start_up_and_reset.md (R632), spec/18_power_start_up_and_reset.md (R633)) -/
def Obligations.BringUpAndFullService : Prop := ∀ s : State, s.tidy →
  (∀ (va : Bool) (p : Fin 1048576) (freq cap bankMv : Nat), fld s Reg.rstState 3 0 = 2 → s.active.isSome = true → ∃ t,
    exec (.bringupStart va p freq cap bankMv) s = .next t ∧ t.tbu.running = true ∧ (t.tbu.slot = if va then p.val /
    256 else 0) ∧ (t.tbu.err = if va then ((p.val % 256 : Nat) : Int) else 0) ∧ t.tbu.gen = 0 ∧ t.tbu.edge = s.now ∧
    (fld t Reg.tbuBusState 1 0 = if va then 1 else 0) ∧ fld t Reg.rstState 3 0 = 3 ∧ rd t Reg.rstTBringup = startUs s
    ∧ t.img.gen = 0 ∧ t = { evented s t with effOld := t.effOld, img := t.img, seq := t.seq, tbu := t.tbu, pwr :=
                                               { s.pwr with bringClk := s.now }, red := t.red, dio := t.dio, gmu :=
                                               t.gmu, ach := t.ach, cle := t.cle, slv := t.slv, mbc := t.mbc, maps :=
                                               t.maps, mbcBad := t.mbcBad, net := t.net, msl := t.msl, mslMaps :=
                                               t.mslMaps, mgt := t.mgt, out := t.out }) ∧
  (∀ (u : State), u = advanceTo (s.pwr.bringClk + 8000000) s → role s = roleReset → pairBase s = true → slotB s = true
    → fld s Reg.rstState 3 0 = 3 → s.red.heard = false → s.red.partner ≠ .present → ∃ t, exec .slotBHeartbeatWaitEnd s
    = .next t ∧ role t = roleSolo ∧ t.dio.connected = true ∧ t.red.own = .present ∧ t.now = max s.now (s.pwr.bringClk
    + 8000000)) ∧
  (fld s Reg.rstState 3 0 = 3 → s.tbu.slot = 0 → startMissing s = 0 → ∃ t, exec .fullService s = .next t ∧ flag t
    (Reg.evtRaw 0x00) 2 = true ∧ rd t Reg.sysService = 1 ∧ fld t Reg.rstState 3 0 = 4 ∧ fld t Reg.rstState 18 16 = 0 ∧
    rd t Reg.rstTFull = startUs s ∧ (listening s = false → flag t (Reg.evtRaw 0x04) 3 = true) ∧ (t =
    { evented s t with seq := { s.seq with sched := if listening s then 0 else 2, past := t.seq.past }, ach := t.ach,
                         mbc := t.mbc })) ∧
  (startMissing s ≠ 0 → ∃ t, exec .fullService s = .next t ∧ t = s) ∧
  (fld s Reg.rstState 3 0 = 3 → s.tbu.slot = 0 → 400000000 ≤ s.now - s.pwr.bringClk → startMissing s ≠ 0 → ∃ t, exec
    .startLate s = .next t ∧ flag t (Reg.evtRaw 0x02) 2 = true ∧ flag t (Reg.evtRaw 0x00) 2 = true ∧ rd t
    Reg.sysService = 1 ∧ fld t Reg.rstState 3 0 = 4 ∧ fld t Reg.rstState 18 16 = startMissing s ∧ rd t Reg.rstTFull =
    startUs s ∧ (t = { evented s t with seq :=
                                          { s.seq with sched := if listening s then 0 else 2, past := t.seq.past },
                                          ach := t.ach, mbc := t.mbc })) ∧
  (s.now - s.pwr.bringClk < 400000000 → ∃ t, exec .startLate s = .next t ∧ t = s)

/-- The shutdown phase. SHUTDOWN_START ends a ride-through in the shutdown phase: its clock is kept, PWR.STAT shows no
  ride-through, SERVICE and RST.STATE show the shutdown and no record stays staged; from another phase it changes
  nothing. At SHUTDOWN_BOUNDARY dispatching ends. SHUTDOWN_SHED, at the end of the copy, closes the Granary, keeps
  ship time as the shutdown time in the keep-alive domain, releases the token and stops the timebase; a module without
  a pair disconnects its outputs at once. STAGE_LET_GO_TIMEOUT, 10 ms later, disconnects the outputs of one whose
  partner drives nothing. BROWN_OUT of a running module orders a reset with source 3.
  (spec/18_power_start_up_and_reset.md (R619), spec/18_power_start_up_and_reset.md (R620),
  spec/18_power_start_up_and_reset.md (R621), spec/18_power_start_up_and_reset.md (R635)) -/
def Obligations.ShutdownPhase : Prop := ∀ s : State, s.tidy →
  (s.pwr.phase = .rideThrough → ∃ t, exec .shutdownStart s = .next t ∧ flag t (Reg.stat 0x01) 3 = false ∧ rd t
    Reg.sysService = 2 ∧ fld t Reg.rstState 3 0 = 6 ∧ t.grn.staging = [] ∧ t =
    { evented s t with pwr := { s.pwr with phase := .shutdown, shutClk := s.now, copyDone := false } }) ∧
  (s.pwr.phase ≠ .rideThrough → ∃ t, exec .shutdownStart s = .next t ∧ t = s) ∧
  (s.pwr.phase = .shutdown → s.pwr.copyDone = false → ∃ t, exec .shutdownBoundary s = .next t ∧ t.now = s.now ∧
    dispatching t = false ∧ t = { evented s t with wide := t.wide, img := t.img, seq :=
                                                     { s.seq with halted := true, sched := 0 }, pwr :=
                                                     { s.pwr with copyDone := true }, red := t.red, out := t.out,
                                                     draws := t.draws }) ∧
  (∀ (u : State), u = advanceTo (s.red.sendEnd) s → s.pwr.phase = .shutdown → s.pwr.copyDone = true → ∃ t, exec
    .shutdownShed s = .next t ∧ t.pwr.phase = .shed ∧ t.grn.closed = true ∧ t.now = max s.now s.red.sendEnd ∧
    t.pwr.keep.shut = shipNow u ∧ t.pwr.shedClk = t.now ∧ t.tbu.running = false ∧ t.red.own ≠ .present ∧ t.seq = u.seq
    ∧ (pairBase s = false → t.dio.connected = false ∧ t.pwr.stagesFree = true)) ∧
  (∀ (u : State), u = advanceTo (s.pwr.shedClk + 2000000) s → s.pwr.phase = .shed → s.pwr.stagesFree = false →
    s.red.partner ≠ .present → ∃ t, exec .stageLetGoTimeout s = .next t ∧ t.dio.connected = false ∧ t.now = max s.now
    (s.pwr.shedClk + 2000000) ∧ t.pwr.stagesFree = true ∧ t.img = u.img ∧ t.seq = u.seq) ∧
  (s.pwr.phase = .running → ∃ t, exec .brownOut s = .next t ∧ t =
    { s with pwr := { s.pwr with order := some ⟨3, false, false⟩ } }) ∧
  (s.pwr.phase ≠ .running → ∃ t, exec .brownOut s = .next t ∧ t = s)

/-- Module reset, and the reset button. MODULE_RESET of a module that runs or rides through carries out the reset that
  was ordered: the module is held in reset with the source of the order, ship time stands in the keep-alive domain
  whose counter and latch stay; the overlay, the non-volatile Sheaf banks, the role keys and the safety unit stay,
  what has left the module stays; the timebase, the image, the sequencer, the sessions and the queues of the Granary
  are as after reset, and no Sheaf is in force. Without an order nothing changes. A press of a running module is kept
  with its clock and shows in RST.BUTTON. A release ends it and its length in ms stands there: under 0.5 s it is only
  counted; from 0.5 s to 5.0 s it orders a reset of a module that does not drive; of a SOLO module it arms the
  unprotected reset and raises UNPROT_ARMED, and a second one within 5 s orders that reset. A press of 5.0 s is stuck,
  counted and raised; 1.0 s after the release the button is no longer stuck. The arming ends 5 s after it, and the
  identification at its clock. (spec/18_power_start_up_and_reset.md (R627), spec/18_power_start_up_and_reset.md
  (R636), spec/18_power_start_up_and_reset.md (R642), spec/18_power_start_up_and_reset.md (R643),
  spec/02_register_pages.md (R77), spec/18_power_start_up_and_reset.md (R637), spec/18_power_start_up_and_reset.md
  (R638), spec/18_power_start_up_and_reset.md (R639), spec/18_power_start_up_and_reset.md (R640)) -/
def Obligations.ModuleResetAndButton : Prop := ∀ s : State, s.tidy →
  (∀ (o : ResetOrder), s.pwr.order = some o → s.pwr.phase = .running ∨ s.pwr.phase = .rideThrough → ∃ t, exec
    .moduleReset s = .next t ∧ t.pwr.phase = .resetHeld ∧ t.pwr.powerOn = false ∧ t.pwr.failed = s.pwr.failed ∧
    t.pwr.source = o.source ∧ t.pwr.unprotected = o.unprotected ∧ t.pwr.swapped = o.swapped ∧ t.pwr.order = none ∧
    t.pwr.keep.shut = shipNow s ∧ t.pwr.keep.cycles = s.pwr.keep.cycles ∧ t.pwr.keep.tamper = s.pwr.keep.tamper ∧
    t.pwr.originClk = s.now ∧ t.overlay = s.overlay ∧ t.sheaf = tabKeep (fun i => i / 2097152 != 2) s.sheaf ∧ t.saf =
    s.saf ∧ t.seq = {} ∧ t.img = {} ∧ t.tbu = {} ∧ t.active = none ∧ t.ses.slots = [] ∧ t.ses.roleKeys =
    s.ses.roleKeys ∧ t.grn.queue = [] ∧ t.grn.staging = [] ∧ t.out = s.out ∧ t.now = s.now) ∧
  (s.pwr.order = none ∨ s.pwr.phase ≠ .running ∧ s.pwr.phase ≠ .rideThrough → ∃ t, exec .moduleReset s = .next t ∧ t =
    s) ∧
  (s.pwr.phase = .running → flag s Reg.rstButton 0 = false → ∃ t, exec .buttonPress s = .next t ∧ flag t Reg.rstButton
    0 = true ∧ OnlyRegs [Reg.rstButton] s t ∧ t =
    { s with regs := t.regs, pwr := { s.pwr with pressClk := some s.now } }) ∧
  (∀ (c : Nat), s.pwr.pressClk = some c → s.now - c < 100000000 → flag s Reg.rstButton 1 = false → ∃ t, exec
    .buttonRelease s = .next t ∧ flag t Reg.rstButton 0 = false ∧ fld t Reg.rstButton 31 16 = (s.now - c) / 200000 ∧
    Counted Reg.rstCntButtonShort s t ∧ OnlyRegs [Reg.rstButton, Reg.rstCntButtonShort] s t ∧ t =
    { s with regs := t.regs, pwr := { s.pwr with pressClk := none, freeClk := s.now } }) ∧
  (∀ (c : Nat), s.pwr.pressClk = some c → 100000000 ≤ s.now - c → s.now - c ≤ 1000000000 → flag s Reg.rstButton 1 =
    false → role s = roleSolo → flag s Reg.rstButton 2 = false → ∃ t, exec .buttonRelease s = .next t ∧ flag t
    Reg.rstButton 0 = false ∧ t.pwr.pressClk = none ∧ t.pwr.freeClk = s.now ∧ fld t Reg.rstButton 31 16 = (s.now - c)
    / 200000 ∧ flag t Reg.rstButton 2 = true ∧ t.pwr.armClk = s.now ∧ t.pwr.order = s.pwr.order ∧ flag t (Reg.evtRaw
    0x02) 1 = true ∧ t = { evented s t with pwr := t.pwr, red := t.red }) ∧
  (∀ (c : Nat), s.pwr.pressClk = some c → 100000000 ≤ s.now - c → s.now - c ≤ 1000000000 → flag s Reg.rstButton 1 =
    false → role s = roleSolo → flag s Reg.rstButton 2 = true → s.now ≤ s.pwr.armClk + 1000000000 → ∃ t, exec
    .buttonRelease s = .next t ∧ flag t Reg.rstButton 0 = false ∧ t.pwr.pressClk = none ∧ t.pwr.freeClk = s.now ∧ fld
    t Reg.rstButton 31 16 = (s.now - c) / 200000 ∧ flag t Reg.rstButton 2 = false ∧ t.pwr.order = some ⟨4, true,
    false⟩ ∧ t = { evented s t with pwr := t.pwr, red := t.red }) ∧
  (∀ (c : Nat), s.pwr.pressClk = some c → 100000000 ≤ s.now - c → s.now - c ≤ 1000000000 → flag s Reg.rstButton 1 =
    false → role s ≠ roleSolo → role s ≠ roleActive → ∃ t, exec .buttonRelease s = .next t ∧ flag t Reg.rstButton 0 =
    false ∧ fld t Reg.rstButton 31 16 = (s.now - c) / 200000 ∧ OnlyRegs [Reg.rstButton] s t ∧ t =
    { s with regs := t.regs, pwr := { s.pwr with pressClk := none, freeClk := s.now, order := some ⟨4, false, false⟩ }
               }) ∧
  (∀ (c : Nat) (u : State), u = advanceTo (c + 1000000000) s → s.pwr.pressClk = some c → flag s Reg.rstButton 1 =
    false → flag u Reg.rstButton 2 = false → ∃ t, exec .buttonStuck s = .next t ∧ flag t (Reg.evtRaw 0x02) 0 = true ∧
    flag t Reg.rstButton 1 = true ∧ rd t Reg.rstCntButtonStuck = satAdd 0xFFFFFFFF (rd u Reg.rstCntButtonStuck) 1 ∧
    t.now = max s.now (c + 1000000000) ∧ OnlyRegs [Reg.rstButton, Reg.rstCntButtonStuck, Reg.evtRaw 0x02, Reg.evtRaw
    0x16] u t ∧ t = evented u t) ∧
  (∀ (u : State), u = advanceTo (s.pwr.freeClk + 200000000) s → flag s Reg.rstButton 0 = false → ∃ t, exec
    .buttonStuckClear s = .next t ∧ flag t Reg.rstButton 1 = false ∧ t.now = max s.now (s.pwr.freeClk + 200000000) ∧
    OnlyRegs [Reg.rstButton] u t ∧ t = { u with regs := t.regs }) ∧
  (∀ (u : State), u = advanceTo (s.pwr.armClk + 1000000000) s → flag s Reg.rstButton 2 = true → flag u Reg.rstButton 2
    = true → ∃ t, exec .unprotArmExpire s = .next t ∧ flag t Reg.rstButton 2 = false ∧ t.now = max s.now (s.pwr.armClk
    + 1000000000) ∧ OnlyRegs [Reg.rstButton, Reg.fpdCntReplaced, Reg.evtRaw 0x1A] u t ∧ t = evented u t) ∧
  (∀ (c : Nat) (u : State), u = advanceTo (c) s → s.pwr.identify = some c → ∃ t, exec .identifyEnd s = .next t ∧ t.now
    = max s.now c ∧ t = { u with pwr := { u.pwr with identify := none } })

/-- Slot, minor-cycle and major-cycle boundaries. At a slot boundary the slot number advances by one modulo 4,096, at
  the clock at which the slot that ended has lasted its length with the fraction carried, whose own fraction is
  carried on; the generation counter advances by one with the first slot of a minor cycle; lanes that do not dispatch
  stand at the first entry of the new slot, with its bank swap to come where it begins a minor cycle, and the lags of
  lanes that have not stopped are those given. MINOR_CYCLE_BOUNDARY, once in the first slot of a minor cycle and in
  slot 0 after MAJOR_CYCLE_BOUNDARY, takes the phase error of the delivered phase; MAJOR_CYCLE_BOUNDARY, once in slot
  0, starts the standstill list of a shaft in UNREFERENCED or STANDSTILL; both leave slot and generation as they are.
  A lane whose lag exceeds 64 slots stops, which is a lane fault. Otherwise these commands change nothing.
  (spec/03_angle_timebases.md (R82), spec/03_angle_timebases.md (R84), spec/03_angle_timebases.md (R88),
  spec/03_angle_timebases.md (R92), spec/03_angle_timebases.md (R97), spec/03_angle_timebases.md (R109),
  spec/05_sequencer_and_process_image.md (R174), spec/05_sequencer_and_process_image.md (R177)) -/
def Obligations.SlotAndCycleBoundaries : Prop := ∀ s : State, s.tidy →
  (∀ (lagA lagB lagC : Nat) (hits : List EccHit) (io : SlotIo) (e : Nat), s.tbu.running = true → s.tbu.edge +
    (s.tbu.len + s.tbu.frac) / 65536 = e → ∃ t, exec (.slotBoundary lagA lagB lagC hits io) s = .next t ∧ t.tbu.slot =
    (s.tbu.slot + 1) % 4096 ∧ t.tbu.edge = e ∧ t.tbu.frac = (s.tbu.len + s.tbu.frac) % 65536 ∧ t.now = max s.now e ∧
    (t.tbu.gen = if (s.tbu.slot + 1) % 512 = 0 then s.tbu.gen + 1 else s.tbu.gen) ∧ t.tbu.minorDone = false ∧
    t.tbu.majorDone = false ∧ t.tbu.ticked = false ∧ (s.seq.outst = [] → s.seq.stopped = [false, false, false] →
    t.seq.lags = [lagA, lagB, lagC]) ∧ (s.seq.outst = [] → s.seq.stopped = [false, false, false] → dispatching s =
    false → t.seq.behind = 0 ∧ t.seq.pos = 0 ∧ t.seq.swapDue = decide (t.tbu.slot % 512 = 0)) ∧ t =
    { lapsed s t with tbu := t.tbu, piu := t.piu, gmu := t.gmu, syn := t.syn }) ∧
  (∀ (lagA lagB lagC : Nat) (hits : List EccHit) (io : SlotIo), s.tbu.running = false → ∃ t, exec (.slotBoundary lagA
    lagB lagC hits io) s = .next t ∧ t = s) ∧
  (∀ (supply : Option PwrMeas), s.tbu.running = true → s.tbu.slot % 512 = 0 → s.tbu.minorDone = false → s.tbu.slot = 0
    → s.tbu.majorDone = true → ∃ t, exec (.minorCycleBoundary supply) s = .next t ∧ t.tbu.gen = s.tbu.gen ∧ t.tbu.slot
    = s.tbu.slot ∧ t.tbu.edge = s.tbu.edge ∧ t.tbu.minorDone = true ∧ t.tbu.ticked = true ∧ (s.tbu.ticked = true →
    t.tbu.err = phaseErr s) ∧ (s.tbu.ticked = false → t.tbu.minorClk = s.now ∧ t.tbu.err = phaseErr (boundaryTick s))
    ∧ t = { evented s t with img := t.img, seq := t.seq, tbu := t.tbu, pwr := t.pwr, red := t.red, dio := t.dio, gmu
                               := t.gmu, syn := t.syn, ach := t.ach, cle := t.cle, slv := t.slv, mbc := t.mbc, maps :=
                               t.maps, net := t.net, mslMaps := t.mslMaps, mgt := t.mgt, slu := t.slu, out := t.out }) ∧
  (∀ (supply : Option PwrMeas), s.tbu.running = false ∨ s.tbu.slot % 512 ≠ 0 ∨ s.tbu.minorDone = true ∨ s.tbu.slot = 0
    ∧ s.tbu.majorDone = false → ∃ t, exec (.minorCycleBoundary supply) s = .next t ∧ t = s) ∧
  (∀ (fails : Fin 512), s.tbu.running = true → s.tbu.slot = 0 → s.tbu.majorDone = false → ∃ t, exec
    (.majorCycleBoundary fails) s = .next t ∧ t.tbu.gen = s.tbu.gen ∧ t.tbu.slot = 0 ∧ t.tbu.edge = s.tbu.edge ∧
    t.tbu.majorDone = true ∧ t.tbu.ticked = true ∧ t.tbu.majClk = s.now ∧ t.tbu.majFreq = t.tbu.freq ∧
    (t.seq.standstill = if shaftState s = 1 ∨ shaftState s = 3 then some 0 else none) ∧ t =
    { evented s t with wide := t.wide, seq := t.seq, tbu := t.tbu, piu := t.piu, gmu := t.gmu, mbc := t.mbc }) ∧
  (∀ (fails : Fin 512), s.tbu.running = false ∨ s.tbu.slot ≠ 0 ∨ s.tbu.majorDone = true → ∃ t, exec
    (.majorCycleBoundary fails) s = .next t ∧ t = s) ∧
  (∀ (lane : Fin 3), 64 < laneLag s lane.val → s.seq.stopped.getD lane.val false = false → laneState s lane.val ≠ 0 →
    laneMode s = 0 → role s ≠ roleStandby → ∃ t, exec (.laneStop lane) s = .next t ∧ flag t (Reg.evtRaw 0x04) 2 = true
    ∧ flag t (Reg.evtRaw 0x15) 10 = true ∧ t.seq =
    { s.seq with stopped := s.seq.stopped.set lane.val true, lags := s.seq.lags.set lane.val (laneLag s lane.val) } ∧
    laneState t lane.val = 0 ∧ OnlyRegs [Reg.redLanes, Reg.evtRaw 0x04, Reg.evtRaw 0x15, Reg.evtRaw 0x16] s t ∧ t =
    { evented s t with seq := t.seq, pwr := t.pwr, red := t.red, dio := t.dio, ach := t.ach, cle := t.cle, slv :=
                         t.slv, mbc := t.mbc, net := t.net, mgt := t.mgt, out := t.out }) ∧
  (∀ (lane : Fin 3), 64 < laneLag s lane.val → s.seq.stopped.getD lane.val false = false → ∃ t, exec (.laneStop lane)
    s = .next t ∧ flag t (Reg.evtRaw 0x04) 2 = true ∧ t.seq.stopped = s.seq.stopped.set lane.val true) ∧
  (∀ (lane : Fin 3), laneLag s lane.val ≤ 64 ∨ s.seq.stopped.getD lane.val false = true → ∃ t, exec (.laneStop lane) s
    = .next t ∧ t = s)

/-- Ship time: PTP offsets, steps, slewing and holdover. On the port that PTP_STATE selects a valid offset makes ship
  time TRACKING: the first one steps it by its amount and raises its event, as does a later one beyond 1 ms, which is
  also counted; a smaller one is left to slewing and moves ship time by nothing at once. A message of a port that is
  no slave, or has completed no delay measurement within 16 s, is not valid and leaves ship time alone; a delay
  response completes the measurement of its port. Without a valid offset for HOLDOVER_AFTER seconds ship time goes
  into holdover, its value unbroken, at the rate last disciplined. (spec/03_angle_timebases.md (R111),
  spec/03_angle_timebases.md (R112), spec/15_plant_network_and_marine_serial.md (R525)) -/
def Obligations.ShipTimeAndPtp : Prop := ∀ s : State, s.tidy →
  (∀ (p : Fin 2) (off : Int) (slave : Bool), slave = true → delayOk s p.val = true → fld s Reg.netPtpState 8 8 = p.val
    → fld s Reg.tbuShipState 1 0 = 0 → ∃ t, exec (.ptpSync p off slave) s = .next t ∧ flag t (Reg.evtRaw 0x03) 11 =
    true ∧ fld t Reg.tbuShipState 1 0 = 1 ∧ shipNow t = (((shipNow s : Int) - off) % 2 ^ 64).toNat ∧ t.tbu.slew = 0 ∧
    t.tbu.ptpClk = s.now ∧ flag t Reg.netPtpState p.val = true ∧ OnlyRegs [Reg.netPtpState, Reg.tbuPtpOffset,
    Reg.tbuShipState, Reg.evtRaw 0x03, Reg.evtRaw 0x16] s t ∧ t = { evented s t with tbu := t.tbu, net := t.net }) ∧
  (∀ (p : Fin 2) (off : Int) (slave : Bool), slave = true → delayOk s p.val = true → fld s Reg.netPtpState 8 8 = p.val
    → fld s Reg.tbuShipState 1 0 ≠ 0 → 1000000 < off.natAbs → ∃ t, exec (.ptpSync p off slave) s = .next t ∧ flag t
    (Reg.evtRaw 0x03) 13 = true ∧ fld t Reg.tbuShipState 1 0 = 1 ∧ shipNow t = (((shipNow s : Int) - off) % 2 ^
    64).toNat ∧ t.tbu.slew = 0 ∧ Counted Reg.tbuCntShipStep s t ∧ OnlyRegs [Reg.netPtpState, Reg.tbuPtpOffset,
    Reg.tbuShipState, Reg.tbuCntShipStep, Reg.evtRaw 0x03, Reg.evtRaw 0x16] s t ∧ t =
    { evented s t with tbu := t.tbu, net := t.net }) ∧
  (∀ (p : Fin 2) (off : Int) (slave : Bool), slave = true → delayOk s p.val = true → fld s Reg.netPtpState 8 8 = p.val
    → fld s Reg.tbuShipState 1 0 ≠ 0 → off.natAbs ≤ 1000000 → shipNow s < 2 ^ 63 → ∃ t, exec (.ptpSync p off slave) s
    = .next t ∧ fld t Reg.tbuShipState 1 0 = 1 ∧ shipNow t = shipNow s ∧ t.tbu.slew = -off ∧ OnlyRegs
    [Reg.netPtpState, Reg.tbuPtpOffset, Reg.tbuShipState] s t ∧ t = { evented s t with tbu := t.tbu, net := t.net }) ∧
  (∀ (p : Fin 2) (off : Int) (slave : Bool), slave = false ∨ delayOk s p.val = false → ∃ t, exec (.ptpSync p off
    slave) s = .next t ∧ flag t Reg.netPtpState p.val = false ∧ OnlyRegs [Reg.netPtpState] s t ∧ t.tbu = s.tbu ∧ t =
    { evented s t with tbu := t.tbu, net := t.net }) ∧
  (∀ (p : Fin 2), ∃ t, exec (.ptpDelayResponse p) s = .next t ∧ delayOk t p.val = true ∧ delayOk t (1 - p.val) =
    delayOk s (1 - p.val) ∧ t = { s with net := t.net }) ∧
  (fld s Reg.tbuShipState 1 0 = 1 → fld s Reg.tbuShipCfg 7 0 * 200000000 ≤ s.now - s.tbu.ptpClk → shipNow s < 2 ^ 63 →
    ∃ t, exec .shipHoldover s = .next t ∧ flag t (Reg.evtRaw 0x03) 12 = true ∧ fld t Reg.tbuShipState 1 0 = 2 ∧
    shipNow t = shipNow s ∧ t.tbu.slew = 0 ∧ t.tbu.rate = s.tbu.ptpRate ∧ OnlyRegs [Reg.tbuShipState, Reg.evtRaw 0x03,
    Reg.evtRaw 0x16] s t ∧ t = { evented s t with tbu := t.tbu }) ∧
  (s.now - s.tbu.ptpClk < fld s Reg.tbuShipCfg 7 0 * 200000000 → ∃ t, exec .shipHoldover s = .next t ∧ t = s)

/-- Edges of a pulse input. An edge or index of an input that is off, or an index that the input does not use, changes
  nothing but the clock. Two lines that change in one clock, and an edge too soon after the last one, are counted as
  errors and count no tooth. Any other tooth edge counts up, or down by one in reverse, ends a stall and is the last
  edge of its input alone; an index sets the tooth number to 0 and counts a forward revolution. A line fault is kept
  and raises its event when it is found, and is noted as gone; 10 s without an edge is a stall, and no stall comes
  before. (spec/08_discrete_pulse_shaft_inputs.md (R294), spec/08_discrete_pulse_shaft_inputs.md (R295),
  spec/08_discrete_pulse_shaft_inputs.md (R296), spec/08_discrete_pulse_shaft_inputs.md (R299)) -/
def Obligations.PulseInputEdges : Prop := ∀ s : State, s.tidy →
  (∀ (n : Fin 4) (clk : Nat) (aLeads both : Bool) (u : State), u = advanceTo (clk) s → piuMode u n.val = 0 → ∃ t, exec
    (.toothEdge n clk aLeads both) s = .next t ∧ t = u) ∧
  (∀ (n : Fin 4) (clk : Nat) (aLeads both : Bool) (u : State), u = advanceTo (clk) s → piuMode u n.val = 1 → both =
    true → ∃ t, exec (.toothEdge n clk aLeads both) s = .next t ∧ rd t (Reg.piuCntErr n.val) = satAdd 0xFFFFFFFF (rd u
    (Reg.piuCntErr n.val)) 1 ∧ flag t (Reg.evtRaw 0x08) (4 + n.val) = true ∧ OnlyRegs [Reg.piuCntErr n.val, Reg.evtRaw
    0x08, Reg.evtRaw 0x16] u t ∧ t = evented u t) ∧
  (∀ (n : Fin 4) (clk : Nat) (aLeads both : Bool) (u : State), u = advanceTo (clk) s → piuMode u n.val ≠ 0 → both =
    false ∨ piuMode u n.val ≠ 1 → piuTooSoon u n.val = true → ∃ t, exec (.toothEdge n clk aLeads both) s = .next t ∧
    rd t (Reg.piuCntErr n.val) = satAdd 0xFFFFFFFF (rd u (Reg.piuCntErr n.val)) 1 ∧ OnlyRegs [Reg.piuCntErr n.val] u t
    ∧ t = { u with regs := t.regs, pmc := t.pmc }) ∧
  (∀ (n : Fin 4) (clk : Nat) (aLeads both : Bool) (u : State), u = advanceTo (clk) s → piuMode u n.val ≠ 0 → both =
    false ∨ piuMode u n.val ≠ 1 → piuTooSoon u n.val = false → ∃ t, exec (.toothEdge n clk aLeads both) s = .next t ∧
    ((piu t n.val).count = if piuReverse u n.val aLeads = true then ((piu u n.val).count + 2 ^ 32 - 1) % 2 ^ 32 else
    ((piu u n.val).count + 1) % 2 ^ 32) ∧ (piu t n.val).lastClk = some u.now ∧ (piu t n.val).stalled = false ∧ (∀ m :
    Nat, m < 4 → m ≠ n.val → piu t m = piu u m) ∧ t.now = max s.now clk ∧ t =
    { evented u t with tbu := t.tbu, piu := t.piu }) ∧
  (∀ (n : Fin 4) (clk : Nat) (aLeads : Bool) (u : State), u = advanceTo (clk) s → piuMode u n.val = 0 ∨ bitOf (effRd u
    (Reg.piuCfg n.val)) 5 = false → ∃ t, exec (.indexEdge n clk aLeads) s = .next t ∧ t = u) ∧
  (∀ (n : Fin 4) (clk : Nat) (aLeads : Bool) (u : State), u = advanceTo (clk) s → piuMode u n.val ≠ 0 → bitOf (effRd u
    (Reg.piuCfg n.val)) 5 = true → ∃ t, exec (.indexEdge n clk aLeads) s = .next t ∧ (piu t n.val).tooth = 0 ∧ (piu t
    n.val).indexed = true ∧ ((piu t n.val).rev = if piuReverse u n.val aLeads = true then (piu u n.val).rev else (piu
    u n.val).rev + 1) ∧ (piu t n.val).count = (piu u n.val).count ∧ (∀ m : Nat, m < 4 → m ≠ n.val → piu t m = piu u m)
    ∧ t = { evented u t with tbu := t.tbu, piu := t.piu }) ∧
  (∀ (n : Fin 4) (stands : Bool), piuMode s n.val ≠ 0 → stands = true → (piu s n.val).lineFault = false → ∃ t, exec
    (.piLineFault n stands) s = .next t ∧ (piu t n.val).lineFault = true ∧ (piu t n.val).faultLatch = true ∧ (piu t
    n.val).count = (piu s n.val).count ∧ flag t (Reg.evtRaw 0x08) n.val = true ∧ OnlyRegs [Reg.evtRaw 0x08, Reg.evtRaw
    0x16] s t ∧ t = { evented s t with piu := t.piu }) ∧
  (∀ (n : Fin 4) (stands : Bool), piuMode s n.val ≠ 0 → stands = false → ∃ t, exec (.piLineFault n stands) s = .next t
    ∧ t = { s with piu := tabSet (fun _ => ({} : PiuIn)) s.piu n.val { piu s n.val with lineFault := false } }) ∧
  (∀ (n : Fin 4) (stands : Bool), piuMode s n.val = 0 → ∃ t, exec (.piLineFault n stands) s = .next t ∧ t = s) ∧
  (∀ (n : Fin 4), (piu s n.val).lastClk.getD s.pwr.originClk + 2000000000 ≤ s.now → ∃ t, exec (.piStall n) s = .next t
    ∧ piu t n.val = { piu s n.val with stalled := true } ∧ (∀ m : Nat, m < 4 → m ≠ n.val → piu t m = piu s m) ∧ t =
    { s with piu := t.piu }) ∧
  (∀ (n : Fin 4), s.now < (piu s n.val).lastClk.getD s.pwr.originClk + 2000000000 → ∃ t, exec (.piStall n) s = .next t
    ∧ t = s)

/-- The bank swap, and writes that take effect at a boundary. The bank swap, once for each minor cycle that the lanes
  begin, flips the banks of exactly the lines written in the generation being built, which become the copy set; no
  line is then dirty, the generation that was built becomes readable and the next one is built; DIRTY_LAST and
  DIRTY_MAX show the number of lines. Above 8,192 lines it is counted and raises DIRTY_OVER. A destination word not
  yet written by an entry in progress raises LATE and HELD_AT_SWAP. A module that listens flips nothing. Where no swap
  is due nothing changes. At CONFIG_TAKE_EFFECT the written value of every deferred register, but for the bit-timing
  words of the message buses, is in force; no control clock passes and the sequencer stays where it is. Where every
  written value is in force nothing changes. (spec/05_sequencer_and_process_image.md (R172),
  spec/05_sequencer_and_process_image.md (R175), spec/05_sequencer_and_process_image.md (R181),
  spec/05_sequencer_and_process_image.md (R183), spec/03_angle_timebases.md (R95), spec/03_angle_timebases.md (R115),
  spec/02_register_pages.md (R56)) -/
def Obligations.BankSwapAndDeferredWrites : Prop := ∀ s : State, s.tidy →
  (s.seq.swapDue = true → listening s = false → s.seq.outst = [] → s.img.dirty.length ≤ 8192 → ∃ t, exec .bankSwap s =
    .next t ∧ (∀ l : Nat, l < 16384 → lineDone t l = if lineDirty s l then 1 - lineDone s l else lineDone s l) ∧ (∀ l
    : Nat, lineDirty t l = false) ∧ t.img.copySet = s.img.dirty.map (fun e => e.1) ∧ t.img.gen = s.img.gen + 1 ∧
    wideGet t Reg.imgGenReadLo = s.img.gen % 2 ^ 64 ∧ rd t Reg.imgDirtyLast = s.img.dirty.length ∧ (fld s
    Reg.imgDirtyMax 14 0 ≤ 8192 → s.img.dirty.length ≤ rd t Reg.imgDirtyMax) ∧ (s.img.upsets = [] → t.img.words =
    s.img.words ∧ OnlyRegs [Reg.imgDirtyLast, Reg.imgDirtyMax, Reg.imgScrubPasses] s t) ∧ t.seq.outst = [] ∧
    (s.seq.behind = 0 → t.seq = { s.seq with swapDue := false }) ∧ t =
    { evented s t with wide := t.wide, img := t.img, seq := t.seq, pwr := t.pwr, red := t.red, dio := t.dio, ach :=
                         t.ach, cle := t.cle, slv := t.slv, mbc := t.mbc, net := t.net, mgt := t.mgt, out := t.out }) ∧
  (s.seq.swapDue = true → listening s = false → s.seq.outst = [] → 8192 < s.img.dirty.length → ∃ t, exec .bankSwap s =
    .next t ∧ flag t (Reg.evtRaw 0x05) 2 = true ∧ t.img.gen = s.img.gen + 1 ∧ Counted Reg.imgCntDirtyOver s t) ∧
  (s.seq.swapDue = true → listening s = false → s.seq.outst.any (fun e => e.left != []) = true → ∃ t, exec .bankSwap s
    = .next t ∧ flag t (Reg.evtRaw 0x04) 0 = true ∧ flag t (Reg.evtRaw 0x05) 3 = true ∧ t.img.gen = s.img.gen + 1) ∧
  (s.seq.swapDue = true → listening s = true → ∃ t, exec .bankSwap s = .next t ∧ (∀ l : Nat, l < 16384 → lineDone t l
    = lineDone s l) ∧ (t.img.dirty = s.img.dirty ∨ s.img.upsets ≠ []) ∧ t.img.copySet = s.img.copySet ∧ t.img.gen =
    s.img.gen ∧ wideGet t Reg.imgGenReadLo = wideGet s Reg.imgGenReadLo) ∧
  (s.seq.swapDue = false → ∃ t, exec .bankSwap s = .next t ∧ t = s) ∧
  (∃ t, exec .configTakeEffect s = .next t ∧ (∀ a : Nat, a < 0x10E000 ∨ 0x112000 ≤ a → effRd t a = rd t a) ∧ t.now =
    s.now ∧ t.seq = s.seq ∧ t = { evented s t with effOld := t.effOld, tbu := t.tbu, red := t.red, dio := t.dio, piu
                                                     := t.piu, ach := t.ach, mbc := t.mbc, out := t.out }) ∧
  (s.effOld = [] → ∃ t, exec .configTakeEffect s = .next t ∧ t = s)

/-- Entries the sequencer takes by itself, and NOP and IMG_COPY. A NOP that the schedule gives next is dispatched at
  its clock and has no other effect. An IMG_COPY is outstanding until its last clock, with its destination words, and
  copies one word per control clock from the next clock on. The entry that waits longest acts when an entry in
  progress ends, and waits no more. The standstill list gives its next entry, and the shaft queue its oldest, at clock
  10 of a slot, once in a slot, and that entry acts there. Without such an entry, or where nothing is dispatched,
  nothing changes. (spec/05_sequencer_and_process_image.md (R165), spec/05_sequencer_and_process_image.md (R166),
  spec/05_sequencer_and_process_image.md (R173), spec/04_sheaf_format.md (R136), spec/04_sheaf_format.md (R147),
  spec/03_angle_timebases.md (R105)) -/
def Obligations.SequencerDispatch : Prop := ∀ s : State, s.tidy →
  (∀ (pos : Nat) (u : State), u = atTurn pos s → Due s ⟨0x00, 0, 0, 0, 0, 0, 0, pos⟩ → u.seq.held = [] → (producers
    u).length < 32 → ∃ t, exec (.nop pos) s = .next t ∧ t.seq.outst = u.seq.outst ∧ t.seq.held = u.seq.held ∧ t.now =
    max s.now (s.seq.slotClk + 2 + pos) ∧ t = { u with seq := t.seq }) ∧
  (∀ (pos : Nat), dispatching s = false → ∃ t, exec (.nop pos) s = .next t ∧ t = s) ∧
  (∀ (pos count src dst : Nat) (hits : List EccHit) (u : State), u = atTurn pos (each hits strike s) → Due (each hits
    strike s) ⟨0x10, 0x05, count, src, dst, 0, 0, pos⟩ → u.seq.held = [] → (producers u).length < 32 → 0 < count →
    count < 8192 → ∃ t, exec (.imgCopy pos count src dst hits) s = .next t ∧ Leaves u t 5 ((List.range count).map (fun
    i => dst + i)) (u.now + count) ∧ t.seq.outst.getLast?.map (fun o => o.todo) = some ((List.range count).map (fun k
    => (u.now + 1 + k, Act.copy (src + k) (dst + k)))) ∧ t = { u with seq := t.seq }) ∧
  (∀ (e : Entry) (io : EntryIo) (r : List (Entry × EntryIo)) (u : State), u = advanceTo (nextEnd s) s → s.seq.held =
    (e, io) :: r → nextEnd s < neverClk → ∃ t, exec .dispatchAfterWait s = .next t ∧ t =
    { runEntry e io { u with seq := { u.seq with held := r } } with seq := t.seq } ∧ t.seq.outst = (runEntry e io
    { u with seq := { u.seq with held := r } }).seq.outst ∧ t.seq.held = r) ∧
  (s.seq.held = [] → ∃ t, exec .dispatchAfterWait s = .next t ∧ t = s) ∧
  (∀ (io : EntryIo) (k b : Nat) (u : State), u = beginDispatch 8
    { s with seq := { s.seq with standstill := some (k + 1), extraDone := true } } → dispatching s = true →
    s.seq.swapDue = false → s.seq.extraDone = false → standstillEntry s = some k → s.active = some b → u.seq.held = []
    → (producers u).length < 32 → ∃ t, exec (.standstillListRun io) s = .next t ∧ t =
    { runEntry { partEntry s b 0x0402 k with slot := seqSlot s, pos := 8 } io u with seq := t.seq } ∧ t.seq.outst =
    (runEntry { partEntry s b 0x0402 k with slot := seqSlot s, pos := 8 } io u).seq.outst ∧ (t.seq.extraDone = true ∨
    0 < u.seq.behind)) ∧
  (∀ (io : EntryIo), standstillEntry s = none ∨ s.seq.extraDone = true ∨ s.seq.swapDue = true ∨ dispatching s = false
    → ∃ t, exec (.standstillListRun io) s = .next t ∧ t = s) ∧
  (∀ (io : EntryIo) (i b : Nat) (r : List Nat) (u : State), u = beginDispatch 8
    { (showShaft { s with tbu := { s.tbu with queue := r } }) with seq := { s.seq with extraDone := true } } →
    dispatching s = true → s.seq.swapDue = false → s.seq.sched = 2 → s.seq.extraDone = false → standstillEntry s =
    none → s.tbu.queue = i :: r → s.active = some b → u.seq.held = [] → (producers u).length < 32 → ∃ t, exec
    (.shaftQueueDispatch io) s = .next t ∧ t =
    { runEntry { partEntry s b 0x0303 i with slot := seqSlot s, pos := 8 } io u with seq := t.seq } ∧ t.seq.outst =
    (runEntry { partEntry s b 0x0303 i with slot := seqSlot s, pos := 8 } io u).seq.outst ∧ (t.seq.extraDone = true ∨
    0 < u.seq.behind)) ∧
  (∀ (io : EntryIo), s.tbu.queue = [] ∨ s.seq.extraDone = true ∨ s.seq.swapDue = true ∨ dispatching s = false → ∃ t,
    exec (.shaftQueueDispatch io) s = .next t ∧ t = s)

/-- ACH_START opens a window and ACH_LATCH closes it. An ACH_START that the schedule gives next, of a channel that is
  off, or of an input in the bring-up schedule, has no other effect; of any other input it opens a window of the
  declared length in slots on this channel alone, and one opened before in the same slot is abandoned; of an output,
  where all lanes store the same, it reads its command word one clock later: a BAD or INIT word takes the command
  fault action and sets CMD_SUBST, any other finite one is driven at the next slot boundary, and the window is opened.
  ACH_LATCH leaves its value word, and its status word where one is asked, to be written at clock 100 of the slot: of
  a channel that is off 0 tagged BAD; of one without a window the old value, HELD, or BAD while MISWIRE stands; of one
  with a window the result, which also stands in VALUE with the slot count in WIN_LAST and the mode in STATUS. On a
  module that listens an input that keeps converting opens and closes its windows without the image.
  (spec/06_universal_channels.md (R201), spec/06_universal_channels.md (R207), spec/06_universal_channels.md (R208),
  spec/06_universal_channels.md (R209), spec/06_universal_channels.md (R212), spec/06_universal_channels.md (R217),
  spec/06_universal_channels.md (R219), spec/06_universal_channels.md (R220), spec/06_universal_channels.md (R240)) -/
def Obligations.ChannelStartAndLatch : Prop := ∀ s : State, s.tidy →
  (∀ (pos : Nat) (ch : Fin 32) (window cmd : Nat) (u : State), u = atTurn pos s → Due s ⟨0x01, 0x20 + ch, window, cmd,
    0, 0, 0, pos⟩ → u.seq.held = [] → (producers u).length < 32 → achMode u ch.val = 0 → ∃ t, exec (.achStart pos ch
    window cmd) s = .next t ∧ t.seq.outst = u.seq.outst ∧ t = { u with seq := t.seq, pmc := t.pmc }) ∧
  (∀ (pos : Nat) (ch : Fin 32) (window cmd : Nat) (u : State), u = atTurn pos s → Due s ⟨0x01, 0x20 + ch, window, cmd,
    0, 0, 0, pos⟩ → u.seq.held = [] → (producers u).length < 32 → achMode u ch.val ≠ 0 → achIsOut u ch.val = false →
    u.seq.sched ≠ 1 → ∃ t, exec (.achStart pos ch window cmd) s = .next t ∧ ((ach t ch.val).win = some
    { decl := if bitsOf window 6 0 = 0 then 512 else 4096 * bitsOf window 6 0, coherent := busState u == 2, clamp :=
        (ach u ch.val).clamp, listen := listening u, void := calibrating u ch.val }) ∧ (∀ m : Nat, m < 32 → m ≠ ch.val
    → ach t m = ach u m) ∧ ((∃ w : AchWin, (ach u ch.val).win = some w ∧ w.slots = 0) → flag t (Reg.evtRaw (0x20 +
    ch.val)) 6 = true) ∧ t.seq.outst = u.seq.outst ∧ OnlyRegs [Reg.achCntWinAbandoned ch.val, Reg.evtRaw (0x20 +
    ch.val), Reg.evtRaw 0x16] u t ∧ t = { evented u t with seq := t.seq, ach := t.ach }) ∧
  (∀ (pos : Nat) (ch : Fin 32) (window cmd : Nat) (u : State), u = atTurn pos s → Due s ⟨0x01, 0x20 + ch, window, cmd,
    0, 0, 0, pos⟩ → u.seq.held = [] → (producers u).length < 32 → achMode u ch.val ≠ 0 → achIsOut u ch.val = false →
    u.seq.sched = 1 → ∃ t, exec (.achStart pos ch window cmd) s = .next t ∧ t.seq.outst = u.seq.outst ∧ t =
    { u with seq := t.seq, pmc := t.pmc }) ∧
  (∀ (pos : Nat) (ch : Fin 32) (window cmd : Nat) (w : ICell) (u : State), u = atRead pos s → Due s ⟨0x01, 0x20 + ch,
    window, cmd, 0, 0, 0, pos⟩ → (atTurn pos s).seq.held = [] → (producers (atTurn pos s)).length < 32 → u.img.upsets
    = [] → u.img.laneDiff = [] → achIsOut u ch.val = true → u.seq.sched ≠ 1 → role u ≠ roleHold → flag u
    (Reg.achRbStat ch.val) 2 = false → asRead u cmd = w → ∃ t, exec (.achStart pos ch window cmd) s = .next t ∧ ((ach
    t ch.val).win = some { decl := if bitsOf window 6 0 = 0 then 512 else 4096 * bitsOf window 6 0, coherent :=
                             busState u == 2, clamp := (ach t ch.val).clamp, listen := listening u, void :=
                             calibrating u ch.val }) ∧ (ach t ch.val).cmd = w ∧ (w.tag = .bad ∨ w.tag = .init → flag t
    (Reg.achRbStat ch.val) 6 = true ∧ fld t (Reg.achRbStat ch.val) 1 0 = (if flag u (Reg.achOutCfg ch.val) 1 then 2
    else 1) ∧ (ach t ch.val).next = (if flag u (Reg.achOutCfg ch.val) 1 then some (faultCode u ch.val) else none)) ∧
    (w.tag ≠ .bad → w.tag ≠ .init → (w32 w.val).isFin = true → (engOf u ch.val (w32 w.val)).isFin = true → flag t
    (Reg.achRbStat ch.val) 6 = false ∧ fld t (Reg.achRbStat ch.val) 1 0 = 0 ∧ (ach t ch.val).next = some (driveCode u
    ch.val true (fRatDriven (trimOut u ch.val (engOf u ch.val (w32 w.val))))).1) ∧ (∀ m : Nat, m < 32 → m ≠ ch.val →
    ach t m = ach u m) ∧ t.seq.outst.map (fun o => o.uid) = u.seq.outst.map (fun o => o.uid) ∧ t =
    { evented u t with seq := t.seq, ach := t.ach }) ∧
  (∀ (pos : Nat) (ch : Fin 32) (dst status : Nat) (meas : AchMeas) (u : State), u = atTurn pos s → Due s ⟨0x02, 0x20 +
    ch, 0, dst, status, 0, 0, pos⟩ → u.seq.held = [] → (producers u).length < 32 → achMode u ch.val = 0 → ∃ t, exec
    (.achLatch pos ch dst status meas) s = .next t ∧ rd t (Reg.achValue ch.val) = 0 ∧ rd t (Reg.achStatus ch.val) =
    b2n (miswired u ch.val) <<< 4 ∧ (Leaves u t (0x20 + ch.val) (if status < imgWords then [dst, status] else [dst])
    (u.tbu.edge + 100)) ∧ t.seq.outst.getLast?.bind (fun o => o.todo.head?) = some (u.tbu.edge + 100, .put dst ⟨0,
    .bad⟩) ∧ OnlyRegs [Reg.achValue ch.val, Reg.achStatus ch.val, Reg.achFeTemp ch.val] u t ∧ t =
    { u with regs := t.regs, seq := t.seq, ach := t.ach }) ∧
  (∀ (pos : Nat) (ch : Fin 32) (dst status : Nat) (meas : AchMeas) (u : State), u = atTurn pos s → Due s ⟨0x02, 0x20 +
    ch, 0, dst, status, 0, 0, pos⟩ → u.seq.held = [] → (producers u).length < 32 → achMode u ch.val ≠ 0 → u.seq.sched
    ≠ 1 ∨ achIsOut u ch.val = true → (ach u ch.val).prev = none → (ach u ch.val).win = none → ∃ t, exec (.achLatch pos
    ch dst status meas) s = .next t ∧ (Leaves u t (0x20 + ch.val) (if status < imgWords then [dst, status] else [dst])
    (u.tbu.edge + 100)) ∧ (t.seq.outst.getLast?.bind (fun o => o.todo.head?) = some (u.tbu.edge + 100, .keep dst (if
    miswired u ch.val then .bad else .held) false)) ∧ rd t (Reg.achValue ch.val) = rd u (Reg.achValue ch.val) ∧ fld t
    (Reg.achStatus ch.val) 31 28 = achMode u ch.val ∧ OnlyRegs [Reg.achStatus ch.val, Reg.achFeTemp ch.val,
    Reg.achCjTemp ch.val] u t ∧ t = { u with regs := t.regs, seq := t.seq, ach := t.ach }) ∧
  (∀ (pos : Nat) (ch : Fin 32) (dst status : Nat) (meas : AchMeas) (w : AchWin) (u : State), u = atTurn pos s → Due s
    ⟨0x02, 0x20 + ch, 0, dst, status, 0, 0, pos⟩ → u.seq.held = [] → (producers u).length < 32 → achMode u ch.val ≠ 0
    → u.seq.sched ≠ 1 ∨ achIsOut u ch.val = true → (ach u ch.val).prev = some w → w.void = false → w.clamp < 4 → ∃ t,
    exec (.achLatch pos ch dst status meas) s = .next t ∧ (Leaves u t (0x20 + ch.val) (if status < imgWords then [dst,
    status] else [dst]) (u.tbu.edge + 100)) ∧ rd t (Reg.achWinLast ch.val) = w.slots % 2 ^ 32 ∧ fld t (Reg.achStatus
    ch.val) 31 28 = achMode u ch.val ∧ (achIsOut u ch.val = false → rd t (Reg.achValue ch.val) = (toW32 (inputWord u
    ch.val (inputResult u ch.val (winBase u ch.val w) meas))).toNat) ∧ (ach t ch.val).prev = none ∧ (w.slots ≠ w.decl
    → flag t (Reg.evtRaw (0x20 + ch.val)) 5 = true) ∧ t = { evented u t with seq := t.seq, ach := t.ach }) ∧
  (∀ (pos : Nat) (ch : Fin 32) (window cmd : Nat), dispatching s = false → keepsConverting s ch.val = true → ∃ t, exec
    (.achStart pos ch window cmd) s = .next t ∧ ((ach t ch.val).win = some
    { decl := if bitsOf window 6 0 = 0 then 512 else 4096 * bitsOf window 6 0, coherent := busState s == 2, clamp :=
        (ach s ch.val).clamp, listen := listening s, void := calibrating s ch.val }) ∧ (∀ m : Nat, m < 32 → m ≠ ch.val
    → ach t m = ach s m) ∧ t.img = s.img) ∧
  (∀ (pos : Nat) (ch : Fin 32) (dst status : Nat) (meas : AchMeas) (w : AchWin), dispatching s = false →
    keepsConverting s ch.val = true → (ach s ch.val).prev = some w → w.void = false → w.clamp < 4 → ∃ t, exec
    (.achLatch pos ch dst status meas) s = .next t ∧ rd t (Reg.achWinLast ch.val) = w.slots % 2 ^ 32 ∧ (ach t
    ch.val).prev = none ∧ t.img = s.img ∧ t.seq = s.seq)

/-- Windows, miswiring and calibration of a channel. A window of 262,656 slots is abandoned, counted and raises its
  event; a shorter one stays. A bring-up conversion of an input is kept with its mean for the latches. MISWIRE stands
  in STAT, is counted and raised, ends a HART transaction and the run of mismatches; while it stands it changes
  nothing, and its end discards what was measured under it. A calibration that ends clears STAT, keeps gain and offset
  where it passed and none where it failed, with its result in CAL_STATE and its event. (spec/06_universal_channels.md
  (R212), spec/06_universal_channels.md (R213), spec/06_universal_channels.md (R233), spec/06_universal_channels.md
  (R234), spec/06_universal_channels.md (R236), spec/06_universal_channels.md (R237), spec/06_universal_channels.md
  (R238)) -/
def Obligations.ChannelWindowsAndCalibration : Prop := ∀ s : State, s.tidy →
  (∀ (ch : Fin 32) (w : AchWin), (ach s ch.val).win = some w → 262656 ≤ w.slots → ∃ t, exec (.windowOverrun ch) s =
    .next t ∧ t.ach = tabSet (fun _ => ({} : AchCh)) s.ach ch.val { ach s ch.val with win := none } ∧ Counted
    (Reg.achCntWinAbandoned ch.val) s t ∧ flag t (Reg.evtRaw (0x20 + ch.val)) 6 = true ∧ OnlyRegs
    [Reg.achCntWinAbandoned ch.val, Reg.evtRaw (0x20 + ch.val), Reg.evtRaw 0x16] s t ∧ t =
    { evented s t with ach := t.ach }) ∧
  (∀ (ch : Fin 32), (ach s ch.val).win = none ∨ ∃ w : AchWin, (ach s ch.val).win = some w ∧ w.slots < 262656 → ∃ t,
    exec (.windowOverrun ch) s = .next t ∧ t = s) ∧
  (∀ (ch : Fin 32) (conv : Nat × AchMeas), s.seq.sched = 1 → achIsOut s ch.val = false → ∃ t, exec (.bringupConversion
    ch conv) s = .next t ∧ t = { s with ach := tabSet (fun _ => ({} : AchCh)) s.ach ch.val
                                          { ach s ch.val with conv := some conv, convSeen := false } }) ∧
  (∀ (ch : Fin 32) (conv : Nat × AchMeas), s.seq.sched ≠ 1 ∨ achIsOut s ch.val = true → ∃ t, exec (.bringupConversion
    ch conv) s = .next t ∧ t = s) ∧
  (∀ (ch : Fin 32), miswired s ch.val = false → ∃ t, exec (.miswire ch) s = .next t ∧ flag t (Reg.stat (0x20 +
    ch.val)) 0 = true ∧ fld t (Reg.achRbStat ch.val) 8 7 = 0 ∧ fld t (Reg.achHartStat ch.val) 2 0 = 0 ∧ Counted
    (Reg.achCntMiswire ch.val) s t ∧ flag t (Reg.evtRaw (0x20 + ch.val)) 0 = true ∧ OnlyRegs [Reg.stat (0x20 +
    ch.val), Reg.achRbStat ch.val, Reg.achHartStat ch.val, Reg.achCntMiswire ch.val, Reg.evtRaw (0x20 + ch.val),
    Reg.evtRaw 0x16] s t ∧ t = { evented s t with ach := t.ach, out := t.out }) ∧
  (∀ (ch : Fin 32), miswired s ch.val = true → ∃ t, exec (.miswire ch) s = .next t ∧ t = s) ∧
  (∀ (ch : Fin 32), miswired s ch.val = true → ∃ t, exec (.miswireClear ch) s = .next t ∧ flag t (Reg.stat (0x20 +
    ch.val)) 0 = false ∧ (ach t ch.val).prev = none ∧ (ach t ch.val).win = (ach s ch.val).win.map (fun w =>
    { w with void := true }) ∧ OnlyRegs [Reg.stat (0x20 + ch.val)] s t ∧ t = { s with regs := t.regs, ach := t.ach }) ∧
  (∀ (ch : Fin 32), miswired s ch.val = false → ∃ t, exec (.miswireClear ch) s = .next t ∧ t = s) ∧
  (∀ (ch : Fin 32) (cal : Option (Nat × Nat)), calibrating s ch.val = true → ∃ t, exec (.calibrationEnd ch cal) s =
    .next t ∧ flag t (Reg.stat (0x20 + ch.val)) 1 = false ∧ (fld t (Reg.achCalState ch.val) 1 0 = if cal.isSome then 2
    else 3) ∧ (ach t ch.val).cal = cal ∧ (flag t (Reg.evtRaw (0x20 + ch.val)) (if cal.isSome then 8 else 9) = true) ∧
    OnlyRegs [Reg.stat (0x20 + ch.val), Reg.achCalState ch.val, Reg.rstState, Reg.evtRaw (0x20 + ch.val), Reg.evtRaw
    0x16] s t ∧ t = { evented s t with ach := t.ach }) ∧
  (∀ (ch : Fin 32) (cal : Option (Nat × Nat)), calibrating s ch.val = false → ∃ t, exec (.calibrationEnd ch cal) s =
    .next t ∧ t = s)

/-- Readback alarms and the loop supply. COMPLIANCE that stood for its time sets FIELD_ALARM and raises its event. The
  clearing of OUT_MISMATCH that was asked takes effect: the flags, the run and the source clear. An overload switches
  a secondary that is on off with the clock kept, and is counted; it is raised unless the secondary has been switched
  off before and did not run below its limit for 1 s since. The retry, its time after that, switches it on again. A
  rail failure of a secondary that is on is kept, counted and raised once, and recovers. LOAD_POWER takes the power,
  and above 20.5 W POWER_HIGH is raised. Before their time, and without what they end, these commands change nothing.
  (spec/07_output_readback_loop_supply_hart.md (R254), spec/07_output_readback_loop_supply_hart.md (R258),
  spec/07_output_readback_loop_supply_hart.md (R259), spec/07_output_readback_loop_supply_hart.md (R263),
  spec/07_output_readback_loop_supply_hart.md (R276)) -/
def Obligations.ReadbackAndLoopSupply : Prop := ∀ s : State, s.tidy →
  (∀ (ch : Fin 32), flag s (Reg.achRbStat ch.val) 4 = true → flag s (Reg.achRbStat ch.val) 5 = false → fld s
    (Reg.achCfg ch.val) 23 16 * 200000000 ≤ s.now - (ach s ch.val).complClk → ∃ t, exec (.fieldAlarm ch) s = .next t ∧
    flag t (Reg.achRbStat ch.val) 5 = true ∧ flag t (Reg.evtRaw (0x20 + ch.val)) 12 = true ∧ OnlyRegs [Reg.achRbStat
    ch.val, Reg.evtRaw (0x20 + ch.val), Reg.evtRaw 0x16] s t ∧ t = evented s t) ∧
  (∀ (ch : Fin 32), flag s (Reg.achRbStat ch.val) 4 = false → ∃ t, exec (.fieldAlarm ch) s = .next t ∧ t = s) ∧
  (∀ (ch : Fin 32), (ach s ch.val).restore = true → flag s (Reg.achRbStat ch.val) 2 = true → ∃ t, exec
    (.mismatchClearApply ch) s = .next t ∧ flag t (Reg.achRbStat ch.val) 2 = false ∧ fld t (Reg.achRbStat ch.val) 8 7
    = 0 ∧ fld t (Reg.achRbStat ch.val) 1 0 = 0 ∧ flag t (Reg.achStatus ch.val) 10 = false ∧ OnlyRegs [Reg.achRbStat
    ch.val, Reg.achStatus ch.val] s t ∧ t.ach = tabSet (fun _ => ({} : AchCh)) s.ach ch.val
    { ach s ch.val with restore := false } ∧ t = { s with regs := t.regs, ach := t.ach }) ∧
  (∀ (ch : Fin 32), (ach s ch.val).restore = false → ∃ t, exec (.mismatchClearApply ch) s = .next t ∧ t = s) ∧
  (∀ (ch : Fin 32), lspOn s ch.val = true → ∃ t, exec (.loopOverload ch) s = .next t ∧ flag t Reg.lspOverload ch.val =
    true ∧ Counted Reg.lspCntOverload s t ∧ t.ach = tabSet (fun _ => ({} : AchCh)) s.ach ch.val
    { ach s ch.val with overloadSeen := true, restClk := none, offClk := s.now } ∧ ((ach s ch.val).overloadSeen =
    false → flag t (Reg.evtRaw 0x06) 0 = true) ∧ OnlyRegs [Reg.lspOverload, Reg.lspCntOverload, Reg.evtRaw 0x06,
    Reg.evtRaw 0x16] s t ∧ t = { evented s t with ach := t.ach }) ∧
  (∀ (ch : Fin 32), lspOn s ch.val = false → ∃ t, exec (.loopOverload ch) s = .next t ∧ t = s) ∧
  (∀ (ch : Fin 32), flag s Reg.lspOverload ch.val = true → (ach s ch.val).offClk + fld s Reg.lspOvlCfg 7 0 * 200000000
    ≤ s.now → ∃ t, exec (.overloadRetry ch) s = .next t ∧ flag t Reg.lspOverload ch.val = false ∧ OnlyRegs
    [Reg.lspOverload] s t ∧ t = { s with regs := t.regs }) ∧
  (∀ (ch : Fin 32), flag s Reg.lspOverload ch.val = false ∨ s.now < (ach s ch.val).offClk + fld s Reg.lspOvlCfg 7 0 *
    200000000 → ∃ t, exec (.overloadRetry ch) s = .next t ∧ t = s) ∧
  (∀ (ch : Fin 32), lspOn s ch.val = true → (ach s ch.val).railFail = false → ∃ t, exec (.railFail ch) s = .next t ∧
    flag t (Reg.evtRaw 0x06) 1 = true ∧ (ach t ch.val).railFail = true ∧ Counted Reg.lspCntRailFail s t ∧ OnlyRegs
    [Reg.lspCntRailFail, Reg.evtRaw 0x06, Reg.evtRaw 0x16] s t ∧ t = { evented s t with ach := t.ach }) ∧
  (∀ (ch : Fin 32), lspOn s ch.val = false ∨ (ach s ch.val).railFail = true → ∃ t, exec (.railFail ch) s = .next t ∧ t
    = s) ∧
  (∀ (ch : Fin 32), ∃ t, exec (.railRecover ch) s = .next t ∧ t =
    { s with ach := tabSet (fun _ => ({} : AchCh)) s.ach ch.val { ach s ch.val with railFail := false } }) ∧
  (∀ (mw : Nat), 20500 < mw → ∃ t, exec (.lspPowerHigh mw) s = .next t ∧ flag t (Reg.evtRaw 0x06) 2 = true ∧ rd t
    Reg.lspLoadPower = min mw 65535 ∧ OnlyRegs [Reg.lspLoadPower, Reg.evtRaw 0x06, Reg.evtRaw 0x16] s t ∧ t = evented
    s t) ∧
  (∀ (mw : Nat), mw ≤ 20500 → ∃ t, exec (.lspPowerHigh mw) s = .next t ∧ rd t Reg.lspLoadPower = mw ∧ OnlyRegs
    [Reg.lspLoadPower] s t ∧ t = { s with regs := t.regs })

/-- The steps of a HART transaction. Once the line is free of carrier a modem that waits sends: the preamble, the
  request bytes and their check byte are kept with the clock of the first character, and with the end of the check
  byte they have left the module and the modem waits for the answer; one that does not wait shows no carrier. A start
  character begins the answer of a modem in use. 28 characters without one end the transaction with NO_RESPONSE, a
  frame with an error in parity, framing, length or check byte ends it with FRAME_ERROR, a correct one is stored with
  its length and READY; one of the addressed device gives OK. A burst frame that comes between transactions is stored
  with BURST where the modem listens for it. Each of these counts or raises its event. Reading HART_RX_LEN clears
  READY and BURST. (spec/07_output_readback_loop_supply_hart.md (R266), spec/07_output_readback_loop_supply_hart.md
  (R267), spec/07_output_readback_loop_supply_hart.md (R269), spec/07_output_readback_loop_supply_hart.md (R272)) -/
def Obligations.HartTransaction : Prop := ∀ s : State, s.tidy →
  (∀ (ch : Fin 32), hartState s ch.val = 1 → ∃ t, exec (.hartBusFree ch) s = .next t ∧ hartState t ch.val = 2 ∧ flag t
    (Reg.achHartStat ch.val) 3 = true ∧ t.ach = tabSet (fun _ => ({} : AchCh)) s.ach ch.val
    { ach s ch.val with hartOut := List.replicate (fld s (Reg.achHartCfg ch.val) 12 8) 255 ++ hartTx s ch.val ++
                          [hartCheck (hartTx s ch.val)], hartClk := s.now } ∧ OnlyRegs [Reg.achHartStat ch.val] s t ∧
    t = { s with regs := t.regs, ach := t.ach }) ∧
  (∀ (ch : Fin 32), hartState s ch.val ≠ 1 → ∃ t, exec (.hartBusFree ch) s = .next t ∧ flag t (Reg.achHartStat ch.val)
    3 = false ∧ OnlyRegs [Reg.achHartStat ch.val] s t ∧ t = { s with regs := t.regs }) ∧
  (∀ (ch : Fin 32), hartState s ch.val = 2 → ∃ t, exec (.hartTxDone ch) s = .next t ∧ hartState t ch.val = 3 ∧ flag t
    (Reg.achHartStat ch.val) 3 = false ∧ t.out = .hart ch.val (ach s ch.val).hartOut :: s.out ∧ OnlyRegs
    [Reg.achHartStat ch.val] s t ∧ t = { s with regs := t.regs, ach := tabSet (fun _ => ({} : AchCh)) s.ach ch.val
                                                  { ach s ch.val with hartOut := [] }, out := t.out }) ∧
  (∀ (ch : Fin 32), hartState s ch.val ≠ 2 → ∃ t, exec (.hartTxDone ch) s = .next t ∧ t = s) ∧
  (∀ (ch : Fin 32), hartOn s ch.val = true → hartState s ch.val = 3 → ∃ t, exec (.hartStartCharacter ch) s = .next t ∧
    hartState t ch.val = 4 ∧ flag t (Reg.achHartStat ch.val) 3 = true ∧ OnlyRegs [Reg.achHartStat ch.val] s t ∧ t =
    { s with regs := t.regs }) ∧
  (∀ (ch : Fin 32), hartOn s ch.val = false → ∃ t, exec (.hartStartCharacter ch) s = .next t ∧ t = s) ∧
  (∀ (ch : Fin 32), hartState s ch.val = 3 → ∃ t, exec (.hartNoResponse ch) s = .next t ∧ hartState t ch.val = 0 ∧ fld
    t (Reg.achHartStat ch.val) 11 8 = 2 ∧ Counted (Reg.achCntHartNoresp ch.val) s t ∧ flag t (Reg.evtRaw (0x20 +
    ch.val)) 13 = true ∧ OnlyRegs [Reg.achHartStat ch.val, Reg.achCntHartNoresp ch.val, Reg.evtRaw (0x20 + ch.val),
    Reg.evtRaw 0x16] s t ∧ t = evented s t) ∧
  (∀ (ch : Fin 32), hartState s ch.val ≠ 3 → ∃ t, exec (.hartNoResponse ch) s = .next t ∧ t = s) ∧
  (∀ (ch : Fin 32) (bytes : List Nat) (framing : Bool), hartState s ch.val = 4 → framing = false ∨ bytes.length < 4 ∨
    hartCheck bytes.dropLast ≠ bytes.getLastD 0 % 256 → ∃ t, exec (.hartFrameReceived ch bytes framing) s = .next t ∧
    hartState t ch.val = 0 ∧ fld t (Reg.achHartStat ch.val) 11 8 = 3 ∧ Counted (Reg.achCntHartErr ch.val) s t ∧ flag t
    (Reg.evtRaw (0x20 + ch.val)) 13 = true ∧ OnlyRegs [Reg.achHartStat ch.val, Reg.achCntHartErr ch.val, Reg.evtRaw
    (0x20 + ch.val), Reg.evtRaw 0x16] s t ∧ t = evented s t) ∧
  (∀ (ch : Fin 32) (bytes : List Nat) (framing : Bool), hartState s ch.val = 4 → framing = true → 4 ≤ bytes.length →
    hartCheck bytes.dropLast = bytes.getLastD 0 % 256 → ∃ t, exec (.hartFrameReceived ch bytes framing) s = .next t ∧
    hartState t ch.val = 0 ∧ (fld t (Reg.achHartStat ch.val) 11 8 = if hartAddr bytes.dropLast = hartAddr (hartTx s
    ch.val) then 1 else 4) ∧ rd t (Reg.achHartRxLen ch.val) = min 266 (bytes.length - 1) ∧ flag t (Reg.achHartStat
    ch.val) 16 = true ∧ flag t (Reg.evtRaw (0x20 + ch.val)) 13 = true ∧ (∀ k : Nat, k < 4 → rd t (Reg.achHartRx ch.val
    k) = bufWord bytes.dropLast k % 2 ^ 32) ∧ t = evented s t) ∧
  (∀ (ch : Fin 32) (bytes : List Nat) (framing : Bool), hartState s ch.val = 0 → hartOn s ch.val = true → flag s
    (Reg.achHartCfg ch.val) 16 = true → framing = true → 4 ≤ bytes.length → hartCheck bytes.dropLast = bytes.getLastD
    0 % 256 → hartBurst bytes.dropLast = true → ∃ t, exec (.hartFrameReceived ch bytes framing) s = .next t ∧
    hartState t ch.val = 0 ∧ rd t (Reg.achHartRxLen ch.val) = min 266 (bytes.length - 1) ∧ flag t (Reg.achHartStat
    ch.val) 16 = true ∧ flag t (Reg.achHartStat ch.val) 17 = true ∧ flag t (Reg.evtRaw (0x20 + ch.val)) 13 = true ∧ t
    = evented s t) ∧
  (∀ (ch : Fin 32), ∃ t, exec (.hartRxLenRead ch) s = .next t ∧ flag t (Reg.achHartStat ch.val) 16 = false ∧ flag t
    (Reg.achHartStat ch.val) 17 = false ∧ fld t (Reg.achHartStat ch.val) 2 0 = fld s (Reg.achHartStat ch.val) 2 0 ∧
    OnlyRegs [Reg.achHartStat ch.val] s t ∧ t = { s with regs := t.regs })

/-- Discrete inputs: sampling, qualification, test pulses and line states. A DIO_SAMPLE that the schedule gives next
  leaves two words, in each of which a bit is set where the mask names an input that was qualified on at the slot
  boundary, to be written at clock 20 of the slot. Samples of an input move its raw state by the thresholds of its
  type with hysteresis, and where they last its filter time the qualified state follows; short of it a raw state that
  has just changed leaves the qualified state. FS_LOW stands in STAT with FS_VOLT and is raised once, and clears at 19
  V. The end of a test pulse counts as passed or failed by the raw state then; two failures in a row set SHORT and two
  passes clear it. A line condition that holds is kept for its channel alone. (spec/08_discrete_pulse_shaft_inputs.md
  (R278), spec/08_discrete_pulse_shaft_inputs.md (R279), spec/08_discrete_pulse_shaft_inputs.md (R280),
  spec/08_discrete_pulse_shaft_inputs.md (R281), spec/08_discrete_pulse_shaft_inputs.md (R282),
  spec/08_discrete_pulse_shaft_inputs.md (R283)) -/
def Obligations.DiscreteInputs : Prop := ∀ s : State, s.tidy →
  (∀ (pos mask0 mask1 dst : Nat) (u : State), u = atTurn pos s → Due s ⟨0x03, 0x07, 0, mask0, mask1, dst, 0, pos⟩ →
    u.seq.held = [] → (producers u).length < 32 → ∃ t, exec (.dioSample pos mask0 mask1 dst) s = .next t ∧ Leaves u t
    7 [dst, dst + 1] (u.tbu.edge + 20) ∧ (∃ c0 c1 : ICell, t.seq.outst.getLast?.map (fun o => o.todo) = some
    [(u.tbu.edge + 20, .put dst c0), (u.tbu.edge + 20, .put (dst + 1) c1)] ∧ (∀ n : Nat, n < 32 → bitOf c0.val.toNat n
    = (bitOf mask0 n && dioIsIn u n && bitOf u.dio.qualAtSlot n)) ∧ (∀ n : Nat, n < 16 → bitOf c1.val.toNat n = (bitOf
    mask1 n && dioIsIn u (32 + n) && bitOf u.dio.qualAtSlot (32 + n)))) ∧ t = { u with seq := t.seq }) ∧
  (∀ (ch : Fin 48) (mv : Int) (us : Nat), dioIsIn s ch.val = true → fld s (Reg.dioChCfg ch.val) 15 8 * 100 ≤ us → ∃ t,
    exec (.diQualify ch mv us) s = .next t ∧ bitOf t.dio.raw ch.val = rawLevel (dioFunc s ch.val) (bitOf s.dio.raw
    ch.val) mv ∧ bitOf t.dio.qual ch.val = rawLevel (dioFunc s ch.val) (bitOf s.dio.raw ch.val) mv ∧ (∀ i : Nat, i <
    48 → i ≠ ch.val → bitOf t.dio.qual i = bitOf s.dio.qual i) ∧ t = { s with dio := t.dio }) ∧
  (∀ (ch : Fin 48) (mv : Int) (us : Nat), dioIsIn s ch.val = true → us < fld s (Reg.dioChCfg ch.val) 15 8 * 100 →
    rawLevel (dioFunc s ch.val) (bitOf s.dio.raw ch.val) mv ≠ bitOf s.dio.raw ch.val → ∃ t, exec (.diQualify ch mv us)
    s = .next t ∧ bitOf t.dio.raw ch.val = rawLevel (dioFunc s ch.val) (bitOf s.dio.raw ch.val) mv ∧ t.dio.qual =
    s.dio.qual ∧ t = { s with dio := t.dio }) ∧
  (∀ (ch : Fin 48) (mv : Int) (us : Nat), dioIsIn s ch.val = false → ∃ t, exec (.diQualify ch mv us) s = .next t ∧ t =
    s) ∧
  (∀ (mv : Nat), mv < 18000 → fsLow s = false → ∃ t, exec (.fsLow mv) s = .next t ∧ flag t (Reg.evtRaw 0x07) 3 = true
    ∧ fsLow t = true ∧ rd t Reg.dioFsVolt = mv ∧ t = { evented s t with red := t.red, dio := t.dio }) ∧
  (∀ (mv : Nat), 18000 ≤ mv ∨ fsLow s = true → ∃ t, exec (.fsLow mv) s = .next t ∧ t = s) ∧
  (∀ (mv : Nat), 19000 ≤ mv → fsLow s = true → ∃ t, exec (.fsLowClear mv) s = .next t ∧ fsLow t = false ∧ rd t
    Reg.dioFsVolt = min mv 65535 ∧ t = { evented s t with red := t.red, dio := t.dio }) ∧
  (∀ (mv : Nat), mv < 19000 ∨ fsLow s = false → ∃ t, exec (.fsLowClear mv) s = .next t ∧ t = s) ∧
  (∀ (ch : Fin 48) (mv : Int) (c : Nat) (u : State), u = advanceTo (c + 30000) s → dioIsIn s ch.val = true → flag s
    (Reg.dioChCfg ch.val) 4 = true → listening s = false → (tabGet (fun _ => (none : Option Nat)) s.dio.testClk
    ch.val) = some c → s.now ≤ c + 30000 → ∃ t, exec (.testPulse ch mv) s = .next t ∧ (rawLevel (dioFunc u ch.val)
    (bitOf u.dio.raw ch.val) mv = true → tabGet (fun _ => 0) t.dio.testFail ch.val = min 2 (tabGet (fun _ => 0)
    u.dio.testFail ch.val + 1)) ∧ (rawLevel (dioFunc u ch.val) (bitOf u.dio.raw ch.val) mv = false → tabGet (fun _ =>
    0) t.dio.testPass ch.val = min 2 (tabGet (fun _ => 0) u.dio.testPass ch.val + 1)) ∧ (rawLevel (dioFunc u ch.val)
    (bitOf u.dio.raw ch.val) mv = true → 1 ≤ tabGet (fun _ => 0) u.dio.testFail ch.val → bitOf t.dio.conds (4 * ch.val
    + 1) = true) ∧ (rawLevel (dioFunc u ch.val) (bitOf u.dio.raw ch.val) mv = false → 1 ≤ tabGet (fun _ => 0)
    u.dio.testPass ch.val → bitOf t.dio.conds (4 * ch.val + 1) = false) ∧ t = { evented u t with dio := t.dio }) ∧
  (∀ (ch : Fin 48) (mv : Int), (tabGet (fun _ => (none : Option Nat)) s.dio.testClk ch.val) = none → ∃ t, exec
    (.testPulse ch mv) s = .next t ∧ t = s) ∧
  (∀ (ch : Fin 48) (cond : Fin 4) (holds : Bool), holds = false ∨ condCan s ch.val cond.val = true → ∃ t, exec
    (.lineStateChange ch cond holds) s = .next t ∧ bitOf t.dio.conds (4 * ch.val + cond.val) = holds ∧ (∀ i : Nat, i <
    192 → i ≠ 4 * ch.val + cond.val → bitOf t.dio.conds i = bitOf s.dio.conds i) ∧ t.dio.cmd = s.dio.cmd ∧ t =
    { evented s t with red := t.red, dio := t.dio }) ∧
  (∀ (ch : Fin 48) (cond : Fin 4) (holds : Bool), holds = true → condCan s ch.val cond.val = false → ∃ t, exec
    (.lineStateChange ch cond holds) s = .next t ∧ t = s)

/-- Discrete outputs: driving, protection, pulses and letting go. A DIO_DRIVE that the schedule gives next reads its
  two words one clock later. Where all lanes store the same and both words can be used, every masked output of FUNC 3
  is asked for its bit at the next slot boundary, or, with a pulse length, for a pulse of that length where its bit is
  1; nothing is switched yet. With a BAD or INIT word it is counted as a command fault, which is raised once. A short
  or overload switches an output off, with its clock kept, counts a short and raises its event when it comes from
  another state; after its retry time, no earlier, the output follows its command. A pulse that is over turns its
  output off alone. The stages of a module that gave its token up while its partner drives let go.
  (spec/08_discrete_pulse_shaft_inputs.md (R284), spec/08_discrete_pulse_shaft_inputs.md (R286),
  spec/08_discrete_pulse_shaft_inputs.md (R287), spec/08_discrete_pulse_shaft_inputs.md (R289),
  spec/17_pair_redundancy_and_solo_voting.md (R600)) -/
def Obligations.DiscreteOutputs : Prop := ∀ s : State, s.tidy →
  (∀ (pos len mask0 mask1 src : Nat) (w0 w1 : ICell) (u : State), u = atRead pos s → Due s ⟨0x04, 0x07, len, mask0,
    mask1, src, 0, pos⟩ → (atTurn pos s).seq.held = [] → (producers (atTurn pos s)).length < 32 → u.img.upsets = [] →
    u.img.laneDiff = [] → u.seq.sched ≠ 1 → role u ≠ roleHold → asRead u src = w0 → asRead u (src + 1) = w1 → w0.tag ≠
    .bad → w0.tag ≠ .init → w1.tag ≠ .bad → w1.tag ≠ .init → ∃ t, exec (.dioDrive pos len mask0 mask1 src) s = .next t
    ∧ (len = 0 → ∀ n : Nat, n < 32 → bitOf mask0 n = true → dioFunc u n = 3 → tabGet (fun _ => (none : Option DioCmd))
    t.dio.next n = some (.level (bitOf w0.val.toNat n))) ∧ (len = 0 → ∀ n : Nat, n < 16 → bitOf mask1 n = true →
    dioFunc u (32 + n) = 3 → tabGet (fun _ => (none : Option DioCmd)) t.dio.next (32 + n) = some (.level (bitOf
    w1.val.toNat n))) ∧ (len ≠ 0 → ∀ n : Nat, n < 32 → bitOf mask0 n = true → dioFunc u n = 3 → bitOf w0.val.toNat n =
    true → tabGet (fun _ => (none : Option DioCmd)) t.dio.next n = some (.pulse len)) ∧ (len ≠ 0 → ∀ n : Nat, n < 16 →
    bitOf mask1 n = true → dioFunc u (32 + n) = 3 → bitOf w1.val.toNat n = true → tabGet (fun _ => (none : Option
    DioCmd)) t.dio.next (32 + n) = some (.pulse len)) ∧ t.dio.cmdFault = false ∧ t.dio.cmd = u.dio.cmd ∧
    t.seq.outst.map (fun o => o.uid) = u.seq.outst.map (fun o => o.uid) ∧ t =
    { evented u t with seq := t.seq, dio := t.dio }) ∧
  (∀ (pos len mask0 mask1 src : Nat) (u : State), u = atRead pos s → Due s ⟨0x04, 0x07, len, mask0, mask1, src, 0,
    pos⟩ → (atTurn pos s).seq.held = [] → (producers (atTurn pos s)).length < 32 → u.img.upsets = [] → u.img.laneDiff
    = [] → (asRead u src).tag = .bad ∨ (asRead u src).tag = .init → ∃ t, exec (.dioDrive pos len mask0 mask1 src) s =
    .next t ∧ rd t Reg.dioCntCmdFault = satAdd 0xFFFFFFFF (rd u Reg.dioCntCmdFault) 1 ∧ t.dio.cmdFault = true ∧
    (u.dio.cmdFault = false → flag t (Reg.evtRaw 0x07) 4 = true) ∧ t.dio.cmd = u.dio.cmd ∧ t =
    { evented u t with seq := t.seq, dio := t.dio }) ∧
  (∀ (ch : Fin 48) (overload : Bool), dioIsOut s ch.val = true → listening s = false → ∃ t, exec (.outputShort ch
    overload) s = .next t ∧ bitOf t.dio.prot ch.val = true ∧ tabGet (fun _ => 0) t.dio.offClk ch.val = s.now ∧
    t.dio.cmd = s.dio.cmd ∧ (overload = false → Counted Reg.dioCntShort s t) ∧ (tabGet (fun _ => 0) s.dio.offState
    ch.val ≠ (if overload then 2 else 1) → flag t (Reg.evtRaw 0x07) (if overload then 2 else 1) = true) ∧ OnlyRegs
    [Reg.dioCntShort, Reg.evtRaw 0x07, Reg.evtRaw 0x16] s t ∧ t = { evented s t with dio := t.dio }) ∧
  (∀ (ch : Fin 48) (overload : Bool), dioIsOut s ch.val = false ∨ listening s = true → ∃ t, exec (.outputShort ch
    overload) s = .next t ∧ t = s) ∧
  (∀ (ch : Fin 48), bitOf s.dio.prot ch.val = true → tabGet (fun _ => 0) s.dio.offClk ch.val + fld s Reg.dioOutRetry 7
    0 * 200000000 ≤ s.now → ∃ t, exec (.outputRetry ch) s = .next t ∧ bitOf t.dio.prot ch.val = false ∧ (∀ i : Nat, i
    < 48 → i ≠ ch.val → bitOf t.dio.prot i = bitOf s.dio.prot i) ∧ t.dio.cmd = s.dio.cmd ∧ t =
    { s with dio := t.dio }) ∧
  (∀ (ch : Fin 48), bitOf s.dio.prot ch.val = false ∨ s.now < tabGet (fun _ => 0) s.dio.offClk ch.val + fld s
    Reg.dioOutRetry 7 0 * 200000000 → ∃ t, exec (.outputRetry ch) s = .next t ∧ t = s) ∧
  (∀ (ch : Fin 48), dioPulse s ch.val = some 0 → ∃ t, exec (.pulseEnd ch) s = .next t ∧ bitOf t.dio.cmd ch.val = false
    ∧ (∀ i : Nat, i < 48 → i ≠ ch.val → bitOf t.dio.cmd i = bitOf s.dio.cmd i) ∧ t.dio.pulse = tabSet (fun _ => none)
    s.dio.pulse ch.val none ∧ t = { s with pmc := t.pmc, dio := t.dio }) ∧
  (∀ (ch : Fin 48), dioPulse s ch.val ≠ some 0 → ∃ t, exec (.pulseEnd ch) s = .next t ∧ t = s) ∧
  (s.red.own ≠ .present → s.red.partner = .present → ∃ t, exec .discreteStageLetGo s = .next t ∧ t =
    { s with dio := { s.dio with connected := false } }) ∧
  (s.red.own = .present ∨ s.red.partner ≠ .present → ∃ t, exec .discreteStageLetGo s = .next t ∧ t = s)

/-- PIU_LATCH and GMU_SNAP. A PIU_LATCH that the schedule gives next leaves four words to be written at clock 20 of
  the slot, of which the first is the count and the last the angle as they stood at the slot boundary, and starts a
  new latch interval of its input alone. A GMU_SNAP leaves the words of the groups asked for, in their order, one to
  be written at each control clock from the next on; one that asks for none leaves nothing.
  (spec/08_discrete_pulse_shaft_inputs.md (R297), spec/09_grid_measurement_and_synchronising.md (R319),
  spec/09_grid_measurement_and_synchronising.md (R320)) -/
def Obligations.LatchesOfPulseAndGrid : Prop := ∀ s : State, s.tidy →
  (∀ (pos input dst : Nat) (u : State), u = atTurn pos s → Due s ⟨0x05, 0x08, input, dst, 0, 0, 0, pos⟩ → u.seq.held =
    [] → (producers u).length < 32 → ∃ t, exec (.piuLatch pos input dst) s = .next t ∧ Leaves u t 8 [dst, dst + 1, dst
    + 2, dst + 3] (u.tbu.edge + 20) ∧ (writes t).head? = some (u.tbu.edge + 20, dst, BitVec.ofNat 32 (piu u (bitsOf
    input 1 0)).countAtSlot) ∧ (writes t).getLast? = some (u.tbu.edge + 20, dst + 3, BitVec.ofNat 32 (piu u (bitsOf
    input 1 0)).angleAtSlot) ∧ (piu t (bitsOf input 1 0)).edges = 0 ∧ (piu t (bitsOf input 1 0)).overLatch = false ∧
    (piu t (bitsOf input 1 0)).faultLatch = (piu u (bitsOf input 1 0)).lineFault ∧ (∀ m : Nat, m < 4 → m ≠ bitsOf
    input 1 0 → piu t m = piu u m) ∧ t = { u with seq := t.seq, pmc := t.pmc, piu := t.piu }) ∧
  (∀ (pos mask dst k : Nat) (u : State), u = atTurn pos s → Due s ⟨0x06, 0x09, mask, dst, 0, 0, 0, pos⟩ → u.seq.held =
    [] → (producers u).length < 32 → (snapCells u mask).length = k → 0 < k → k ≤ 496 → ∃ t, exec (.gmuSnap pos mask
    dst) s = .next t ∧ Leaves u t 9 ((List.range k).map (fun i => dst + i)) (u.now + k) ∧ t.seq.outst.getLast?.map
    (fun o => o.todo) = some ((List.range k).map (fun i => (u.now + 1 + i, Act.put (dst + i) ((snapCells u mask).getD
    i cellInit)))) ∧ t = { u with seq := t.seq }) ∧
  (∀ (pos mask dst : Nat) (u : State), u = atTurn pos s → Due s ⟨0x06, 0x09, mask, dst, 0, 0, 0, pos⟩ → u.seq.held =
    [] → (producers u).length < 32 → snapCells u mask = [] → ∃ t, exec (.gmuSnap pos mask dst) s = .next t ∧
    t.seq.outst = u.seq.outst ∧ t = { u with seq := t.seq, pmc := t.pmc })

/-- The states of a breaker set. A SYN_ARM that the schedule gives next reads its request one clock later, where all
  lanes store the same, and writes the status word of its set. A present request of an idle set arms it when no other
  set is armed: it latches its configuration, takes the clock and raises ARMED. A withdrawn one of a set that settles,
  checks or plans releases it. A request while another set is armed leaves both as they are and sets REFUSED in the
  block word. After ten minor-cycle boundaries an armed set checks or has planned; at the slot of its plan the close
  pulse of its output starts, is counted, kept with generation and slot, and raised; its end closes the set and turns
  the output off. The arming timer, and 4,096 slots without a SYN_ARM, fail a set that is not closing, with their
  block bits. A feedback within 1 s of the issue shows the time it took and is raised.
  (spec/09_grid_measurement_and_synchronising.md (R326), spec/09_grid_measurement_and_synchronising.md (R327),
  spec/09_grid_measurement_and_synchronising.md (R328), spec/09_grid_measurement_and_synchronising.md (R329),
  spec/09_grid_measurement_and_synchronising.md (R334), spec/09_grid_measurement_and_synchronising.md (R336),
  spec/09_grid_measurement_and_synchronising.md (R338)) -/
def Obligations.BreakerSets : Prop := ∀ s : State, s.tidy →
  (∀ (pos set req status : Nat) (u : State), u = atRead pos s → Due s ⟨0x07, 0x0A, set, req, status, 0, 0, pos⟩ →
    (atTurn pos s).seq.held = [] → (producers (atTurn pos s)).length < 32 → u.img.upsets = [] → u.img.laneDiff = [] →
    (asRead u req).val ≠ 0 → (asRead u req).tag = .good → synArmed u = none → synState u (bitsOf set 2 0) = 0 → ∃ t,
    exec (.synArm pos set req status) s = .next t ∧ synArmed t = some (bitsOf set 2 0) ∧ synState t (bitsOf set 2 0) =
    1 ∧ t.syn.cfg = synRegs u (bitsOf set 2 0) ∧ t.syn.armClk = u.now ∧ t.syn.settle = 0 ∧ flag t (Reg.evtRaw 0x0A) 0
    = true ∧ (status < imgWords → (laneView t 0 status).val = BitVec.ofNat 32 (synStatus t (bitsOf set 2 0))) ∧
    t.seq.outst.map (fun o => o.uid) = u.seq.outst.map (fun o => o.uid) ∧ t =
    { evented u t with img := t.img, seq := t.seq, syn := t.syn }) ∧
  (∀ (pos set req status : Nat) (u : State), u = atRead pos s → Due s ⟨0x07, 0x0A, set, req, status, 0, 0, pos⟩ →
    (atTurn pos s).seq.held = [] → (producers (atTurn pos s)).length < 32 → u.img.upsets = [] → u.img.laneDiff = [] →
    (asRead u req).val = 0 → synState u (bitsOf set 2 0) = 1 ∨ synState u (bitsOf set 2 0) = 2 ∨ synState u (bitsOf
    set 2 0) = 3 → ∃ t, exec (.synArm pos set req status) s = .next t ∧ synArmed t = none ∧ synState t (bitsOf set 2
    0) = 0 ∧ (status < imgWords → (laneView t 0 status).val = BitVec.ofNat 32 (synStatus t (bitsOf set 2 0))) ∧ t =
    { evented u t with img := t.img, seq := t.seq, syn := t.syn }) ∧
  (∀ (pos set req status a : Nat) (u : State), u = atRead pos s → Due s ⟨0x07, 0x0A, set, req, status, 0, 0, pos⟩ →
    (atTurn pos s).seq.held = [] → (producers (atTurn pos s)).length < 32 → u.img.upsets = [] → u.img.laneDiff = [] →
    (asRead u req).val ≠ 0 → (asRead u req).tag = .good → synArmed u = some a → a ≠ (bitsOf set 2 0) → synState u
    (bitsOf set 2 0) = 0 → ∃ t, exec (.synArm pos set req status) s = .next t ∧ synArmed t = some a ∧ synState t a =
    synState u a ∧ synState t (bitsOf set 2 0) = 0 ∧ bitOf (synBlock t (bitsOf set 2 0)) 8 = true ∧ (status < imgWords
    → (laneView t 0 status).val = BitVec.ofNat 32 (synStatus t (bitsOf set 2 0))) ∧ t =
    { evented u t with img := t.img, seq := t.seq, syn := t.syn }) ∧
  (∀ (n : Nat), synArmed s = some n → synState s n = 1 → 10 ≤ s.syn.settle → ∃ t, exec .synSettled s = .next t ∧
    (synState t n = 2 ∨ synState t n = 3) ∧ synArmed t = some n ∧ OnlyRegs [Reg.synSetState, Reg.synBlock,
    Reg.synPlanSlot, Reg.synLastPred] s t ∧ t = { s with regs := t.regs, pmc := t.pmc, syn := t.syn }) ∧
  (∀ (n : Nat), synArmed s = some n → synState s n = 3 → fld s Reg.synPlanSlot 11 0 = s.tbu.slot → ∃ t, exec
    .closeIssued s = .next t ∧ flag t (Reg.evtRaw 0x0A) 1 = true ∧ synState t n = 4 ∧ rd t Reg.synPlanSlot = 0 ∧
    Counted Reg.synCntClose s t ∧ bitOf t.dio.cmd (bitsOf (synCfg s 0) 21 16) = true ∧ dioPulse t (bitsOf (synCfg s 0)
    21 16) = some (bitsOf (synCfg s 0) 15 0) ∧ wideGet t Reg.synLastIssueLo = s.tbu.gen % 2 ^ 64 ∧ rd t
    Reg.synLastIssueSlot = (n <<< 16 + s.tbu.slot) % 2 ^ 32 ∧ OnlyRegs [Reg.synSetState, Reg.synPlanSlot,
    Reg.synCntClose, Reg.synLastIssueSlot, Reg.dioCntPulseRetrig, Reg.evtRaw 0x0A, Reg.evtRaw 0x16] s t ∧ t =
    { evented s t with wide := t.wide, dio := t.dio, syn := t.syn }) ∧
  (synArmed s = none → ∃ t, exec .closeIssued s = .next t ∧ t = s) ∧
  (∀ (n : Nat), synArmed s = some n → synState s n = 4 → (dioPulse s (bitsOf (synCfg s 0) 21 16)).getD 0 = 0 → ∃ t,
    exec .closeDone s = .next t ∧ flag t (Reg.evtRaw 0x0A) 2 = true ∧ synState t n = 5 ∧ synArmed t = none ∧ bitOf
    t.dio.cmd (bitsOf (synCfg s 0) 21 16) = false ∧ OnlyRegs [Reg.synSetState, Reg.synArmed, Reg.synPlanSlot,
    Reg.synBlock, Reg.evtRaw 0x0A, Reg.evtRaw 0x16] s t ∧ t = { evented s t with dio := t.dio }) ∧
  (∀ (n : Nat), synArmed s = some n → synState s n ≠ 4 → bitsOf (synCfg s 1) 23 16 * 200000000 ≤ s.now - s.syn.armClk
    → ∃ t, exec .synTimeout s = .next t ∧ flag t (Reg.evtRaw 0x0A) 3 = true ∧ synState t n = 6 ∧ synArmed t = none ∧
    bitOf (synBlock t n) 11 = true ∧ Counted Reg.synCntTimeout s t ∧ OnlyRegs [Reg.synSetState, Reg.synArmed,
    Reg.synPlanSlot, Reg.synBlock, Reg.synCntTimeout, Reg.evtRaw 0x0A, Reg.evtRaw 0x16] s t ∧ t =
    { evented s t with syn := t.syn }) ∧
  (∀ (n : Nat), synArmed s = some n → synState s n ≠ 4 → 4096 ≤ s.syn.idleSlots → ∃ t, exec .armStale s = .next t ∧
    synState t n = 6 ∧ synArmed t = none ∧ bitOf (synBlock t n) 12 = true ∧ OnlyRegs [Reg.synSetState, Reg.synArmed,
    Reg.synPlanSlot, Reg.synBlock] s t ∧ t = { s with regs := t.regs, syn := t.syn }) ∧
  (s.syn.idleSlots < 4096 → ∃ t, exec .armStale s = .next t ∧ t = s) ∧
  (∀ (n ch tcb k : Nat), s.syn.timing = some (n, ch, tcb, k) → s.now - k ≤ 200000000 → bitOf s.dio.qual ch = true → ∃
    t, exec .synFeedback s = .next t ∧ flag t (Reg.evtRaw 0x0A) 5 = true ∧ rd t Reg.synLastTcb = (2 ^ 31 + n <<< 16 +
    min ((s.now - k + 10000) / 20000) 65535) % 2 ^ 32 ∧ OnlyRegs [Reg.synLastTcb, Reg.evtRaw 0x0A, Reg.evtRaw 0x16] s
    t ∧ t = { evented s t with syn := { s.syn with timing := none } }) ∧
  (s.syn.timing = none → ∃ t, exec .synFeedback s = .next t ∧ t = s)

/-- Solver jobs from SLV_START to SLV_COLLECT. A SLV_START that the schedule gives next queues its job with its
  descriptor behind every other and gathers its words, one per control clock; on a wedged engine the job ends at once
  with cause 7. The engine takes the job that waits longest, once its gathering has ended and it may run: the job runs
  from that clock and is counted. A job that ends leaves the engine free, with its cause and its number of iterations.
  SLV_DEADLINE abandons a queued job, which is counted and raised, or stops the running one, and leaves any other job
  alone. The lane check of a job ends by its bound and is then no longer due. SLV_COLLECT leaves its result words and
  its status word, from the next clock on, or from the end of a lane check. An engine that stays busy 256 clocks after
  an abandonment is wedged: its queue is emptied and WEDGED is raised. (spec/11_solver_engine.md (R397),
  spec/11_solver_engine.md (R400), spec/11_solver_engine.md (R401), spec/11_solver_engine.md (R405),
  spec/11_solver_engine.md (R407), spec/11_solver_engine.md (R409), spec/11_solver_engine.md (R412)) -/
def Obligations.SolverJobs : Prop := ∀ s : State, s.tidy →
  (∀ (pos slot d n : Nat) (u : State), u = atTurn pos s → Due s ⟨0x12, 0x0C, slot, d, 0, 0, 0, pos⟩ → u.seq.held = []
    → (producers u).length < 32 → slvWedged u = false → u.slv.running = none → (gatherWords u (bitsOf d 5 0)).length =
    n → ∃ t, exec (.slvStart pos slot d) s = .next t ∧ t.slv.queue = u.slv.queue.filter (· ≠ (bitsOf slot 2 0)) ++
    [(bitsOf slot 2 0)] ∧ fld t (Reg.slvSlotState (bitsOf slot 2 0)) 31 28 = 1 ∧ fld t (Reg.slvSlotRun (bitsOf slot 2
    0)) 31 26 = bitsOf d 5 0 ∧ (jobSlot t (bitsOf slot 2 0)).desc = bitsOf d 5 0 ∧ (jobSlot t (bitsOf slot 2 0)).ready
    = false ∧ t.seq.outst.getLast?.map (fun o => (o.words, o.last, o.todo)) = some ([], u.now + max 1 n, (List.range
    n).map (fun i => (u.now + 1 + i, Act.fetch ((gatherWords u (bitsOf d 5 0)).getD i 0))) ++ [(u.now + max 1 n,
    Act.gathered)]) ∧ OnlyRegs [Reg.slvSlotState (bitsOf slot 2 0), Reg.slvSlotRun (bitsOf slot 2 0)] u t ∧ t =
    { evented u t with seq := t.seq, slv := t.slv }) ∧
  (∀ (pos slot d : Nat) (u : State), u = atTurn pos s → Due s ⟨0x12, 0x0C, slot, d, 0, 0, 0, pos⟩ → u.seq.held = [] →
    (producers u).length < 32 → slvWedged u = true → ∃ t, exec (.slvStart pos slot d) s = .next t ∧ fld t
    (Reg.slvSlotState (bitsOf slot 2 0)) 31 28 = 3 ∧ fld t (Reg.slvSlotState (bitsOf slot 2 0)) 27 24 = 7 ∧
    t.slv.queue = u.slv.queue.filter (· ≠ (bitsOf slot 2 0)) ∧ t = { evented u t with seq := t.seq, slv := t.slv }) ∧
  (∀ (j : Nat) (r : List Nat) (u : State), u = advanceTo (max (gatherEnd s j) s.slv.freeClk) s → s.slv.queue.head? =
    some j → u.slv.queue = j :: r → u.slv.running = none → slvWedged u = false → (jobSlot u j).ready = true → ∃ t,
    exec .solverJobStart s = .next t ∧ t.slv.running = some j ∧ t.slv.queue = r ∧ t.now = max s.now (max (gatherEnd s
    j) s.slv.freeClk) ∧ fld t (Reg.slvSlotState j) 31 28 = 2 ∧ (jobSlot t j).startClk = t.now ∧ Counted Reg.slvCntJobs
    u t ∧ OnlyRegs [Reg.slvSlotState j, Reg.slvCntJobs] u t ∧ t =
    { u with regs := t.regs, pmc := t.pmc, slv := t.slv }) ∧
  (s.slv.queue = [] → ∃ t, exec .solverJobStart s = .next t ∧ t = s) ∧
  (∀ (cycles : Nat) (upset : Option (List Nat)) (j : Nat) (u : State), u = advanceTo ((jobSlot s j).startClk + (min
    cycles (jobBound (jobOf s (jobSlot s j)) (jobAt s j 255).count) + 3) / 4) s → s.slv.running = some j → j < 8 → ∃
    t, exec (.solverJobEnd cycles upset) s = .next t ∧ t.slv.running = none ∧ t.slv.queue = u.slv.queue ∧ fld t
    (Reg.slvSlotState j) 31 28 = 3 ∧ fld t (Reg.slvSlotState j) 27 24 = (jobAt s j 255).cause ∧ fld t
    (Reg.slvSlotState j) 14 8 = min 127 (jobAt s j 255).count ∧ (jobSlot t j).endClk = t.now ∧ t.now = u.now ∧ t =
    { evented u t with slv := t.slv, draws := t.draws }) ∧
  (∀ (cycles : Nat) (upset : Option (List Nat)), s.slv.running = none → ∃ t, exec (.solverJobEnd cycles upset) s =
    .next t ∧ t = s) ∧
  (∀ (pos slot iters : Nat) (u : State), u = atTurn pos s → Due s ⟨0x13, 0x0C, slot, 0, 0, 0, 0, pos⟩ → u.seq.held =
    [] → (producers u).length < 32 → u.slv.running ≠ some (bitsOf slot 2 0) → u.slv.queue.contains (bitsOf slot 2 0) =
    true → ∃ t, exec (.slvDeadline pos slot iters) s = .next t ∧ t.slv.queue = u.slv.queue.filter (· ≠ (bitsOf slot 2
    0)) ∧ t.slv.running = u.slv.running ∧ fld t (Reg.slvSlotState (bitsOf slot 2 0)) 31 28 = 3 ∧ fld t
    (Reg.slvSlotState (bitsOf slot 2 0)) 27 24 = 3 ∧ rd t Reg.slvCntAbandoned = satAdd 0xFFFFFFFF (rd u
    Reg.slvCntAbandoned) 1 ∧ flag t (Reg.evtRaw 0x0C) 1 = true ∧ OnlyRegs [Reg.slvSlotState (bitsOf slot 2 0),
    Reg.slvCntAbandoned, Reg.evtRaw 0x0C, Reg.evtRaw 0x16] u t ∧ t = { evented u t with seq := t.seq, slv := t.slv }) ∧
  (∀ (pos slot iters : Nat) (u : State), u = atTurn pos s → Due s ⟨0x13, 0x0C, slot, 0, 0, 0, 0, pos⟩ → u.seq.held =
    [] → (producers u).length < 32 → u.slv.running = some (bitsOf slot 2 0) → ∃ t, exec (.slvDeadline pos slot iters)
    s = .next t ∧ t.slv.running = none ∧ fld t (Reg.slvSlotState (bitsOf slot 2 0)) 31 28 = 3 ∧ (jobSlot t (bitsOf
    slot 2 0)).endClk = u.now ∧ t = { evented u t with seq := t.seq, slv := t.slv, draws := t.draws }) ∧
  (∀ (pos slot iters : Nat) (u : State), u = atTurn pos s → Due s ⟨0x13, 0x0C, slot, 0, 0, 0, 0, pos⟩ → u.seq.held =
    [] → (producers u).length < 32 → u.slv.running ≠ some (bitsOf slot 2 0) → u.slv.queue.contains (bitsOf slot 2 0) =
    false → ∃ t, exec (.slvDeadline pos slot iters) s = .next t ∧ t.seq.outst = u.seq.outst ∧ t =
    { u with seq := t.seq, pmc := t.pmc }) ∧
  (∀ (slot : Fin 8) (clocks : Nat) (it : JobIter) (u : State), u = advanceTo ((jobSlot s slot.val).endClk + min clocks
    (checkBound (jobOf s (jobSlot s slot.val)))) s → (jobSlot s slot.val).checkDue = true → (jobSlot u
    slot.val).checkDue = true → (jobSlot u slot.val).iter = some it → ∃ t, exec (.laneCheckDone slot clocks) s = .next
    t ∧ (jobSlot t slot.val).checkDue = false ∧ (jobSlot t slot.val).rho = toB64 (jobRho (jobOf u (jobSlot u
    slot.val)) it) ∧ t.now = max s.now ((jobSlot s slot.val).endClk + min clocks (checkBound (jobOf s (jobSlot s
    slot.val))))) ∧
  (∀ (slot : Fin 8) (clocks : Nat), (jobSlot s slot.val).checkDue = false → ∃ t, exec (.laneCheckDone slot clocks) s =
    .next t ∧ t = s) ∧
  (∀ (pos slot : Nat) (ws : List Nat) (u : State), u = atTurn pos s → Due s ⟨0x14, 0x0C, slot, 0, 0, 0, 0, pos⟩ →
    u.seq.held = [] → (producers u).length < 32 → (jobSlot u (bitsOf slot 2 0)).checkDue = false → resultWords u
    (bitsOf slot 2 0) ++ (if desc u (jobSlot u (bitsOf slot 2 0)).desc 0xE0 4 < imgWords then [desc u (jobSlot u
    (bitsOf slot 2 0)).desc 0xE0 4] else []) = ws → ∃ t, exec (.slvCollect pos slot) s = .next t ∧ Leaves u t 0x0C ws
    (u.now + 1 + (ws.length - 1)) ∧ t.seq.outst.getLast?.map (fun o => o.todo) = some ((u.now + 1, .collect) ::
    (List.range ws.length).map (fun i => (u.now + 1 + i, .next))) ∧ t = { u with seq := t.seq }) ∧
  (∀ (pos slot : Nat) (u : State), u = atTurn pos s → Due s ⟨0x14, 0x0C, slot, 0, 0, 0, 0, pos⟩ → u.seq.held = [] →
    (producers u).length < 32 → (jobSlot u (bitsOf slot 2 0)).checkDue = true → ∃ t, exec (.slvCollect pos slot) s =
    .next t ∧ t.seq.outst.getLast?.map (fun o => o.todo.head?) = some (some (max (u.now + 1) ((jobSlot u (bitsOf slot
    2 0)).endClk + checkBound (jobOf u (jobSlot u (bitsOf slot 2 0)))), .collect)) ∧ t = { u with seq := t.seq }) ∧
  (∀ (k : Nat) (u : State), u = advanceTo (k + 256) s → s.slv.abandonClk = some k → ∃ t, exec .wedged s = .next t ∧
    t.slv.queue = [] ∧ t.slv.abandonClk = none ∧ slvWedged t = true ∧ t.now = max s.now (k + 256) ∧ flag t (Reg.evtRaw
    0x0C) 10 = true) ∧
  (s.slv.abandonClk = none → ∃ t, exec .wedged s = .next t ∧ t = s)

/-- What entries in progress do at their clocks. Where all lanes store the same, an entry in progress that writes a
  destination word not yet written gives it its value and, where the word has no tag link, its tag; one that keeps the
  word leaves its value under the tag given, where asked a BAD word stays BAD; one that copies gives it value and tag
  of the source as it is read at that clock; the word is then no longer to be written, and its line is written in the
  generation being built. A gathering that ends makes its job ready when every word can be used, ends it EMPTY for a
  descriptor of type 0, and INPUT_BAD, counted and raised, where a word cannot be used. A collect of a job that ended
  EMPTY takes OUTCOME 6, a forced one the fallback, which is counted and raised, and one of a converged iterate with
  GOOD inputs and a residual within TOL publishes its words GOOD and keeps the iterate.
  (spec/05_sequencer_and_process_image.md (R166), spec/05_sequencer_and_process_image.md (R169),
  spec/05_sequencer_and_process_image.md (R181), spec/11_solver_engine.md (R398), spec/11_solver_engine.md (R399),
  spec/11_solver_engine.md (R405), spec/11_solver_engine.md (R409), spec/11_solver_engine.md (R411)) -/
def Obligations.EntriesInProgress : Prop := ∀ s : State, s.tidy →
  (∀ (uid w : Nat) (x : ICell) (o : OutEntry), s.img.upsets = [] → s.img.laneDiff = [] → entryOf s uid = some o →
    o.left.contains w = true → w < imgWords → ∃ t, t = doAct uid (.put w x) s ∧ (laneView t 0 w).val = x.val ∧
    (tagLink s w = none → (laneView t 0 w).tag = x.tag) ∧ entryOf t uid = some { o with left := o.left.erase w } ∧
    lineDirty t (w / 16) = true) ∧
  (∀ (uid w : Nat) (g : Tag) (b : Bool) (o : OutEntry), s.img.upsets = [] → s.img.laneDiff = [] → entryOf s uid = some
    o → o.left.contains w = true → w < imgWords → ∃ t, t = doAct uid (.keep w g b) s ∧ (laneView t 0 w).val =
    (laneView s 0 w).val ∧ (tagLink s w = none → (laneView t 0 w).tag = if b = true ∧ (laneView s 0 w).tag = .bad then
    .bad else g) ∧ entryOf t uid = some { o with left := o.left.erase w }) ∧
  (∀ (uid w k : Nat) (o : OutEntry), s.img.upsets = [] → s.img.laneDiff = [] → entryOf s uid = some o →
    o.left.contains w = true → w < imgWords → ∃ t, t = doAct uid (.copy k w) s ∧ (laneView t 0 w).val = (laneFetch s
    uid 0 k).val ∧ (tagLink s w = none → (laneView t 0 w).tag = (laneFetch s uid 0 k).tag)) ∧
  (∀ (uid : Nat) (o : OutEntry), entryOf s uid = some o → cfgNat s 0x0801 (jobSlot s (bitsOf o.e.arg0 2 0)).desc 2 2 ≠
    0 → o.got.all usableF = true → ∃ t, t = doAct uid .gathered s ∧ (jobSlot t (bitsOf o.e.arg0 2 0)).ready = true ∧
    (jobSlot t (bitsOf o.e.arg0 2 0)).got = o.got ∧ t.slv.queue = s.slv.queue ∧ fld t (Reg.slvSlotState (bitsOf
    o.e.arg0 2 0)) 31 28 = fld s (Reg.slvSlotState (bitsOf o.e.arg0 2 0)) 31 28) ∧
  (∀ (uid : Nat) (o : OutEntry), entryOf s uid = some o → cfgNat s 0x0801 (jobSlot s (bitsOf o.e.arg0 2 0)).desc 2 2 =
    0 → ∃ t, t = doAct uid .gathered s ∧ fld t (Reg.slvSlotState (bitsOf o.e.arg0 2 0)) 31 28 = 3 ∧ fld t
    (Reg.slvSlotState (bitsOf o.e.arg0 2 0)) 27 24 = 5 ∧ t.slv.queue = s.slv.queue.filter (· ≠ bitsOf o.e.arg0 2 0)) ∧
  (∀ (uid : Nat) (o : OutEntry), entryOf s uid = some o → cfgNat s 0x0801 (jobSlot s (bitsOf o.e.arg0 2 0)).desc 2 2 ≠
    0 → o.got.all usableF = false → ∃ t, t = doAct uid .gathered s ∧ fld t (Reg.slvSlotState (bitsOf o.e.arg0 2 0)) 31
    28 = 3 ∧ fld t (Reg.slvSlotState (bitsOf o.e.arg0 2 0)) 27 24 = 6 ∧ Counted Reg.slvCntInputBad s t ∧ flag t
    (Reg.evtRaw 0x0C) 7 = true) ∧
  (∀ (uid : Nat) (o : OutEntry) (j : Nat), entryOf s uid = some o → bitsOf o.e.arg0 2 0 = j → (jobSlot s j).checkDue =
    false → bitOf (effRd s Reg.slvForceFb) j = false → fld s (Reg.slvSlotState j) 27 24 = 5 → ∃ t, t = doAct uid
    .collect s ∧ fld t (Reg.slvSlotState j) 23 20 = 6 ∧ flag t (Reg.slvSlotState j) 16 = false ∧ OnlyRegs
    [Reg.slvSlotState j] s t) ∧
  (∀ (uid : Nat) (o : OutEntry) (j : Nat), entryOf s uid = some o → bitsOf o.e.arg0 2 0 = j → (jobSlot s j).checkDue =
    false → bitOf (effRd s Reg.slvForceFb) j = true → ∃ t, t = doAct uid .collect s ∧ (fld t (Reg.slvSlotState j) 23
    20 = 4 ∨ fld t (Reg.slvSlotState j) 23 20 = 5) ∧ flag t (Reg.slvSlotState j) 16 = true ∧ Counted
    Reg.slvCntFallback s t ∧ flag t (Reg.evtRaw 0x0C) 4 = true) ∧
  (∀ (uid : Nat) (o : OutEntry) (j : Nat) (it : JobIter) (vs : List Word), entryOf s uid = some o → bitsOf o.e.arg0 2
    0 = j → (jobSlot s j).checkDue = false → bitOf (effRd s Reg.slvForceFb) j = false → fld s (Reg.slvSlotState j) 27
    24 = 1 → flag s (Reg.slvSlotState j) 18 = false → (jobSlot s j).iter = some it → fLe (b64 (jobSlot s j).rho)
    (jobTol s (jobSlot s j).desc) = true → to32 (polarForm (desc s (jobSlot s j).desc 0x0B 1) (it.x.map b64)) = some
    vs → ∃ t, t = doAct uid .collect s ∧ fld t (Reg.slvSlotState j) 23 20 = 1 ∧ fld t (Reg.slvSlotState j) 7 0 = 0 ∧
    (jobSlot t j).warm = some it ∧ (jobSlot t j).published = true ∧ OnlyRegs [Reg.slvSlotState j] s t ∧ (entryOf t
    uid).map (fun x => x.res.take (((resultWords s j).zip vs).length)) = some (((resultWords s j).zip vs).map (fun p
    => Act.put p.1 ⟨p.2, .good⟩)))

/-- Inputs, trips and resets of the safety unit. At its clock an input that its test source blanks keeps its states.
  Any other takes the raw state of its voltage: on from 11 V, off from 5 V down, as before between them. Before that
  has stood for FILTER nothing else changes; then the qualified state follows it and no other, and a change of it
  latches every enabled group whose demand stands. The release of a reset input after less than 100 ms is refused with
  cause 4, counted and raised; after 100 ms to 3.0 s it clears the latch of every group it resets whose inputs are
  permitting and whose guards have passed, while the unit is LIVE. A reset input active for 3.0 s becomes stuck,
  counted and raised, and clears after 1.0 s of inactivity. (spec/13_safety_unit.md (R445), spec/13_safety_unit.md
  (R447), spec/13_safety_unit.md (R449), spec/13_safety_unit.md (R450), spec/13_safety_unit.md (R452),
  spec/13_safety_unit.md (R453), spec/13_safety_unit.md (R459), spec/13_safety_unit.md (R460), spec/13_safety_unit.md
  (R461)) -/
def Obligations.SafetyInputs : Prop := ∀ s : State, s.tidy →
  (∀ (n : Fin 16) (run : VoltRun) (clk mid : Nat) (u : State), u = advanceTo (clk) s → blanked u n.val = true → ∃ t,
    exec (.safetyInputChange n run clk mid) s = .next t ∧ t = u) ∧
  (∀ (n : Fin 16) (run : VoltRun) (clk mid : Nat) (u : State), u = advanceTo (clk) s → blanked u n.val = false → fld u
    (Reg.safInCfg n.val) 24 16 * 100 ≤ min 50000 ((if siRawLevel (bitOf u.saf.raw n.val) run.mv = bitOf u.saf.raw
    n.val then tabGet (fun _ => (0 : Nat)) u.saf.rawUs n.val else 0) + run.us) → ∃ t, exec (.safetyInputChange n run
    clk mid) s = .next t ∧ bitOf t.saf.raw n.val = siRawLevel (bitOf u.saf.raw n.val) run.mv ∧ (∀ i : Nat, i < 16 →
    bitOf t.saf.q i = if i = n.val then siRawLevel (bitOf u.saf.raw n.val) run.mv else bitOf u.saf.q i) ∧ t =
    { evented u t with red := t.red, saf := t.saf, out := t.out }) ∧
  (∀ (n : Fin 16) (run : VoltRun) (clk mid : Nat) (u : State), u = advanceTo (clk) s → blanked u n.val = false → fld u
    (Reg.safInCfg n.val) 24 16 * 100 ≤ min 50000 ((if siRawLevel (bitOf u.saf.raw n.val) run.mv = bitOf u.saf.raw
    n.val then tabGet (fun _ => (0 : Nat)) u.saf.rawUs n.val else 0) + run.us) → bitOf u.saf.q n.val ≠ siRawLevel
    (bitOf u.saf.raw n.val) run.mv → ∃ t, exec (.safetyInputChange n run clk mid) s = .next t ∧ (∀ g : Nat, g < 8 → 2
    ≤ t.saf.unit → grpOn t g = true → grpDemand t g = true → bitOf t.saf.latch g = true)) ∧
  (∀ (n : Fin 16) (run : VoltRun) (clk mid : Nat) (u : State), u = advanceTo (clk) s → blanked u n.val = false → min
    50000 ((if siRawLevel (bitOf u.saf.raw n.val) run.mv = bitOf u.saf.raw n.val then tabGet (fun _ => (0 : Nat))
    u.saf.rawUs n.val else 0) + run.us) < fld u (Reg.safInCfg n.val) 24 16 * 100 ∨ (bitOf u.saf.q n.val = siRawLevel
    (bitOf u.saf.raw n.val) run.mv ∧ safDrives u = false) → ∃ t, exec (.safetyInputChange n run clk mid) s = .next t ∧
    (t = { u with saf := { u.saf with raw := putBit u.saf.raw n.val (siRawLevel (bitOf u.saf.raw n.val) run.mv), rawUs
                                        := tabSet (fun _ => (0 : Nat)) u.saf.rawUs n.val (min 50000 ((if siRawLevel
                                        (bitOf u.saf.raw n.val) run.mv = bitOf u.saf.raw n.val then tabGet (fun _ =>
                                        (0 : Nat)) u.saf.rawUs n.val else 0) + run.us)) } })) ∧
  (∀ (n : Fin 16) (clk k : Nat) (u : State), u = advanceTo (clk) s → siKind s n.val = 5 → siKind u n.val = 5 → bitOf
    u.saf.q n.val = true → u.saf.unit = 2 → tabGet (fun _ => (none : Option Nat)) u.saf.press n.val = some k → bitOf
    u.saf.stuck n.val = false → u.now - k < 20000000 → ∃ t, exec (.resetPressRelease n clk) s = .next t ∧ bitOf
    t.saf.q n.val = false ∧ tabGet (fun _ => (none : Option Nat)) t.saf.press n.val = none ∧ rd t Reg.safLastRefused =
    4 <<< 28 + n.val ∧ Counted Reg.safCntResetRefused u t ∧ flag t (Reg.evtRaw 0x0D) 2 = true ∧ (∀ g : Nat, g < 8 → 2
    ≤ t.saf.unit → grpOn t g = true → grpDemand t g = true → bitOf t.saf.latch g = true) ∧ t =
    { evented u t with red := t.red, saf := t.saf, out := t.out }) ∧
  (∀ (n : Fin 16) (clk k : Nat) (u : State), u = advanceTo (clk) s → siKind s n.val = 5 → siKind u n.val = 5 → bitOf
    u.saf.q n.val = true → u.saf.unit = 2 → tabGet (fun _ => (none : Option Nat)) u.saf.press n.val = some k → bitOf
    u.saf.stuck n.val = false → 20000000 ≤ u.now - k → u.now - k ≤ 600000000 → ∃ t, exec (.resetPressRelease n clk) s
    = .next t ∧ (∀ g : Nat, g < 8 → grpOn u g = true → flag u (Reg.safGroupCfg g) 1 = false → fld u (Reg.safGroupCfg
    g) 11 8 = n.val → bitOf (grpMask u g) n.val = false → grpDemand u g = false → guardsPassed u g = true → bitOf
    t.saf.latch g = false) ∧ (∀ g : Nat, g < 8 → 2 ≤ t.saf.unit → grpOn t g = true → grpDemand t g = true → bitOf
    t.saf.latch g = true) ∧ t = { evented u t with red := t.red, saf := t.saf, out := t.out }) ∧
  (∀ (n : Fin 16) (clk : Nat), siKind s n.val ≠ 5 → ∃ t, exec (.resetPressRelease n clk) s = .next t ∧ t = s) ∧
  (∀ (n : Fin 16) (k : Nat) (u : State), u = advanceTo (k + 600000000) s → siKind s n.val = 5 → bitOf s.saf.q n.val =
    true → tabGet (fun _ => (none : Option Nat)) s.saf.press n.val = some k → bitOf u.saf.stuck n.val = false → ∃ t,
    exec (.resetStuck n) s = .next t ∧ flag t (Reg.evtRaw 0x0D) 3 = true ∧ bitOf t.saf.stuck n.val = true ∧ t.now =
    max s.now (k + 600000000) ∧ Counted Reg.safCntResetStuck u t ∧ t.saf.latch = u.saf.latch ∧ OnlyRegs
    [Reg.safCntResetStuck, Reg.evtRaw 0x0D, Reg.evtRaw 0x16] u t ∧ t =
    { evented u t with red := t.red, saf := t.saf, out := t.out }) ∧
  (∀ (n : Fin 16), tabGet (fun _ => (none : Option Nat)) s.saf.press n.val = none ∨ siKind s n.val ≠ 5 ∨ bitOf s.saf.q
    n.val = false → ∃ t, exec (.resetStuck n) s = .next t ∧ t = s) ∧
  (∀ (n : Fin 16) (u : State), u = advanceTo (tabGet (fun _ => (0 : Nat)) s.saf.offClk n.val + secClk) s → bitOf
    s.saf.stuck n.val = true → bitOf s.saf.q n.val = false → ∃ t, exec (.resetStuckClear n) s = .next t ∧ bitOf
    t.saf.stuck n.val = false ∧ t.now = max s.now (tabGet (fun _ => (0 : Nat)) s.saf.offClk n.val + secClk) ∧
    t.saf.latch = u.saf.latch ∧ t = { u with pmc := t.pmc, red := t.red, saf := t.saf, out := t.out }) ∧
  (∀ (n : Fin 16), bitOf s.saf.stuck n.val = false ∨ bitOf s.saf.q n.val = true → ∃ t, exec (.resetStuckClear n) s =
    .next t ∧ t = s)

/-- Discrepancies, cross faults and channel faults. A pair whose members differ for longer than its time gets a
  DISCREPANCY, counted and raised. At the end of a pulse of its test source an input that stayed on has a cross fault,
  one that followed for the second time in a row has none, and no input of another source changes; the first pulse
  sets the grid of 40 ms. Each latches the enabled groups whose demand stands. Channels that differ for more than
  1,000 or 30 µs are a channel fault, counted: an active module with an available standby waits 12 ms with its outputs
  as they are, every other unit that has started enters FAULT at once, and in FAULT every safety output is off. Where
  nothing of this stands, nothing changes. (spec/13_safety_unit.md (R443), spec/13_safety_unit.md (R444),
  spec/13_safety_unit.md (R448), spec/13_safety_unit.md (R449), spec/13_safety_unit.md (R450), spec/13_safety_unit.md
  (R453)) -/
def Obligations.SafetyDiagnostics : Prop := ∀ s : State, s.tidy →
  (∀ (k : Fin 8) (m : Nat) (u : State), u = advanceTo (m + 2000000 * fld s (Reg.safInCfg (2 * k.val)) 31 25 + 1) s →
    tabGet (fun _ => (none : Option Nat)) s.saf.pairSince k.val = some m → siPair s (2 * k.val) = true → bitOf
    s.saf.disc k.val = false → 2 ≤ s.saf.unit → ∃ t, exec (.discrepancy k) s = .next t ∧ bitOf t.saf.disc k.val = true
    ∧ t.now = max s.now (m + 2000000 * fld s (Reg.safInCfg (2 * k.val)) 31 25 + 1) ∧ Counted Reg.safCntDiscrepancy u t
    ∧ flag t (Reg.evtRaw 0x0D) 4 = true ∧ (∀ g : Nat, g < 8 → 2 ≤ t.saf.unit → grpOn t g = true → grpDemand t g = true
    → bitOf t.saf.latch g = true) ∧ t = { evented u t with red := t.red, saf := t.saf, out := t.out }) ∧
  (∀ (k : Fin 8), tabGet (fun _ => (none : Option Nat)) s.saf.pairSince k.val = none ∨ siPair s (2 * k.val) = false ∨
    bitOf s.saf.disc k.val = true ∨ s.saf.unit < 2 → ∃ t, exec (.discrepancy k) s = .next t ∧ t = s) ∧
  (∀ (src : Fin 4) (on : Nat), safDrives s = true → s.saf.pulseClk = none → ∃ t, exec (.safetyTestSourcePulse src on)
    s = .next t ∧ (∀ i : Nat, i < 16 → siKind s i = 1 → siSource s i = src.val → bitOf on i = true → bitOf t.saf.cross
    i = true) ∧ (∀ i : Nat, i < 16 → siKind s i ≠ 1 ∨ siSource s i ≠ src.val → bitOf t.saf.cross i = bitOf s.saf.cross
    i) ∧ (∀ i : Nat, i < 16 → siKind s i = 1 → siSource s i = src.val → bitOf on i = false → bitOf s.saf.cross i =
    true → bitOf t.saf.cross i = decide (tabGet (fun _ => (0 : Nat)) s.saf.followed i = 0)) ∧ (∀ g : Nat, g < 8 → 2 ≤
    t.saf.unit → grpOn t g = true → grpDemand t g = true → bitOf t.saf.latch g = true) ∧ t.saf.pulseClk = some ((s.now
    + 8000000 - 60000 - 2000000 * src.val) % 8000000) ∧ t = { lapsed s t with saf := t.saf }) ∧
  (∀ (src : Fin 4) (on k : Nat) (u : State), u = advanceTo (gridClk s (k + 2000000 * src.val + 60000) 8000000) s →
    safDrives s = true → s.saf.pulseClk = some k → ∃ t, exec (.safetyTestSourcePulse src on) s = .next t ∧ (∀ i : Nat,
    i < 16 → siKind u i = 1 → siSource u i = src.val → bitOf on i = true → bitOf t.saf.cross i = true) ∧ (∀ i : Nat, i
    < 16 → siKind u i ≠ 1 ∨ siSource u i ≠ src.val → bitOf t.saf.cross i = bitOf u.saf.cross i) ∧ (∀ i : Nat, i < 16 →
    siKind u i = 1 → siSource u i = src.val → bitOf on i = false → bitOf u.saf.cross i = true → bitOf t.saf.cross i =
    decide (tabGet (fun _ => (0 : Nat)) u.saf.followed i = 0)) ∧ (∀ g : Nat, g < 8 → 2 ≤ t.saf.unit → grpOn t g = true
    → grpDemand t g = true → bitOf t.saf.latch g = true) ∧ t.saf.pulseClk = u.saf.pulseClk ∧ t =
    { evented u t with red := t.red, saf := t.saf, out := t.out }) ∧
  (∀ (src : Fin 4) (on : Nat), safDrives s = false → ∃ t, exec (.safetyTestSourcePulse src on) s = .next t ∧ t = s) ∧
  (∀ (inUs outUs : Nat), (inUs ≤ 1000 ∧ outUs ≤ 30) ∨ s.saf.chFault = true → ∃ t, exec (.channelCompare inUs outUs) s
    = .next t ∧ t = s) ∧
  (∀ (inUs outUs : Nat), 1000 < inUs ∨ 30 < outUs → s.saf.chFault = false → s.saf.unit ≠ 0 → role s ≠ roleActive ∨
    s.saf.unit ≠ 2 ∨ fld s Reg.redPartner 2 0 ≠ roleStandby ∨ flag s Reg.redPartner 4 = true → ∃ t, exec
    (.channelCompare inUs outUs) s = .next t ∧ t.saf.chFault = true ∧ t.saf.unit = 4 ∧ (∀ o : Nat, o < 6 → soOn t o =
    false) ∧ Counted Reg.safCntChannelFault s t ∧ flag t (Reg.evtRaw 0x0D) 13 = true ∧ t =
    { evented s t with red := t.red, saf := t.saf, out := t.out }) ∧
  (∀ (inUs outUs : Nat), 1000 < inUs ∨ 30 < outUs → s.saf.chFault = false → s.saf.unit = 0 → ∃ t, exec
    (.channelCompare inUs outUs) s = .next t ∧ flag t (Reg.evtRaw 0x0D) 13 = true ∧ t.saf.chFault = true ∧ t.saf.unit
    = 0 ∧ Counted Reg.safCntChannelFault s t ∧ OnlyRegs [Reg.safCntChannelFault, Reg.evtRaw 0x0D, Reg.evtRaw 0x16] s t
    ∧ t = { evented s t with red := t.red, saf := t.saf, out := t.out }) ∧
  (∀ (inUs outUs : Nat), 1000 < inUs ∨ 30 < outUs → s.saf.chFault = false → s.saf.unit = 2 → role s = roleActive → fld
    s Reg.redPartner 2 0 = roleStandby → flag s Reg.redPartner 4 = false → ∃ t, exec (.channelCompare inUs outUs) s =
    .next t ∧ t.saf.chFault = true ∧ t.saf.unit = 3 ∧ t.saf.faultClk = s.now ∧ safDrives t = true ∧ (s.red.swap.isNone
    = true → swapPartnerOk s .safety = true → t.red.swap = some ⟨.safety, 0⟩) ∧ Counted Reg.safCntChannelFault s t ∧ t
    = { evented s t with red := t.red, saf := t.saf, out := t.out }) ∧
  (∀ (u : State), u = advanceTo (s.saf.faultClk + 2400000) s → s.saf.unit = 3 → ∃ t, exec .faultWaitExpire s = .next t
    ∧ t.saf.unit = 4 ∧ t.now = max s.now (s.saf.faultClk + 2400000) ∧ (∀ o : Nat, o < 6 → soOn t o = false) ∧ t =
    { evented u t with red := t.red, saf := t.saf, out := t.out }) ∧
  (s.saf.unit ≠ 3 → ∃ t, exec .faultWaitExpire s = .next t ∧ t = s)

/-- Tests and protection of the safety outputs. The switch test of an output is due every 500 ms. An output that its
  test does not cut, that carries too much current, or whose terminal stays up while it is off gets OUT_FAULT, which
  is counted, raised and holds the output off; overcurrent is remembered as such until another fault of the output.
  SAF_EXPORT, given next by the schedule, leaves its eight words, one per control clock, GOOD while the unit is COLD
  or LIVE and BAD otherwise. (spec/13_safety_unit.md (R451), spec/13_safety_unit.md (R463), spec/13_safety_unit.md
  (R480)) -/
def Obligations.SafetyOutputs : Prop := ∀ s : State, s.tidy →
  (∀ (o : Fin 6) (cut : Bool), safDrives s = false ∨ flag s (Reg.safOutCfg o.val) 0 = false → ∃ t, exec (.soPulseTest
    o cut) s = .next t ∧ t = s) ∧
  (∀ (o : Fin 6) (cut : Bool) (k : Nat) (u : State), u = advanceTo (gridClk s (k + 100000000) 100000000) s → flag s
    (Reg.safOutCfg o.val) 0 = true → safDrives s = true → tabGet (fun _ => (none : Option Nat)) s.saf.soClk o.val =
    some k → cut = true ∨ soOn u o.val = false → ∃ t, exec (.soPulseTest o cut) s = .next t ∧ t =
    { u with saf := { u.saf with soClk := tabSet (fun _ => (none : Option Nat)) u.saf.soClk o.val (some u.now) } }) ∧
  (∀ (o : Fin 6) (cut : Bool) (k : Nat) (u : State), u = advanceTo (gridClk s (k + 100000000) 100000000) s → flag s
    (Reg.safOutCfg o.val) 0 = true → safDrives s = true → tabGet (fun _ => (none : Option Nat)) s.saf.soClk o.val =
    some k → cut = false → soOn u o.val = true → ∃ t, exec (.soPulseTest o cut) s = .next t ∧ flag t (Reg.evtRaw 0x0D)
    7 = true ∧ bitOf t.saf.outFault o.val = true ∧ soOn t o.val = false ∧ t.saf.latch = u.saf.latch ∧ Counted
    Reg.safCntOutFault u t ∧ t.saf.soClk = tabSet (fun _ => (none : Option Nat)) u.saf.soClk o.val (some u.now) ∧
    OnlyRegs [Reg.safCntOutFault, Reg.evtRaw 0x0D, Reg.evtRaw 0x16] u t ∧ t =
    { evented u t with red := t.red, saf := t.saf, out := t.out }) ∧
  (∀ (o : Fin 6) (cut : Bool), flag s (Reg.safOutCfg o.val) 0 = true → safDrives s = true → tabGet (fun _ => (none :
    Option Nat)) s.saf.soClk o.val = none → cut = true ∨ soOn s o.val = false → ∃ t, exec (.soPulseTest o cut) s =
    .next t ∧ t =
    { s with saf := { s.saf with soClk := tabSet (fun _ => (none : Option Nat)) s.saf.soClk o.val (some s.now) } }) ∧
  (∀ (o : Fin 6) (cut : Bool), flag s (Reg.safOutCfg o.val) 0 = true → safDrives s = true → tabGet (fun _ => (none :
    Option Nat)) s.saf.soClk o.val = none → cut = false → soOn s o.val = true → ∃ t, exec (.soPulseTest o cut) s =
    .next t ∧ flag t (Reg.evtRaw 0x0D) 7 = true ∧ bitOf t.saf.outFault o.val = true ∧ soOn t o.val = false ∧
    t.saf.latch = s.saf.latch ∧ Counted Reg.safCntOutFault s t ∧ OnlyRegs [Reg.safCntOutFault, Reg.evtRaw 0x0D,
    Reg.evtRaw 0x16] s t ∧ t = { lapsed s t with saf := t.saf }) ∧
  (∀ (o : Fin 6), soOn s o.val = true → ∃ t, exec (.soOvercurrent o) s = .next t ∧ flag t (Reg.evtRaw 0x0D) 7 = true ∧
    bitOf t.saf.outFault o.val = true ∧ bitOf t.saf.overcur o.val = true ∧ soOn t o.val = false ∧ Counted
    Reg.safCntOutFault s t ∧ OnlyRegs [Reg.safCntOutFault, Reg.evtRaw 0x0D, Reg.evtRaw 0x16] s t ∧ t =
    { evented s t with red := t.red, saf := t.saf, out := t.out }) ∧
  (∀ (o : Fin 6), soOn s o.val = false → ∃ t, exec (.soOvercurrent o) s = .next t ∧ t = s) ∧
  (∀ (o : Fin 6), safDrives s = true → soOn s o.val = false → bitOf s.saf.outFault o.val = false → ∃ t, exec
    (.soTerminalStuck o) s = .next t ∧ flag t (Reg.evtRaw 0x0D) 7 = true ∧ bitOf t.saf.outFault o.val = true ∧ bitOf
    t.saf.term o.val = true ∧ Counted Reg.safCntOutFault s t ∧ OnlyRegs [Reg.safCntOutFault, Reg.evtRaw 0x0D,
    Reg.evtRaw 0x16] s t ∧ t = { evented s t with red := t.red, saf := t.saf, out := t.out }) ∧
  (∀ (o : Fin 6), safDrives s = true → soOn s o.val = false → bitOf s.saf.outFault o.val = true → ∃ t, exec
    (.soTerminalStuck o) s = .next t ∧ bitOf t.saf.overcur o.val = false ∧ bitOf t.saf.term o.val = true ∧
    t.saf.outFault = s.saf.outFault ∧ OnlyRegs [] s t ∧ t =
    { evented s t with red := t.red, saf := t.saf, out := t.out }) ∧
  (∀ (o : Fin 6), safDrives s = false ∨ soOn s o.val = true → ∃ t, exec (.soTerminalStuck o) s = .next t ∧ t = s) ∧
  (∀ (pos dst : Nat) (u : State), u = atTurn pos s → Due s ⟨0x30, 0x0D, 0, dst, 0, 0, 0, pos⟩ → u.seq.held = [] →
    (producers u).length < 32 → ∃ t, exec (.safExport pos dst) s = .next t ∧ Leaves u t 0x0D ((List.range 8).map (fun
    i => dst + i)) (u.now + 8) ∧ (t.seq.outst.getLast?.map (fun o => o.todo) = some ((List.range 8).map (fun i =>
    (u.now + 1 + i, Act.put (dst + i) ⟨BitVec.ofNat 32 ([safInWord u, safGroupWord u, safOutWord u, u.saf.opened <<<
    16 + u.saf.passed, safFaultWord u, bkWord u 0, bkWord u 1, safWord7 u].getD i 0), if u.saf.unit = 1 ∨ u.saf.unit =
    2 then Tag.good else Tag.bad⟩)))) ∧ t = { u with seq := t.seq }) ∧
  (∀ (pos dst : Nat), dispatching s = false → ∃ t, exec (.safExport pos dst) s = .next t ∧ t = s)

/-- Release, application and loss of a brake. RELEASE_TIME after a release a coil current or feedback outside its
  limits sets RELEASE_FAIL, is raised and applies the brake again; otherwise a brake whose conditions still hold is
  RELEASED. APPLY_TIME after an application a coil that still carries 50 mA or more, or a feedback that is still on,
  sets APPLY_FAIL, is raised and locks the brake. A released brake whose coil current leaves its window is applied. Of
  any other brake nothing changes. (spec/13_safety_unit.md (R464), spec/13_safety_unit.md (R465)) -/
def Obligations.BrakeTimers : Prop := ∀ s : State, s.tidy →
  (∀ (n : Fin 2) (ma : Nat) (u : State), u = advanceTo ((brake s n.val).opClk + 2000000 * bkCoil s n.val 15 8) s →
    (brake s n.val).state = 1 → coilOk u n.val ma = false ∨ (bkIo u n.val 12 12 ≠ 0 ∧ bkFb u n.val = false) → ∃ t,
    exec (.brakeReleaseTimeout n ma) s = .next t ∧ (brake t n.val).relFail = true ∧ (brake t n.val).coilMa = ma ∧
    t.now = max s.now ((brake s n.val).opClk + 2000000 * bkCoil s n.val 15 8) ∧ flag t (Reg.evtRaw 0x0D) 12 = true ∧ t
    = { evented u t with red := t.red, saf := t.saf, out := t.out }) ∧
  (∀ (n : Fin 2) (ma : Nat) (u : State), u = advanceTo ((brake s n.val).opClk + 2000000 * bkCoil s n.val 15 8) s →
    (brake s n.val).state = 1 → coilOk u n.val ma = true → bkIo u n.val 12 12 = 0 ∨ bkFb u n.val = true → ∃ t, exec
    (.brakeReleaseTimeout n ma) s = .next t ∧ (brake t n.val).relFail = false ∧ (brake t n.val).coilMa = ma ∧ t.now =
    max s.now ((brake s n.val).opClk + 2000000 * bkCoil s n.val 15 8) ∧ (safDrives t = true → bkReq t n.val = true →
    grpsPermit t (bkGroups t n.val) = true → (brake t n.val).locked = false → (brake t n.val).needCycle = false →
    (brake t n.val).due = false → (brake t n.val).state = 2) ∧ t =
    { evented u t with red := t.red, saf := t.saf, out := t.out }) ∧
  (∀ (n : Fin 2) (ma : Nat), (brake s n.val).state ≠ 1 → ∃ t, exec (.brakeReleaseTimeout n ma) s = .next t ∧ t = s) ∧
  (∀ (n : Fin 2) (ma : Nat), (brake s n.val).state = 2 → coilOk s n.val ma = false → ∃ t, exec (.coilCurrentLost n ma)
    s = .next t ∧ (brake t n.val).relFail = true ∧ (brake t n.val).coilMa = ma ∧ (brake t n.val).released = false ∧
    flag t (Reg.evtRaw 0x0D) 12 = true ∧ t = { evented s t with red := t.red, saf := t.saf, out := t.out }) ∧
  (∀ (n : Fin 2) (ma : Nat), (brake s n.val).state ≠ 2 ∨ coilOk s n.val ma = true → ∃ t, exec (.coilCurrentLost n ma)
    s = .next t ∧ t = s) ∧
  (∀ (n : Fin 2) (ma : Nat) (first : Bool) (u : State), u = advanceTo ((brake s n.val).opClk + 2000000 * bkCoil s
    n.val 7 0) s → (brake s n.val).applying = true → ma < 50 → bkIo u n.val 12 12 = 0 ∨ bkFb u n.val = false → first =
    false → ∃ t, exec (.brakeApplyTimeout n ma first) s = .next t ∧ (brake t n.val).applying = false ∧ (brake t
    n.val).coilMa = ma ∧ (brake t n.val).locked = (brake s n.val).locked ∧ t.saf.latch = u.saf.latch ∧ t.now = max
    s.now ((brake s n.val).opClk + 2000000 * bkCoil s n.val 7 0) ∧ t =
    { evented u t with red := t.red, saf := t.saf, out := t.out }) ∧
  (∀ (n : Fin 2) (ma : Nat) (first : Bool) (u : State), u = advanceTo ((brake s n.val).opClk + 2000000 * bkCoil s
    n.val 7 0) s → (brake s n.val).applying = true → 50 ≤ ma ∨ (bkIo u n.val 12 12 = 1 ∧ bkFb u n.val = true) → ∃ t,
    exec (.brakeApplyTimeout n ma first) s = .next t ∧ (brake t n.val).appFail = true ∧ (brake t n.val).locked = true
    ∧ (brake t n.val).coilMa = ma ∧ flag t (Reg.evtRaw 0x0D) 12 = true ∧ t =
    { evented u t with red := t.red, saf := t.saf, out := t.out }) ∧
  (∀ (n : Fin 2) (ma : Nat) (first : Bool), (brake s n.val).applying = false → ∃ t, exec (.brakeApplyTimeout n ma
    first) s = .next t ∧ t = s)

/-- The brake test. BT_INTERVAL after the last passing test the brake is DUE and DUE is raised. A test whose
  confirmation stays away for CONFIRM_TIME is aborted and raised; one that ends with the distance below its limit
  passes, is counted and raised and takes DUE away, and one started by BT_START takes the locks away; one whose
  distance reaches its limit fails at once, is counted and raised and locks the brake. Each tooth edge moves the
  distance by one, up where A leads B and down otherwise. (spec/13_safety_unit.md (R466), spec/13_safety_unit.md
  (R467), spec/13_safety_unit.md (R468), spec/13_safety_unit.md (R469)) -/
def Obligations.BrakeTests : Prop := ∀ s : State, s.tidy →
  (∀ (n : Fin 2) (k : Nat) (u : State), u = advanceTo (k + (brake s n.val).left) s → (brake s n.val).since = some k →
    ∃ t, exec (.btDue n) s = .next t ∧ (brake t n.val).due = true ∧ t.now = max s.now (k + (brake s n.val).left) ∧
    flag t (Reg.evtRaw 0x0D) 11 = true ∧ t = { evented u t with red := t.red, saf := t.saf, out := t.out }) ∧
  (∀ (n : Fin 2), (brake s n.val).since = none → ∃ t, exec (.btDue n) s = .next t ∧ t = s) ∧
  (∀ (n : Fin 2) (u : State), u = advanceTo ((brake s n.val).testClk + 20000000 * bkTest s n.val 7 0) s → (brake s
    n.val).state = 3 → ∃ t, exec (.btConfirmTimeout n) s = .next t ∧ (brake t n.val).last = 3 ∧ flag t (Reg.evtRaw
    0x0D) 10 = true ∧ t.now = max s.now ((brake s n.val).testClk + 20000000 * bkTest s n.val 7 0) ∧ t =
    { evented u t with red := t.red, saf := t.saf, out := t.out }) ∧
  (∀ (n : Fin 2), (brake s n.val).state ≠ 3 → ∃ t, exec (.btConfirmTimeout n) s = .next t ∧ t = s) ∧
  (∀ (n : Fin 2) (u : State), u = advanceTo ((brake s n.val).testClk + 20000000 * bkTest s n.val 15 8) s → (brake s
    n.val).state = 4 → ∃ t, exec (.btTimeEnd n) s = .next t ∧ (brake t n.val).last = 1 ∧ (brake t n.val).due = false ∧
    flag t (Reg.evtRaw 0x0D) 8 = true ∧ Counted Reg.safCntBtPass u t ∧ ((brake s n.val).byStart = true → (brake t
    n.val).locked = false ∧ (brake t n.val).swFault = false ∧ (brake t n.val).appFail = false) ∧ t.now = max s.now
    ((brake s n.val).testClk + 20000000 * bkTest s n.val 15 8) ∧ t =
    { evented u t with red := t.red, saf := t.saf, out := t.out }) ∧
  (∀ (n : Fin 2), (brake s n.val).state ≠ 4 → ∃ t, exec (.btTimeEnd n) s = .next t ∧ t = s) ∧
  (∀ (pi : Fin 4) (aLeads : Bool), (List.range 2).filter (fun k => (brake s k).state == 4 && bkIo s k 17 16 == pi.val)
    = [] → ∃ t, exec (.safetyPiEdge pi aLeads) s = .next t ∧ t = s) ∧
  (∀ (pi : Fin 4) (aLeads : Bool) (n : Nat), (List.range 2).filter (fun k => (brake s k).state == 4 && bkIo s k 17 16
    == pi.val) = [n] → min 0xFFFF (max (brake s n).move ((brake s n).dist + (if aLeads then 1 else -1)).natAbs) <
    bkTest s n 23 16 → ∃ t, exec (.safetyPiEdge pi aLeads) s = .next t ∧ (t = putBrake n
    { brake s n with dist := (brake s n).dist + (if aLeads then 1 else -1), move := min 0xFFFF (max (brake s n).move
                       ((brake s n).dist + (if aLeads then 1 else -1)).natAbs) } s)) ∧
  (∀ (pi : Fin 4) (aLeads : Bool) (n : Nat), (List.range 2).filter (fun k => (brake s k).state == 4 && bkIo s k 17 16
    == pi.val) = [n] → bkTest s n 23 16 ≤ min 0xFFFF (max (brake s n).move ((brake s n).dist + (if aLeads then 1 else
    -1)).natAbs) → ∃ t, exec (.safetyPiEdge pi aLeads) s = .next t ∧ (brake t n).last = 2 ∧ (brake t n).locked = true
    ∧ flag t (Reg.evtRaw 0x0D) 9 = true ∧ Counted Reg.safCntBtFail s t ∧ t =
    { evented s t with red := t.red, saf := t.saf, out := t.out })

/-- The saved safety state, start, takeover and handover of the unit. Every 1 ms a unit that drives writes the next
  record to its own store, which keeps two; a valid record of the partner is stored and makes the store CURRENT;
  without one for 5 ms the store is stale, which a COLD unit raises, as does a takeover on a stale store. After its
  self-test a unit with an accepted section becomes LIVE in a single-slot base and COLD as a standby; a COLD unit that
  senses its own token alone becomes LIVE; a unit that senses its partner token leaves LIVE after 1 ms, for FAULT
  after a channel fault and for COLD otherwise, with every output off. A supply that leaves its window restarts the
  unit and keeps its store, keys and section. (spec/13_safety_unit.md (R470), spec/13_safety_unit.md (R471),
  spec/13_safety_unit.md (R472), spec/13_safety_unit.md (R473), spec/13_safety_unit.md (R474), spec/13_safety_unit.md
  (R476), spec/18_power_start_up_and_reset.md (R635)) -/
def Obligations.SafetyStore : Prop := ∀ s : State, s.tidy →
  (∀ (u : State), u = advanceTo (s.saf.perClk + 200000) s → safDrives s = true → ∃ t, exec .safetyRecordPeriodic s =
    .next t ∧ t.now = max s.now (s.saf.perClk + 200000) ∧ t.saf.perClk = t.now ∧ t.saf.seq = (u.saf.seq + 1) % 2 ^ 32
    ∧ t.saf.latch = u.saf.latch ∧ t.saf.store = (safRecord u ((u.saf.seq + 1) % 2 ^ 32) :: u.saf.store).take 2 ∧ t =
    { u with pmc := t.pmc, red := t.red, saf := t.saf, out := t.out }) ∧
  (safDrives s = false → ∃ t, exec .safetyRecordPeriodic s = .next t ∧ t = s) ∧
  (∀ (bytes : List Nat), recordOk s bytes = true → ∃ t, exec (.safetyRecordReceived bytes) s = .next t ∧ t =
    { s with saf := { s.saf with seq := recNat bytes 0 4, store := (bytes :: s.saf.store).take 2, current := true,
                                   recClk := s.now } }) ∧
  (∀ (bytes : List Nat), recordOk s bytes = false → ∃ t, exec (.safetyRecordReceived bytes) s = .next t ∧ t = s) ∧
  (∀ (u : State), u = advanceTo (s.saf.recClk + 1000000) s → s.saf.current = true → u.saf.unit ≠ 1 → ∃ t, exec
    .storeStale s = .next t ∧ t.now = max s.now (s.saf.recClk + 1000000) ∧ t =
    { u with saf := { u.saf with current := false } }) ∧
  (∀ (u : State), u = advanceTo (s.saf.recClk + 1000000) s → s.saf.current = true → u.saf.unit = 1 → ∃ t, exec
    .storeStale s = .next t ∧ flag t (Reg.evtRaw 0x0D) 14 = true ∧ OnlyRegs [Reg.evtRaw 0x0D, Reg.evtRaw 0x16] u t ∧ t
    = { evented u t with saf := { u.saf with current := false } }) ∧
  (s.saf.current = false → ∃ t, exec .storeStale s = .next t ∧ t = s) ∧
  (s.saf.unit = 1 → s.red.own = .present → s.red.partner ≠ .present → ∃ t, exec .safetyTakeover s = .next t ∧
    t.saf.unit = 2 ∧ t.saf.perClk = s.now ∧ (s.saf.current = false → flag t (Reg.evtRaw 0x0D) 14 = true) ∧ (∀ g : Nat,
    g < 8 → 2 ≤ t.saf.unit → grpOn t g = true → grpDemand t g = true → bitOf t.saf.latch g = true) ∧ t =
    { evented s t with red := t.red, saf := t.saf, out := t.out }) ∧
  (s.saf.unit ≠ 1 ∨ s.red.own ≠ .present ∨ s.red.partner = .present → ∃ t, exec .safetyTakeover s = .next t ∧ t = s) ∧
  (∀ (u : State), u = advanceTo (s.now + 200000) s → safDrives s = true → s.red.partner = .present → ∃ t, exec
    .safetyHandover s = .next t ∧ t.now = s.now + 200000 ∧ (t.saf.unit = if u.saf.chFault then 4 else 1) ∧ (∀ o : Nat,
    o < 6 → soOn t o = false) ∧ t = { evented u t with red := t.red, saf := t.saf, out := t.out }) ∧
  (safDrives s = false ∨ s.red.partner ≠ .present → ∃ t, exec .safetyHandover s = .next t ∧ t = s) ∧
  (∀ (pass : Nat) (fs : Bool) (x0 y0 x1 y1 : Nat), s.saf.tested = false → s.saf.accepted = true → s.saf.unit = 0 →
    s.saf.chFault = false → ∃ t, exec (.safetySelfTestDone pass fs x0 y0 x1 y1) s = .next t ∧ t.saf.tested = true ∧
    (t.saf.swPass = if fs then pass % 64 else 0) ∧ t.saf.wired = b2n (coilWired x0 y0) + 2 * b2n (coilWired x1 y1) ∧
    (t.saf.unit = if pairBase s = true ∧ ¬ (s.red.own = .present ∧ s.red.partner ≠ .present) then 1 else 2) ∧ t =
    { evented s t with red := t.red, saf := t.saf, out := t.out }) ∧
  (∀ (pass : Nat) (fs : Bool) (x0 y0 x1 y1 : Nat), s.saf.tested = true → ∃ t, exec (.safetySelfTestDone pass fs x0 y0
    x1 y1) s = .next t ∧ t = s) ∧
  (∃ t, exec .safetySupplyBrownOut s = .next t ∧ t = { s with saf :=
                                                                { store := s.saf.store, seq := s.saf.seq, keys :=
                                                                    s.saf.keys, accepted := s.saf.accepted, dig :=
                                                                    s.saf.dig } } ∧ (∀ o : Nat, o < 6 → soOn t o =
    false))

/-- MBC_SEND and the attempts of a message-bus controller. An MBC_SEND that the schedule gives next reads its source
  words one per control clock from the clock after its dispatch on, and acts at the clock after the last: with usable
  words it queues the descriptor frame, replacing an older one of the same descriptor, which is counted, and otherwise
  where the failover rule places it; with an unusable one nothing is queued and the episode is counted and raised
  once. A controller that may transmit attempts the waiting frame that arbitration places first. A successful attempt,
  as every attempt in internal loopback, leaves the queues, is counted and, but for loopback, goes onto the bus; lost
  arbitration is counted and an abort noted, and both leave the frame waiting; an error is counted with its cause.
  (spec/14_message_buses.md (R489), spec/14_message_buses.md (R491), spec/14_message_buses.md (R498),
  spec/14_message_buses.md (R499), spec/14_message_buses.md (R500), spec/14_message_buses.md (R502),
  spec/14_message_buses.md (R503), spec/14_message_buses.md (R509)) -/
def Obligations.MessageBusTransmission : Prop := ∀ s : State, s.tidy →
  (∀ (pos : Nat) (n : Fin 4) (d : Nat) (u : State), u = atTurn pos s → Due s ⟨0x20, 0x0E + n, d, 0, 0, 0, 0, pos⟩ →
    u.seq.held = [] → (producers u).length < 32 → ∃ t, exec (.mbcSend pos n d) s = .next t ∧ t.seq.outst.getLast?.map
    (fun o => (o.words, o.last, o.todo)) = some ([], u.now + ((dlcLen (txdFlag u (bitsOf d 11 0) 0) (txd u (bitsOf d
    11 0) 5 1) + 3) / 4) + 1, (List.range ((dlcLen (txdFlag u (bitsOf d 11 0) 0) (txd u (bitsOf d 11 0) 5 1) + 3) /
    4)).map (fun i => (u.now + 1 + i, Act.fetch (txd u (bitsOf d 11 0) 8 4 + i))) ++ [(u.now + ((dlcLen (txdFlag u
    (bitsOf d 11 0) 0) (txd u (bitsOf d 11 0) 5 1) + 3) / 4) + 1, Act.send)]) ∧ t = { u with seq := t.seq }) ∧
  (∀ (uid : Nat) (o : OutEntry) (d : Nat), entryOf s uid = some o → bitsOf o.e.arg0 11 0 = d → o.got.all (fun c =>
    usableTag c.tag) = true → (mbc s (txdCtl s d)).queue.any (fun i => i.desc == d) = false → (mbc s (mbcPair (txdCtl
    s d))).queue.any (fun i => i.desc == d) = false → ∃ t, t = doAct uid .send s ∧ (mbc t (txPlace s d)).queue = (mbc
    s (txPlace s d)).queue.filter (fun i => i.desc ≠ d) ++ [⟨d, 4 * (mbc s (txPlace s d)).nextUid + (txPlace s d),
    s.now, { ide := bitOf (txd s d 0 4) 31, id := bitsOf (txd s d 0 4) 28 0, fd := txdFlag s d 0, brs := txdFlag s d
               1, dlc := txd s d 5 1, data := txPayload s o.gen d o.got }⟩] ∧ t.mbcBad = s.mbcBad.filter (· ≠ d) ∧ t =
    { s with mbc := t.mbc, mbcBad := t.mbcBad }) ∧
  (∀ (uid : Nat) (o : OutEntry) (d : Nat), entryOf s uid = some o → bitsOf o.e.arg0 11 0 = d → o.got.all (fun c =>
    usableTag c.tag) = true → (mbc s (txdCtl s d)).queue.any (fun i => i.desc == d) = true → ∃ t, t = doAct uid .send
    s ∧ (mbc t (txdCtl s d)).queue = (mbc s (txdCtl s d)).queue.filter (fun i => i.desc ≠ d) ++ [⟨d, 4 * (mbc s
    (txdCtl s d)).nextUid + txdCtl s d, s.now, { ide := bitOf (txd s d 0 4) 31, id := bitsOf (txd s d 0 4) 28 0, fd :=
                                                   txdFlag s d 0, brs := txdFlag s d 1, dlc := txd s d 5 1, data :=
                                                   txPayload s o.gen d o.got }⟩] ∧ Counted (Reg.mbcCntSuperseded
    (txdCtl s d)) s t ∧ t = { s with mbc := t.mbc, mbcBad := t.mbcBad, regs := t.regs, pmc := t.pmc }) ∧
  (∀ (uid : Nat) (o : OutEntry) (d : Nat), entryOf s uid = some o → bitsOf o.e.arg0 11 0 = d → o.got.all (fun c =>
    usableTag c.tag) = false → s.mbcBad.contains d = false → ∃ t, t = doAct uid .send s ∧ t.mbcBad = d :: s.mbcBad ∧
    t.mbc = s.mbc ∧ Counted (Reg.mbcCntSrcBad (txdCtl s d)) s t ∧ flag t (Reg.evtRaw (0x0E + txdCtl s d)) 6 = true) ∧
  (∀ (uid : Nat) (o : OutEntry) (d : Nat), entryOf s uid = some o → bitsOf o.e.arg0 11 0 = d → o.got.all (fun c =>
    usableTag c.tag) = false → s.mbcBad.contains d = true → ∃ t, t = doAct uid .send s ∧ t = s) ∧
  (∀ (n : Fin 4) (i : TxInst), mbcMayTx s n.val = true → firstTx ((mbc s n.val).queue.filter (fun i => i.ready ≤
    s.now)) = some i → ∃ t, exec (.txAttempt n) s = .next t ∧ t = mbcUpd n.val (fun x =>
    { x with att := some (i, ⟨s.now, s.tbu.gen, s.tbu.slot⟩) }) s ∧ (mbc t n.val).queue = (mbc s n.val).queue) ∧
  (∀ (n : Fin 4), mbcMayTx s n.val = false ∨ firstTx ((mbc s n.val).queue.filter (fun i => i.ready ≤ s.now)) = none →
    ∃ t, exec (.txAttempt n) s = .next t ∧ t = s) ∧
  (∀ (n : Fin 4) (e : TxEnd) (data : Bool) (extra tdc bits : Nat) (i : TxInst) (k : SofStamp), (mbc s n.val).att =
    some (i, k) → e = .ok ∨ (mbc s n.val).mode = 2 → ∃ t, exec (.txAttemptEnd n e data extra tdc bits) s = .next t ∧
    (∀ j : TxInst, j ∈ (mbc t n.val).queue → j.uid ≠ i.uid) ∧ fld t (Reg.mbcLastTx n.val) 31 28 = 1 ∧ Counted
    (Reg.mbcCntTxOk n.val) s t ∧ (t.out = (if (mbc s n.val).mode = 2 then s.out else .can n.val (b2n i.frame.ide <<<
    31 + i.frame.id) (b2n i.frame.fd + b2n i.frame.brs <<< 1 + i.frame.dlc <<< 4) i.frame.payload :: s.out)) ∧ t =
    { evented s t with effOld := t.effOld, mbc := t.mbc, maps := t.maps, out := t.out }) ∧
  (∀ (n : Fin 4) (e : TxEnd) (data : Bool) (extra tdc bits : Nat) (i : TxInst) (k : SofStamp), (mbc s n.val).att =
    some (i, k) → e = .arbLost → (mbc s n.val).mode ≠ 2 → (mbc s n.val).timingDue = false → ∃ t, exec (.txAttemptEnd n
    e data extra tdc bits) s = .next t ∧ (mbc t n.val).att = none ∧ (mbc t n.val).queue = (mbc s n.val).queue ∧ (mbc t
    n.val).tec = (mbc s n.val).tec ∧ Counted (Reg.mbcCntArbLost n.val) s t ∧ rd t (Reg.mbcLastTx n.val) = (2 <<< 28 +
    i.desc % 4096) % 2 ^ 32 ∧ OnlyRegs [Reg.mbcCntArbLost n.val, Reg.mbcLastTx n.val, Reg.mbcTdcMeas n.val, Reg.evtRaw
    0x17, Reg.evtRaw 0x16] s t ∧ t =
    { evented s t with effOld := t.effOld, mbc := t.mbc, maps := t.maps, out := t.out }) ∧
  (∀ (n : Fin 4) (e : TxEnd) (data : Bool) (extra tdc bits : Nat) (i : TxInst) (k : SofStamp), (mbc s n.val).att =
    some (i, k) → e = .aborted → (mbc s n.val).mode ≠ 2 → ∃ t, exec (.txAttemptEnd n e data extra tdc bits) s = .next
    t ∧ (mbc t n.val).att = none ∧ (mbc t n.val).queue = (mbc s n.val).queue ∧ rd t (Reg.mbcLastTx n.val) = (7 <<< 28
    + i.desc % 4096) % 2 ^ 32 ∧ t =
    { evented s t with effOld := t.effOld, mbc := t.mbc, maps := t.maps, out := t.out }) ∧
  (∀ (n : Fin 4) (e : TxEnd) (data : Bool) (extra tdc bits : Nat) (i : TxInst) (k : SofStamp), (mbc s n.val).att =
    some (i, k) → e = .bit ∨ e = .stuff ∨ e = .form ∨ e = .ack false ∨ e = .ack true → (mbc s n.val).mode ≠ 2 → ∃ t,
    exec (.txAttemptEnd n e data extra tdc bits) s = .next t ∧ (mbc t n.val).att = none ∧ Counted (Reg.mbcCntTxErr
    n.val) s t ∧ (fld t (Reg.mbcLastTx n.val) 31 28 = (match e with | .bit => 4 | .stuff => 5 | .form => 6 | _ => 3))
    ∧ t = { evented s t with effOld := t.effOld, mbc := t.mbc, maps := t.maps, out := t.out }) ∧
  (∀ (n : Fin 4) (e : TxEnd) (data : Bool) (extra tdc bits : Nat), (mbc s n.val).att = none → ∃ t, exec (.txAttemptEnd
    n e data extra tdc bits) s = .next t ∧ t = s)

/-- Reception, error events and recovery of a message-bus controller, and MBC_MAP. A frame received from the bus is
  counted and becomes the fresh latch of the map records that name it; an error event while receiving is counted and
  raises the receive counter but in listen-only mode; a bus-off controller, or one in internal loopback, takes
  neither. A recovered controller is error-active with both counters at 0 and the recovery is raised. An MBC_MAP that
  the schedule gives next decides its record at its first clock and writes one word per control clock: from a fresh
  latch, which it uses up, the words of the payload GOOD; from one too short the previous values BAD, counted and
  raised; without a fresh latch the previous values HELD while the age is within the limit and BAD after it, which is
  counted and raised once. (spec/14_message_buses.md (R488), spec/14_message_buses.md (R489), spec/14_message_buses.md
  (R494), spec/14_message_buses.md (R495), spec/14_message_buses.md (R496), spec/14_message_buses.md (R504),
  spec/14_message_buses.md (R506), spec/14_message_buses.md (R511), spec/14_message_buses.md (R512)) -/
def Obligations.MessageBusReception : Prop := ∀ s : State, s.tidy →
  (∀ (n : Fin 4) (f : CanFrame) (sof : SofStamp), (mbc s n.val).err ≠ 2 → (mbc s n.val).mode ≠ 2 → ∃ t, exec
    (.canFrameReceived n f sof) s = .next t ∧ Counted (Reg.mbcCntRx n.val) s t ∧ t.maps = (latchFrame n.val f sof
    s).maps ∧ t.red = s.red ∧ t = { evented s t with mbc := t.mbc, maps := t.maps, draws := t.draws }) ∧
  (∀ (n : Fin 4) (f : CanFrame) (sof : SofStamp), (mbc s n.val).err = 2 ∨ (mbc s n.val).mode = 2 → ∃ t, exec
    (.canFrameReceived n f sof) s = .next t ∧ t = s) ∧
  (∀ (n : Fin 4) (code : Fin 5) (data : Bool) (extra bits : Nat), (mbc s n.val).err ≠ 2 → (mbc s n.val).mode ≠ 2 → ∃
    t, exec (.busError n code data extra bits) s = .next t ∧ Counted (Reg.mbcCntRxErr n.val) s t ∧ t.maps = s.maps ∧
    ((mbc s n.val).mode = 1 → (mbc t n.val).tec = (mbc s n.val).tec ∧ (mbc t n.val).rxc = (mbc s n.val).rxc) ∧ ((mbc s
    n.val).mode ≠ 1 → (mbc t n.val).err ≠ 2 → (mbc t n.val).rxc = min 263 ((mbc s n.val).rxc + 1 + 8 * extra)) ∧ t =
    { evented s t with mbc := t.mbc }) ∧
  (∀ (n : Fin 4) (code : Fin 5) (data : Bool) (extra bits : Nat), (mbc s n.val).err = 2 ∨ (mbc s n.val).mode = 2 → ∃
    t, exec (.busError n code data extra bits) s = .next t ∧ t = s) ∧
  (∀ (n : Fin 4), (mbc s n.val).err = 2 → (mbc s n.val).recovering = true → ∃ t, exec (.recovered n) s = .next t ∧
    (mbc t n.val).err = 0 ∧ (mbc t n.val).tec = 0 ∧ (mbc t n.val).rxc = 0 ∧ (mbc t n.val).recovering = false ∧ (mbc t
    n.val).warning = false ∧ flag t (Reg.evtRaw (0x0E + n.val)) 3 = true ∧ t = { evented s t with mbc := t.mbc }) ∧
  (∀ (n : Fin 4), (mbc s n.val).err ≠ 2 ∨ (mbc s n.val).recovering = false → ∃ t, exec (.recovered n) s = .next t ∧ t
    = s) ∧
  (∀ (pos : Nat) (n : Fin 4) (first count : Nat) (u : State), u = atTurn pos s → Due s ⟨0x21, 0x0E + n, 0, first,
    count, 0, 0, pos⟩ → u.seq.held = [] → (producers u).length < 32 → bitsOf count 11 0 = 1 → ∃ t, exec (.mbcMap pos n
    first count) s = .next t ∧ t.seq.outst.getLast?.map (fun o => (o.words, o.todo)) = some ((List.range (mapRec u
    (bitsOf first 10 0) 6 1)).map (fun i => mapRec u (bitsOf first 10 0) 8 4 + i), (u.now + 1, Act.mapRec (bitsOf
    first 10 0)) :: (List.range (mapRec u (bitsOf first 10 0) 6 1)).map (fun i => (u.now + 1 + i, Act.next))) ∧ t.maps
    = u.maps ∧ t = { u with seq := t.seq }) ∧
  (∀ (pos : Nat) (n : Fin 4) (first count : Nat) (u : State), u = atTurn pos s → Due s ⟨0x21, 0x0E + n, 0, first,
    count, 0, 0, pos⟩ → u.seq.held = [] → (producers u).length < 32 → bitsOf count 11 0 = 0 → ∃ t, exec (.mbcMap pos n
    first count) s = .next t ∧ t.seq.outst = u.seq.outst ∧ t = { u with seq := t.seq, pmc := t.pmc }) ∧
  (∀ (k : Nat) (p : List Nat), (mapSt s k).fresh = true → (mapSt s k).data = some p → mapRec s k 5 1 + 4 * mapRec s k
    6 1 ≤ p.length → ∃ t, t = mapDecide k s ∧ (t.1 = (List.range (mapRec s k 6 1)).map (fun i => Act.put (mapRec s k 8
    4 + i) ⟨BitVec.ofNat 32 (if bitOf (mapRec s k 4 1) 3 then beNat ((p.drop (mapRec s k 5 1 + 4 * i)).take 4) else
    leNat ((p.drop (mapRec s k 5 1 + 4 * i)).take 4)), .good⟩)) ∧ t.2 = putMap k
    { mapSt s k with fresh := false, age := 0, stale := false } s) ∧
  (∀ (k : Nat) (p : List Nat), (mapSt s k).fresh = true → (mapSt s k).data = some p → p.length < mapRec s k 5 1 + 4 *
    mapRec s k 6 1 → ∃ t, t = mapDecide k s ∧ t.1 = mapKeeps (mapRec s k 8 4) (mapRec s k 6 1) .bad ∧ Counted
    (Reg.mbcCntMapLen (mapRec s k 4 1 % 4)) s t.2 ∧ flag t.2 (Reg.evtRaw (0x0E + mapRec s k 4 1 % 4)) 8 = true) ∧
  (∀ (k : Nat), (mapSt s k).fresh = false → (mapSt s k).age ≤ mapRec s k 7 1 → ∃ t, t = mapDecide k s ∧ t = (mapKeeps
    (mapRec s k 8 4) (mapRec s k 6 1) .held, putMap k { mapSt s k with stale := false } s)) ∧
  (∀ (k : Nat), (mapSt s k).fresh = false → mapRec s k 7 1 < (mapSt s k).age → ∃ t, t = mapDecide k s ∧ t.1 = mapKeeps
    (mapRec s k 8 4) (mapRec s k 6 1) .bad ∧ (mapSt t.2 k).stale = true ∧ ((mapSt s k).stale = true → t.2.regs =
    s.regs) ∧ ((mapSt s k).stale = false → Counted (Reg.mbcCntMapStale (mapRec s k 4 1 % 4)) s t.2 ∧ flag t.2
    (Reg.evtRaw (0x0E + mapRec s k 4 1 % 4)) 7 = true))

/-- Ports, publications and subscriptions. A refused SFP module brings its port down and is raised; a link that
  changes is shown and raised, and a port of a refused module, or without a Sheaf, stays down; a path fault is shown
  and raised. A NET_PUBLISH that the schedule gives next takes the segment where all lanes store the same, at one line
  per four control clocks behind earlier copies; without a segment, or on the module of a pair that does not drive, it
  does nothing. A publication datagram that is malformed is dropped and counted, one under the own address from a
  strange module is a clash, and a whole one of another becomes the instance of the subscription that names it. A
  NET_ACCEPT takes a new instance of the right length, one line per four control clocks, as it was sent; without one
  it holds its words for two times and then writes them BAD, which is counted and raised once.
  (spec/01_station_module.md (R27), spec/01_station_module.md (R28), spec/15_plant_network_and_marine_serial.md
  (R518), spec/15_plant_network_and_marine_serial.md (R519), spec/15_plant_network_and_marine_serial.md (R526),
  spec/15_plant_network_and_marine_serial.md (R528), spec/15_plant_network_and_marine_serial.md (R531),
  spec/15_plant_network_and_marine_serial.md (R532), spec/15_plant_network_and_marine_serial.md (R533),
  spec/15_plant_network_and_marine_serial.md (R534), spec/15_plant_network_and_marine_serial.md (R545)) -/
def Obligations.PlantNetwork : Prop := ∀ s : State, s.tidy →
  (∀ (p : Fin 2) (kind : Fin 4) (mw : Nat), kind.val = 0 ∨ 1500 < mw → ∃ t, exec (.sfpInsert p kind mw) s = .next t ∧
    linkBit t p.val 0 = false ∧ linkBit t p.val 3 = true ∧ fld t Reg.netLink (8 * p.val + 2) (8 * p.val + 1) = 0 ∧
    flag t (Reg.evtRaw 0x13) 3 = true ∧ (linkBit s p.val 0 = true → flag t (Reg.evtRaw 0x13) p.val = true) ∧ OnlyRegs
    [Reg.netLink, Reg.evtRaw 0x13, Reg.evtRaw 0x16] s t ∧ t = evented s t) ∧
  (∀ (p : Fin 2) (kind : Fin 4) (mw : Nat), kind.val ≠ 0 → mw ≤ 1500 → ∃ t, exec (.sfpInsert p kind mw) s = .next t ∧
    linkBit t p.val 3 = false ∧ fld t Reg.netLink (8 * p.val + 2) (8 * p.val + 1) = kind.val ∧ linkBit t p.val 0 =
    linkBit s p.val 0 ∧ OnlyRegs [Reg.netLink] s t ∧ t = { s with regs := t.regs }) ∧
  (∀ (p : Fin 2) (up : Bool), ∃ t, exec (.linkChange p up) s = .next t ∧ linkBit t p.val 0 = (up && !linkBit s p.val 3
    && !noSheaf s) ∧ (linkBit s p.val 0 ≠ (up && !linkBit s p.val 3 && !noSheaf s) → flag t (Reg.evtRaw 0x13) p.val =
    true) ∧ (up = false → flag t Reg.netPtpState p.val = false) ∧ OnlyRegs [Reg.netLink, Reg.netPtpState, Reg.evtRaw
    0x13, Reg.evtRaw 0x16] s t ∧ t = { evented s t with net := t.net }) ∧
  (∀ (p : Fin 2), linkBit s p.val 4 = false → ∃ t, exec (.pathFault p) s = .next t ∧ flag t (Reg.evtRaw 0x13) 2 = true
    ∧ linkBit t p.val 4 = true ∧ linkBit t p.val 0 = linkBit s p.val 0 ∧ OnlyRegs [Reg.netLink, Reg.evtRaw 0x13,
    Reg.evtRaw 0x16] s t ∧ t = evented s t) ∧
  (∀ (p : Fin 2), linkBit s p.val 4 = true → ∃ t, exec (.pathFault p) s = .next t ∧ t = s) ∧
  (∃ t, exec .supervisionFrame s = .next t ∧ t =
    { s with out := .supervision (bitOf (effRd s Reg.netCfg) 0) :: s.out }) ∧
  (∀ (pos k g : Nat) (u : State), u = atTurn pos s → Due s ⟨0x23, 0x13, k, 0, 0, 0, 0, pos⟩ → u.seq.held = [] →
    (producers u).length < 32 → u.img.upsets = [] → u.img.laneDiff = [] → segOf u (cfgNat u 0x0A01 (bitsOf k 7 0) 0 2)
    = some g → pairBase u = false ∨ driving u = true → ∃ t, exec (.netPublish pos k) s = .next t ∧ t.net.pubs.map (fun
    p => (p.group, p.done)) = u.net.pubs.map (fun p => (p.group, p.done)) ++ [(groupOf (pubAddr u), u.net.pubs.foldl
    (fun m p => max m p.done) u.now + 4 * cfgNat u 0x0502 g 2 2)] ∧ t.net.pubs.getLast?.map (fun p => p.grams) = some
    ((List.range ((cfgNat u 0x0502 g 2 2 + 18) / 19)).map (pubGram u (cfgNat u 0x0A01 (bitsOf k 7 0) 0 2) (cfgNat u
    0x0502 g 2 2) ((List.range (16 * cfgNat u 0x0502 g 2 2)).map (fun i => laneDone u 0 (16 * cfgNat u 0x0502 g 0 2 +
    i))))) ∧ t = { u with seq := t.seq, net := t.net }) ∧
  (∀ (pos k : Nat) (u : State), u = atTurn pos s → Due s ⟨0x23, 0x13, k, 0, 0, 0, 0, pos⟩ → u.seq.held = [] →
    (producers u).length < 32 → segOf u (cfgNat u 0x0A01 (bitsOf k 7 0) 0 2) = none ∨ (pairBase u = true ∧ driving u =
    false) → ∃ t, exec (.netPublish pos k) s = .next t ∧ t.seq.outst = u.seq.outst ∧ t =
    { u with seq := t.seq, pmc := t.pmc }) ∧
  (∀ (ports : Fin 4) (b : List Nat), gramOk b = false → ∃ t, exec (.pubDatagramRx ports b) s = .next t ∧ Counted
    Reg.netCntRxDrop s t ∧ t.net = s.net ∧ (ports.val ≠ 1 → ports.val ≠ 2 → rd t Reg.netCntOnlyP1 = rd s
    Reg.netCntOnlyP1 ∧ rd t Reg.netCntOnlyP2 = rd s Reg.netCntOnlyP2) ∧ (ports.val = 1 → Counted Reg.netCntOnlyP1 s t)
    ∧ (ports.val = 2 → Counted Reg.netCntOnlyP2 s t) ∧ (bitOf ports.val 0 = true → linkBit t 0 4 = false) ∧ (bitOf
    ports.val 1 = true → linkBit t 1 4 = false) ∧ t = { evented s t with net := t.net }) ∧
  (∀ (ports : Fin 4) (b : List Nat), gramOk b = true → gramNat b 8 2 % 2048 = fld s Reg.sysStation 10 0 ∨ gramNat b 8
    2 % 2048 = pubAddr s → gramNat b 0x20 8 ≠ serialNo s → s.red.serial ≠ some (gramNat b 0x20 8) → ∃ t, exec
    (.pubDatagramRx ports b) s = .next t ∧ Counted Reg.netCntClash s t ∧ flag t (Reg.evtRaw 0x13) 6 = true ∧ t.net =
    { s.net with logSeq := s.net.logSeq + 1 } ∧ t = { evented s t with net := t.net }) ∧
  (∀ (ports : Fin 4) (b : List Nat) (k : Nat), gramOk b = true → ¬ (gramNat b 8 2 % 2048 = fld s Reg.sysStation 10 0 ∨
    gramNat b 8 2 % 2048 = pubAddr s) → gramNat b 6 1 = 1 → (List.range (cfgCount s 0x0A02)).filter (fun k => cfgNat s
    0x0A02 k 0 2 % 2048 == gramNat b 8 2 % 2048 && cfgNat s 0x0A02 k 2 2 == gramNat b 0x0A 2) = [k] → (subSt s k).asm
    = none → ∃ t, exec (.pubDatagramRx ports b) s = .next t ∧ (subSt t k).ready = true ∧ (subSt t k).stored = some
    ⟨gramNat b 0x18 8, gramNat b 0x10 8, gramNat b 0x0C 2, gramLines b⟩ ∧ (subSt t k).accepted = (subSt s k).accepted
    ∧ t.img = s.img ∧ t = { evented s t with net := t.net }) ∧
  (∀ (pos k : Nat) (u : State), u = atTurn pos s → Due s ⟨0x24, 0x13, k, 0, 0, 0, 0, pos⟩ → u.seq.held = [] →
    (producers u).length < 32 → (subSt u (bitsOf k 8 0)).ready = false → 2 ≤ (subSt u (bitsOf k 8 0)).age ∨ (subSt u
    (bitsOf k 8 0)).accepted = none → (subSt u (bitsOf k 8 0)).staleBad = false → ∃ t, exec (.netAccept pos k) s =
    .next t ∧ (subSt t (bitsOf k 8 0)).age = (subSt u (bitsOf k 8 0)).age + 1 ∧ (subSt t (bitsOf k 8 0)).staleBad =
    true ∧ rd t Reg.netCntSubStale = satAdd 0xFFFFFFFF (rd u Reg.netCntSubStale) 1 ∧ flag t (Reg.evtRaw 0x13) 8 = true
    ∧ (0 < cfgNat u 0x0A02 (bitsOf k 8 0) 6 2 → t.seq.outst.getLast?.map (fun o => o.todo) = some ((List.range (16 *
    cfgNat u 0x0A02 (bitsOf k 8 0) 6 2)).map (fun i => (u.now + 4 * (i / 16 + 1), Act.keep (16 * cfgNat u 0x0A02
    (bitsOf k 8 0) 4 2 + i) .bad true)))) ∧ t = { evented u t with seq := t.seq, net := t.net }) ∧
  (∀ (pos k : Nat) (u : State), u = atTurn pos s → Due s ⟨0x24, 0x13, k, 0, 0, 0, 0, pos⟩ → u.seq.held = [] →
    (producers u).length < 32 → (subSt u (bitsOf k 8 0)).ready = false → (subSt u (bitsOf k 8 0)).age < 2 → (subSt u
    (bitsOf k 8 0)).accepted ≠ none → ∃ t, exec (.netAccept pos k) s = .next t ∧ (subSt t (bitsOf k 8 0)).age = (subSt
    u (bitsOf k 8 0)).age + 1 ∧ (subSt t (bitsOf k 8 0)).staleBad = false ∧ (0 < cfgNat u 0x0A02 (bitsOf k 8 0) 6 2 →
    t.seq.outst.getLast?.map (fun o => o.todo) = some ((List.range (16 * cfgNat u 0x0A02 (bitsOf k 8 0) 6 2)).map (fun
    i => (u.now + 4 * (i / 16 + 1), Act.keep (16 * cfgNat u 0x0A02 (bitsOf k 8 0) 4 2 + i) .held true)))) ∧ t =
    { u with seq := t.seq, net := t.net }) ∧
  (∀ (pos k : Nat) (i : SubInst) (u : State), u = atTurn pos s → Due s ⟨0x24, 0x13, k, 0, 0, 0, 0, pos⟩ → u.seq.held =
    [] → (producers u).length < 32 → (subSt u (bitsOf k 8 0)).ready = true → (subSt u (bitsOf k 8 0)).stored = some i
    → newerInst i.epoch i.gen (subSt u (bitsOf k 8 0)).accepted = true → i.lines = cfgNat u 0x0A02 (bitsOf k 8 0) 6 2
    → ∃ t, exec (.netAccept pos k) s = .next t ∧ (subSt t (bitsOf k 8 0)).ready = false ∧ (subSt t (bitsOf k 8
    0)).accepted = some (i.epoch, i.gen) ∧ (subSt t (bitsOf k 8 0)).age = 0 ∧ (0 < i.lines → Leaves u t 0x13
    ((List.range (16 * i.lines)).map (fun j => 16 * cfgNat u 0x0A02 (bitsOf k 8 0) 4 2 + j)) (u.now + 4 * i.lines)) ∧
    (0 < i.lines → t.seq.outst.getLast?.map (fun o => o.todo) = some ((List.range (16 * i.lines)).map (fun j => (u.now
    + 4 * (j / 16 + 1), Act.put (16 * cfgNat u 0x0A02 (bitsOf k 8 0) 4 2 + j) ⟨BitVec.ofNat 32 (leNat (((i.data.getD
    (j / 16) []).drop (4 * (j % 16))).take 4)), tagOf (bitsOf (leNat ((i.data.getD (j / 16) []).drop 64)) (4 * (j %
    16) + 3) (4 * (j % 16)))⟩)))) ∧ t = { u with seq := t.seq, pmc := t.pmc, net := t.net })

/-- Sentences of the marine serial lines. A valid sentence of an enabled line is journaled and counted and becomes the
  fresh latch of the field maps that name it; an invalid one is journaled with its error code and counted, as a
  checksum error with its event or as a format error; a line that is off takes nothing. A start character within a
  sentence ends it as an error. A silent line is raised. An MSL_MAP that the schedule gives next writes one word per
  control clock: the value of a sentence new since, or within its age limit, GOOD; the previous value BAD where the
  field does not convert, counted and raised, HELD within the second limit, and BAD after it, counted and raised once.
  (spec/15_plant_network_and_marine_serial.md (R538), spec/15_plant_network_and_marine_serial.md (R539),
  spec/15_plant_network_and_marine_serial.md (R540), spec/15_plant_network_and_marine_serial.md (R542),
  spec/15_plant_network_and_marine_serial.md (R547)) -/
def Obligations.MarineSerialLines : Prop := ∀ s : State, s.tidy →
  (∀ (n : Fin 2) (chars : List Nat) (framing tag : Bool) (sof : SofStamp), bitOf (effRd s (Reg.mslCfg n.val)) 0 = true
    → mslCode (mslPart chars) framing = 0 → ∃ t, exec (.mslSentence n chars framing tag sof) s = .next t ∧ Counted
    (Reg.mslCntSentence n.val) s t ∧ t.mslMaps = (each ((List.range (cfgCount s 0x0B01)).filter (fun k => fmap s k 0 1
    % 2 == n.val && addrMatch s k (chars.take (chars.length - 2)))) (fun k u => putMslMap k
    { mslMap u k with data := some (chars.take (chars.length - 2)), fresh := true, age := 0 } u) s).mslMaps ∧ rd t
    (Reg.mslJnlHead n.val) = (fld s (Reg.mslJnlHead n.val) 11 0 + 1) % 4096 ∧ rd t (Reg.mslJnlSeq n.val) = (rd s
    (Reg.mslJnlSeq n.val) + 1) % 2 ^ 32 ∧ OnlyRegs [Reg.mslCntSentence n.val, Reg.mslJnlHead n.val, Reg.mslJnlSeq
    n.val, Reg.evtRaw 0x16, Reg.evtRaw 0x17] s t ∧ t = { evented s t with msl := t.msl, mslMaps := t.mslMaps }) ∧
  (∀ (n : Fin 2) (chars : List Nat) (framing tag : Bool) (sof : SofStamp), bitOf (effRd s (Reg.mslCfg n.val)) 0 = true
    → mslCode (mslPart chars) framing ≠ 0 → ∃ t, exec (.mslSentence n chars framing tag sof) s = .next t ∧ t.mslMaps =
    s.mslMaps ∧ (mslCode (mslPart chars) framing ≤ 2 → Counted (Reg.mslCntChecksum n.val) s t ∧ flag t (Reg.evtRaw
    0x12) n.val = true) ∧ (2 < mslCode (mslPart chars) framing → Counted (Reg.mslCntFormat n.val) s t) ∧ rd t
    (Reg.mslJnlHead n.val) = (fld s (Reg.mslJnlHead n.val) 11 0 + 1) % 4096 ∧ OnlyRegs [Reg.mslCntChecksum n.val,
    Reg.mslCntFormat n.val, Reg.mslJnlHead n.val, Reg.mslJnlSeq n.val, Reg.evtRaw 0x12, Reg.evtRaw 0x16, Reg.evtRaw
    0x17] s t ∧ t = { evented s t with msl := t.msl, mslMaps := t.mslMaps }) ∧
  (∀ (n : Fin 2) (chars : List Nat) (framing tag : Bool) (sof : SofStamp), bitOf (effRd s (Reg.mslCfg n.val)) 0 =
    false → ∃ t, exec (.mslSentence n chars framing tag sof) s = .next t ∧ t = s) ∧
  (∀ (n : Fin 2), bitOf (effRd s (Reg.mslCfg n.val)) 0 = true → ∃ t, exec (.mslSilent n) s = .next t ∧ flag t
    (Reg.evtRaw 0x12) (2 + n.val) = true ∧ OnlyRegs [Reg.evtRaw 0x12, Reg.evtRaw 0x16] s t ∧ t = evented s t) ∧
  (∀ (n : Fin 2), bitOf (effRd s (Reg.mslCfg n.val)) 0 = false → ∃ t, exec (.mslSilent n) s = .next t ∧ t = s) ∧
  (∀ (pos : Nat) (n : Fin 2) (first count : Nat) (u : State), u = atTurn pos s → Due s ⟨0x22, 0x12, n, first, count,
    0, 0, pos⟩ → u.seq.held = [] → (producers u).length < 32 → bitsOf count 9 0 ≠ 0 → ∃ t, exec (.mslMap pos n first
    count) s = .next t ∧ t.seq.outst.getLast?.map (fun o => (o.words, o.last, o.todo)) = some ((List.range (bitsOf
    count 9 0)).map (fun i => fmap u (bitsOf first 8 0 + i) 0x0C 4), u.now + bitsOf count 9 0, (List.range (bitsOf
    count 9 0)).flatMap (fun i => [(u.now + 1 + i, Act.fieldMap (bitsOf first 8 0 + i)), (u.now + 1 + i, Act.next)]))
    ∧ t.mslMaps = u.mslMaps ∧ t = { u with seq := t.seq, pmc := t.pmc }) ∧
  (∀ (pos : Nat) (n : Fin 2) (first count : Nat) (u : State), u = atTurn pos s → Due s ⟨0x22, 0x12, n, first, count,
    0, 0, pos⟩ → u.seq.held = [] → (producers u).length < 32 → bitsOf count 9 0 = 0 → ∃ t, exec (.mslMap pos n first
    count) s = .next t ∧ t.seq.outst = u.seq.outst ∧ t = { u with seq := t.seq, pmc := t.pmc }) ∧
  (∀ (k v : Nat), (mslMap s k).fresh = true → (mslMap s k).data.bind (mslConvert s k) = some v → ∃ t, t = fieldDecide
    k s ∧ t = ([.put (fmap s k 0x0C 4) ⟨BitVec.ofNat 32 v, .good⟩], putMslMap k
    { mslMap s k with fresh := false, stale := false } s)) ∧
  (∀ (k : Nat), (mslMap s k).fresh = true → (mslMap s k).data.bind (mslConvert s k) = none → ∃ t, t = fieldDecide k s
    ∧ t.1 = mapKeeps (fmap s k 0x0C 4) 1 .bad ∧ Counted (Reg.mslCntParse (fmap s k 0 1 % 2)) s t.2 ∧ flag t.2
    (Reg.evtRaw 0x12) 4 = true ∧ (mslMap t.2 k).fresh = true) ∧
  (∀ (k v : Nat), (mslMap s k).fresh = false → (mslMap s k).age ≤ fmap s k 9 1 → (mslMap s k).data.bind (mslConvert s
    k) = some v → ∃ t, t = fieldDecide k s ∧ t = ([.put (fmap s k 0x0C 4) ⟨BitVec.ofNat 32 v, .good⟩], putMslMap k
    { mslMap s k with stale := false } s)) ∧
  (∀ (k : Nat), (mslMap s k).fresh = false → fmap s k 9 1 < (mslMap s k).age → (mslMap s k).age ≤ fmap s k 0x0A 1 → ∃
    t, t = fieldDecide k s ∧ t = (mapKeeps (fmap s k 0x0C 4) 1 .held, putMslMap k { mslMap s k with stale := false }
    s)) ∧
  (∀ (k : Nat), (mslMap s k).fresh = false → fmap s k 9 1 < (mslMap s k).age → fmap s k 0x0A 1 < (mslMap s k).age → ∃
    t, t = fieldDecide k s ∧ t.1 = mapKeeps (fmap s k 0x0C 4) 1 .bad ∧ (mslMap t.2 k).stale = true ∧ ((mslMap s
    k).stale = true → t.2.regs = s.regs) ∧ ((mslMap s k).stale = false → Counted (Reg.mslCntMapStale (fmap s k 0 1 %
    2)) s t.2 ∧ flag t.2 (Reg.evtRaw 0x12) 5 = true))

/-- An accepted write of a register. An accepted write of a plain register leaves the value in it and changes no other
  register, but that a write on the DIO page enters the line states it gives and one on an MBC page what AUTO_RECOVER
  and EWL give; where the register takes effect at a boundary the value in force stays. A write of EVT_RAW clears the
  bits it writes as 1, but for occurrences of this very clock. EVT_EN and LOCK take their values. Where all lanes
  store the same, an operator word is written with tag GOOD, joined with that of a tag link, and a tag-window register
  changes tags only. (spec/02_register_pages.md (R51), spec/02_register_pages.md (R53), spec/02_register_pages.md
  (R55), spec/02_register_pages.md (R58), spec/02_register_pages.md (R59), spec/02_register_pages.md (R73),
  spec/02_register_pages.md (R75), spec/01_station_module.md (R32), spec/05_sequencer_and_process_image.md (R187)) -/
def Obligations.RegisterWrites : Prop := ∀ s : State, s.tidy →
  (∀ (sess : Fin 17) (page : Fin 64) (word : Fin 1024) (v : Word), Accepts s sess.val (regAddr page.val (4 *
    word.val)) (v.toNat) → isOrder (regAddr page.val (4 * word.val)) = false → blockOf page.val ≠ some .dio → blockOf
    page.val ≠ some .mbc → ∃ t, exec (.registerWrite sess page word v) s = .next t ∧ rd t (regAddr page.val (4 *
    word.val)) = v.toNat ∧ OnlyRegs [regAddr page.val (4 * word.val)] s t ∧ t =
    { (asked s) with regs := t.regs, effOld := t.effOld } ∧ (deferred (regAddr page.val (4 * word.val)) = true → effRd
    t (regAddr page.val (4 * word.val)) = effRd s (regAddr page.val (4 * word.val))) ∧ (deferred (regAddr page.val (4
    * word.val)) = false → t.effOld = s.effOld)) ∧
  (∀ (sess : Fin 17) (page : Fin 64) (word : Fin 1024) (v : Word), Accepts s sess.val (regAddr page.val (4 *
    word.val)) (v.toNat) → isOrder (regAddr page.val (4 * word.val)) = false → blockOf page.val = some .mbc → ∃ t,
    exec (.registerWrite sess page word v) s = .next t ∧ rd t (regAddr page.val (4 * word.val)) = v.toNat ∧ OnlyRegs
    [regAddr page.val (4 * word.val)] s t ∧ t = { (asked s) with regs := t.regs, effOld := t.effOld, mbc := (each
                                                                   (List.range 4) mbcJudge
                                                                   { (asked s) with regs := t.regs }).mbc } ∧
    (deferred (regAddr page.val (4 * word.val)) = true → effRd t (regAddr page.val (4 * word.val)) = effRd s (regAddr
    page.val (4 * word.val)))) ∧
  (∀ (sess : Fin 17) (page : Fin 64) (word : Fin 1024) (v : Word), Accepts s sess.val (regAddr page.val (4 *
    word.val)) (v.toNat) → isOrder (regAddr page.val (4 * word.val)) = false → blockOf page.val = some .dio → ∃ t,
    exec (.registerWrite sess page word v) s = .next t ∧ rd t (regAddr page.val (4 * word.val)) = v.toNat ∧ (deferred
    (regAddr page.val (4 * word.val)) = true → effRd t (regAddr page.val (4 * word.val)) = effRd s (regAddr page.val
    (4 * word.val))) ∧ t = { evented (asked s) t with effOld := t.effOld, red := t.red, dio := t.dio }) ∧
  (∀ (sess : Fin 17) (page : Fin 64) (v : Word), Accepts s sess.val (Reg.evtRaw page.val) (v.toNat) → ∀ b : Nat, b <
    16 → tabGet (fun _ => (0 : Nat)) s.evtClk (16 * page.val + b) ≤ 2 * s.now + 1 → ∃ t, exec (.evtRawClear sess page
    v) s = .next t ∧ (∀ b : Nat, b < 16 → flag t (Reg.evtRaw page.val) b = (flag s (Reg.evtRaw page.val) b && !bitOf
    v.toNat b)) ∧ OnlyRegs [Reg.evtRaw page.val] s t ∧ t = { (asked s) with regs := t.regs }) ∧
  (∀ (sess : Fin 17) (page : Fin 64) (v : Word) (b : Nat), Accepts s sess.val (Reg.evtRaw page.val) (v.toNat) → b < 16
    → bitOf v.toNat b = true → flag s (Reg.evtRaw page.val) b = true → tabGet (fun _ => (0 : Nat)) s.evtClk (16 *
    page.val + b) = 2 * s.now + 3 → ∃ t, exec (.evtRawClear sess page v) s = .next t ∧ flag t (Reg.evtRaw page.val) b
    = true) ∧
  (∀ (sess : Fin 17) (page : Fin 64) (v : Word), Accepts s sess.val (Reg.evtEn page.val) (v.toNat) → ∃ t, exec
    (.evtEnWrite sess page v) s = .next t ∧ rd t (Reg.evtEn page.val) = v.toNat ∧ OnlyRegs [Reg.evtEn page.val] (asked
    s) t ∧ t = { asked s with regs := t.regs, ses := t.ses }) ∧
  (∀ (sess : Fin 17) (page : Fin 64) (v : Word), Accepts s sess.val (Reg.lock page.val) (v.toNat) → ∃ t, exec
    (.lockWrite sess page v) s = .next t ∧ rd t (Reg.lock page.val) = v.toNat ∧ OnlyRegs [Reg.lock page.val] (asked s)
    t ∧ t = { asked s with regs := t.regs }) ∧
  (∀ (sess : Fin 17) (k : Fin 512) (v : Word), Accepts s sess.val (regAddr 0x05 (0x800 + 4 * k.val)) (v.toNat) →
    s.img.upsets = [] → s.img.laneDiff = [] → ∃ t, exec (.tagWindowWrite sess k v) s = .next t ∧ (∀ j : Nat, j < 8 →
    (imgRead t (fld s Reg.imgTagBase 5 0 * 4096 + 8 * k.val + j)).val = (imgRead s (fld s Reg.imgTagBase 5 0 * 4096 +
    8 * k.val + j)).val) ∧ (∀ j : Nat, j < 8 → bitsOf (tagWindow s k.val) (4 * j + 3) (4 * j) ≠ bitsOf v.toNat (4 * j
    + 3) (4 * j) → tagLink s (fld s Reg.imgTagBase 5 0 * 4096 + 8 * k.val + j) = none → (imgRead t (fld s
    Reg.imgTagBase 5 0 * 4096 + 8 * k.val + j)).tag = tagOf (bitsOf v.toNat (4 * j + 3) (4 * j))) ∧ t =
    { evented (asked s) t with img := t.img, seq := t.seq, pwr := t.pwr, red := t.red, dio := t.dio, ach := t.ach, cle
                                 := t.cle, slv := t.slv, mbc := t.mbc, net := t.net, mgt := t.mgt, out := t.out }) ∧
  (∀ (sess : Fin 17) (w : Fin 262144) (v : Word), Accepts s sess.val (0x1000000 + 4 * w.val) (v.toNat) → s.img.upsets
    = [] → s.img.laneDiff = [] → ∃ t, exec (.operatorWordWrite sess w v) s = .next t ∧ imgRead t w.val = ⟨v, linkedTag
    s w.val .good⟩ ∧ (∀ i : Nat, i < 262144 → i ≠ w.val → imgRead t i = imgRead s i) ∧ t =
    { evented (asked s) t with img := t.img, seq := t.seq, pwr := t.pwr, red := t.red, dio := t.dio, ach := t.ach, cle
                                 := t.cle, slv := t.slv, mbc := t.mbc, net := t.net, mgt := t.mgt, out := t.out })

/-- Installing and erasing keys. Outside HOLD a key command changes no key and answers NOT_HOLD. In HOLD the erasure
  of a role key other than the custodian key empties its slot, and the installation of a role key staged by one
  request stores the staged key unwrapped; both are raised. A Sheaf verification key and a safety-section key are
  installed from the staging registers when they are valid and their slot is empty. (spec/16_sessions_and_access.md
  (R572), spec/16_sessions_and_access.md (R573), spec/16_sessions_and_access.md (R574), spec/13_safety_unit.md (R479))
  -/
def Obligations.KeyCommands : Prop := ∀ s : State, s.tidy →
  (∀ (sess : Fin 17) (sheaf : Bool) (slot : Fin 4), Accepts s sess.val (Reg.sesKeyCtrl) ((slot.val <<< 8 + b2n sheaf
    <<< 4 + 1)) → role s ≠ roleHold → ∃ t, exec (.sesKeyInstall sess sheaf slot) s = .next t ∧ rd t Reg.sesKeyResult =
    2 ∧ t.ses = (asked s).ses ∧ OnlyRegs [Reg.sesKeyResult, Reg.sesKeyCtrl] (asked s) t ∧ t = evented (asked s) t) ∧
  (∀ (sess : Fin 17) (sheaf : Bool) (slot : Fin 4) (q : Nat), Accepts s sess.val (Reg.sesKeyCtrl) ((slot.val <<< 8 +
    b2n sheaf <<< 4 + 1)) → role s = roleHold → sheaf = false → stageSeq s sess.val = some q → ∃ t, exec
    (.sesKeyInstall sess sheaf slot) s = .next t ∧ flag t (Reg.evtRaw 0x14) 6 = true ∧ rd t Reg.sesKeyResult = 1 ∧
    t.ses.roleKeys = tabSet (fun _ => []) s.ses.roleKeys slot.val (unwrapKey s sess.val q) ∧ t.ses.factory =
    (s.ses.factory && slot.val != 3) ∧ t.ses.sheafKeys = s.ses.sheafKeys ∧ OnlyRegs [Reg.sesKeyResult, Reg.sesKeyCtrl,
    Reg.evtRaw 0x14, Reg.evtRaw 0x16] (asked s) t ∧ t = evented (asked s) t) ∧
  (∀ (sess : Fin 17) (sheaf : Bool) (slot : Fin 4), Accepts s sess.val (Reg.sesKeyCtrl) ((slot.val <<< 8 + b2n sheaf
    <<< 4 + 1)) → role s = roleHold → stageSeq s sess.val = none → ∃ t, exec (.sesKeyInstall sess sheaf slot) s =
    .next t ∧ rd t Reg.sesKeyResult = 3 ∧ t.ses = (asked s).ses ∧ OnlyRegs [Reg.sesKeyResult, Reg.sesKeyCtrl] (asked
    s) t ∧ t = evented (asked s) t) ∧
  (∀ (sess : Fin 17) (sheaf : Bool) (slot : Fin 4) (q : Nat), Accepts s sess.val (Reg.sesKeyCtrl) ((slot.val <<< 8 +
    b2n sheaf <<< 4 + 1)) → role s = roleHold → sheaf = true → stageSeq s sess.val = some q → ∃ t, exec
    (.sesKeyInstall sess sheaf slot) s = .next t ∧ (edKeyOk (stagedKey s) = false → rd t Reg.sesKeyResult = 3 ∧ t.ses
    = (asked s).ses) ∧ (edKeyOk (stagedKey s) = true → tabGet (fun _ => ([] : List Nat)) s.ses.sheafKeys slot.val ≠ []
    → rd t Reg.sesKeyResult = 4 ∧ t.ses = (asked s).ses) ∧ (edKeyOk (stagedKey s) = true → tabGet (fun _ => ([] : List
    Nat)) s.ses.sheafKeys slot.val = [] → rd t Reg.sesKeyResult = 1 ∧ t.ses.sheafKeys = tabSet (fun _ => [])
    s.ses.sheafKeys slot.val (stagedKey s)) ∧ t = evented (asked s) t) ∧
  (∀ (sess : Fin 17) (sheaf : Bool) (slot : Fin 4), Accepts s sess.val (Reg.sesKeyCtrl) ((slot.val <<< 8 + b2n sheaf
    <<< 4 + 2)) → role s = roleHold → sheaf = false → slot.val ≠ 3 → ∃ t, exec (.sesKeyErase sess sheaf slot) s =
    .next t ∧ flag t (Reg.evtRaw 0x14) 6 = true ∧ rd t Reg.sesKeyResult = 1 ∧ t.ses.roleKeys = tabSet (fun _ => [])
    s.ses.roleKeys slot.val [] ∧ t.ses.sheafKeys = s.ses.sheafKeys ∧ OnlyRegs [Reg.sesKeyResult, Reg.sesKeyCtrl,
    Reg.evtRaw 0x14, Reg.evtRaw 0x16] (asked s) t ∧ t = evented (asked s) t) ∧
  (∀ (sess : Fin 17) (sheaf : Bool) (slot : Fin 4), Accepts s sess.val (Reg.sesKeyCtrl) ((slot.val <<< 8 + b2n sheaf
    <<< 4 + 2)) → role s = roleHold → sheaf = true → sheafKeyUsed s slot.val = true → ∃ t, exec (.sesKeyErase sess
    sheaf slot) s = .next t ∧ rd t Reg.sesKeyResult = 5 ∧ t.ses = (asked s).ses ∧ OnlyRegs [Reg.sesKeyResult,
    Reg.sesKeyCtrl] (asked s) t ∧ t = evented (asked s) t) ∧
  (∀ (sess : Fin 17) (sheaf : Bool) (slot : Fin 4), Accepts s sess.val (Reg.sesKeyCtrl) ((slot.val <<< 8 + b2n sheaf
    <<< 4 + 2)) → role s ≠ roleHold → ∃ t, exec (.sesKeyErase sess sheaf slot) s = .next t ∧ rd t Reg.sesKeyResult = 2
    ∧ t.ses = (asked s).ses ∧ OnlyRegs [Reg.sesKeyResult, Reg.sesKeyCtrl] (asked s) t ∧ t = evented (asked s) t) ∧
  (∀ (sess : Fin 17) (slot : Fin 2), Accepts s sess.val (Reg.safKeyCtrl) (slot.val <<< 8 + 1) → role s = roleHold → ∃
    t, exec (.safKeyInstall sess slot) s = .next t ∧ (edKeyOk (safStaged s) = false → rd t Reg.safKeyResult = 3 ∧
    t.saf = s.saf) ∧ (edKeyOk (safStaged s) = true → tabGet (fun _ => ([] : List Nat)) s.saf.keys slot.val ≠ [] → rd t
    Reg.safKeyResult = 4 ∧ t.saf = s.saf) ∧ (edKeyOk (safStaged s) = true → tabGet (fun _ => ([] : List Nat))
    s.saf.keys slot.val = [] → rd t Reg.safKeyResult = 1 ∧ t.saf =
    { s.saf with keys := tabSet (fun _ => []) s.saf.keys slot.val (safStaged s) }) ∧ OnlyRegs [Reg.safKeyCtrl,
    Reg.safKeyResult] (asked s) t ∧ t = { asked s with regs := t.regs, saf := t.saf }) ∧
  (∀ (sess : Fin 17) (slot : Fin 2), Accepts s sess.val (Reg.safKeyCtrl) (slot.val <<< 8 + 1) → role s ≠ roleHold → ∃
    t, exec (.safKeyInstall sess slot) s = .next t ∧ rd t Reg.safKeyResult = 2 ∧ t.saf = s.saf ∧ OnlyRegs
    [Reg.safKeyCtrl, Reg.safKeyResult] (asked s) t ∧ t = { asked s with regs := t.regs, saf := t.saf }) ∧
  (∀ (sess : Fin 17) (slot : Fin 2), Accepts s sess.val (Reg.safKeyCtrl) (slot.val <<< 8 + 2) → role s = roleHold → ∃
    t, exec (.safKeyErase sess slot) s = .next t ∧ rd t Reg.safKeyResult = 1 ∧ t.saf =
    { s.saf with keys := tabSet (fun _ => []) s.saf.keys slot.val [] } ∧ OnlyRegs [Reg.safKeyCtrl, Reg.safKeyResult]
    (asked s) t ∧ t = { asked s with regs := t.regs, saf := t.saf }) ∧
  (∀ (sess : Fin 17) (slot : Fin 2), Accepts s sess.val (Reg.safKeyCtrl) (slot.val <<< 8 + 2) → role s ≠ roleHold → ∃
    t, exec (.safKeyErase sess slot) s = .next t ∧ rd t Reg.safKeyResult = 2 ∧ t.saf = s.saf ∧ OnlyRegs
    [Reg.safKeyCtrl, Reg.safKeyResult] (asked s) t ∧ t = { asked s with regs := t.regs, saf := t.saf })

/-- Orders to channels, breaker sets, loops and buses. RECAL starts a calibration and discards the window; OUT_RESTORE
  notes the restoration where OUT_MISMATCH stands; a HART request starts, and without a length ends at once with its
  event; HART ABORT ends a transaction that runs. DISARM fails an armed set that is not closing. OSC_ACK ends an
  oscillation hold. RECOVER lets a bus-off controller recover. A page commit is armed. (spec/06_universal_channels.md
  (R238), spec/07_output_readback_loop_supply_hart.md (R254), spec/07_output_readback_loop_supply_hart.md (R266),
  spec/07_output_readback_loop_supply_hart.md (R268), spec/07_output_readback_loop_supply_hart.md (R270),
  spec/09_grid_measurement_and_synchronising.md (R328), spec/10_control_engine.md (R373), spec/10_control_engine.md
  (R375), spec/14_message_buses.md (R506)) -/
def Obligations.ChannelOrders : Prop := ∀ s : State, s.tidy →
  (∀ (sess : Fin 17) (ch : Fin 32), Accepts s sess.val (Reg.ctrl (0x20 + ch.val)) (1) → ∃ t, exec (.recal sess ch) s =
    .next t ∧ fld t (Reg.achCalState ch.val) 1 0 = 1 ∧ flag t (Reg.stat (0x20 + ch.val)) 1 = true ∧ fld t
    (Reg.achRbStat ch.val) 8 7 = 0 ∧ (ach t ch.val).prev = none ∧ (ach t ch.val).win = (ach s ch.val).win.map (fun w
    => { w with void := true }) ∧ OnlyRegs [Reg.achCalState ch.val, Reg.stat (0x20 + ch.val), Reg.achRbStat ch.val]
    (asked s) t ∧ t = { asked s with regs := t.regs, ach := t.ach }) ∧
  (∀ (sess : Fin 17) (ch : Fin 32), Accepts s sess.val (Reg.achOutRestore ch.val) (1) → flag s (Reg.achRbStat ch.val)
    2 = true → ∃ t, exec (.outRestore sess ch) s = .next t ∧ t =
    { (asked s) with ach := tabSet (fun _ => ({} : AchCh)) s.ach ch.val { ach s ch.val with restore := true } }) ∧
  (∀ (sess : Fin 17) (ch : Fin 32), Accepts s sess.val (Reg.achOutRestore ch.val) (1) → flag s (Reg.achRbStat ch.val)
    2 = false → ∃ t, exec (.outRestore sess ch) s = .next t ∧ t = (asked s)) ∧
  (∀ (sess : Fin 17) (ch : Fin 32), Accepts s sess.val (Reg.achHartCtrl ch.val) (1) → fld s (Reg.achHartTxLen ch.val)
    8 0 ≠ 0 → hartOn s ch.val = true → ∃ t, exec (.hartSend sess ch) s = .next t ∧ hartState t ch.val = 1 ∧ flag t
    (Reg.achHartStat ch.val) 18 = false ∧ Counted (Reg.achCntHartTx ch.val) s t ∧ OnlyRegs [Reg.achHartStat ch.val,
    Reg.achCntHartTx ch.val] s t ∧ t = evented (asked s) t) ∧
  (∀ (sess : Fin 17) (ch : Fin 32), Accepts s sess.val (Reg.achHartCtrl ch.val) (1) → fld s (Reg.achHartTxLen ch.val)
    8 0 = 0 → ∃ t, exec (.hartSend sess ch) s = .next t ∧ fld t (Reg.achHartStat ch.val) 11 8 = 6 ∧ flag t
    (Reg.achHartStat ch.val) 18 = false ∧ flag t (Reg.evtRaw (0x20 + ch.val)) 13 = true ∧ OnlyRegs [Reg.achHartStat
    ch.val, Reg.evtRaw (0x20 + ch.val), Reg.evtRaw 0x16] s t ∧ t = evented (asked s) t) ∧
  (∀ (sess : Fin 17) (ch : Fin 32), Accepts s sess.val (Reg.achHartCtrl ch.val) (2) → hartState s ch.val ≠ 0 → ∃ t,
    exec (.hartAbort sess ch) s = .next t ∧ hartState t ch.val = 0 ∧ fld t (Reg.achHartStat ch.val) 11 8 = 5 ∧ flag t
    (Reg.evtRaw (0x20 + ch.val)) 13 = true ∧ OnlyRegs [Reg.achHartStat ch.val, Reg.evtRaw (0x20 + ch.val), Reg.evtRaw
    0x16, Reg.evtRaw 0x17] s t ∧ t = { evented (asked s) t with ach := t.ach, out := t.out }) ∧
  (∀ (sess : Fin 17) (ch : Fin 32), Accepts s sess.val (Reg.achHartCtrl ch.val) (2) → hartState s ch.val = 0 → ∃ t,
    exec (.hartAbort sess ch) s = .next t ∧ t = (asked s)) ∧
  (∀ (sess : Fin 17) (n : Nat), Accepts s sess.val (Reg.ctrl 0x0A) (1) → synArmed s = some n → synState s n ≠ 4 → ∃ t,
    exec (.disarm sess) s = .next t ∧ synState t n = 6 ∧ synArmed t = none ∧ bitOf (synBlock t n) 13 = true ∧ OnlyRegs
    [Reg.synSetState, Reg.synArmed, Reg.synPlanSlot, Reg.synBlock] (asked s) t ∧ t =
    { asked s with regs := t.regs, syn := t.syn }) ∧
  (∀ (sess : Fin 17), Accepts s sess.val (Reg.ctrl 0x0A) (1) → synArmed s = none → ∃ t, exec (.disarm sess) s = .next
    t ∧ t = (asked s)) ∧
  (∀ (sess : Fin 17) (loop : Fin 256), Accepts s sess.val (Reg.cleOscAck) (0x100 + loop.val) → (loopSt s loop.val).osc
    = true → ∃ t, exec (.oscAck sess loop) s = .next t ∧ t.cle.loops = tabSet (fun _ => ({} : LoopSt)) s.cle.loops
    loop.val { oscEmpty (loopSt s loop.val) with osc := false } ∧ flag t (Reg.cleOscMap (loop.val / 32)) (loop.val %
    32) = false ∧ OnlyRegs [Reg.cleOscMap (loop.val / 32)] (asked s) t ∧ t =
    { asked s with regs := t.regs, cle := t.cle }) ∧
  (∀ (sess : Fin 17) (loop : Fin 256), Accepts s sess.val (Reg.cleOscAck) (0x100 + loop.val) → (loopSt s loop.val).osc
    = false → ∃ t, exec (.oscAck sess loop) s = .next t ∧ t = (asked s)) ∧
  (∀ (sess : Fin 17) (n : Fin 4), Accepts s sess.val (Reg.ctrl (0x0E + n.val)) (1) → (mbc s n.val).err = 2 → ∃ t, exec
    (.recover sess n) s = .next t ∧ t =
    { (asked s) with mbc := tabSet (fun _ => ({} : MbcSt)) s.mbc n.val { mbc s n.val with recovering := true } }) ∧
  (∀ (sess : Fin 17) (n : Fin 4), Accepts s sess.val (Reg.ctrl (0x0E + n.val)) (1) → (mbc s n.val).err ≠ 2 → ∃ t, exec
    (.recover sess n) s = .next t ∧ t = (asked s)) ∧
  (∀ (sess : Fin 17), Accepts s sess.val (Reg.ctrl 0x0B) (2 ^ 31) → ∃ t, exec (.pageCommitArm sess) s = .next t ∧ t =
    { (asked s) with cle := { s.cle with armed := true } })

/-- Orders to the module, the pair and the safety unit. RESET of a module with an available standby requests a
  switch-over, any other is ordered; IDENTIFY stands for 10 s; TAMPER_CLR clears TAMPER. SWAP, and HOLD with an
  available standby, request a switch-over; HOLD without one waits for its boundary; RESUME brings a module in HOLD
  that does not drive into SYNCING; CLR_LATENT clears the latent fault. BT_START starts the test of an applied brake.
  (spec/02_register_pages.md (R77), spec/02_register_pages.md (R78), spec/18_power_start_up_and_reset.md (R628),
  spec/17_pair_redundancy_and_solo_voting.md (R602), spec/17_pair_redundancy_and_solo_voting.md (R604),
  spec/17_pair_redundancy_and_solo_voting.md (R607), spec/13_safety_unit.md (R466)) -/
def Obligations.SystemOrders : Prop := ∀ s : State, s.tidy →
  (∀ (sess : Fin 17) (key : Fin 65536) (unprotected : Bool), Accepts s sess.val (Reg.ctrl 0x00) (key.val <<< 8 + b2n
    unprotected <<< 2 + 1) → role s = roleActive → availableStandby s = true → s.red.swap = none → swapPartnerOk s
    .reset = true → ∃ t, exec (.sysReset sess key unprotected) s = .next t ∧ t =
    { (asked s) with red := { s.red with swap := some ⟨.reset, 0⟩ } }) ∧
  (∀ (sess : Fin 17) (key : Fin 65536) (unprotected : Bool), Accepts s sess.val (Reg.ctrl 0x00) (key.val <<< 8 + b2n
    unprotected <<< 2 + 1) → role s ≠ roleActive ∨ availableStandby s = false → ∃ t, exec (.sysReset sess key
    unprotected) s = .next t ∧ t =
    { (asked s) with pwr := { s.pwr with order := some ⟨5, role s == roleSolo || role s == roleActive, false⟩ } }) ∧
  (∀ (sess : Fin 17), Accepts s sess.val (Reg.ctrl 0x00) (2) → ∃ t, exec (.identify sess) s = .next t ∧ t =
    { (asked s) with pwr := { s.pwr with identify := some (s.now + 2000000000) } }) ∧
  (∀ (sess : Fin 17), Accepts s sess.val (Reg.pwrKeepCtrl) (1) → ∃ t, exec (.tamperClr sess) s = .next t ∧
    t.pwr.keep.tamper = false ∧ t.pwr.keep.cycles = s.pwr.keep.cycles ∧ t.pwr.keep.shut = s.pwr.keep.shut ∧ flag t
    Reg.pwrKeepState 0 = false ∧ flag t (Reg.stat 0) 5 = false ∧ t =
    { asked s with regs := t.regs, wide := t.wide, pwr := t.pwr }) ∧
  (∀ (sess : Fin 17), Accepts s sess.val (Reg.ctrl 0x15) (1) → ∃ t, exec (.swap sess) s = .next t ∧ (t =
    { (asked s) with red := { s.red with swap := if s.red.swap.isNone = true ∧ role s = roleActive ∧ swapPartnerOk s
                                           .swap = true then some ⟨.swap, 0⟩ else s.red.swap } })) ∧
  (∀ (sess : Fin 17) (unprotected : Bool), Accepts s sess.val (Reg.ctrl 0x15) (b2n unprotected <<< 3 + 2) → role s ≠
    roleActive ∨ availableStandby s = false → ∃ t, exec (.hold sess unprotected) s = .next t ∧ t =
    { (asked s) with red := { s.red with holdPending := true } }) ∧
  (∀ (sess : Fin 17) (unprotected : Bool), Accepts s sess.val (Reg.ctrl 0x15) (b2n unprotected <<< 3 + 2) → role s =
    roleActive → availableStandby s = true → ∃ t, exec (.hold sess unprotected) s = .next t ∧ (t =
    { (asked s) with red := { s.red with swap := if s.red.swap.isNone = true ∧ swapPartnerOk s .hold = true then some
                                           ⟨.hold, 0⟩ else s.red.swap } })) ∧
  (∀ (sess : Fin 17), Accepts s sess.val (Reg.ctrl 0x15) (4) → flag s Reg.redState 13 = false → ∃ t, exec (.resume
    sess) s = .next t ∧ role t = roleSyncing ∧ flag t (Reg.evtRaw 0x00) 1 = true ∧ t =
    { evented (asked s) t with seq := t.seq, red := t.red, dio := t.dio, ach := t.ach, cle := t.cle, slv := t.slv, mbc
                                 := t.mbc, net := t.net, mgt := t.mgt, out := t.out }) ∧
  (∀ (sess : Fin 17), Accepts s sess.val (Reg.ctrl 0x15) (16) → ∃ t, exec (.clrLatent sess) s = .next t ∧ flag t
    Reg.redState 12 = false ∧ rd t Reg.redLatent = 0 ∧ OnlyRegs [Reg.redState, Reg.redLatent] (asked s) t ∧ t =
    { asked s with regs := t.regs }) ∧
  (∀ (sess : Fin 17) (n : Fin 2), Accepts s sess.val (Reg.ctrl 0x0D) (2 ^ n.val) → bkGroups s n.val = 0 ∨ safDrives s
    = false ∨ (brake s n.val).state ≠ 0 → ∃ t, exec (.btStart sess n) s = .next t ∧ t = (asked s)) ∧
  (∀ (sess : Fin 17) (n : Fin 2), Accepts s sess.val (Reg.ctrl 0x0D) (2 ^ n.val) → bkGroups s n.val ≠ 0 → safDrives s
    = true → (brake s n.val).state = 0 → grpsPermit s (bkGroups s n.val) = true → bkReq s n.val = false → ∃ t, exec
    (.btStart sess n) s = .next t ∧ (grpsPermit t (bkGroups t n.val) = true → (brake t n.val).byStart = true ∧ (brake
    t n.val).btReq = true ∧ ((brake t n.val).state = 3 ∨ (brake t n.val).state = 4)) ∧ t =
    { evented (asked s) t with red := t.red, saf := t.saf, out := t.out })

/-- Orders to programs, the update path and the faceplate. PROG_STOP of a running program stops it with its reason;
  PROG_START leaves an empty or running program alone. BEGIN takes the path for its session and target and empties the
  staging buffer; the owner fills the staging window, whose length follows; CHECK, PROGRAM, ACTIVATE_AT and
  ACTIVATE_RESET bring the next phase; ACTIVATE_AT arms for reset where no Sheaf is active or the safety digest
  differs. FPD_CLEAR drops the waiting requests of a panel with power; an FPD_UPDATE of no region changes nothing.
  (spec/20_management_and_update.md (R675), spec/20_management_and_update.md (R682), spec/20_management_and_update.md
  (R686), spec/20_management_and_update.md (R690), spec/21_faceplate_displays.md (R705), spec/21_faceplate_displays.md
  (R710)) -/
def Obligations.UpdateOrders : Prop := ∀ s : State, s.tidy →
  (∀ (sess : Fin 17) (mask : Fin 16), Accepts s sess.val (Reg.ctrl 0x18) (mask.val <<< 4) → ∀ p : Nat, p < 4 → bitOf
    mask.val p = true → progState s p = 2 ∨ progState s p = 3 → ∃ t, exec (.progStop sess mask) s = .next t ∧ (∀ p :
    Nat, p < 4 → progState t p = if bitOf mask.val p then 1 else progState s p) ∧ (∀ p : Nat, p < 4 → bitOf mask.val p
    = true → fld t (Reg.mgtProgState p) 7 4 = 5) ∧ OnlyRegs [Reg.mgtProgState 0, Reg.mgtProgState 1, Reg.mgtProgState
    2, Reg.mgtProgState 3, Reg.mgtCpu] (asked s) t ∧ t = { asked s with regs := t.regs, mgt := t.mgt }) ∧
  (∀ (sess : Fin 17) (mask : Fin 16), Accepts s sess.val (Reg.ctrl 0x18) (mask.val) → ∀ p : Nat, p < 4 → bitOf
    mask.val p = true → progState s p = 0 ∨ progState s p = 2 → ∃ t, exec (.progStart sess mask) s = .next t ∧ t =
    (asked s)) ∧
  (∀ (sess : Fin 17) (mask : Fin 16) (p : Nat), Accepts s sess.val (Reg.ctrl 0x18) (mask.val) → bitOf mask.val p =
    true → p < 4 → progState s p = 1 ∨ progState s p = 3 ∨ progState s p = 4 → progMayRun s p = false → ∃ t, exec
    (.progStart sess mask) s = .next t ∧ progState t p = 3 ∧ (∀ q : Nat, q < 4 → bitOf mask.val q = false → progState
    t q = progState s q) ∧ t = { asked s with regs := t.regs, mgt := t.mgt }) ∧
  (∀ (sess : Fin 17) (mask : Fin 16) (p : Nat), Accepts s sess.val (Reg.ctrl 0x18) (mask.val) → mask.val = 2 ^ p → p <
    4 → progState s p = 1 ∨ progState s p = 3 ∨ progState s p = 4 → progMayRun s p = true → ramInUse s + progField s p
    0x0C 4 ≤ 57344 → ∃ t, exec (.progStart sess mask) s = .next t ∧ progState t p = 2 ∧ rd t (Reg.mgtProgVer p) =
    progField s p 0x18 4 % 2 ^ 32 ∧ OnlyRegs [Reg.mgtProgState p, Reg.mgtCpu, Reg.mgtProgVer p] (asked s) t ∧ t =
    { asked s with regs := t.regs, mgt := t.mgt }) ∧
  (∀ (sess : Fin 17) (target : Fin 16), Accepts s sess.val (Reg.ctrl 0x19) (target.val <<< 8 + 1) → ∃ t, exec
    (.updBegin sess target) s = .next t ∧ updPhase t = 1 ∧ updTarget t = target.val % 16 ∧ updOwner t = sess.val % 32
    ∧ rd t Reg.updStagedLen = 0 ∧ (∀ i : Nat, i < 2097152 → bankWord t 2 i = 0) ∧ (∀ i : Nat, i < 4194304 → bankWord t
    0 i = bankWord s 0 i ∨ 2097152 ≤ i) ∧ OnlyRegs [Reg.updState, Reg.updStagedLen] (asked s) t ∧ t =
    { asked s with regs := t.regs, sheaf := t.sheaf, upd := t.upd }) ∧
  (∀ (sess : Fin 17) (w : Fin 2097152) (v : Word), Accepts s sess.val (0x2000000 + 4 * w.val) (v.toNat) → ∃ t, exec
    (.stagingWrite sess w v) s = .next t ∧ bankWord t 2 w.val = v.toNat ∧ rd t Reg.updStagedLen = max (rd s
    Reg.updStagedLen) (4 * w.val + 4) ∧ OnlyRegs [Reg.updStagedLen] (asked s) t ∧ t =
    { asked s with regs := t.regs, sheaf := t.sheaf }) ∧
  (∀ (sess : Fin 17), Accepts s sess.val (Reg.ctrl 0x19) (2) → ∃ t, exec (.updCheck sess) s = .next t ∧ updPhase t = 2
    ∧ Counted Reg.updCntChecks s t ∧ OnlyRegs [Reg.updState, Reg.updCntChecks] (asked s) t ∧ t =
    { asked s with regs := t.regs }) ∧
  (∀ (sess : Fin 17), Accepts s sess.val (Reg.ctrl 0x19) (3) → ∃ t, exec (.updProgram sess) s = .next t ∧ updPhase t =
    4 ∧ t.upd = { s.upd with wrote := true } ∧ t = { asked s with regs := t.regs, upd := t.upd }) ∧
  (∀ (sess : Fin 17), Accepts s sess.val (Reg.ctrl 0x19) (4) → s.active ≠ none → updTarget s ≠ 0 ∨ s.active.map
    (safDigest s) = some (safDigest s (updBank s)) → ∃ t, exec (.activateAt sess) s = .next t ∧ updPhase t = 6 ∧ flag
    t Reg.updState 4 = false ∧ OnlyRegs [Reg.updState] s t ∧ t = { evented (asked s) t with upd := t.upd }) ∧
  (∀ (sess : Fin 17), Accepts s sess.val (Reg.ctrl 0x19) (4) → s.active = none ∨ (updTarget s = 0 ∧ s.active.map
    (safDigest s) ≠ some (safDigest s (updBank s))) → ∃ t, exec (.activateAt sess) s = .next t ∧ updPhase t = 7 ∧
    nextBank t (updTarget s) = updBank s % 2 ∧ flag t (Reg.evtRaw 0x19) 5 = true ∧ t =
    { evented (asked s) t with upd := t.upd }) ∧
  (∀ (sess : Fin 17), Accepts s sess.val (Reg.ctrl 0x19) (5) → ∃ t, exec (.activateReset sess) s = .next t ∧ updPhase
    t = 7 ∧ nextBank t (updTarget s) = updBank s % 2 ∧ flag t (Reg.evtRaw 0x19) 5 = true ∧ t.upd =
    { s.upd with oldNext := some (rd s Reg.updNext) } ∧ t = { evented (asked s) t with upd := t.upd }) ∧
  (∀ (sess : Fin 17), Accepts s sess.val (Reg.ctrl 0x19) (6) → ∃ t, exec (.updAbort sess) s = .next t ∧ updPhase t = 0
    ∧ t = { evented (asked s) t with sheaf := t.sheaf, upd := t.upd }) ∧
  (∀ (sess : Fin 17), Accepts s sess.val (Reg.ctrl 0x1A) (0x100) → s.fpd.railFault = false → ∃ t, exec (.fpdClear
    sess) s = .next t ∧ t = { (asked s) with fpd := { s.fpd with pend := [], clearDue := true } }) ∧
  (∀ (sess : Fin 17), Accepts s sess.val (Reg.ctrl 0x1A) (0x100) → s.fpd.railFault = true → ∃ t, exec (.fpdClear sess)
    s = .next t ∧ t = (asked s)) ∧
  (∀ (sess : Fin 17) (mask : Fin 16) (r : Nat), Accepts s sess.val (Reg.ctrl 0x1A) (mask.val) → s.fpd.railFault =
    false → mask.val = 2 ^ r → r < 4 → (regionRect s r).2.2.1 ≠ 0 → (regionRect s r).2.2.2 ≠ 0 → pendOf s r ≠ 2 → ∃ t,
    exec (.fpdUpdate sess mask) s = .next t ∧ (t = { (asked s) with fpd :=
                                                                      { s.fpd with pend := tabSet (fun _ => (0 : Nat))
                                                                                     s.fpd.pend r (if mayStart s r
                                                                                     then 1 else 2) } })) ∧
  (∀ (sess : Fin 17) (mask : Fin 16), Accepts s sess.val (Reg.ctrl 0x1A) (mask.val) → s.fpd.railFault = true ∨
    mask.val = 0 → ∃ t, exec (.fpdUpdate sess mask) s = .next t ∧ t = (asked s))

/-- Heartbeats and the token lines. A valid heartbeat of the partner is noted for its path with the serial number it
  carries and makes a SOLO module ACTIVE; one that is not valid, or in a single-slot base, changes nothing but its
  receive counter. The check at slot 256 of a minor cycle is done once: without heartbeats it is counted as a miss,
  and one found clears the run of misses. Every powered hour of a module that does not drive counts in IDLE, and a
  module that drives holds it at 0. The own line that does not read as it is driven is a fault, raised on entry; the
  partner line is noted, and a module in slot B that drives its token while the partner drives gives its token up,
  which is counted and raised. A stopped clock clamps the token and halts the dispatching.
  (spec/17_pair_redundancy_and_solo_voting.md (R586), spec/17_pair_redundancy_and_solo_voting.md (R587),
  spec/17_pair_redundancy_and_solo_voting.md (R603), spec/17_pair_redundancy_and_solo_voting.md (R582),
  spec/17_pair_redundancy_and_solo_voting.md (R583), spec/17_pair_redundancy_and_solo_voting.md (R585)) -/
def Obligations.HeartbeatsAndTokenLines : Prop := ∀ s : State, s.tidy →
  (∀ (path : Fin 2) (bytes : List Nat), pairBase s = true → heartbeatOk s bytes = true → ∃ t, exec (.heartbeatRx path
    bytes) s = .next t ∧ t.red.heard = true ∧ t.red.serial = some (leNat ((bytes.drop 16).take 8)) ∧ (path.val = 1 →
    t.red.hbSluice = true) ∧ (path.val = 0 → t.red.hbNet = true) ∧ flag t Reg.redPartner 8 = true ∧ (role s = roleSolo
    → role t = roleActive ∧ flag t (Reg.evtRaw 0x15) 3 = true) ∧ t =
    { evented s t with seq := t.seq, red := t.red, dio := t.dio, ach := t.ach, cle := t.cle, slv := t.slv, mbc :=
                         t.mbc, net := t.net, mgt := t.mgt, slu := t.slu, out := t.out }) ∧
  (∀ (path : Fin 2) (bytes : List Nat), pairBase s = false ∨ heartbeatOk s bytes = false → ∃ t, exec (.heartbeatRx
    path bytes) s = .next t ∧ t = { s with pmc := t.pmc }) ∧
  (pairBase s = true → s.tbu.running = true → s.tbu.slot % 512 = 256 → s.red.checked = false → ∃ t, exec
    .heartbeatCheck s = .next t ∧ t.red.checked = true ∧ t.red.hbNet = false ∧ t.red.hbSluice = false ∧ (s.red.hbNet =
    false → s.red.hbSluice = false → Counted Reg.redCntHbMiss s t ∧ fld t Reg.redState 10 9 = min 2 (fld s
    Reg.redState 10 9 + 1)) ∧ (s.red.hbNet = true ∨ s.red.hbSluice = true → rd t Reg.redCntHbMiss = rd s
    Reg.redCntHbMiss ∧ fld t Reg.redState 10 9 = 0) ∧ flag t Reg.redState 8 = s.red.hbNet ∧ flag t Reg.redState 7 =
    s.red.hbSluice ∧ t =
    { evented s t with pwr := t.pwr, red := t.red, dio := t.dio, ach := t.ach, mgt := t.mgt, out := t.out }) ∧
  (pairBase s = false ∨ s.tbu.running = false ∨ s.tbu.slot % 512 ≠ 256 ∨ s.red.checked = true → ∃ t, exec
    .heartbeatCheck s = .next t ∧ t = s) ∧
  (driving s = true → ∃ t, exec .idleHour s = .next t ∧ rd t Reg.redIdle = 0 ∧ t = evented s t) ∧
  (driving s = false → fld s Reg.redIdle 20 16 < 23 → ∃ t, exec .idleHour s = .next t ∧ fld t Reg.redIdle 20 16 = fld
    s Reg.redIdle 20 16 + 1 ∧ fld t Reg.redIdle 15 0 = fld s Reg.redIdle 15 0 ∧ t = evented s t) ∧
  (driving s = false → 23 ≤ fld s Reg.redIdle 20 16 → ∃ t, exec .idleHour s = .next t ∧ fld t Reg.redIdle 20 16 = 0 ∧
    fld t Reg.redIdle 15 0 = min 65535 (fld s Reg.redIdle 15 0 + 1) ∧ t = evented s t) ∧
  (∀ (mine : Bool) (l : Line), pairBase s = true → mine = true → ∃ t, exec (.tokenLineChange mine l) s = .next t ∧
    t.red.ownFault = (l != s.red.own) ∧ t.red.own = s.red.own ∧ flag t Reg.redState 14 = ((l != s.red.own) ||
    s.red.absentRun == 2) ∧ ((l != s.red.own) = true → s.red.ownFault = false → flag t (Reg.evtRaw 0x15) 12 = true) ∧
    OnlyRegs [Reg.redState, Reg.evtRaw 0x15, Reg.evtRaw 0x16] s t ∧ t =
    { evented s t with seq := t.seq, pwr := t.pwr, red := t.red, dio := t.dio, ach := t.ach, cle := t.cle, slv :=
                         t.slv, mbc := t.mbc, net := t.net, mgt := t.mgt, out := t.out }) ∧
  (∀ (mine : Bool) (l : Line), pairBase s = true → mine = false → l = .present → s.red.own = .present → slotB s = true
    → ∃ t, exec (.tokenLineChange mine l) s = .next t ∧ t.red.partner = .present ∧ t.red.own = .released ∧
    t.red.clamped = true ∧ Counted Reg.redCntDualActive s t ∧ flag t (Reg.evtRaw 0x15) 13 = true ∧ flag t (Reg.evtRaw
    0x15) 1 = true ∧ role t = roleSyncing ∧ t = { evented s t with seq := t.seq, pwr := t.pwr, red := t.red, dio :=
                                                                     t.dio, ach := t.ach, cle := t.cle, slv := t.slv,
                                                                     mbc := t.mbc, net := t.net, mgt := t.mgt, out :=
                                                                     t.out }) ∧
  (∀ (mine : Bool) (l : Line), pairBase s = true → mine = false → l = .absent → ∃ t, exec (.tokenLineChange mine l) s
    = .next t ∧ t = { s with red := { s.red with partner := .absent } }) ∧
  (∀ (mine : Bool) (l : Line), pairBase s = false → ∃ t, exec (.tokenLineChange mine l) s = .next t ∧ t = s) ∧
  (∃ t, exec .clockStop s = .next t ∧ t.seq.halted = true ∧ t.red.clamped = true ∧ (s.red.own = .present → t.red.own =
    .released ∧ rd t Reg.redSwitchCause = 2 ^ 31 + 2 ^ 30 + 4 ∧ Counted Reg.redCntGiveUp s t ∧ flag t (Reg.evtRaw
    0x15) 1 = true) ∧ (s.red.own ≠ .present → t.red.own = s.red.own ∧ t.regs = s.regs) ∧ t =
    { evented s t with seq := t.seq, red := t.red })

/-- The copy and the frames of the Sluice. An SLU_COPY that the schedule gives next on a module whose partner takes
  the copy sends one copy in a minor cycle, which is noted with the clock of its end, counted where it is too long,
  and otherwise does nothing. A frame is taken only in a QPB-4882 base on a lane that is up; one with a wrong CRC is
  answered by NAK and remembered; a listening module collects the frames of a copy; a COMMIT whose counts agree ends a
  copy, whose generation is then readable, and any other loses it, as does the boundary of a minor cycle without a
  complete copy; a lost copy is counted and raised. A lane that goes down is raised.
  (spec/17_pair_redundancy_and_solo_voting.md (R590), spec/17_pair_redundancy_and_solo_voting.md (R591),
  spec/17_pair_redundancy_and_solo_voting.md (R592), spec/17_pair_redundancy_and_solo_voting.md (R593),
  spec/17_pair_redundancy_and_solo_voting.md (R594)) -/
def Obligations.SluiceFrames : Prop := ∀ s : State, s.tidy →
  (∀ (pos : Nat) (u : State), u = atTurn pos s → Due s ⟨0x31, 0x15, 0, 0, 0, 0, 0, pos⟩ → u.seq.held = [] → (producers
    u).length < 32 → copyTaken u = true → u.red.copyStarted = false → ∃ t, exec (.sluCopy pos) s = .next t ∧
    t.red.copyStarted = true ∧ wideGet t Reg.redCopyGenLo = wideGet u Reg.imgGenReadLo ∧ u.now ≤ t.red.sendEnd ∧
    (60000 < t.red.sendEnd - u.now → rd t Reg.redCntCopyLong = satAdd 0xFFFFFFFF (rd u Reg.redCntCopyLong) 1) ∧ t =
    { evented u t with wide := t.wide, img := t.img, seq := t.seq, red := t.red, out := t.out, draws := t.draws }) ∧
  (∀ (pos : Nat) (u : State), u = atTurn pos s → Due s ⟨0x31, 0x15, 0, 0, 0, 0, 0, pos⟩ → u.seq.held = [] → (producers
    u).length < 32 → copyTaken u = false ∨ u.red.copyStarted = true → ∃ t, exec (.sluCopy pos) s = .next t ∧
    t.seq.outst = u.seq.outst ∧ t = { u with seq := t.seq, pmc := t.pmc }) ∧
  (∀ (lane : Fin 2) (f : SluFrame) (w : List Nat), pairBase s = true → flag s Reg.redState (16 + lane.val) = true →
    f.crcOk = true → f.body = .final w → listening s = true → ∃ t, exec (.sluiceFrameRx lane f) s = .next t ∧
    t.slu.final = some w ∧ t.slu.frames = s.slu.frames + 1 ∧ t.slu.lines = s.slu.lines ∧ t.slu.engines = s.slu.engines
    ∧ t.regs = s.regs ∧ t = { s with slu := t.slu, pmc := t.pmc }) ∧
  (∀ (lane : Fin 2) (f : SluFrame) (x : List (Nat × List (Word × Nat))), pairBase s = true → flag s Reg.redState (16 +
    lane.val) = true → f.crcOk = true → f.body = .lines x → listening s = true → ∃ t, exec (.sluiceFrameRx lane f) s =
    .next t ∧ t.slu.frames = s.slu.frames + 1 ∧ t.slu.lines = s.slu.lines ++ x ∧ t.slu.engines = s.slu.engines ∧ t =
    { s with slu := t.slu, pmc := t.pmc }) ∧
  (∀ (lane : Fin 2) (f : SluFrame), pairBase s = true → flag s Reg.redState (16 + lane.val) = true → f.crcOk = false →
    s.slu.nak.contains f.seq = false → ∃ t, exec (.sluiceFrameRx lane f) s = .next t ∧ t.slu.nak = f.seq :: s.slu.nak
    ∧ t.slu.failed = s.slu.failed ∧ t.red.frameSeq = (s.red.frameSeq + 1) % 2 ^ 32 ∧ t.regs = s.regs ∧ t =
    { s with slu := t.slu, red := t.red, pmc := t.pmc, out := t.out }) ∧
  (∀ (lane : Fin 2) (f : SluFrame) (nl ne nf nx : Nat) (dig : List Nat) (clk : Nat), pairBase s = true → flag s
    Reg.redState (16 + lane.val) = true → f.crcOk = true → f.body = .commit nl ne nf nx dig clk → listening s = true →
    s.slu.failed = true ∨ s.slu.frames + 1 ≠ nf → ∃ t, exec (.sluiceFrameRx lane f) s = .next t ∧ t.slu.frames = 0 ∧
    t.slu.lines = [] ∧ t.slu.engines = [] ∧ t.red.copyCame = true ∧ t.red.passDone = false ∧ t.red.sweepGot = 0 ∧ rd t
    Reg.redSyncProgress = 0 ∧ Counted Reg.redCntCopyLost s t ∧ flag t (Reg.evtRaw 0x15) 5 = true ∧ t =
    { evented s t with wide := t.wide, effOld := t.effOld, img := t.img, seq := t.seq, tbu := t.tbu, red := t.red, dio
                         := t.dio, piu := t.piu, syn := t.syn, ach := t.ach, cle := t.cle, slv := t.slv, saf := t.saf,
                         mbc := t.mbc, maps := t.maps, net := t.net, mslMaps := t.mslMaps, mgt := t.mgt, slu := t.slu,
                         out := t.out }) ∧
  (∀ (lane : Fin 2) (f : SluFrame) (nl ne nf nx : Nat) (dig : List Nat) (clk : Nat), pairBase s = true → flag s
    Reg.redState (16 + lane.val) = true → f.crcOk = true → f.body = .commit nl ne nf nx dig clk → listening s = true →
    s.slu.failed = false → s.slu.frames + 1 = nf → s.slu.lines.length = nl → s.slu.engines.length = ne → ∃ t, exec
    (.sluiceFrameRx lane f) s = .next t ∧ t.slu.frames = 0 ∧ t.slu.lines = [] ∧ t.slu.engines = [] ∧ t.red.copyCame =
    true ∧ t.img.gen = f.gen + 1 ∧ t.img.copySet = s.slu.lines.map (fun l => l.1) ∧ wideGet t Reg.imgGenReadLo = f.gen
    % 2 ^ 64 ∧ t.red.final = s.slu.final ∧ t = { evented s t with wide := t.wide, effOld := t.effOld, img := t.img,
                                                                    seq := t.seq, tbu := t.tbu, red := t.red, dio :=
                                                                    t.dio, piu := t.piu, syn := t.syn, ach := t.ach,
                                                                    cle := t.cle, slv := t.slv, saf := t.saf, mbc :=
                                                                    t.mbc, maps := t.maps, net := t.net, mslMaps :=
                                                                    t.mslMaps, mgt := t.mgt, slu := t.slu, out :=
                                                                    t.out }) ∧
  (∀ (lane : Fin 2) (f : SluFrame), pairBase s = false ∨ flag s Reg.redState (16 + lane.val) = false → ∃ t, exec
    (.sluiceFrameRx lane f) s = .next t ∧ t = s) ∧
  (listening s = true → s.red.copyCame = false → s.tbu.slot % 512 = 0 → s.tbu.minorDone = false → ∃ t, exec .copyLost
    s = .next t ∧ t.red.copyCame = true ∧ t.red.sweepGot = 0 ∧ t.red.passDone = false ∧ t.slu.frames = 0 ∧ rd t
    Reg.redSyncProgress = 0 ∧ Counted Reg.redCntCopyLost s t ∧ flag t (Reg.evtRaw 0x15) 5 = true ∧ t =
    { evented s t with red := t.red, slu := t.slu }) ∧
  (listening s = false ∨ s.red.copyCame = true ∨ s.tbu.slot % 512 ≠ 0 ∨ s.tbu.minorDone = true → ∃ t, exec .copyLost s
    = .next t ∧ t = s) ∧
  (∀ (lane : Fin 2), flag s Reg.redState (16 + lane.val) = true → ∃ t, exec (.sluiceLane lane) s = .next t ∧ flag t
    (Reg.evtRaw 0x15) 14 = true ∧ flag t Reg.redState (16 + lane.val) = false ∧ OnlyRegs [Reg.redState, Reg.evtRaw
    0x15, Reg.evtRaw 0x16] s t ∧ t = evented s t) ∧
  (∀ (lane : Fin 2), flag s Reg.redState (16 + lane.val) = false → ∃ t, exec (.sluiceLane lane) s = .next t ∧ t = s) ∧
  (∀ (lane : Fin 2), pairBase s = true → ∃ t, exec (.sluiceLaneUp lane) s = .next t ∧ flag t Reg.redState (16 +
    lane.val) = true ∧ OnlyRegs [Reg.redState] s t ∧ t = { s with regs := t.regs }) ∧
  (∀ (lane : Fin 2), pairBase s = false → ∃ t, exec (.sluiceLaneUp lane) s = .next t ∧ t = s)

/-- Takeover, synchronisation and planned swaps. A STANDBY module whose partner released its token, or fell silent
  with its line absent, takes the token over with its schedule running and the takeover counted and raised. A SYNCING
  module with a complete pass and a current safety store becomes STANDBY. A planned swap whose partner is no longer
  available is dropped at its boundary; with an available partner dispatching halts and the copy leaves; at its
  release the module gives up the token. (spec/17_pair_redundancy_and_solo_voting.md (R588),
  spec/17_pair_redundancy_and_solo_voting.md (R602), spec/17_pair_redundancy_and_solo_voting.md (R606),
  spec/17_pair_redundancy_and_solo_voting.md (R608)) -/
def Obligations.TakeoverAndSwap : Prop := ∀ s : State, s.tidy →
  (takesOver s = true → ∃ t, exec .takeover s = .next t ∧ t.red.own = .present ∧ t.red.clamped = false ∧ Counted
    Reg.redCntTakeover s t ∧ flag t (Reg.evtRaw 0x15) 0 = true ∧ t.seq.sched = 2 ∧ t.seq.outst = [] ∧ flag t
    Reg.sysRole 8 = false ∧ (role t = roleActive ∨ role t = roleSolo) ∧ t.dio.connected = true ∧ t =
    { evented s t with wide := t.wide, effOld := t.effOld, active := t.active, img := t.img, seq := t.seq, tbu :=
                         t.tbu, red := t.red, dio := t.dio, piu := t.piu, syn := t.syn, ach := t.ach, cle := t.cle,
                         slv := t.slv, mbc := t.mbc, maps := t.maps, net := t.net, mslMaps := t.mslMaps, mgt := t.mgt,
                         slu := t.slu, out := t.out, draws := t.draws }) ∧
  (takesOver s = false → ∃ t, exec .takeover s = .next t ∧ t = s) ∧
  (atMinor s = true → role s = roleSyncing → s.red.passDone = true → s.saf.current = true → 2 ≤ (lanesIn s).length →
    s.red.barred = false → ∃ t, exec .syncDone s = .next t ∧ role t = roleStandby ∧ flag t (Reg.evtRaw 0x15) 7 = true
    ∧ flag t (Reg.evtRaw 0x00) 1 = true ∧ t =
    { evented s t with dio := t.dio, ach := t.ach, mgt := t.mgt, out := t.out }) ∧
  (atMinor s = false ∨ role s ≠ roleSyncing ∨ s.red.passDone = false ∨ s.saf.current = false ∨ (lanesIn s).length < 2
    ∨ s.red.barred = true → ∃ t, exec .syncDone s = .next t ∧ t = s) ∧
  (∀ (w : SwapWhy), atMinor s = true → s.red.swap = some ⟨w, 0⟩ → role s ≠ roleActive ∨ swapPartnerOk s w = false → ∃
    t, exec .plannedSwapBoundary s = .next t ∧ t = { s with red := { s.red with swap := none } }) ∧
  (∀ (w : SwapWhy), atMinor s = true → s.red.swap = some ⟨w, 0⟩ → role s = roleActive → swapPartnerOk s w = true → ∃
    t, exec .plannedSwapBoundary s = .next t ∧ t.seq.halted = true ∧ t.red.swap = some ⟨w, 1⟩ ∧ t.red.copyStarted =
    true ∧ t =
    { evented s t with wide := t.wide, img := t.img, seq := t.seq, red := t.red, out := t.out, draws := t.draws }) ∧
  (atMinor s = false ∨ s.red.swap = none → ∃ t, exec .plannedSwapBoundary s = .next t ∧ t = s) ∧
  (∀ (u : State), u = advanceTo (s.red.sendEnd) s → s.red.swap = some ⟨.swap, 1⟩ → u.red.own = .present → ∃ t, exec
    .plannedSwapRelease s = .next t ∧ t.red.own = .released ∧ t.red.clamped = true ∧ t.red.swap = none ∧ role t =
    roleStandby ∧ t.seq.sched = 0 ∧ t.seq.outst = [] ∧ t.now = max s.now s.red.sendEnd ∧ t = lapsed u t) ∧
  (s.red.swap = none → ∃ t, exec .plannedSwapRelease s = .next t ∧ t = s) ∧
  (laneState s 2 ≠ 2 → ∃ t, exec .laneCEngineTest s = .next t ∧ t = s) ∧
  (laneState s 2 = 2 → laneMode s = 1 → ∃ t, exec .laneCEngineTest s = .next t ∧ laneState t 2 = 0 ∧ laneState t 0 =
    laneState s 0 ∧ laneState t 1 = laneState s 1 ∧ flag t (Reg.evtRaw 0x15) 10 = true ∧ OnlyRegs [Reg.redLanes,
    Reg.evtRaw 0x15, Reg.evtRaw 0x16] s t ∧ t = evented s t)

/-- The session gate, OPEN and PROVE, and the ends of a session. The gate opens once, 475 ms after reset release, and
  a window begins. An OPEN behind a closed gate or beyond four in a window is answered BUSY, counted and, once in a
  window, raised, and takes no slot; an admitted one puts the lowest free slot into PROVING. A datagram of a wrong
  length is counted and discarded. A correct proof opens its session and is counted and raised; a wrong one frees the
  slot and is counted and raised. The lock of a role ends after 300 s. A slot without a proof for 5 s is freed; an
  open session without an accepted request for 60 s is closed, which is counted and raised.
  (spec/16_sessions_and_access.md (R550), spec/16_sessions_and_access.md (R553), spec/16_sessions_and_access.md
  (R559), spec/16_sessions_and_access.md (R560), spec/16_sessions_and_access.md (R554), spec/16_sessions_and_access.md
  (R561), spec/16_sessions_and_access.md (R569)) -/
def Obligations.SessionGateAndProof : Prop := ∀ s : State, s.tidy →
  (∀ (u : State), u = advanceTo (s.pwr.relClk + 95000000) s → s.ses.gateOpen = false → ∃ t, exec .sessionGateOpen s =
    .next t ∧ t.ses.gateOpen = true ∧ t.ses.handled = 0 ∧ t.ses.busyRaised = false ∧ t.ses.winClk = t.now ∧ t.now =
    max s.now (s.pwr.relClk + 95000000) ∧ rd t Reg.rstTGate = startUs t ∧ OnlyRegs [Reg.rstTGate] u t ∧ t =
    { u with regs := t.regs, ses := t.ses }) ∧
  (s.ses.gateOpen = true → ∃ t, exec .sessionGateOpen s = .next t ∧ t = s) ∧
  (∀ (u : State), u = advanceTo (s.ses.winClk + 20000000) s → s.ses.gateOpen = true → ∃ t, exec .admissionWindow s =
    .next t ∧ t.ses.handled = 0 ∧ t.ses.busyRaised = false ∧ t.ses.dropRaised = false ∧ t.ses.winClk = u.ses.winClk +
    (u.now - u.ses.winClk) / 20000000 * 20000000 ∧ (∀ k : Nat, k < 16 → session t k = { session u k with notes := 0 })
    ∧ t.ses.gateOpen = u.ses.gateOpen ∧ t = { u with ses := t.ses }) ∧
  (s.ses.gateOpen = false → ∃ t, exec .admissionWindow s = .next t ∧ t = s) ∧
  (∀ (m : QapMsg), m.wrongLen = true → ∃ t, exec (.qapOpen m) s = .next t ∧ Counted Reg.sesCntFormat s t ∧ OnlyRegs
    [Reg.sesCntFormat] s t ∧ t = { s with regs := t.regs, pmc := t.pmc }) ∧
  (∀ (m : QapMsg), m.wrongLen = false → s.ses.gateOpen = false ∨ 4 ≤ s.ses.handled → ∃ t, exec (.qapOpen m) s = .next
    t ∧ t.ses.slots = s.ses.slots ∧ t.ses.handled = s.ses.handled ∧ t.draws = s.draws + 1 ∧ t.ses.busyRaised = true ∧
    Counted Reg.sesCntBusy s t ∧ (s.ses.busyRaised = false → flag t (Reg.evtRaw 0x14) 5 = true) ∧ t =
    { evented s t with out := t.out, draws := t.draws }) ∧
  (∀ (m : QapMsg) (k : Nat), m.wrongLen = false → s.ses.gateOpen = true → s.ses.handled < 4 → m.body.length = 20 →
    m.body.headD 0 ≤ 3 → freeSlot s = some k → roleLocked s (m.body.headD 0) = none → s.ses.factory = false ∨
    m.body.headD 0 = 3 → ∃ t, exec (.qapOpen m) s = .next t ∧ (session t k).state = 1 ∧ (session t k).role =
    m.body.headD 0 ∧ (session t k).nonceH = (m.body.drop 4).take 16 ∧ (session t k).lastClk = s.now ∧ t.ses.handled =
    s.ses.handled + 1 ∧ t.regs = s.regs ∧ (∀ j : Nat, j < 16 → j ≠ k → session t j = session s j) ∧ t =
    { evented s t with out := t.out, draws := t.draws }) ∧
  (∀ (m : QapMsg), m.wrongLen = false → m.slot < 16 → (session s m.slot).state = 1 → m.body.length = 32 → proofOk s
    (session s m.slot) m.body = true → ∃ t, exec (.qapProve m) s = .next t ∧ (session t m.slot).state = 2 ∧ (session t
    m.slot).seqOut = 1 ∧ (session t m.slot).key = hmac256 (roleKey s (session s m.slot).role) (proofData s
    "QAP-SESSION" (session s m.slot)) ∧ Counted Reg.sesCntOpen s t ∧ flag t (Reg.evtRaw 0x14) 0 = true ∧ (∀ j : Nat, j
    < 16 → j ≠ m.slot → session t j = session s j) ∧ t = { evented s t with out := t.out }) ∧
  (∀ (m : QapMsg), m.wrongLen = false → m.slot < 16 → (session s m.slot).state = 1 → m.body.length = 32 → proofOk s
    (session s m.slot) m.body = false → ∃ t, exec (.qapProve m) s = .next t ∧ session t m.slot = {} ∧ Counted
    Reg.sesCntProofFail s t ∧ flag t (Reg.evtRaw 0x14) 2 = true ∧ (∀ j : Nat, j < 16 → j ≠ m.slot → session t j =
    session s j) ∧ t = { evented s t with out := t.out }) ∧
  (∀ (r : Fin 4) (k : Nat) (u : State), u = advanceTo (k + 60000000000) s → tabGet (fun _ => (none : Option Nat))
    s.ses.locked r.val = some k → ∃ t, exec (.lockoutExpire r) s = .next t ∧ t =
    { u with ses := { u.ses with locked := tabSet (fun _ => none) u.ses.locked r.val none } } ∧ t.now = max s.now (k +
    60000000000)) ∧
  (∀ (r : Fin 4), tabGet (fun _ => (none : Option Nat)) s.ses.locked r.val = none → ∃ t, exec (.lockoutExpire r) s =
    .next t ∧ t = s) ∧
  (∀ (k : Fin 16) (u : State), u = advanceTo ((session s k.val).lastClk + 1000000000) s → (session s k.val).state = 1
    → ∃ t, exec (.provingTimeout k) s = .next t ∧ session t k.val = {} ∧ t.now = max s.now ((session s k.val).lastClk
    + 1000000000) ∧ (∀ j : Nat, j < 16 → j ≠ k.val → session t j = session u j) ∧ t = { u with ses := t.ses }) ∧
  (∀ (k : Fin 16), (session s k.val).state ≠ 1 → ∃ t, exec (.provingTimeout k) s = .next t ∧ t = s) ∧
  (∀ (k : Fin 16) (u : State), u = advanceTo ((session s k.val).lastClk + 12000000000) s → (session s k.val).state = 2
    → ∃ t, exec (.idleTimeout k) s = .next t ∧ session t k.val = {} ∧ t.now = max s.now ((session s k.val).lastClk +
    12000000000) ∧ Counted Reg.sesCntTimeout u t ∧ flag t (Reg.evtRaw 0x14) 1 = true ∧ (∀ j : Nat, j < 16 → j ≠ k.val
    → (session t j).state = (session u j).state) ∧ t = { evented u t with sheaf := t.sheaf, upd := t.upd }) ∧
  (∀ (k : Fin 16), (session s k.val).state ≠ 2 → ∃ t, exec (.idleTimeout k) s = .next t ∧ t = s)

/-- Requests without a session or with a wrong tag. A request for a slot that is not open is answered NO_SESSION and
  changes nothing else; a request whose tag is wrong is counted, raised and not answered, and its session stays as it
  is. (spec/16_sessions_and_access.md (R554), spec/16_sessions_and_access.md (R555), spec/16_sessions_and_access.md
  (R556)) -/
def Obligations.RequestGate : Prop := ∀ s : State, s.tidy →
  (∀ (m : QapMsg) (hits : List EccHit), m.wrongLen = false → 16 ≤ m.slot ∨ (session s m.slot).state ≠ 2 → ∃ t, exec
    (.qapRead m hits) s = .next t ∧ t = { s with out := .udp m.port m.ip m.udp (qapAnswer m 3 m.slot 0x0B 0 [] []) ::
                                                   s.out, pmc := t.pmc, img := (each hits strike s).img }) ∧
  (∀ (m : QapMsg) (hits : List EccHit), m.wrongLen = false → m.slot < 16 → (session s m.slot).state = 2 → qapTag
    (session s m.slot).key (m.bytes 3) ≠ m.tag → ∃ t, exec (.qapRead m hits) s = .next t ∧ Counted Reg.sesCntTagFail s
    t ∧ flag t (Reg.evtRaw 0x14) 4 = true ∧ t.ses.slots = s.ses.slots ∧ t.out = s.out ∧ OnlyRegs [Reg.sesCntTagFail,
    Reg.evtRaw 0x14, Reg.evtRaw 0x16] s t ∧ t = { evented s t with img := (each hits strike s).img }) ∧
  (∀ (m : QapMsg), m.wrongLen = false → 16 ≤ m.slot ∨ (session s m.slot).state ≠ 2 → ∃ t, exec (.qapWrite m) s = .next
    t ∧ t = { s with out := .udp m.port m.ip m.udp (qapAnswer m 4 m.slot 0x0B 0 [] []) :: s.out, pmc := t.pmc }) ∧
  (∀ (m : QapMsg), m.wrongLen = false → m.slot < 16 → (session s m.slot).state = 2 → qapTag (session s m.slot).key
    (m.bytes 4) ≠ m.tag → ∃ t, exec (.qapWrite m) s = .next t ∧ Counted Reg.sesCntTagFail s t ∧ flag t (Reg.evtRaw
    0x14) 4 = true ∧ t.ses.slots = s.ses.slots ∧ t.out = s.out ∧ OnlyRegs [Reg.sesCntTagFail, Reg.evtRaw 0x14,
    Reg.evtRaw 0x16] s t ∧ t = evented s t) ∧
  (∀ (m : QapMsg), m.wrongLen = false → 16 ≤ m.slot ∨ (session s m.slot).state ≠ 2 → ∃ t, exec (.qapModify m) s =
    .next t ∧ t = { s with out := .udp m.port m.ip m.udp (qapAnswer m 5 m.slot 0x0B 0 [] []) :: s.out, pmc := t.pmc }) ∧
  (∀ (m : QapMsg), m.wrongLen = false → m.slot < 16 → (session s m.slot).state = 2 → qapTag (session s m.slot).key
    (m.bytes 5) ≠ m.tag → ∃ t, exec (.qapModify m) s = .next t ∧ Counted Reg.sesCntTagFail s t ∧ flag t (Reg.evtRaw
    0x14) 4 = true ∧ t.ses.slots = s.ses.slots ∧ t.out = s.out ∧ OnlyRegs [Reg.sesCntTagFail, Reg.evtRaw 0x14,
    Reg.evtRaw 0x16] s t ∧ t = evented s t) ∧
  (∀ (m : QapMsg), m.wrongLen = false → 16 ≤ m.slot ∨ (session s m.slot).state ≠ 2 → ∃ t, exec (.qapSubscribe m) s =
    .next t ∧ t = { s with out := .udp m.port m.ip m.udp (qapAnswer m 6 m.slot 0x0B 0 [] []) :: s.out, pmc := t.pmc }) ∧
  (∀ (m : QapMsg), m.wrongLen = false → m.slot < 16 → (session s m.slot).state = 2 → qapTag (session s m.slot).key
    (m.bytes 6) ≠ m.tag → ∃ t, exec (.qapSubscribe m) s = .next t ∧ Counted Reg.sesCntTagFail s t ∧ flag t (Reg.evtRaw
    0x14) 4 = true ∧ t.ses.slots = s.ses.slots ∧ t.out = s.out ∧ OnlyRegs [Reg.sesCntTagFail, Reg.evtRaw 0x14,
    Reg.evtRaw 0x16] s t ∧ t = evented s t) ∧
  (∀ (m : QapMsg), m.wrongLen = false → 16 ≤ m.slot ∨ (session s m.slot).state ≠ 2 → ∃ t, exec (.qapFreeze m) s =
    .next t ∧ t = { s with out := .udp m.port m.ip m.udp (qapAnswer m 7 m.slot 0x0B 0 [] []) :: s.out, pmc := t.pmc }) ∧
  (∀ (m : QapMsg), m.wrongLen = false → m.slot < 16 → (session s m.slot).state = 2 → qapTag (session s m.slot).key
    (m.bytes 7) ≠ m.tag → ∃ t, exec (.qapFreeze m) s = .next t ∧ Counted Reg.sesCntTagFail s t ∧ flag t (Reg.evtRaw
    0x14) 4 = true ∧ t.ses.slots = s.ses.slots ∧ t.out = s.out ∧ OnlyRegs [Reg.sesCntTagFail, Reg.evtRaw 0x14,
    Reg.evtRaw 0x16] s t ∧ t = evented s t) ∧
  (∀ (m : QapMsg), m.wrongLen = false → 16 ≤ m.slot ∨ (session s m.slot).state ≠ 2 → ∃ t, exec (.qapUnfreeze m) s =
    .next t ∧ t = { s with out := .udp m.port m.ip m.udp (qapAnswer m 8 m.slot 0x0B 0 [] []) :: s.out, pmc := t.pmc }) ∧
  (∀ (m : QapMsg), m.wrongLen = false → m.slot < 16 → (session s m.slot).state = 2 → qapTag (session s m.slot).key
    (m.bytes 8) ≠ m.tag → ∃ t, exec (.qapUnfreeze m) s = .next t ∧ Counted Reg.sesCntTagFail s t ∧ flag t (Reg.evtRaw
    0x14) 4 = true ∧ t.ses.slots = s.ses.slots ∧ t.out = s.out ∧ OnlyRegs [Reg.sesCntTagFail, Reg.evtRaw 0x14,
    Reg.evtRaw 0x16] s t ∧ t = evented s t) ∧
  (∀ (m : QapMsg), m.wrongLen = false → 16 ≤ m.slot ∨ (session s m.slot).state ≠ 2 → ∃ t, exec (.qapCommit m) s =
    .next t ∧ t = { s with out := .udp m.port m.ip m.udp (qapAnswer m 9 m.slot 0x0B 0 [] []) :: s.out, pmc := t.pmc }) ∧
  (∀ (m : QapMsg), m.wrongLen = false → m.slot < 16 → (session s m.slot).state = 2 → qapTag (session s m.slot).key
    (m.bytes 9) ≠ m.tag → ∃ t, exec (.qapCommit m) s = .next t ∧ Counted Reg.sesCntTagFail s t ∧ flag t (Reg.evtRaw
    0x14) 4 = true ∧ t.ses.slots = s.ses.slots ∧ t.out = s.out ∧ OnlyRegs [Reg.sesCntTagFail, Reg.evtRaw 0x14,
    Reg.evtRaw 0x16] s t ∧ t = evented s t) ∧
  (∀ (m : QapMsg), m.wrongLen = false → 16 ≤ m.slot ∨ (session s m.slot).state ≠ 2 → ∃ t, exec (.qapClose m) s = .next
    t ∧ t = { s with out := .udp m.port m.ip m.udp (qapAnswer m 10 m.slot 0x0B 0 [] []) :: s.out, pmc := t.pmc }) ∧
  (∀ (m : QapMsg), m.wrongLen = false → m.slot < 16 → (session s m.slot).state = 2 → qapTag (session s m.slot).key
    (m.bytes 10) ≠ m.tag → ∃ t, exec (.qapClose m) s = .next t ∧ Counted Reg.sesCntTagFail s t ∧ flag t (Reg.evtRaw
    0x14) 4 = true ∧ t.ses.slots = s.ses.slots ∧ t.out = s.out ∧ OnlyRegs [Reg.sesCntTagFail, Reg.evtRaw 0x14,
    Reg.evtRaw 0x16] s t ∧ t = evented s t) ∧
  (∀ (m : QapMsg), m.wrongLen = false → 16 ≤ m.slot ∨ ((session s m.slot).state ≠ 2 ∧ (session s m.slot).state ≠ 1) →
    ∃ t, exec (.qapProve m) s = .next t ∧ t =
    { s with out := .udp m.port m.ip m.udp (qapAnswer m 2 m.slot 0x0B 0 [] []) :: s.out, pmc := t.pmc }) ∧
  (∀ (m : QapMsg), m.wrongLen = false → m.slot < 16 → (session s m.slot).state = 1 → m.body.length ≠ 32 → ∃ t, exec
    (.qapProve m) s = .next t ∧ t =
    { s with out := .udp m.port m.ip m.udp (qapAnswer m 2 m.slot 9 0 [] []) :: s.out, pmc := t.pmc })

/-- READ, WRITE and MODIFY. A READ of whole words of one row of the address map is answered OK, with those words as
  they read where no bit of the image is upset; a READ outside the map is answered UNMAPPED with its event. A WRITE or
  MODIFY of plain registers whose words fail no check stores every word, changes no other register, but for what a
  write on the DIO page makes of the line states, and is answered OK; one with a failing word changes none of its
  registers, counts and raises the rejection on the pages of the failing words and is answered REJECTED; one outside
  the address map is answered UNMAPPED with its event. (spec/16_sessions_and_access.md (R550),
  spec/16_sessions_and_access.md (R558), spec/16_sessions_and_access.md (R562), spec/02_register_pages.md (R51),
  spec/02_register_pages.md (R53), spec/02_register_pages.md (R60), spec/02_register_pages.md (R61)) -/
def Obligations.ReadAndWriteRequests : Prop := ∀ s : State, s.tidy →
  (∀ (m : QapMsg) (hits : List EccHit), Asks s 3 m → m.body.length = 8 → reqCount m ≤ 256 → mapped (reqAddr m)
    (reqCount m) = true → ∃ t, exec (.qapRead m hits) s = .next t ∧ (∃ b, t.out.head? = some (answer s 3 0 m b)) ∧
    (session t m.slot).seqOut = (session s m.slot).seqOut + 1 ∧ (session t m.slot).seqIn = max (session s
    m.slot).seqIn m.seq ∧ (session t m.slot).lastClk = s.now ∧ t =
    { evented (taken s m) t with img := t.img, out := t.out, draws := t.draws }) ∧
  (∀ (m : QapMsg) (hits : List EccHit), Asks s 3 m → m.body.length = 8 → reqCount m ≤ 256 → mapped (reqAddr m)
    (reqCount m) = true → hits = [] → s.img.upsets = [] → ∃ t, exec (.qapRead m hits) s = .next t ∧ t.out.head? = some
    (answer s 3 0 m (readBody (readWords (taken s m) (wordAddrs (reqAddr m) (reqCount m))).2 m (readWords (taken s m)
    (wordAddrs (reqAddr m) (reqCount m))).1)) ∧ (session t m.slot).seqOut = (session s m.slot).seqOut + 1 ∧ (session t
    m.slot).seqIn = max (session s m.slot).seqIn m.seq ∧ (session t m.slot).lastClk = s.now ∧ t =
    { evented (taken s m) t with img := t.img, out := t.out, draws := t.draws }) ∧
  (∀ (m : QapMsg) (hits : List EccHit), Asks s 3 m → m.body.length = 8 → reqCount m ≤ 256 → mapped (reqAddr m)
    (reqCount m) = false → ∃ t, exec (.qapRead m hits) s = .next t ∧ t.out.head? = some (answer s 3 2 m (readBody
    (raise_ 0x00 3 (taken s m)) m [])) ∧ (session t m.slot).seqOut = (session s m.slot).seqOut + 1 ∧ (session t
    m.slot).seqIn = max (session s m.slot).seqIn m.seq ∧ (session t m.slot).lastClk = s.now ∧ flag t (Reg.evtRaw 0x00)
    3 = true ∧ t = { evented (taken s m) t with img := (each hits strike s).img, out := t.out }) ∧
  (∀ (m : QapMsg), Asks s 4 m → reqCount m ≤ 256 → m.body.length = 8 + 4 * reqCount m → mapped (reqAddr m) (reqCount
    m) = false → ∃ t, exec (.qapWrite m) s = .next t ∧ t.out.head? = some (answer s 4 2 m (writeBody (raise_ 0x00 3
    (taken s m)) m 0 0)) ∧ (session t m.slot).seqOut = (session s m.slot).seqOut + 1 ∧ (session t m.slot).seqIn = max
    (session s m.slot).seqIn m.seq ∧ (session t m.slot).lastClk = s.now ∧ flag t (Reg.evtRaw 0x00) 3 = true ∧ t =
    { evented (taken s m) t with out := t.out }) ∧
  (∀ (m : QapMsg), Asks s 4 m → reqCount m ≤ 256 → m.body.length = 8 + 4 * reqCount m → mapped (reqAddr m) (reqCount
    m) = true → standbyRefuses (taken s m) (writeReqs m) = false → wordFails (taken s m) m.slot (writeReqs m) = [] →
    (writeReqs m).all (fun w => mapRow w.a == some 0 && !isOrder w.a) = true → ∃ t, exec (.qapWrite m) s = .next t ∧
    (∃ b, t.out.head? = some (answer s 4 0 m b)) ∧ (session t m.slot).seqOut = (session s m.slot).seqOut + 1 ∧
    (session t m.slot).seqIn = max (session s m.slot).seqIn m.seq ∧ (session t m.slot).lastClk = s.now ∧ (∀ w :
    ReqWord, w ∈ writeReqs m → rd t w.a = newWord (taken s m) w % 2 ^ 32) ∧ ((writeReqs m).all (fun w => blockOf
    (pageOf w.a) != some .dio) = true → OnlyRegs ((writeReqs m).map (fun w => w.a)) s t) ∧ t =
    { evented (taken s m) t with effOld := t.effOld, red := t.red, dio := t.dio, mbc := t.mbc, out := t.out }) ∧
  (∀ (m : QapMsg) (f : WordFail) (r : List WordFail), Asks s 4 m → reqCount m ≤ 256 → m.body.length = 8 + 4 * reqCount
    m → mapped (reqAddr m) (reqCount m) = true → standbyRefuses (taken s m) (writeReqs m) = false → wordFails (taken s
    m) m.slot (writeReqs m) = f :: r → ∃ t, exec (.qapWrite m) s = .next t ∧ (∃ b, t.out.head? = some (answer s 4 3 m
    b)) ∧ (session t m.slot).seqOut = (session s m.slot).seqOut + 1 ∧ (session t m.slot).seqIn = max (session s
    m.slot).seqIn m.seq ∧ (session t m.slot).lastClk = s.now ∧ flag t (Reg.evtRaw f.page) 15 = true ∧ OnlyRegs (((f ::
    r).map (fun g => Reg.writeRej g.page)) ++ ((f :: r).map (fun g => Reg.evtRaw g.page)) ++ [Reg.updRefused,
    Reg.updCntRefused, Reg.evtRaw 0x19, Reg.evtRaw 0x16]) s t ∧ t = { evented (taken s m) t with out := t.out }) ∧
  (∀ (m : QapMsg), Asks s 5 m → reqCount m ≤ 256 → m.body.length = 8 + 8 * reqCount m → mapped (reqAddr m) (reqCount
    m) = false → ∃ t, exec (.qapModify m) s = .next t ∧ t.out.head? = some (answer s 5 2 m (writeBody (raise_ 0x00 3
    (taken s m)) m 0 0)) ∧ (session t m.slot).seqOut = (session s m.slot).seqOut + 1 ∧ (session t m.slot).seqIn = max
    (session s m.slot).seqIn m.seq ∧ (session t m.slot).lastClk = s.now ∧ flag t (Reg.evtRaw 0x00) 3 = true ∧ t =
    { evented (taken s m) t with out := t.out }) ∧
  (∀ (m : QapMsg), Asks s 5 m → reqCount m ≤ 256 → m.body.length = 8 + 8 * reqCount m → mapped (reqAddr m) (reqCount
    m) = true → standbyRefuses (taken s m) (modifyReqs m) = false → wordFails (taken s m) m.slot (modifyReqs m) = [] →
    (modifyReqs m).all (fun w => mapRow w.a == some 0 && !isOrder w.a) = true → ∃ t, exec (.qapModify m) s = .next t ∧
    (∃ b, t.out.head? = some (answer s 5 0 m b)) ∧ (session t m.slot).seqOut = (session s m.slot).seqOut + 1 ∧
    (session t m.slot).seqIn = max (session s m.slot).seqIn m.seq ∧ (session t m.slot).lastClk = s.now ∧ (∀ w :
    ReqWord, w ∈ modifyReqs m → rd t w.a = newWord (taken s m) w % 2 ^ 32) ∧ ((modifyReqs m).all (fun w => blockOf
    (pageOf w.a) != some .dio) = true → OnlyRegs ((modifyReqs m).map (fun w => w.a)) s t) ∧ t =
    { evented (taken s m) t with effOld := t.effOld, red := t.red, dio := t.dio, mbc := t.mbc, out := t.out }) ∧
  (∀ (m : QapMsg) (f : WordFail) (r : List WordFail), Asks s 5 m → reqCount m ≤ 256 → m.body.length = 8 + 8 * reqCount
    m → mapped (reqAddr m) (reqCount m) = true → standbyRefuses (taken s m) (modifyReqs m) = false → wordFails (taken
    s m) m.slot (modifyReqs m) = f :: r → ∃ t, exec (.qapModify m) s = .next t ∧ (∃ b, t.out.head? = some (answer s 5
    3 m b)) ∧ (session t m.slot).seqOut = (session s m.slot).seqOut + 1 ∧ (session t m.slot).seqIn = max (session s
    m.slot).seqIn m.seq ∧ (session t m.slot).lastClk = s.now ∧ flag t (Reg.evtRaw f.page) 15 = true ∧ OnlyRegs (((f ::
    r).map (fun g => Reg.writeRej g.page)) ++ ((f :: r).map (fun g => Reg.evtRaw g.page)) ++ [Reg.updRefused,
    Reg.updCntRefused, Reg.evtRaw 0x19, Reg.evtRaw 0x16]) s t ∧ t = { evented (taken s m) t with out := t.out })

/-- SUBSCRIBE, FREEZE, UNFREEZE, COMMIT and CLOSE. SUBSCRIBE sets the page mask of its session and answers it; FREEZE
  begins a freeze of the Granary where none stands and is answered BUSY where another session holds one; UNFREEZE of
  the holder ends it and is otherwise denied; COMMIT of a session below ENGINEER is denied, and otherwise stores the
  overlay when it has room; CLOSE frees the slot and is raised. (spec/16_sessions_and_access.md (R558),
  spec/16_sessions_and_access.md (R565), spec/16_sessions_and_access.md (R566), spec/16_sessions_and_access.md (R567),
  spec/16_sessions_and_access.md (R569), spec/19_granary_and_counters.md (R660)) -/
def Obligations.SessionRequests : Prop := ∀ s : State, s.tidy →
  (∀ (m : QapMsg), Asks s 6 m → m.body.length = 8 → ∃ t, exec (.qapSubscribe m) s = .next t ∧ t.out.head? = some
    (answer s 6 0 m (leBytes 8 (leNat m.body &&& pageBits))) ∧ (session t m.slot).seqOut = (session s m.slot).seqOut +
    1 ∧ (session t m.slot).seqIn = max (session s m.slot).seqIn m.seq ∧ (session t m.slot).lastClk = s.now ∧ (session
    t m.slot).mask = leNat m.body &&& pageBits ∧ t.regs = s.regs ∧ t =
    { taken s m with pmc := t.pmc, ses := t.ses, out := t.out }) ∧
  (∀ (m : QapMsg), Asks s 6 m → m.body.length ≠ 8 → ∃ t, exec (.qapSubscribe m) s = .next t ∧ t.out.head? = some
    (answer s 6 9 m []) ∧ (session t m.slot).seqOut = (session s m.slot).seqOut + 1 ∧ (session t m.slot).seqIn = max
    (session s m.slot).seqIn m.seq ∧ (session t m.slot).lastClk = s.now ∧ (session t m.slot).mask = (session s
    m.slot).mask ∧ t = { taken s m with pmc := t.pmc, ses := t.ses, out := t.out }) ∧
  (∀ (m : QapMsg), Asks s 7 m → m.body = [] → s.grn.freeze = none → ∃ t, exec (.qapFreeze m) s = .next t ∧ t.out.head?
    = some (answer s 7 0 m []) ∧ (session t m.slot).seqOut = (session s m.slot).seqOut + 1 ∧ (session t m.slot).seqIn
    = max (session s m.slot).seqIn m.seq ∧ (session t m.slot).lastClk = s.now ∧ t.grn =
    { s.grn with freeze := some m.slot, freezeClk := s.now, stageLost := 0 } ∧ t.regs = s.regs ∧ t =
    { taken s m with grn := t.grn, pmc := t.pmc, ses := t.ses, out := t.out }) ∧
  (∀ (m : QapMsg) (k : Nat), Asks s 7 m → m.body = [] → s.grn.freeze = some k → ∃ t, exec (.qapFreeze m) s = .next t ∧
    (t.out.head? = some (answer s 7 (if k = m.slot then 0 else 1) m [])) ∧ (session t m.slot).seqOut = (session s
    m.slot).seqOut + 1 ∧ (session t m.slot).seqIn = max (session s m.slot).seqIn m.seq ∧ (session t m.slot).lastClk =
    s.now ∧ t.grn = s.grn ∧ t = { taken s m with pmc := t.pmc, ses := t.ses, out := t.out }) ∧
  (∀ (m : QapMsg), Asks s 8 m → m.body = [] → s.grn.freeze = some m.slot → ∃ t, exec (.qapUnfreeze m) s = .next t ∧
    t.out.head? = some (answer s 8 0 m []) ∧ (session t m.slot).seqOut = (session s m.slot).seqOut + 1 ∧ (session t
    m.slot).seqIn = max (session s m.slot).seqIn m.seq ∧ (session t m.slot).lastClk = s.now ∧ t.grn.freeze = none ∧ t
    = { evented (taken s m) t with out := t.out }) ∧
  (∀ (m : QapMsg), Asks s 8 m → m.body = [] → s.grn.freeze ≠ some m.slot → ∃ t, exec (.qapUnfreeze m) s = .next t ∧
    t.out.head? = some (answer s 8 5 m []) ∧ (session t m.slot).seqOut = (session s m.slot).seqOut + 1 ∧ (session t
    m.slot).seqIn = max (session s m.slot).seqIn m.seq ∧ (session t m.slot).lastClk = s.now ∧ t.grn = s.grn ∧ t.regs =
    s.regs ∧ t = { taken s m with pmc := t.pmc, ses := t.ses, out := t.out }) ∧
  (∀ (m : QapMsg), Asks s 9 m → m.body = [] → (session s m.slot).role < 2 → ∃ t, exec (.qapCommit m) s = .next t ∧
    t.out.head? = some (answer s 9 5 m []) ∧ (session t m.slot).seqOut = (session s m.slot).seqOut + 1 ∧ (session t
    m.slot).seqIn = max (session s m.slot).seqIn m.seq ∧ (session t m.slot).lastClk = s.now ∧ t.overlay = s.overlay ∧
    t.regs = s.regs ∧ t = { taken s m with pmc := t.pmc, ses := t.ses, out := t.out }) ∧
  (∀ (m : QapMsg), Asks s 9 m → m.body = [] → 2 ≤ (session s m.slot).role → ∃ t, exec (.qapCommit m) s = .next t ∧
    (session t m.slot).seqOut = (session s m.slot).seqOut + 1 ∧ (session t m.slot).seqIn = max (session s
    m.slot).seqIn m.seq ∧ (session t m.slot).lastClk = s.now ∧ ((overlayDiff s).length ≤ 4096 → rd t Reg.sysOverlayUse
    = (overlayDiff s).length) ∧ ((overlayDiff s).length ≤ 4096 → flag t (Reg.stat 0) 4 = false) ∧ ((overlayDiff
    s).length ≤ 4096 → ∀ a : Nat, tabGet (fun _ => (none : Option Word)) t.overlay a = if a ∈ overlayDiff s then some
    (BitVec.ofNat 32 (rd s a)) else none) ∧ (4096 < (overlayDiff s).length → t.overlay = s.overlay) ∧ OnlyRegs
    [Reg.sysOverlayUse, Reg.stat 0] s t ∧ t =
    { evented (taken s m) t with overlay := t.overlay, overlayDig := t.overlayDig, out := t.out }) ∧
  (∀ (m : QapMsg), Asks s 10 m → m.body = [] → ∃ t, exec (.qapClose m) s = .next t ∧ t.out.head? = some (answer s 10 0
    m []) ∧ session t m.slot = {} ∧ flag t (Reg.evtRaw 0x14) 1 = true ∧ (∀ j : Nat, j < 16 → j ≠ m.slot → (session t
    j).state = (session s j).state) ∧ t = { evented (taken s m) t with sheaf := t.sheaf, upd := t.upd, out := t.out }) ∧
  (∀ (m : QapMsg), Asks s 10 m → m.body ≠ [] → ∃ t, exec (.qapClose m) s = .next t ∧ t.out.head? = some (answer s 10 9
    m []) ∧ (session t m.slot).seqOut = (session s m.slot).seqOut + 1 ∧ (session t m.slot).seqIn = max (session s
    m.slot).seqIn m.seq ∧ (session t m.slot).lastClk = s.now ∧ (session t m.slot).state = 2 ∧ t.regs = s.regs ∧ t =
    { taken s m with pmc := t.pmc, ses := t.ses, out := t.out })

/-- CLE_RUN and the page commit. A CLE_RUN that the schedule gives next while no run stands or waits gives each of its
  loops 32 control clocks: the loop steps at the first of them and its words are written at the last. While an earlier
  run stands it waits, which is counted, and starts at the clock after it. Where all lanes store the same, a loop that
  steps leaves its output for its output word, and one in MANUAL follows a usable manual word within the output
  limits. An armed page commit makes the shadow words effective at its boundary, and is refused where a loop breaks a
  cross-field condition. (spec/10_control_engine.md (R344), spec/10_control_engine.md (R345),
  spec/10_control_engine.md (R363), spec/10_control_engine.md (R374), spec/10_control_engine.md (R375),
  spec/10_control_engine.md (R376), spec/10_control_engine.md (R378)) -/
def Obligations.ControlLoops : Prop := ∀ s : State, s.tidy →
  (∀ (pos first count : Nat) (u : State), u = atTurn pos s → Due s ⟨0x11, 0x0B, first, count, 0, 0, 0, pos⟩ →
    u.seq.held = [] → (producers u).length < 32 → bitsOf count 8 0 = 0 → ∃ t, exec (.cleRun pos first count) s = .next
    t ∧ t.seq.outst = u.seq.outst ∧ t = { u with seq := t.seq, pmc := t.pmc }) ∧
  (∀ (pos first count : Nat) (u : State), u = atTurn pos s → Due s ⟨0x11, 0x0B, first, count, 0, 0, 0, pos⟩ →
    u.seq.held = [] → (producers u).length < 32 → bitsOf count 8 0 ≠ 0 → u.cle.busy < u.now ∨ u.cle.busy = 0 →
    cleWaiting u = none → ∃ t, exec (.cleRun pos first count) s = .next t ∧ t.seq.outst.getLast?.map (fun o =>
    (o.words, o.last, o.todo)) = some ((List.range (bitsOf count 8 0)).flatMap (fun q => loopDests u ⟨u.cle.eff,
    bitsOf first 7 0 + q⟩), u.now + 32 * bitsOf count 8 0, (List.range (bitsOf count 8 0)).flatMap (fun q => (u.now +
    32 * q + 1, Act.loop (bitsOf first 7 0 + q)) :: (loopDests u ⟨u.cle.eff, bitsOf first 7 0 + q⟩).map (fun _ =>
    (u.now + 32 * (q + 1), Act.next)))) ∧ t =
    { u with seq := t.seq, cle := { u.cle with busy := u.now + 32 * bitsOf count 8 0 } }) ∧
  (∀ (pos first count : Nat) (u : State), u = atTurn pos s → Due s ⟨0x11, 0x0B, first, count, 0, 0, 0, pos⟩ →
    u.seq.held = [] → (producers u).length < 32 → bitsOf count 8 0 ≠ 0 → (u.now ≤ u.cle.busy ∧ u.cle.busy ≠ 0) ∨
    (cleWaiting u).isSome = true → ∃ t, exec (.cleRun pos first count) s = .next t ∧ t.seq.outst.getLast?.map (fun o
    => (o.words, o.last, o.todo)) = some ((List.range (bitsOf count 8 0)).flatMap (fun q => loopDests u ⟨u.cle.eff,
    bitsOf first 7 0 + q⟩), neverClk, []) ∧ rd t Reg.cleCntRunWait = satAdd 0xFFFFFFFF (rd u Reg.cleCntRunWait) 1 ∧
    OnlyRegs [Reg.cleCntRunWait] u t ∧ t = { u with regs := t.regs, seq := t.seq, pmc := t.pmc }) ∧
  (∀ (w o : OutEntry) (u : State), u = advanceTo (s.cle.busy + 1) s → cleWaiting s = some w → entryOf u w.uid = some o
    → ∃ t, exec .cleRunDeferredStart s = .next t ∧ t.now = max s.now (s.cle.busy + 1) ∧ (entryOf t w.uid).map (fun x
    => (x.last, x.todo)) = some (u.now + 32 * bitsOf o.e.arg1 8 0, runTodo u o.e (o.tab.getD u.cle.eff) u.now) ∧ t =
    { u with seq := t.seq, cle := { u.cle with busy := u.now + 32 * bitsOf o.e.arg1 8 0 } }) ∧
  (cleWaiting s = none → ∃ t, exec .cleRunDeferredStart s = .next t ∧ t = s) ∧
  (∀ (uid k : Nat) (o : OutEntry), s.img.upsets = [] → s.img.laneDiff = [] → s.cle.laneLoops = [] → entryOf s uid =
    some o → ∃ t, t = doAct uid (.loop k) s ∧ (∃ g : Tag, (entryOf t uid).map (fun x => x.res.head?) = some (some
    (Act.put ((⟨o.tab.getD s.cle.eff, k⟩ : LoopRec).word s wOut) ⟨BitVec.ofNat 32 (loopSt t k).u, g⟩))) ∧ (loopSt t
    k).resumed = false ∧ (∀ j : Nat, j < 256 → j ≠ k → loopSt t j = loopSt s j)) ∧
  (∀ (uid k : Nat) (o : OutEntry), s.img.upsets = [] → s.img.laneDiff = [] → s.cle.laneLoops = [] → entryOf s uid =
    some o → fld s (Reg.cleMode (k / 8)) (4 * (k % 8) + 3) (4 * (k % 8)) = 0 → ∃ t, t = doAct uid (.loop k) s ∧
    (loopSt t k).mode = 0 ∧ ((inWord (laneFetch s uid 0) ((⟨o.tab.getD s.cle.eff, k⟩ : LoopRec).word s wMan)).there =
    true → (inWord (laneFetch s uid 0) ((⟨o.tab.getD s.cle.eff, k⟩ : LoopRec).word s wMan)).ok = true → (loopSt t k).u
    = fToBits f32 (fClamp ((⟨o.tab.getD s.cle.eff, k⟩ : LoopRec).num s 0x198) ((⟨o.tab.getD s.cle.eff, k⟩ :
    LoopRec).num s 0x194) (inWord (laneFetch s uid 0) ((⟨o.tab.getD s.cle.eff, k⟩ : LoopRec).word s wMan)).val))) ∧
  (s.cle.armed = true → (List.range (cfgCount s 0x0701)).filterMap (fun k => (commitCond s k).map (fun d => (k, d))) =
    [] → ∃ t, exec .pageCommitApply s = .next t ∧ t.cle.armed = false ∧ t.cle.shd = [] ∧ t.cle.eff = s.cle.shd.foldl
    (fun x e => tabSet (fun _ => none) x e.1 e.2) s.cle.eff ∧ wideGet t Reg.cleCommitGenLo = seqGen s % 2 ^ 64 ∧ flag
    t (Reg.stat 0x0B) 3 = false ∧ flag t (Reg.evtRaw 0x0B) 4 = true ∧ OnlyRegs [Reg.cleCommitResult, Reg.stat 0x0B,
    Reg.evtRaw 0x0B, Reg.evtRaw 0x16, Reg.evtRaw 0x17] s t ∧ t =
    { evented s t with wide := t.wide, seq := t.seq, cle := t.cle }) ∧
  (∀ (k d : Nat) (r : List (Nat × Nat)), s.cle.armed = true → (List.range (cfgCount s 0x0701)).filterMap (fun k =>
    (commitCond s k).map (fun d => (k, d))) = (k, d) :: r → ∃ t, exec .pageCommitApply s = .next t ∧ t.cle =
    { s.cle with armed := false } ∧ rd t Reg.cleCommitResult = (2 ^ 31 + d <<< 8 + k) % 2 ^ 32 ∧ flag t (Reg.stat
    0x0B) 3 = true ∧ Counted Reg.cleCntCommitFail s t ∧ flag t (Reg.evtRaw 0x0B) 5 = true ∧ OnlyRegs
    [Reg.cleCommitResult, Reg.stat 0x0B, Reg.cleCntCommitFail, Reg.evtRaw 0x0B, Reg.evtRaw 0x16] s t ∧ t =
    { evented s t with wide := t.wide, seq := t.seq, cle := t.cle }) ∧
  (s.cle.armed = false → ∃ t, exec .pageCommitApply s = .next t ∧ t = s)

/-- The Granary and the counters. The record at the front of the capture queue is committed to the ring with the next
  SEQ, and only leaves the queue for the staging queue while a freeze stands. A freeze that stood for 10 s ends and is
  raised. GRN_TICK leaves a trigger that is off without a remembered condition. PMC_MARK copies the counter of slots.
  A counter that wraps sets its sticky bit and raises COUNTER_WRAP. GRN_CLEAR moves the oldest record to the head,
  keeps the one record of the clear before it, is counted and raised, and shows the erasure. PMC_SNAP puts every
  counter into its snapshot registers with the generation and the slot. (spec/19_granary_and_counters.md (R653),
  spec/19_granary_and_counters.md (R655), spec/19_granary_and_counters.md (R660), spec/19_granary_and_counters.md
  (R661), spec/19_granary_and_counters.md (R663), spec/19_granary_and_counters.md (R667),
  spec/19_granary_and_counters.md (R670), spec/19_granary_and_counters.md (R669)) -/
def Obligations.GranaryAndCounters : Prop := ∀ s : State, s.tidy →
  (s.grn.queue = [] → ∃ t, exec .recordCommit s = .next t ∧ t = s) ∧
  (∀ (x : GRec) (q : List GRec), s.grn.queue = x :: q → s.grn.freeze = none → ∃ t, exec .recordCommit s = .next t ∧
    t.grn.headSeq = s.grn.headSeq + 1 ∧ s.grn.headSeq < t.grn.headSeq ∧ t = { evented s t with img := t.img }) ∧
  (∀ (x : GRec) (q : List GRec) (k : Nat), s.grn.queue = x :: q → s.grn.freeze = some k → ∃ t, exec .recordCommit s =
    .next t ∧ t.grn.queue = q ∧ t.grn.headSeq = s.grn.headSeq ∧ t.grn.ring = s.grn.ring ∧ t =
    { evented s t with img := t.img }) ∧
  (∀ (k : Nat) (u : State), u = advanceTo (s.grn.freezeClk + 2000000000) s → s.grn.freeze = some k → ∃ t, exec
    .freezeExpired s = .next t ∧ t.grn.freeze = none ∧ t.grn.stageLost = 0 ∧ t.now = max s.now (s.grn.freezeClk +
    2000000000) ∧ flag t (Reg.evtRaw 0x16) 1 = true ∧ t = evented u t) ∧
  (s.grn.freeze = none → ∃ t, exec .freezeExpired s = .next t ∧ t = s) ∧
  (∃ t, exec .grnEraseDone s = .next t ∧ flag t (Reg.stat 0x16) 2 = false ∧ t.grn.headSeq = s.grn.headSeq ∧
    t.grn.oldestSeq = s.grn.oldestSeq ∧ (∀ e : Nat × Option GRec, e ∈ t.grn.ring → ∃ x, e.2 = some x ∧ s.grn.oldestSeq
    ≤ x.seq) ∧ OnlyRegs [Reg.stat 0x16] s t ∧ t = { s with regs := t.regs, grn := t.grn }) ∧
  (∀ (pos first count : Nat) (u : State), u = atTurn pos s → Due s ⟨0x32, 0x16, first, count, 0, 0, 0, pos⟩ →
    u.seq.held = [] → (producers u).length < 32 → count % 512 = 1 → cfgNat u 0x0D01 (first % 256) 0 1 ≠ 2 → ∃ t, exec
    (.grnTick pos first count) s = .next t ∧ t.seq.outst = u.seq.outst ∧ t = { u with seq := t.seq, pmc := t.pmc }) ∧
  (∀ (pos first count : Nat) (u : State), u = atTurn pos s → Due s ⟨0x32, 0x16, first, count, 0, 0, 0, pos⟩ →
    u.seq.held = [] → (producers u).length < 32 → count % 512 = 1 → cfgNat u 0x0D01 (first % 256) 0 1 = 2 → flag u
    (Reg.grnTrigCfg (first % 256)) 31 = false → ∃ t, exec (.grnTick pos first count) s = .next t ∧ t.seq.outst =
    u.seq.outst ∧ t = { u with seq := t.seq, grn :=
                                 { u.grn with condTrue := tabSet (fun _ => false) u.grn.condTrue (first % 256) false
                                                }, pmc := t.pmc }) ∧
  (∀ (pos first count : Nat) (u : State), u = atTurn pos s → Due s ⟨0x32, 0x16, first, count, 0, 0, 0, pos⟩ →
    u.seq.held = [] → (producers u).length < 32 → count % 512 = 0 → ∃ t, exec (.grnTick pos first count) s = .next t ∧
    t.seq.outst = u.seq.outst ∧ t = { u with seq := t.seq, pmc := t.pmc }) ∧
  (∀ (pos k : Nat) (u : State), u = atTurn pos s → Due s ⟨0x34, 0x17, k, 0, 0, 0, 0, pos⟩ → u.seq.held = [] →
    (producers u).length < 32 → ∃ t, exec (.pmcMark pos k) s = .next t ∧ rd t (Reg.pmcMarkLo (k % 16)) = tabGet (fun _
    => (0 : Nat)) u.pmc.cnt 0 % 2 ^ 32 ∧ rd t (Reg.pmcMarkHi (k % 16)) = (seqSlot s <<< 16 + tabGet (fun _ => (0 :
    Nat)) u.pmc.cnt 0 / 2 ^ 32 % 65536) % 2 ^ 32 ∧ OnlyRegs [Reg.pmcMarkLo (k % 16), Reg.pmcMarkHi (k % 16)] u t ∧ t =
    { u with regs := t.regs, seq := t.seq }) ∧
  (∀ (k : Fin 240), k.val < 224 → tabGet (fun _ => (0 : Nat)) s.pmc.cnt k.val = 2 ^ 48 - 1 → ∃ t, exec (.counterWrap
    k) s = .next t ∧ flag t (Reg.evtRaw 0x17) 0 = true ∧ bitOf t.pmc.sticky k.val = true ∧ OnlyRegs [Reg.evtRaw 0x16,
    Reg.evtRaw 0x17] s t ∧ t = evented s t) ∧
  (∀ (k : Fin 240), 224 ≤ k.val → tabGet (fun _ => (0 : Nat)) s.pmc.thr (k.val - 224) = 2 ^ 48 - 1 → ∃ t, exec
    (.counterWrap k) s = .next t ∧ flag t (Reg.evtRaw 0x17) 0 = true ∧ bitOf t.pmc.sticky k.val = true ∧ tabGet (fun _
    => (0 : Nat)) t.pmc.cnt 0 = tabGet (fun _ => (0 : Nat)) s.pmc.cnt 0 ∧ OnlyRegs [Reg.evtRaw 0x16, Reg.evtRaw 0x17]
    s t ∧ t = evented s t) ∧
  (∀ (k : Fin 240), k.val < 224 → tabGet (fun _ => (0 : Nat)) s.pmc.cnt k.val ≠ 2 ^ 48 - 1 → ∃ t, exec (.counterWrap
    k) s = .next t ∧ t = s) ∧
  (∀ (sess : Fin 17) (count : Fin 131072), Accepts s sess.val (Reg.grnClearConfirm) (count.val) → ∃ t, exec (.grnClear
    sess count) s = .next t ∧ flag t (Reg.evtRaw 0x16) 0 = true ∧ t.grn.clears = satAdd 0xFFFFFFFF s.grn.clears 1 ∧
    flag t (Reg.stat 0x16) 2 = true ∧ t = evented (asked s) t) ∧
  (∀ (sess : Fin 17), Accepts s sess.val (Reg.ctrl 0x17) (1) → ∃ t, exec (.pmcSnap sess) s = .next t ∧ (∀ k : Nat, k <
    224 → rd t (Reg.pmcSnapLo k) = (countWords (tabGet (fun _ => (0 : Nat)) s.pmc.cnt k) (bitOf s.pmc.sticky k)).1 % 2
    ^ 32) ∧ wideGet t Reg.pmcSnapGenLo = s.tbu.gen % 2 ^ 64 ∧ rd t Reg.pmcSnapSlot = (2 ^ 31 + s.tbu.slot) % 2 ^ 32 ∧
    t = { asked s with regs := t.regs, wide := t.wide })

/-- Programs and sensors of the management core. A running program that trips its watchdog or faults in memory stops
  with its cause, which is counted and raised; it restarts 100 ms later, and fails at the third stop in 600 s. A
  running program sends and receives datagrams on its ports; beyond its limit they are dropped and counted; a program
  that does not run moves none. A reading stands in its register and shows a sensor without fault; a board temperature
  above its limit raises the condition once; a hold-up ESR above its limit is raised; a sensor that fails its check
  reads 0 and is raised. (spec/20_management_and_update.md (R675), spec/20_management_and_update.md (R676),
  spec/20_management_and_update.md (R677), spec/20_management_and_update.md (R678), spec/20_management_and_update.md
  (R680), spec/20_management_and_update.md (R681), spec/20_management_and_update.md (R682)) -/
def Obligations.ProgramsAndSensors : Prop := ∀ s : State, s.tidy →
  (∀ (p : Fin 4), progState s p.val = 2 → (progStops s p.val).length < 2 → ∃ t, exec (.progWatchdog p) s = .next t ∧
    progState t p.val = 1 ∧ fld t (Reg.mgtProgState p.val) 7 4 = 1 ∧ (prog t p.val).restartAt = some (s.now +
    20000000) ∧ (prog t p.val).stops = s.now :: progStops s p.val ∧ Counted (Reg.mgtCntWdog p.val) s t ∧ flag t
    (Reg.evtRaw 0x18) 0 = true ∧ t = { evented s t with mgt := t.mgt }) ∧
  (∀ (p : Fin 4), progState s p.val = 2 → 2 ≤ (progStops s p.val).length → ∃ t, exec (.progWatchdog p) s = .next t ∧
    progState t p.val = 4 ∧ fld t (Reg.mgtProgState p.val) 7 4 = 1 ∧ (prog t p.val).restartAt = none ∧ Counted
    (Reg.mgtCntWdog p.val) s t ∧ flag t (Reg.evtRaw 0x18) 0 = true ∧ flag t (Reg.evtRaw 0x18) 1 = true ∧ t =
    { evented s t with mgt := t.mgt }) ∧
  (∀ (p : Fin 4), progState s p.val ≠ 2 → ∃ t, exec (.progWatchdog p) s = .next t ∧ t = s) ∧
  (∀ (p : Fin 4), progState s p.val = 2 → ∃ t, exec (.progMemoryFault p) s = .next t ∧ (progState t p.val = if
    (progStops s p.val).length < 2 then 1 else 4) ∧ fld t (Reg.mgtProgState p.val) 7 4 = 2 ∧ Counted
    (Reg.mgtCntMemfault p.val) s t ∧ flag t (Reg.evtRaw 0x18) 0 = true ∧ t = { evented s t with mgt := t.mgt }) ∧
  (∀ (p : Fin 4), progState s p.val ≠ 2 → ∃ t, exec (.progMemoryFault p) s = .next t ∧ t = s) ∧
  (∀ (p : Fin 4) (k : Nat) (u : State), u = advanceTo (k) s → (prog s p.val).restartAt = some k → ∃ t, exec
    (.progRestart p) s = .next t ∧ (prog t p.val).restartAt = none ∧ (prog t p.val).stops = (prog u p.val).stops ∧
    t.now = max s.now k ∧ (progMayRun u p.val = false → progState u p.val ≠ 0 → progState u p.val ≠ 2 → progState t
    p.val = 3) ∧ t = { evented u t with mgt := t.mgt }) ∧
  (∀ (p : Fin 4), (prog s p.val).restartAt = none → ∃ t, exec (.progRestart p) s = .next t ∧ t = s) ∧
  (∀ (p : Fin 4) (tx : Bool) (ip port far : Nat) (bytes : List Nat) (tooMany : Bool), progState s p.val = 2 → 6000 ≤
    port → port ≤ 6063 → bytes.length ≤ 1472 → ∃ t, exec (.progDatagram p tx ip port far bytes tooMany) s = .next t ∧
    (tooMany = true → (prog t p.val).dropped = (prog s p.val).dropped + 1 ∧ t.out = s.out) ∧ (tooMany = false → t =
    { s with out := (if tx then Out.udp 3 ip far bytes else Out.prog p.val ip far bytes) :: s.out }) ∧ t.regs = s.regs
    ∧ t = { s with pmc := t.pmc, mgt := t.mgt, out := t.out }) ∧
  (∀ (p : Fin 4) (tx : Bool) (ip port far : Nat) (bytes : List Nat) (tooMany : Bool), progState s p.val ≠ 2 ∨ port <
    6000 ∨ 6063 < port → ∃ t, exec (.progDatagram p tx ip port far bytes tooMany) s = .next t ∧ t = s) ∧
  (∀ (k : Fin 11) (v : Int) (peak : Nat), k.val < 6 → ∃ t, exec (.sensorLimit k v peak) s = .next t ∧ rd t
    (Reg.mgtTemp k.val) = toSigned 16 v ∧ flag t Reg.mgtSensorFault k.val = false ∧ (sensorLimit t 0 < signedOf 16
    (fld t (Reg.mgtTemp k.val) 15 0) → bitOf t.mgt.cond 0 = true ∧ (bitOf s.mgt.cond 0 = false → flag t (Reg.evtRaw
    0x18) 2 = true)) ∧ OnlyRegs [Reg.mgtTemp k.val, Reg.mgtSensorFault, Reg.evtRaw 0x18, Reg.evtRaw 0x16] s t ∧ t =
    { evented s t with mgt := t.mgt }) ∧
  (∀ (k : Fin 11) (v : Int) (peak : Nat), k.val = 10 → ∃ t, exec (.sensorLimit k v peak) s = .next t ∧ rd t
    Reg.mgtHoldupEsr = v.toNat % 65536 ∧ flag t Reg.mgtSensorFault 8 = false ∧ (fld t Reg.mgtEsrLimit 15 0 < fld t
    Reg.mgtHoldupEsr 15 0 → flag t (Reg.evtRaw 0x18) 5 = true) ∧ t.mgt = s.mgt ∧ OnlyRegs [Reg.mgtHoldupEsr,
    Reg.mgtSensorFault, Reg.evtRaw 0x18, Reg.evtRaw 0x16] s t ∧ t = { evented s t with mgt := t.mgt }) ∧
  (∀ (k : Fin 9), k.val < 6 → ∃ t, exec (.sensorFault k) s = .next t ∧ flag t (Reg.evtRaw 0x18) 6 = true ∧ rd t
    (Reg.mgtTemp k.val) = 0 ∧ flag t Reg.mgtSensorFault k.val = true ∧ OnlyRegs [Reg.mgtTemp k.val,
    Reg.mgtSensorFault, Reg.evtRaw 0x16, Reg.evtRaw 0x18] s t ∧ t = evented s t) ∧
  (∀ (k : Fin 9), k.val = 6 → ∃ t, exec (.sensorFault k) s = .next t ∧ flag t (Reg.evtRaw 0x18) 6 = true ∧ rd t
    Reg.mgtHumidity = 0 ∧ flag t Reg.mgtSensorFault 6 = true ∧ OnlyRegs [Reg.mgtHumidity, Reg.mgtSensorFault,
    Reg.evtRaw 0x16, Reg.evtRaw 0x18] s t ∧ t = evented s t)

/-- Checks, bank writes, preloads and activations of the update path. A check that finds nothing brings CHECKED and
  its event; one that finds a fault reports it and ends the staging. A bank that is written and read back brings
  PROGRAMMED, one that fails ends the staging with a counted failure, and a preload likewise. An activation is
  counted, raised and stamped and ends the path. A newly named program image that fails is left for the other bank.
  (spec/20_management_and_update.md (R686), spec/20_management_and_update.md (R687), spec/20_management_and_update.md
  (R688), spec/20_management_and_update.md (R690), spec/20_management_and_update.md (R691)) -/
def Obligations.UpdatePath : Prop := ∀ s : State, s.tidy →
  (updPhase s = 2 → ∃ t, exec .updCheckDone s = .next t ∧ (stagedCheck s = none → updPhase t = 3 ∧ flag t (Reg.evtRaw
    0x19) 0 = true ∧ t.sheaf = s.sheaf) ∧ (∀ x, stagedCheck s = some x → updPhase t = 0 ∧ rd t Reg.updReject =
    (x.section_ <<< 8 + x.cause) % 2 ^ 32 ∧ flag t (Reg.evtRaw 0x19) 1 = true) ∧ t =
    { evented s t with sheaf := t.sheaf, upd := t.upd }) ∧
  (updPhase s ≠ 2 → ∃ t, exec .updCheckDone s = .next t ∧ t = s) ∧
  (∀ (ok : Bool), updPhase s = 4 → ok = true → ∃ t, exec (.updProgramDone ok) s = .next t ∧ flag t (Reg.evtRaw 0x19) 2
    = true ∧ updPhase t = 5 ∧ (∀ i : Nat, i < 2097152 → bankWord t (targetBank (updTarget s) (updBank s)) i = bankWord
    s 2 i ∨ targetBank (updTarget s) (updBank s) = 2) ∧ t = { evented s t with sheaf := t.sheaf, upd := t.upd }) ∧
  (∀ (ok : Bool), updPhase s = 4 → ok = false → ∃ t, exec (.updProgramDone ok) s = .next t ∧ flag t (Reg.evtRaw 0x19)
    4 = true ∧ updPhase t = 0 ∧ Counted Reg.updCntActFail s t ∧ t.upd = { s.upd with oldNext := none, wrote := false }
    ∧ t = { evented s t with sheaf := t.sheaf, upd := t.upd }) ∧
  (∀ (ok : Bool), updPhase s ≠ 4 → ∃ t, exec (.updProgramDone ok) s = .next t ∧ t = s) ∧
  (∀ (ok : Bool), updPhase s = 6 → ok = true → ∃ t, exec (.preloadDone ok) s = .next t ∧ flag t Reg.updState 4 = true
    ∧ OnlyRegs [Reg.updState] s t ∧ t = { s with regs := t.regs }) ∧
  (∀ (ok : Bool), updPhase s = 6 → ok = false → ∃ t, exec (.preloadDone ok) s = .next t ∧ flag t (Reg.evtRaw 0x19) 4 =
    true ∧ updPhase t = 0 ∧ Counted Reg.updCntActFail s t ∧ t = { evented s t with sheaf := t.sheaf, upd := t.upd }) ∧
  (∀ (ok : Bool), updPhase s ≠ 6 → ∃ t, exec (.preloadDone ok) s = .next t ∧ t = s) ∧
  (updPhase s = 6 → flag s Reg.updState 4 = true → s.tbu.slot = 0 → updAtGen s ≤ s.tbu.gen → ∃ t, exec .sheafActivate
    s = .next t ∧ updPhase t = 0 ∧ flag t (Reg.evtRaw 0x19) 3 = true ∧ t.upd =
    { oldNext := none, wrote := false, actAt := some (s.tbu.gen, updOwner s) } ∧ wideGet t Reg.updActGenLo = s.tbu.gen
    % 2 ^ 64 ∧ (updTarget s ≠ 0 → Counted Reg.updCntActivations s t) ∧ t =
    { evented s t with wide := t.wide, effOld := t.effOld, sheaf := t.sheaf, active := t.active, img := t.img, seq :=
                         t.seq, tbu := t.tbu, red := t.red, dio := t.dio, piu := t.piu, ach := t.ach, cle := t.cle,
                         slv := t.slv, mbc := t.mbc, maps := t.maps, net := t.net, mslMaps := t.mslMaps, mgt := t.mgt,
                         slu := t.slu, upd := t.upd, out := t.out, draws := t.draws }) ∧
  (updPhase s ≠ 6 ∨ flag s Reg.updState 4 = false ∨ s.tbu.slot ≠ 0 ∨ s.tbu.gen < updAtGen s → ∃ t, exec .sheafActivate
    s = .next t ∧ t = s) ∧
  (∀ (p : Fin 4) (load : Bool), (prog s p.val).newImage = true → load = true ∨ (progState s p.val = 4 ∧ ∃ k, (prog s
    p.val).fresh = some k ∧ s.now - k ≤ 12000000000) → ∃ t, exec (.progActivationFail p load) s = .next t ∧ (prog t
    p.val).newImage = false ∧ (prog t p.val).fresh = none ∧ progUse t p.val = 1 - progUse s p.val ∧ Counted
    Reg.updCntActFail s t ∧ flag t (Reg.evtRaw 0x19) 4 = true ∧ t = { evented s t with mgt := t.mgt }) ∧
  (∀ (p : Fin 4) (load : Bool), (prog s p.val).newImage = false → ∃ t, exec (.progActivationFail p load) s = .next t ∧
    t = s)

/-- The segment LCD and the panel. FPD_REFRESH of the LCD starts its 250 ms again, and of a panel region requests it;
  a target beyond the regions does nothing. The frame memory leaves for the LCD. A panel frame takes its temperature
  and the energy estimate, and advances a full clear by one frame. The rails come up one by one, and a rail that
  misses its window powers the panel off, drops the requests and is raised. (spec/21_faceplate_displays.md (R698),
  spec/21_faceplate_displays.md (R699), spec/21_faceplate_displays.md (R705), spec/21_faceplate_displays.md (R707),
  spec/21_faceplate_displays.md (R709)) -/
def Obligations.FaceplateCommands : Prop := ∀ s : State, s.tidy →
  (∀ (pos target : Nat) (u : State), u = atTurn pos s → Due s ⟨0x33, 0x1A, target % 8, 0, 0, 0, 0, pos⟩ → u.seq.held =
    [] → (producers u).length < 32 → target % 8 = 0 → ∃ t, exec (.fpdRefresh pos target) s = .next t ∧ t.fpd.lcdClk =
    u.now ∧ (flag u Reg.fpdLcdCfg 0 = false → rd t (Reg.fpdLcdFrame 0) = fourDigits 1 (fld u Reg.sysStation 10 0) % 2
    ^ 32) ∧ (flag u Reg.fpdLcdCfg 0 = true → t.regs = u.regs) ∧ OnlyRegs [Reg.fpdLcdFrame 0, Reg.fpdLcdFrame 1,
    Reg.fpdLcdFrame 2, Reg.fpdLcdFrame 3] u t ∧ t = { u with regs := t.regs, seq := t.seq, fpd := t.fpd }) ∧
  (∀ (pos target : Nat) (u : State), u = atTurn pos s → Due s ⟨0x33, 0x1A, target % 8, 0, 0, 0, 0, pos⟩ → u.seq.held =
    [] → (producers u).length < 32 → target % 8 ≠ 0 → target % 8 ≤ 4 → u.fpd.railFault = false → (regionRect u (target
    % 8 - 1)).2.2.1 ≠ 0 → (regionRect u (target % 8 - 1)).2.2.2 ≠ 0 → pendOf u (target % 8 - 1) ≠ 2 → ∃ t, exec
    (.fpdRefresh pos target) s = .next t ∧ t.seq.outst = u.seq.outst ∧ (t =
    { u with seq := t.seq, pmc := t.pmc, fpd := { u.fpd with pend := tabSet (fun _ => (0 : Nat)) u.fpd.pend (target %
                                                               8 - 1) (if mayStart u (target % 8 - 1) then 1 else 2) }
               })) ∧
  (∀ (pos target : Nat) (u : State), u = atTurn pos s → Due s ⟨0x33, 0x1A, target % 8, 0, 0, 0, 0, pos⟩ → u.seq.held =
    [] → (producers u).length < 32 → 5 ≤ target % 8 → ∃ t, exec (.fpdRefresh pos target) s = .next t ∧ t.seq.outst =
    u.seq.outst ∧ t = { u with seq := t.seq, pmc := t.pmc }) ∧
  (∀ (u : State), u = advanceTo (s.fpd.lcdClk + 50000000) s → ∃ t, exec .lcdAutoCompose s = .next t ∧ t.now = max
    s.now (s.fpd.lcdClk + 50000000) ∧ t.fpd.lcdClk = t.now ∧ (flag u Reg.fpdLcdCfg 0 = false → rd t (Reg.fpdLcdFrame
    0) = fourDigits 1 (fld u Reg.sysStation 10 0) % 2 ^ 32) ∧ OnlyRegs [Reg.fpdLcdFrame 0, Reg.fpdLcdFrame 1,
    Reg.fpdLcdFrame 2, Reg.fpdLcdFrame 3] u t ∧ t = { u with regs := t.regs, fpd := t.fpd }) ∧
  (∃ t, exec .lcdFrame s = .next t ∧ t = { s with out := .lcd ((List.range 4).foldl (fun m k => m + rd s
                                                    (Reg.fpdLcdFrame k) <<< (32 * k)) 0) :: s.out, pmc := t.pmc }) ∧
  (∀ (temp : Int) (mj : Nat), s.fpd.rail < 5 → ∃ t, exec (.panelFrame temp mj) s = .next t ∧ rd t Reg.fpdPanelTemp =
    toSigned 16 temp ∧ fld t Reg.pwrHoldup 31 16 = min 65535 mj ∧ OnlyRegs [Reg.fpdPanelTemp, Reg.pwrHoldup] s t ∧ t =
    { s with regs := t.regs }) ∧
  (∀ (temp : Int) (mj n : Nat), s.fpd.rail = 5 → s.fpd.clearing = some n → 1 < n → s.fpd.updates = [] → s.fpd.marker =
    0 → s.pwr.phase ≠ .shed → ∃ t, exec (.panelFrame temp mj) s = .next t ∧ t.fpd =
    { s.fpd with clearing := some (n - 1) } ∧ rd t Reg.fpdPanelTemp = toSigned 16 temp ∧ fld t Reg.pwrHoldup 31 16 =
    min 65535 mj ∧ OnlyRegs [Reg.fpdPanelTemp, Reg.pwrHoldup] s t ∧ t = evented s t) ∧
  (1 ≤ s.fpd.rail → s.fpd.rail ≤ 3 → ∃ t, exec .panelRailUp s = .next t ∧ t =
    { s with fpd := { s.fpd with rail := s.fpd.rail + 1 } }) ∧
  (s.fpd.rail = 4 → ∃ t, exec .panelRailUp s = .next t ∧ t = { s with fpd :=
                                                                        { s.fpd with rail := 5, clearing := some
                                                                                       (Config.clearWave (panelBand
                                                                                       s)), band := panelBand s } }) ∧
  (s.fpd.rail = 0 ∨ 4 < s.fpd.rail → ∃ t, exec .panelRailUp s = .next t ∧ t = s) ∧
  (1 ≤ s.fpd.rail → s.fpd.rail ≤ 4 → ∃ t, exec .panelRailFault s = .next t ∧ flag t (Reg.evtRaw 0x1A) 2 = true ∧
    t.fpd.rail = 0 ∧ t.fpd.railFault = true ∧ t.fpd.pend = [] ∧ t.fpd.updates = [] ∧ t.fpd.clearing = none ∧
    t.fpd.clearDue = false ∧ OnlyRegs [Reg.evtRaw 0x16, Reg.evtRaw 0x1A] s t ∧ t = evented s t) ∧
  (s.fpd.rail = 0 ∨ 4 < s.fpd.rail → ∃ t, exec .panelRailFault s = .next t ∧ t = s)

/-- Entries that are not due, or that must wait. An entry command that the schedule in force does not give next
  changes nothing (of ACH_START and ACH_LATCH: on a channel that does not keep converting while nothing is
  dispatched); one that falls due while 32 producer entries are outstanding, or while earlier entries wait, waits
  behind them as the schedule gives it and has no other effect. (spec/01_station_module.md (R37),
  spec/04_sheaf_format.md (R140), spec/05_sequencer_and_process_image.md (R165),
  spec/05_sequencer_and_process_image.md (R173)) -/
def Obligations.EntriesHeldBack : Prop := ∀ s : State, s.tidy →
  (∀ (pos : Nat), ¬ Due s ⟨0x00, 0, 0, 0, 0, 0, 0, pos⟩ → ∃ t, exec (.nop pos) s = .next t ∧ t = s) ∧
  (∀ (pos : Nat) (u : State), u = atTurn pos s → Due s ⟨0x00, 0, 0, 0, 0, 0, 0, pos⟩ → u.seq.held ≠ [] ∨ 32 ≤
    (producers u).length → ∃ t, exec (.nop pos) s = .next t ∧ (∃ io : EntryIo, t.seq.held = u.seq.held ++ [(⟨0x00, 0,
    0, 0, 0, 0, seqSlot s, pos⟩, io)]) ∧ t.seq.outst = u.seq.outst ∧ t = { u with seq := t.seq, pmc := t.pmc }) ∧
  (∀ (pos : Nat) (ch : Fin 32) (window cmd : Nat), ¬ Due s ⟨0x01, 0x20 + ch, window, cmd, 0, 0, 0, pos⟩ → dispatching
    s = true ∨ keepsConverting s ch.val = false → ∃ t, exec (.achStart pos ch window cmd) s = .next t ∧ t = s) ∧
  (∀ (pos : Nat) (ch : Fin 32) (window cmd : Nat) (u : State), u = atTurn pos s → Due s ⟨0x01, 0x20 + ch, window, cmd,
    0, 0, 0, pos⟩ → u.seq.held ≠ [] ∨ 32 ≤ (producers u).length → ∃ t, exec (.achStart pos ch window cmd) s = .next t
    ∧ (∃ io : EntryIo, t.seq.held = u.seq.held ++ [(⟨0x01, 0x20 + ch, window, cmd, 0, 0, seqSlot s, pos⟩, io)]) ∧
    t.seq.outst = u.seq.outst ∧ t = { u with seq := t.seq, pmc := t.pmc }) ∧
  (∀ (pos : Nat) (ch : Fin 32) (dst status : Nat) (meas : AchMeas), ¬ Due s ⟨0x02, 0x20 + ch, 0, dst, status, 0, 0,
    pos⟩ → dispatching s = true ∨ keepsConverting s ch.val = false → ∃ t, exec (.achLatch pos ch dst status meas) s =
    .next t ∧ t = s) ∧
  (∀ (pos : Nat) (ch : Fin 32) (dst status : Nat) (meas : AchMeas) (u : State), u = atTurn pos s → Due s ⟨0x02, 0x20 +
    ch, 0, dst, status, 0, 0, pos⟩ → u.seq.held ≠ [] ∨ 32 ≤ (producers u).length → ∃ t, exec (.achLatch pos ch dst
    status meas) s = .next t ∧ (∃ io : EntryIo, t.seq.held = u.seq.held ++ [(⟨0x02, 0x20 + ch, 0, dst, status, 0,
    seqSlot s, pos⟩, io)]) ∧ t.seq.outst = u.seq.outst ∧ t = { u with seq := t.seq, pmc := t.pmc }) ∧
  (∀ (pos mask0 mask1 dst : Nat), ¬ Due s ⟨0x03, 0x07, 0, mask0, mask1, dst, 0, pos⟩ → ∃ t, exec (.dioSample pos mask0
    mask1 dst) s = .next t ∧ t = s) ∧
  (∀ (pos mask0 mask1 dst : Nat) (u : State), u = atTurn pos s → Due s ⟨0x03, 0x07, 0, mask0, mask1, dst, 0, pos⟩ →
    u.seq.held ≠ [] ∨ 32 ≤ (producers u).length → ∃ t, exec (.dioSample pos mask0 mask1 dst) s = .next t ∧ (∃ io :
    EntryIo, t.seq.held = u.seq.held ++ [(⟨0x03, 0x07, 0, mask0, mask1, dst, seqSlot s, pos⟩, io)]) ∧ t.seq.outst =
    u.seq.outst ∧ t = { u with seq := t.seq, pmc := t.pmc }) ∧
  (∀ (pos len mask0 mask1 src : Nat), ¬ Due s ⟨0x04, 0x07, len, mask0, mask1, src, 0, pos⟩ → ∃ t, exec (.dioDrive pos
    len mask0 mask1 src) s = .next t ∧ t = s) ∧
  (∀ (pos len mask0 mask1 src : Nat) (u : State), u = atTurn pos s → Due s ⟨0x04, 0x07, len, mask0, mask1, src, 0,
    pos⟩ → u.seq.held ≠ [] ∨ 32 ≤ (producers u).length → ∃ t, exec (.dioDrive pos len mask0 mask1 src) s = .next t ∧
    (∃ io : EntryIo, t.seq.held = u.seq.held ++ [(⟨0x04, 0x07, len, mask0, mask1, src, seqSlot s, pos⟩, io)]) ∧
    t.seq.outst = u.seq.outst ∧ t = { u with seq := t.seq, pmc := t.pmc }) ∧
  (∀ (pos input dst : Nat), ¬ Due s ⟨0x05, 0x08, input, dst, 0, 0, 0, pos⟩ → ∃ t, exec (.piuLatch pos input dst) s =
    .next t ∧ t = s) ∧
  (∀ (pos input dst : Nat) (u : State), u = atTurn pos s → Due s ⟨0x05, 0x08, input, dst, 0, 0, 0, pos⟩ → u.seq.held ≠
    [] ∨ 32 ≤ (producers u).length → ∃ t, exec (.piuLatch pos input dst) s = .next t ∧ (∃ io : EntryIo, t.seq.held =
    u.seq.held ++ [(⟨0x05, 0x08, input, dst, 0, 0, seqSlot s, pos⟩, io)]) ∧ t.seq.outst = u.seq.outst ∧ t =
    { u with seq := t.seq, pmc := t.pmc }) ∧
  (∀ (pos mask dst : Nat), ¬ Due s ⟨0x06, 0x09, mask, dst, 0, 0, 0, pos⟩ → ∃ t, exec (.gmuSnap pos mask dst) s = .next
    t ∧ t = s) ∧
  (∀ (pos mask dst : Nat) (u : State), u = atTurn pos s → Due s ⟨0x06, 0x09, mask, dst, 0, 0, 0, pos⟩ → u.seq.held ≠
    [] ∨ 32 ≤ (producers u).length → ∃ t, exec (.gmuSnap pos mask dst) s = .next t ∧ (∃ io : EntryIo, t.seq.held =
    u.seq.held ++ [(⟨0x06, 0x09, mask, dst, 0, 0, seqSlot s, pos⟩, io)]) ∧ t.seq.outst = u.seq.outst ∧ t =
    { u with seq := t.seq, pmc := t.pmc }) ∧
  (∀ (pos set req status : Nat), ¬ Due s ⟨0x07, 0x0A, set, req, status, 0, 0, pos⟩ → ∃ t, exec (.synArm pos set req
    status) s = .next t ∧ t = s) ∧
  (∀ (pos set req status : Nat) (u : State), u = atTurn pos s → Due s ⟨0x07, 0x0A, set, req, status, 0, 0, pos⟩ →
    u.seq.held ≠ [] ∨ 32 ≤ (producers u).length → ∃ t, exec (.synArm pos set req status) s = .next t ∧ (∃ io :
    EntryIo, t.seq.held = u.seq.held ++ [(⟨0x07, 0x0A, set, req, status, 0, seqSlot s, pos⟩, io)]) ∧ t.seq.outst =
    u.seq.outst ∧ t = { u with seq := t.seq, pmc := t.pmc }) ∧
  (∀ (pos count src dst : Nat) (hits : List EccHit), ¬ Due s ⟨0x10, 0x05, count, src, dst, 0, 0, pos⟩ → ∃ t, exec
    (.imgCopy pos count src dst hits) s = .next t ∧ t = s) ∧
  (∀ (pos count src dst : Nat) (hits : List EccHit) (u : State), u = atTurn pos s → Due s ⟨0x10, 0x05, count, src,
    dst, 0, 0, pos⟩ → u.seq.held ≠ [] ∨ 32 ≤ (producers u).length → ∃ t, exec (.imgCopy pos count src dst hits) s =
    .next t ∧ (∃ io : EntryIo, t.seq.held = u.seq.held ++ [(⟨0x10, 0x05, count, src, dst, 0, seqSlot s, pos⟩, io)]) ∧
    t.seq.outst = u.seq.outst ∧ t = { u with seq := t.seq, pmc := t.pmc }) ∧
  (∀ (pos first count : Nat), ¬ Due s ⟨0x11, 0x0B, first, count, 0, 0, 0, pos⟩ → ∃ t, exec (.cleRun pos first count) s
    = .next t ∧ t = s) ∧
  (∀ (pos first count : Nat) (u : State), u = atTurn pos s → Due s ⟨0x11, 0x0B, first, count, 0, 0, 0, pos⟩ →
    u.seq.held ≠ [] ∨ 32 ≤ (producers u).length → ∃ t, exec (.cleRun pos first count) s = .next t ∧ (∃ io : EntryIo,
    t.seq.held = u.seq.held ++ [(⟨0x11, 0x0B, first, count, 0, 0, seqSlot s, pos⟩, io)]) ∧ t.seq.outst = u.seq.outst ∧
    t = { u with seq := t.seq, pmc := t.pmc }) ∧
  (∀ (pos slot d : Nat), ¬ Due s ⟨0x12, 0x0C, slot, d, 0, 0, 0, pos⟩ → ∃ t, exec (.slvStart pos slot d) s = .next t ∧
    t = s) ∧
  (∀ (pos slot d : Nat) (u : State), u = atTurn pos s → Due s ⟨0x12, 0x0C, slot, d, 0, 0, 0, pos⟩ → u.seq.held ≠ [] ∨
    32 ≤ (producers u).length → ∃ t, exec (.slvStart pos slot d) s = .next t ∧ (∃ io : EntryIo, t.seq.held =
    u.seq.held ++ [(⟨0x12, 0x0C, slot, d, 0, 0, seqSlot s, pos⟩, io)]) ∧ t.seq.outst = u.seq.outst ∧ t =
    { u with seq := t.seq, pmc := t.pmc }) ∧
  (∀ (pos slot iters : Nat), ¬ Due s ⟨0x13, 0x0C, slot, 0, 0, 0, 0, pos⟩ → ∃ t, exec (.slvDeadline pos slot iters) s =
    .next t ∧ t = s) ∧
  (∀ (pos slot iters : Nat) (u : State), u = atTurn pos s → Due s ⟨0x13, 0x0C, slot, 0, 0, 0, 0, pos⟩ → u.seq.held ≠
    [] ∨ 32 ≤ (producers u).length → ∃ t, exec (.slvDeadline pos slot iters) s = .next t ∧ (∃ io : EntryIo, t.seq.held
    = u.seq.held ++ [(⟨0x13, 0x0C, slot, 0, 0, 0, seqSlot s, pos⟩, io)]) ∧ t.seq.outst = u.seq.outst ∧ t =
    { u with seq := t.seq, pmc := t.pmc }) ∧
  (∀ (pos slot : Nat), ¬ Due s ⟨0x14, 0x0C, slot, 0, 0, 0, 0, pos⟩ → ∃ t, exec (.slvCollect pos slot) s = .next t ∧ t
    = s) ∧
  (∀ (pos slot : Nat) (u : State), u = atTurn pos s → Due s ⟨0x14, 0x0C, slot, 0, 0, 0, 0, pos⟩ → u.seq.held ≠ [] ∨ 32
    ≤ (producers u).length → ∃ t, exec (.slvCollect pos slot) s = .next t ∧ (∃ io : EntryIo, t.seq.held = u.seq.held
    ++ [(⟨0x14, 0x0C, slot, 0, 0, 0, seqSlot s, pos⟩, io)]) ∧ t.seq.outst = u.seq.outst ∧ t =
    { u with seq := t.seq, pmc := t.pmc }) ∧
  (∀ (pos : Nat) (n : Fin 4) (d : Nat), ¬ Due s ⟨0x20, 0x0E + n, d, 0, 0, 0, 0, pos⟩ → ∃ t, exec (.mbcSend pos n d) s
    = .next t ∧ t = s) ∧
  (∀ (pos : Nat) (n : Fin 4) (d : Nat) (u : State), u = atTurn pos s → Due s ⟨0x20, 0x0E + n, d, 0, 0, 0, 0, pos⟩ →
    u.seq.held ≠ [] ∨ 32 ≤ (producers u).length → ∃ t, exec (.mbcSend pos n d) s = .next t ∧ (∃ io : EntryIo,
    t.seq.held = u.seq.held ++ [(⟨0x20, 0x0E + n, d, 0, 0, 0, seqSlot s, pos⟩, io)]) ∧ t.seq.outst = u.seq.outst ∧ t =
    { u with seq := t.seq, pmc := t.pmc }) ∧
  (∀ (pos : Nat) (n : Fin 4) (first count : Nat), ¬ Due s ⟨0x21, 0x0E + n, 0, first, count, 0, 0, pos⟩ → ∃ t, exec
    (.mbcMap pos n first count) s = .next t ∧ t = s) ∧
  (∀ (pos : Nat) (n : Fin 4) (first count : Nat) (u : State), u = atTurn pos s → Due s ⟨0x21, 0x0E + n, 0, first,
    count, 0, 0, pos⟩ → u.seq.held ≠ [] ∨ 32 ≤ (producers u).length → ∃ t, exec (.mbcMap pos n first count) s = .next
    t ∧ (∃ io : EntryIo, t.seq.held = u.seq.held ++ [(⟨0x21, 0x0E + n, 0, first, count, 0, seqSlot s, pos⟩, io)]) ∧
    t.seq.outst = u.seq.outst ∧ t = { u with seq := t.seq, pmc := t.pmc }) ∧
  (∀ (pos : Nat) (n : Fin 2) (first count : Nat), ¬ Due s ⟨0x22, 0x12, n, first, count, 0, 0, pos⟩ → ∃ t, exec
    (.mslMap pos n first count) s = .next t ∧ t = s) ∧
  (∀ (pos : Nat) (n : Fin 2) (first count : Nat) (u : State), u = atTurn pos s → Due s ⟨0x22, 0x12, n, first, count,
    0, 0, pos⟩ → u.seq.held ≠ [] ∨ 32 ≤ (producers u).length → ∃ t, exec (.mslMap pos n first count) s = .next t ∧ (∃
    io : EntryIo, t.seq.held = u.seq.held ++ [(⟨0x22, 0x12, n, first, count, 0, seqSlot s, pos⟩, io)]) ∧ t.seq.outst =
    u.seq.outst ∧ t = { u with seq := t.seq, pmc := t.pmc }) ∧
  (∀ (pos k : Nat), ¬ Due s ⟨0x23, 0x13, k, 0, 0, 0, 0, pos⟩ → ∃ t, exec (.netPublish pos k) s = .next t ∧ t = s) ∧
  (∀ (pos k : Nat) (u : State), u = atTurn pos s → Due s ⟨0x23, 0x13, k, 0, 0, 0, 0, pos⟩ → u.seq.held ≠ [] ∨ 32 ≤
    (producers u).length → ∃ t, exec (.netPublish pos k) s = .next t ∧ (∃ io : EntryIo, t.seq.held = u.seq.held ++
    [(⟨0x23, 0x13, k, 0, 0, 0, seqSlot s, pos⟩, io)]) ∧ t.seq.outst = u.seq.outst ∧ t =
    { u with seq := t.seq, pmc := t.pmc }) ∧
  (∀ (pos k : Nat), ¬ Due s ⟨0x24, 0x13, k, 0, 0, 0, 0, pos⟩ → ∃ t, exec (.netAccept pos k) s = .next t ∧ t = s) ∧
  (∀ (pos k : Nat) (u : State), u = atTurn pos s → Due s ⟨0x24, 0x13, k, 0, 0, 0, 0, pos⟩ → u.seq.held ≠ [] ∨ 32 ≤
    (producers u).length → ∃ t, exec (.netAccept pos k) s = .next t ∧ (∃ io : EntryIo, t.seq.held = u.seq.held ++
    [(⟨0x24, 0x13, k, 0, 0, 0, seqSlot s, pos⟩, io)]) ∧ t.seq.outst = u.seq.outst ∧ t =
    { u with seq := t.seq, pmc := t.pmc }) ∧
  (∀ (pos dst : Nat), ¬ Due s ⟨0x30, 0x0D, 0, dst, 0, 0, 0, pos⟩ → ∃ t, exec (.safExport pos dst) s = .next t ∧ t = s) ∧
  (∀ (pos dst : Nat) (u : State), u = atTurn pos s → Due s ⟨0x30, 0x0D, 0, dst, 0, 0, 0, pos⟩ → u.seq.held ≠ [] ∨ 32 ≤
    (producers u).length → ∃ t, exec (.safExport pos dst) s = .next t ∧ (∃ io : EntryIo, t.seq.held = u.seq.held ++
    [(⟨0x30, 0x0D, 0, dst, 0, 0, seqSlot s, pos⟩, io)]) ∧ t.seq.outst = u.seq.outst ∧ t =
    { u with seq := t.seq, pmc := t.pmc }) ∧
  (∀ (pos : Nat), ¬ Due s ⟨0x31, 0x15, 0, 0, 0, 0, 0, pos⟩ → ∃ t, exec (.sluCopy pos) s = .next t ∧ t = s) ∧
  (∀ (pos : Nat) (u : State), u = atTurn pos s → Due s ⟨0x31, 0x15, 0, 0, 0, 0, 0, pos⟩ → u.seq.held ≠ [] ∨ 32 ≤
    (producers u).length → ∃ t, exec (.sluCopy pos) s = .next t ∧ (∃ io : EntryIo, t.seq.held = u.seq.held ++ [(⟨0x31,
    0x15, 0, 0, 0, 0, seqSlot s, pos⟩, io)]) ∧ t.seq.outst = u.seq.outst ∧ t = { u with seq := t.seq, pmc := t.pmc }) ∧
  (∀ (pos first count : Nat), ¬ Due s ⟨0x32, 0x16, first, count, 0, 0, 0, pos⟩ → ∃ t, exec (.grnTick pos first count)
    s = .next t ∧ t = s) ∧
  (∀ (pos first count : Nat) (u : State), u = atTurn pos s → Due s ⟨0x32, 0x16, first, count, 0, 0, 0, pos⟩ →
    u.seq.held ≠ [] ∨ 32 ≤ (producers u).length → ∃ t, exec (.grnTick pos first count) s = .next t ∧ (∃ io : EntryIo,
    t.seq.held = u.seq.held ++ [(⟨0x32, 0x16, first, count, 0, 0, seqSlot s, pos⟩, io)]) ∧ t.seq.outst = u.seq.outst ∧
    t = { u with seq := t.seq, pmc := t.pmc }) ∧
  (∀ (pos target : Nat), ¬ Due s ⟨0x33, 0x1A, target % 8, 0, 0, 0, 0, pos⟩ → ∃ t, exec (.fpdRefresh pos target) s =
    .next t ∧ t = s) ∧
  (∀ (pos target : Nat) (u : State), u = atTurn pos s → Due s ⟨0x33, 0x1A, target % 8, 0, 0, 0, 0, pos⟩ → u.seq.held ≠
    [] ∨ 32 ≤ (producers u).length → ∃ t, exec (.fpdRefresh pos target) s = .next t ∧ (∃ io : EntryIo, t.seq.held =
    u.seq.held ++ [(⟨0x33, 0x1A, target % 8, 0, 0, 0, seqSlot s, pos⟩, io)]) ∧ t.seq.outst = u.seq.outst ∧ t =
    { u with seq := t.seq, pmc := t.pmc }) ∧
  (∀ (pos k : Nat), ¬ Due s ⟨0x34, 0x17, k, 0, 0, 0, 0, pos⟩ → ∃ t, exec (.pmcMark pos k) s = .next t ∧ t = s) ∧
  (∀ (pos k : Nat) (u : State), u = atTurn pos s → Due s ⟨0x34, 0x17, k, 0, 0, 0, 0, pos⟩ → u.seq.held ≠ [] ∨ 32 ≤
    (producers u).length → ∃ t, exec (.pmcMark pos k) s = .next t ∧ (∃ io : EntryIo, t.seq.held = u.seq.held ++
    [(⟨0x34, 0x17, k, 0, 0, 0, seqSlot s, pos⟩, io)]) ∧ t.seq.outst = u.seq.outst ∧ t =
    { u with seq := t.seq, pmc := t.pmc })

/-- Reserved pages and offsets. A register of pages 0x1B to 0x1F reads as 0, and a write to it by an open session of a
  module that is not listening changes no register but the count of SYS.WRITE_REJ and its event. A reserved offset of
  an implemented page reads as 0, and a write to it is rejected with cause RESERVED, counted by its page; a reserved
  page reads as 0 and its writes are counted by the SYS page. (R34, R49) -/
def Obligations.ReservedRegisters : Prop := ∀ s : State, s.tidy →
  (∀ (sess : Fin 17) (page : Fin 64) (word : Fin 1024) (v : Word), sessOpen s sess.val = true → listening s = false →
    0x1B ≤ page.val → page.val ≤ 0x1F → ∃ t, exec (.registerWrite sess page word v) s = .next t ∧ readWord s (regAddr
    page.val (4 * word.val)) = 0 ∧ fld t (Reg.writeRej 0) 19 0 = satAdd 0xFFFFF (fld s (Reg.writeRej 0) 19 0) 1 ∧ fld
    t (Reg.writeRej 0) 31 28 = 6 ∧ flag t (Reg.evtRaw 0x00) 15 = true ∧ OnlyRegs [Reg.writeRej 0, Reg.evtRaw 0x00,
    Reg.evtRaw 0x16] s t ∧ t = evented s t) ∧
  (∀ (sess : Fin 17) (page : Fin 64) (word : Fin 1024) (v : Word), sessOpen s sess.val = true → listening s = false →
    (blockOf page.val).isSome = true → findRow page.val (4 * word.val) = none → ∃ t, exec (.registerWrite sess page
    word v) s = .next t ∧ readWord s (regAddr page.val (4 * word.val)) = 0 ∧ fld t (Reg.writeRej page.val) 19 0 =
    satAdd 0xFFFFF (fld s (Reg.writeRej page.val) 19 0) 1 ∧ fld t (Reg.writeRej page.val) 31 28 = 6 ∧ flag t
    (Reg.evtRaw page.val) 15 = true ∧ OnlyRegs [Reg.writeRej page.val, Reg.evtRaw page.val, Reg.evtRaw 0x16] s t ∧ t =
    evented s t)

/-- A host write to an image word of another producer. A host write through the image window to a word whose producer
  is not the host leaves the image as it is, counts in IMG.WRITE_REJ and raises the event of the IMG page. (R31) -/
def Obligations.NonHostWordsIgnoreHosts : Prop := ∀ s : State, s.tidy →
  (∀ (sess : Fin 17) (w : Fin 262144) (v : Word), sessOpen s sess.val = true → listening s = false → operatorRole s
    w.val = none → ∃ t, exec (.operatorWordWrite sess w v) s = .next t ∧ t.img = s.img ∧ fld t (Reg.writeRej 5) 19 0 =
    satAdd 0xFFFFF (fld s (Reg.writeRej 5) 19 0) 1 ∧ flag t (Reg.evtRaw 5) 15 = true ∧ OnlyRegs [Reg.writeRej 5,
    Reg.evtRaw 5, Reg.evtRaw 0x16] s t ∧ t = evented s t)

/-- What a MODIFY computes. An accepted MODIFY of a readable plain register computes (old and not mask) or (value and
  mask) in one step; on a W1C register of event bits a bit clears only where both the mask bit and the value bit are
  1, but for occurrences of this very clock. (R53) -/
def Obligations.ModifyComputes : Prop := ∀ s : State, s.tidy →
  (∀ (m : QapMsg) (w : ReqWord), Asks s 5 m → reqCount m ≤ 256 → m.body.length = 8 + 8 * reqCount m → mapped (reqAddr
    m) (reqCount m) = true → standbyRefuses (taken s m) (modifyReqs m) = false → wordFails (taken s m) m.slot
    (modifyReqs m) = [] → modifyReqs m = [w] → mapRow w.a = some 0 → isOrder w.a = false → accOf w.a ≠ some .w1c →
    accOf w.a ≠ some .wo → ∃ t, exec (.qapModify m) s = .next t ∧ rd t w.a = ((readWord (taken s m) w.a &&& (w.m ^^^
    0xFFFFFFFF)) ||| (w.v &&& w.m)) % 2 ^ 32 ∧ (blockOf (pageOf w.a) ≠ some .dio → OnlyRegs [w.a] s t)) ∧
  (∀ (m : QapMsg) (w : ReqWord) (p : Nat), Asks s 5 m → reqCount m ≤ 256 → m.body.length = 8 + 8 * reqCount m → mapped
    (reqAddr m) (reqCount m) = true → standbyRefuses (taken s m) (modifyReqs m) = false → wordFails (taken s m) m.slot
    (modifyReqs m) = [] → modifyReqs m = [w] → mapRow w.a = some 0 → p < 64 → w.a = Reg.evtRaw p → ∀ b : Nat, b < 16 →
    tabGet (fun _ => (0 : Nat)) s.evtClk (16 * p + b) ≤ 2 * s.now + 1 → ∃ t, exec (.qapModify m) s = .next t ∧ (∀ b :
    Nat, b < 16 → flag t (Reg.evtRaw p) b = (flag s (Reg.evtRaw p) b && !(bitOf w.m b && bitOf w.v b))))

/-- The codes of the quality tags. Every tag has the code of the table; a reserved code received from a peer or a host
  counts as BAD, and no tag that the module holds has a reserved code. (R19, R20) -/
def Obligations.TagCodes : Prop :=
  (tagCode .good = 0x0 ∧ tagCode .held = 0x1 ∧ tagCode .subst = 0x2 ∧ tagCode .degraded = 0x3 ∧ tagCode .limited = 0x4 ∧
    tagCode .init = 0x5 ∧ tagCode .bad = 0xF) ∧
  (∀ g : Tag, ¬ (6 ≤ tagCode g ∧ tagCode g ≤ 14)) ∧ (∀ g : Tag, tagOf (tagCode g) = g) ∧
  (∀ c : Nat, 6 ≤ c → c ≤ 14 → tagOf c = .bad)

/-- A step runs the command at the front of the queue. A step of a state whose queue begins with a command is exec of
  that command on the state with the rest of the queue (the queue is the model's, log entry 1). (spec/00_scope.md,
  spec/95_what_each_step_holds.md) -/
def Obligations.StepRunsFrontCommand : Prop :=
  ∀ (c : Instr) (r : List Instr) (s : State), s.pending = c :: r → step s = exec c { s with pending := r }

/-- A step with an empty queue. A step with an empty queue passes one control clock: only what the passage of clocks
  may change does, and the queue stays empty; without an entry or a publication in progress nothing but the clock
  changes, and what notifications, snapshot captures and counters change (the model's choice, log entry 2).
  (spec/00_scope.md, spec/05_sequencer_and_process_image.md (R165)) -/
def Obligations.IdleStepPassesOneClock : Prop :=
  ∀ s : State, s.tidy → s.pending = [] →
    ∃ t, step s = .next t ∧ t.now = s.now + 1 ∧ t.pending = [] ∧ t = lapsed s t ∧
      (s.seq.outst = [] → s.net.pubs = [] → s.img.upsets = [] → t = { evented s t with now := s.now + 1, out := t.out })

/-- Every command answers a next state and leaves the queue. Every command answers a next state in every state and
  leaves the queue of waiting commands as it is; so every step answers a next state whose queue has lost exactly its
  front. (spec/00_scope.md, spec/95_what_each_step_holds.md) -/
def Obligations.EveryCommandAnswers : Prop :=
  (∀ (i : Instr) (s : State), ∃ t, exec i s = .next t ∧ t.pending = s.pending) ∧
    (∀ s : State, ∃ t, step s = .next t ∧ t.pending = s.pending.tail)

/-- Every step keeps the canonical form of everything stored by address. Whatever command stands at the front, a step
  leaves registers, 64-bit pairs, values in force, overlay, Sheaf banks, image, sessions and the states of every unit
  stored by number in their one canonical form, so that equal contents stay equal data. (spec/02_register_pages.md
  (R47), spec/05_sequencer_and_process_image.md (R179), spec/04_sheaf_format.md (R117)) -/
def Obligations.CanonicalFormIsKept : Prop :=
  ∀ s t : State, s.tidy → step s = .next t → t.tidy

/-- The state after power-on reset. At reset the queue is empty, everything is in canonical form, every implemented
  page shows its PAGE_ID and version with no event raised or enabled and no lock, the module is in role RESET without
  a Sheaf in force, and only the keep-alive domain runs. (spec/02_register_pages.md (R62), spec/01_station_module.md
  (R40), spec/18_power_start_up_and_reset.md (R625)) -/
def Obligations.ResetState : Prop :=
  State.reset.tidy ∧ State.reset.pending = [] ∧ State.reset.active = none ∧ State.reset.pwr.phase = .keepAlive ∧
    role State.reset = roleReset ∧ State.reset.img.words = [] ∧ State.reset.seq.sched = 0 ∧ State.reset.saf.unit = 0 ∧
    ∀ p : Nat, p < 64 → (blockOf p).isSome = true →
      rd State.reset (regAddr p 0x000) = pageId p ∧ rd State.reset (regAddr p 0x004) = 0x100 ∧ rd State.reset (Reg.evtRaw p) = 0 ∧
        rd State.reset (Reg.evtEn p) = 0 ∧ rd State.reset (Reg.lock p) = 0 ∧ rd State.reset (Reg.writeRej p) = 0

/-- A demand stays latched through every command of the safety unit. In a unit that is LIVE, in FAULT_WAIT or in
  FAULT, if the latch of every enabled group with a demand is set before a command of the safety unit, it is set after
  it, whatever inputs, resets, tests, faults or records the command brings; so no safety output that names such a
  group is on. (spec/13_safety_unit.md (R450), spec/13_safety_unit.md (R451), spec/13_safety_unit.md (R452),
  spec/13_safety_unit.md (R458)) -/
def Obligations.SafetyDemandsLatch : Prop :=
  ∀ (i : Instr) (s t : State), s.tidy →
    (2 ≤ s.saf.unit → ∀ g : Nat, g < 8 → grpOn s g = true → grpDemand s g = true → bitOf s.saf.latch g = true) →
    ((∃ n run clk mid, i = .safetyInputChange n run clk mid) ∨ (∃ k, i = .discrepancy k) ∨ (∃ src on, i = .safetyTestSourcePulse src on) ∨
      (∃ n clk, i = .resetPressRelease n clk) ∨ (∃ n, i = .resetStuck n) ∨ (∃ n, i = .resetStuckClear n) ∨
      (∃ a b, i = .channelCompare a b) ∨ i = .faultWaitExpire ∨ (∃ o c, i = .soPulseTest o c) ∨
      (∃ n ma, i = .brakeReleaseTimeout n ma) ∨ (∃ n ma f, i = .brakeApplyTimeout n ma f) ∨ (∃ n ma, i = .coilCurrentLost n ma) ∨
      (∃ n, i = .btDue n) ∨ (∃ n, i = .btConfirmTimeout n) ∨ (∃ n, i = .btTimeEnd n) ∨ (∃ pi a, i = .safetyPiEdge pi a) ∨
      i = .safetyRecordPeriodic ∨ (∃ b, i = .safetyRecordReceived b) ∨ i = .storeStale ∨ i = .safetyTakeover ∨
      i = .safetyHandover ∨ i = .safetySupplyBrownOut ∨ (∃ p fs a b c d, i = .safetySelfTestDone p fs a b c d)) →
    exec i s = .next t →
    2 ≤ t.saf.unit → ∀ g : Nat, g < 8 → grpOn t g = true → grpDemand t g = true →
      bitOf t.saf.latch g = true ∧ ∀ o : Nat, o < 6 → bitOf (fld t (Reg.safOutCfg o) 15 8) g = true → soOn t o = false
end

