-- ==== Sys2Proof/Laws/Table.lean ====
section
/-! SUPPORT. The laws of the sparse tables: a write keeps the canonical form, a read after a write to the same key gives what
was written, a write leaves every other key alone, and two canonical tables that read alike are equal. -/

namespace Sys2Proof.Machine

variable {α : Type}

theorem tabAbove_mono {b c : Nat} (h : b ≤ c) : ∀ {t : Tab α}, tabAbove c t = true → tabAbove b t = true
  | [], _ => rfl
  | (j, _) :: _, ht => by
    simp only [tabAbove, decide_eq_true_eq] at ht ⊢
    omega

theorem tabWf_cons [DecidableEq α] (d : Nat → α) (j : Nat) (v : α) (t : Tab α) :
    tabWf d ((j, v) :: t) = true ↔ v ≠ d j ∧ tabAbove j t = true ∧ tabWf d t = true := by
  simp [tabWf, and_assoc]

theorem tabAbove_tail [DecidableEq α] {d : Nat → α} {b : Nat} {e : Nat × α} {t : Tab α}
    (hw : tabWf d (e :: t) = true) (ha : tabAbove b (e :: t) = true) : tabAbove b t = true := by
  obtain ⟨j, v⟩ := e
  have h := (tabWf_cons d j v t).1 hw
  simp only [tabAbove, decide_eq_true_eq] at ha
  exact tabAbove_mono (Nat.le_of_lt ha) h.2.1

/-- A key below every key of the table reads as unlisted. -/
theorem tabGet_above [DecidableEq α] (d : Nat → α) {b k : Nat} (hk : k ≤ b) : ∀ {t : Tab α}, tabAbove b t = true → tabGet d t k = d k
  | [], _ => rfl
  | (j, _) :: _, ht => by
    simp only [tabAbove, decide_eq_true_eq] at ht
    have h1 : ¬ j = k := by omega
    have h2 : k < j := by omega
    simp [tabGet, h1, h2]

theorem tabAbove_set [DecidableEq α] {d : Nat → α} {b k : Nat} {v : α} (hk : b < k) :
    ∀ {t : Tab α}, tabWf d t = true → tabAbove b t = true → tabAbove b (tabSet d t k v) = true
  | [], _, _ => by
    simp only [tabSet]
    split <;> simp [tabAbove, hk]
  | (j, w) :: t, hw, ha => by
    have ha' := tabAbove_tail hw ha
    simp only [tabSet]
    split
    · split
      · exact ha'
      · simp [tabAbove, hk]
    · split
      · split
        · exact ha
        · simp [tabAbove, hk]
      · exact ha

/-- A write keeps the canonical form. -/
@[simp] theorem tabSet_wf [DecidableEq α] {d : Nat → α} {k : Nat} {v : α} :
    ∀ {t : Tab α}, tabWf d t = true → tabWf d (tabSet d t k v) = true
  | [], _ => by
    simp only [tabSet]
    split
    · rfl
    · next h => simp [tabWf, tabAbove, h]
  | (j, w) :: t, hw => by
    have h := (tabWf_cons d j w t).1 hw
    simp only [tabSet]
    split
    · next he =>
      split
      · exact h.2.2
      · next hv => exact (tabWf_cons d k v t).2 ⟨hv, he ▸ h.2.1, h.2.2⟩
    · split
      · split
        · exact hw
        · next hk hv => exact (tabWf_cons d k v _).2 ⟨hv, by simp [tabAbove, hk], hw⟩
      · next h1 h2 =>
        exact (tabWf_cons d j w _).2 ⟨h.1, tabAbove_set (by omega) h.2.2 h.2.1, tabSet_wf h.2.2⟩

theorem tabAbove_filter [DecidableEq α] {d : Nat → α} {b : Nat} (p : Nat × α → Bool) :
    ∀ {t : Tab α}, tabWf d t = true → tabAbove b t = true → tabAbove b (t.filter p) = true
  | [], _, _ => rfl
  | (j, w) :: t, hw, ha => by
    simp only [List.filter]
    split
    · exact ha
    · exact tabAbove_filter p ((tabWf_cons d j w t).1 hw).2.2 (tabAbove_tail hw ha)

/-- Dropping entries keeps the canonical form. -/
theorem filter_wf [DecidableEq α] {d : Nat → α} (p : Nat × α → Bool) :
    ∀ {t : Tab α}, tabWf d t = true → tabWf d (t.filter p) = true
  | [], _ => rfl
  | (j, w) :: t, hw => by
    have h := (tabWf_cons d j w t).1 hw
    simp only [List.filter]
    split
    · exact (tabWf_cons d j w _).2 ⟨h.1, tabAbove_filter p h.2.2 h.2.1, filter_wf p h.2.2⟩
    · exact filter_wf p h.2.2

theorem tabKeep_wf [DecidableEq α] {d : Nat → α} (p : Nat → Bool) {t : Tab α} (h : tabWf d t = true) :
    tabWf d (tabKeep p t) = true := filter_wf _ h

/-- A write gives the key the value written. -/
theorem tabGet_set_self [DecidableEq α] (d : Nat → α) (k : Nat) (v : α) :
    ∀ {t : Tab α}, tabWf d t = true → tabGet d (tabSet d t k v) k = v
  | [], _ => by
    simp only [tabSet]
    split
    · next h => simp [tabGet, h]
    · simp [tabGet]
  | (j, w) :: t, hw => by
    have h := (tabWf_cons d j w t).1 hw
    simp only [tabSet]
    split
    · next he =>
      split
      · next hv => rw [tabGet_above d (Nat.le_of_eq he.symm) h.2.1, hv]
      · simp [tabGet]
    · split
      · split
        · next h1 h2 hv => simp [tabGet, h1, h2, hv]
        · simp [tabGet]
      · next h1 h2 =>
        simp only [tabGet, h1, h2, if_false]
        exact tabGet_set_self d k v h.2.2

/-- A write leaves every other key alone. -/
theorem tabGet_set_ne [DecidableEq α] (d : Nat → α) {k m : Nat} (v : α) (hm : m ≠ k) :
    ∀ {t : Tab α}, tabWf d t = true → tabGet d (tabSet d t k v) m = tabGet d t m
  | [], _ => by
    simp only [tabSet]
    split
    · rfl
    · simp only [tabGet]
      rw [if_neg (Ne.symm hm)]
      split <;> rfl
  | (j, w) :: t, hw => by
    have h := (tabWf_cons d j w t).1 hw
    simp only [tabSet]
    split
    · next he =>
      split
      · by_cases hlt : m < j
        · simp only [tabGet]
          rw [if_neg (by omega), if_pos hlt, tabGet_above d (Nat.le_of_lt hlt) h.2.1]
        · simp only [tabGet]
          rw [if_neg (by omega), if_neg hlt]
      · subst he
        simp [tabGet, Ne.symm hm]
    · split
      · split
        · rfl
        · next h1 h2 _ =>
          simp only [tabGet]
          rw [if_neg (Ne.symm hm)]
          by_cases hlt : m < k
          · rw [if_pos hlt, if_neg (by omega), if_pos (by omega)]
          · rw [if_neg hlt]
      · simp only [tabGet]
        split
        · rfl
        · split
          · rfl
          · exact tabGet_set_ne d v hm h.2.2

/-- What a write leaves at every key. -/
theorem tabGet_set [DecidableEq α] (d : Nat → α) (k m : Nat) (v : α) {t : Tab α} (hw : tabWf d t = true) :
    tabGet d (tabSet d t k v) m = if m = k then v else tabGet d t m := by
  split
  · next h => rw [h]; exact tabGet_set_self d k v hw
  · next h => exact tabGet_set_ne d v h hw

/-- Two canonical tables that read alike at every key are equal. -/
theorem tab_ext [DecidableEq α] (d : Nat → α) : ∀ {t u : Tab α}, tabWf d t = true → tabWf d u = true →
    (∀ k, tabGet d t k = tabGet d u k) → t = u
  | [], [], _, _, _ => rfl
  | [], (j, v) :: u, _, hu, h => by
    have := h j
    simp only [tabGet, if_true] at this
    exact absurd this.symm ((tabWf_cons d j v u).1 hu).1
  | (j, v) :: t, [], ht, _, h => by
    have := h j
    simp only [tabGet, if_true] at this
    exact absurd this ((tabWf_cons d j v t).1 ht).1
  | (j, v) :: t, (i, w) :: u, ht, hu, h => by
    have ht' := (tabWf_cons d j v t).1 ht
    have hu' := (tabWf_cons d i w u).1 hu
    have hji : j = i := by
      rcases Nat.lt_trichotomy j i with hlt | he | hgt
      · have := h j
        simp only [tabGet, if_true] at this
        rw [if_neg (by omega), if_pos hlt] at this
        exact absurd this ht'.1
      · exact he
      · have := h i
        simp only [tabGet, if_true] at this
        rw [if_neg (by omega), if_pos hgt] at this
        exact absurd this.symm hu'.1
    subst hji
    have hvw : v = w := by
      have := h j
      simpa only [tabGet, if_true] using this
    subst hvw
    have htail : ∀ k, tabGet d t k = tabGet d u k := by
      intro k
      by_cases hk : k ≤ j
      · rw [tabGet_above d hk ht'.2.1, tabGet_above d hk hu'.2.1]
      · have := h k
        simp only [tabGet] at this
        rwa [if_neg (by omega), if_neg (by omega), if_neg (by omega), if_neg (by omega)] at this
    rw [tab_ext d ht'.2.2 hu'.2.2 htail]

@[simp] theorem tabWf_nil [DecidableEq α] (d : Nat → α) : tabWf d ([] : Tab α) = true := rfl

theorem tabAbove_map {b : Nat} (f : Nat × α → α) : ∀ {t : Tab α}, tabAbove b t = true → tabAbove b (t.map (fun e => (e.1, f e))) = true
  | [], _ => rfl
  | _ :: _, h => h

/-- A change of the values to ones that no unlisted key reads as keeps the canonical form. -/
theorem tabMap_wf [DecidableEq α] {d : Nat → α} (f : Nat × α → α) (hf : ∀ e, f e ≠ d e.1) :
    ∀ {t : Tab α}, tabWf d t = true → tabWf d (t.map (fun e => (e.1, f e))) = true
  | [], _ => rfl
  | (j, v) :: t, h => by
    have h1 := (tabWf_cons d j v t).1 h
    exact (tabWf_cons d j _ _).2 ⟨hf (j, v), tabAbove_map f h1.2.1, tabMap_wf f hf h1.2.2⟩

/-- A change of the values, less those that an unlisted key reads as, keeps the canonical form. -/
theorem tabMapFilter_wf [DecidableEq α] {d : Nat → α} (f : Nat × α → α) (p : Nat × α → Bool) (hp : ∀ e, p e = true → e.2 ≠ d e.1) :
    ∀ {t : Tab α}, tabWf d t = true → tabWf d ((t.map (fun e => (e.1, f e))).filter p) = true ∧
      ∀ b, tabAbove b t = true → tabAbove b ((t.map (fun e => (e.1, f e))).filter p) = true
  | [], _ => ⟨rfl, fun _ _ => rfl⟩
  | (j, v) :: t, h => by
    have h1 := (tabWf_cons d j v t).1 h
    have ih := tabMapFilter_wf f p hp h1.2.2
    rw [List.map_cons, List.filter_cons]
    by_cases hk : p (j, f (j, v)) = true
    · rw [if_pos hk]
      exact ⟨(tabWf_cons d j _ _).2 ⟨hp _ hk, ih.2 j h1.2.1, ih.1⟩, fun b hb => hb⟩
    · rw [if_neg hk]
      refine ⟨ih.1, fun b hb => ih.2 b ?_⟩
      simp only [tabAbove, decide_eq_true_eq] at hb
      exact tabAbove_mono (Nat.le_of_lt hb) h1.2.1

theorem foldl_set_wf {α β : Type} [DecidableEq α] {d : Nat → α} {k : β → Nat} {f : β → α} {l : List β} : ∀ {t : Tab α},
    tabWf d t = true → tabWf d (l.foldl (fun t a => tabSet d t (k a) (f a)) t) = true := by
  induction l with
  | nil => exact id
  | cons x l ih => exact fun h => ih (tabSet_wf h)

end Sys2Proof.Machine
end

