-- ==== Sys2Proof/Laws/Flows.lean ====
section
/-! SUPPORT. What every change of the state keeps, said once and composed: canonical tables stay canonical, the queue is left
alone, the clock does not run back, free values are not drawn twice, what has left the module is not taken back, and the
    fields of
State named by a mask K are left alone. Bit i of a mask stands for field i of State, from pending = 0 to draws = 37. -/

namespace Sys2Proof.Machine

/-- A field is left alone when the mask names it. -/
def Kept {α : Type} (K c : Nat) (a b : α) : Prop := K &&& c = 0 ∨ b = a

@[simp] theorem kept_same {α : Type} (K c : Nat) (a : α) : Kept K c a a := .inr rfl

@[simp] theorem kept_free {α : Type} {K c : Nat} {a b : α} (h : K &&& c = 0) : Kept K c a b := .inl h

theorem Kept.trans {α : Type} {K c : Nat} {a b d : α} (h : Kept K c a b) (g : Kept K c b d) : Kept K c a d := by
  rcases h with h | h
  · exact .inl h
  · rcases g with g | g
    · exact .inl g
    · exact .inr (g.trans h)

/-- The mask of every field but the queue. -/
def allFields : Nat := 274877906942

theorem land_sub {K T U : Nat} (h : K &&& T = 0) (hs : U &&& T = U) : K &&& U = 0 := by
  rw [← hs, Nat.and_comm U T, ← Nat.and_assoc, h, Nat.zero_and]

theorem Kept.weaken {α : Type} {K T i : Nat} {a b : α} (hi : 1 ≤ i ∧ i ≤ 37) (hk : K &&& T = 0)
    (h : Kept (allFields ^^^ (allFields &&& T)) (2 ^ i) a b) : Kept K (2 ^ i) a b := by
  rcases h with h | h
  · refine .inl (land_sub hk ?_)
    apply Nat.eq_of_testBit_eq
    intro j
    have hj := congrArg (fun n => n.testBit i) h
    simp only [Nat.testBit_and, Nat.testBit_xor, Nat.zero_testBit, Nat.testBit_two_pow_self, Bool.and_true] at hj
    have hb : allFields.testBit i = true := by
      have : ∀ k : Fin 38, 1 ≤ k.val → allFields.testBit k.val = true := by decide
      exact this ⟨i, by omega⟩ hi.1
    rw [hb] at hj
    rw [Nat.testBit_and]
    by_cases e : i = j
    · subst e
      revert hj
      cases T.testBit i <;> simp
    · simp [Nat.testBit_two_pow, e]
  · exact .inr h

/-- From s to t: canonical tables stay canonical, the queue is the same, clock and draws do not fall, the list of what left
the module only grows at its front, and the fields that K names are the same. -/
structure Flows (K : Nat) (s t : State) : Prop where
  tidy : s.tidy → t.tidy
  pending : t.pending = s.pending
  clock : s.now ≤ t.now
  draw : s.draws ≤ t.draws
  sent : ∃ l, t.out = l ++ s.out
  now : Kept K (2 ^ 1) s.now t.now
  regs : Kept K (2 ^ 2) s.regs t.regs
  wide : Kept K (2 ^ 3) s.wide t.wide
  effOld : Kept K (2 ^ 4) s.effOld t.effOld
  evtClk : Kept K (2 ^ 5) s.evtClk t.evtClk
  overlay : Kept K (2 ^ 6) s.overlay t.overlay
  overlayDig : Kept K (2 ^ 7) s.overlayDig t.overlayDig
  sheaf : Kept K (2 ^ 8) s.sheaf t.sheaf
  active : Kept K (2 ^ 9) s.active t.active
  img : Kept K (2 ^ 10) s.img t.img
  seq : Kept K (2 ^ 11) s.seq t.seq
  tbu : Kept K (2 ^ 12) s.tbu t.tbu
  grn : Kept K (2 ^ 13) s.grn t.grn
  pmc : Kept K (2 ^ 14) s.pmc t.pmc
  ses : Kept K (2 ^ 15) s.ses t.ses
  pwr : Kept K (2 ^ 16) s.pwr t.pwr
  red : Kept K (2 ^ 17) s.red t.red
  dio : Kept K (2 ^ 18) s.dio t.dio
  piu : Kept K (2 ^ 19) s.piu t.piu
  gmu : Kept K (2 ^ 20) s.gmu t.gmu
  syn : Kept K (2 ^ 21) s.syn t.syn
  ach : Kept K (2 ^ 22) s.ach t.ach
  cle : Kept K (2 ^ 23) s.cle t.cle
  slv : Kept K (2 ^ 24) s.slv t.slv
  saf : Kept K (2 ^ 25) s.saf t.saf
  mbc : Kept K (2 ^ 26) s.mbc t.mbc
  maps : Kept K (2 ^ 27) s.maps t.maps
  mbcBad : Kept K (2 ^ 28) s.mbcBad t.mbcBad
  net : Kept K (2 ^ 29) s.net t.net
  msl : Kept K (2 ^ 30) s.msl t.msl
  mslMaps : Kept K (2 ^ 31) s.mslMaps t.mslMaps
  mgt : Kept K (2 ^ 32) s.mgt t.mgt
  slu : Kept K (2 ^ 33) s.slu t.slu
  upd : Kept K (2 ^ 34) s.upd t.upd
  fpd : Kept K (2 ^ 35) s.fpd t.fpd
  out : Kept K (2 ^ 36) s.out t.out
  draws : Kept K (2 ^ 37) s.draws t.draws

theorem Flows.refl (K : Nat) (s : State) : Flows K s s :=
    ⟨id, rfl, Nat.le_refl _, Nat.le_refl _, ⟨[], rfl⟩, kept_same _ _ _, kept_same _ _ _, kept_same _ _ _, kept_same _ _ _,
      kept_same _ _ _, kept_same _ _ _, kept_same _ _ _, kept_same _ _ _, kept_same _ _ _, kept_same _ _ _, kept_same _ _ _,
      kept_same _ _ _, kept_same _ _ _, kept_same _ _ _, kept_same _ _ _, kept_same _ _ _, kept_same _ _ _, kept_same _ _ _,
      kept_same _ _ _, kept_same _ _ _, kept_same _ _ _, kept_same _ _ _, kept_same _ _ _, kept_same _ _ _, kept_same _ _ _,
      kept_same _ _ _, kept_same _ _ _, kept_same _ _ _, kept_same _ _ _, kept_same _ _ _, kept_same _ _ _, kept_same _ _ _,
      kept_same _ _ _, kept_same _ _ _, kept_same _ _ _, kept_same _ _ _, kept_same _ _ _⟩

theorem Flows.trans {K : Nat} {s t u : State} (h : Flows K s t) (g : Flows K t u) : Flows K s u :=
  ⟨fun x => g.tidy (h.tidy x), g.pending.trans h.pending, Nat.le_trans h.clock g.clock, Nat.le_trans h.draw g.draw, by
    obtain ⟨l, hl⟩ := h.sent
    obtain ⟨m, hm⟩ := g.sent
    exact ⟨m ++ l, by rw [hm, hl, List.append_assoc]⟩,
        h.now.trans g.now, h.regs.trans g.regs, h.wide.trans g.wide, h.effOld.trans g.effOld, h.evtClk.trans g.evtClk,
        h.overlay.trans g.overlay, h.overlayDig.trans g.overlayDig, h.sheaf.trans g.sheaf, h.active.trans g.active,
        h.img.trans g.img, h.seq.trans g.seq, h.tbu.trans g.tbu, h.grn.trans g.grn, h.pmc.trans g.pmc, h.ses.trans g.ses,
        h.pwr.trans g.pwr, h.red.trans g.red, h.dio.trans g.dio, h.piu.trans g.piu, h.gmu.trans g.gmu, h.syn.trans g.syn,
        h.ach.trans g.ach, h.cle.trans g.cle, h.slv.trans g.slv, h.saf.trans g.saf, h.mbc.trans g.mbc, h.maps.trans g.maps,
        h.mbcBad.trans g.mbcBad, h.net.trans g.net, h.msl.trans g.msl, h.mslMaps.trans g.mslMaps, h.mgt.trans g.mgt,
        h.slu.trans g.slu, h.upd.trans g.upd, h.fpd.trans g.fpd, h.out.trans g.out, h.draws.trans g.draws⟩

/-- A change that touches the fields of T at most keeps every mask apart from T. -/
theorem Flows.comp {K T : Nat} {s0 s t : State} (h : Flows K s0 s) (hk : K &&& T = 0)
    (g : Flows (allFields ^^^ (allFields &&& T)) s t) : Flows K s0 t :=
  h.trans ⟨g.tidy, g.pending, g.clock, g.draw, g.sent,
        g.now.weaken ⟨by decide, by decide⟩ hk, g.regs.weaken ⟨by decide, by decide⟩ hk, g.wide.weaken ⟨by decide, by decide⟩
        hk, g.effOld.weaken ⟨by decide, by decide⟩ hk, g.evtClk.weaken ⟨by decide, by decide⟩ hk, g.overlay.weaken ⟨by decide,
        by decide⟩ hk, g.overlayDig.weaken ⟨by decide, by decide⟩ hk, g.sheaf.weaken ⟨by decide, by decide⟩ hk,
        g.active.weaken ⟨by decide, by decide⟩ hk, g.img.weaken ⟨by decide, by decide⟩ hk, g.seq.weaken ⟨by decide, by decide⟩
        hk, g.tbu.weaken ⟨by decide, by decide⟩ hk, g.grn.weaken ⟨by decide, by decide⟩ hk, g.pmc.weaken ⟨by decide, by
        decide⟩ hk, g.ses.weaken ⟨by decide, by decide⟩ hk, g.pwr.weaken ⟨by decide, by decide⟩ hk, g.red.weaken ⟨by decide,
        by decide⟩ hk, g.dio.weaken ⟨by decide, by decide⟩ hk, g.piu.weaken ⟨by decide, by decide⟩ hk, g.gmu.weaken ⟨by
        decide, by decide⟩ hk, g.syn.weaken ⟨by decide, by decide⟩ hk, g.ach.weaken ⟨by decide, by decide⟩ hk, g.cle.weaken
        ⟨by decide, by decide⟩ hk, g.slv.weaken ⟨by decide, by decide⟩ hk, g.saf.weaken ⟨by decide, by decide⟩ hk,
        g.mbc.weaken ⟨by decide, by decide⟩ hk, g.maps.weaken ⟨by decide, by decide⟩ hk, g.mbcBad.weaken ⟨by decide, by
        decide⟩ hk, g.net.weaken ⟨by decide, by decide⟩ hk, g.msl.weaken ⟨by decide, by decide⟩ hk, g.mslMaps.weaken ⟨by
        decide, by decide⟩ hk, g.mgt.weaken ⟨by decide, by decide⟩ hk, g.slu.weaken ⟨by decide, by decide⟩ hk, g.upd.weaken
        ⟨by decide, by decide⟩ hk, g.fpd.weaken ⟨by decide, by decide⟩ hk, g.out.weaken ⟨by decide, by decide⟩ hk,
        g.draws.weaken ⟨by decide, by decide⟩ hk⟩

/-- A change of fields that hold no canonical table. -/
@[simp] theorem flows_mk {K : Nat} {s0 s : State} (h : Flows K s0 s) {v5 v7 v9 v11 v12 v13 v14 v15 v16 v17 v18 v19 v20 v21 v22
    v23 v24 v25 v26 v27 v28 v29 v30 v31 v32 v33 v34 v35} (h5 : Kept K 32 s.evtClk v5) (h7 : Kept K 128 s.overlayDig v7) (h9 :
    Kept K 512 s.active v9) (h11 : Kept K 2048 s.seq v11) (h12 : Kept K 4096 s.tbu v12) (h13 : Kept K 8192 s.grn v13) (h14 :
    Kept K 16384 s.pmc v14) (h15 : Kept K 32768 s.ses v15) (h16 : Kept K 65536 s.pwr v16) (h17 : Kept K 131072 s.red v17) (h18
    : Kept K 262144 s.dio v18) (h19 : Kept K 524288 s.piu v19) (h20 : Kept K 1048576 s.gmu v20) (h21 : Kept K 2097152 s.syn
    v21) (h22 : Kept K 4194304 s.ach v22) (h23 : Kept K 8388608 s.cle v23) (h24 : Kept K 16777216 s.slv v24) (h25 : Kept K
    33554432 s.saf v25) (h26 : Kept K 67108864 s.mbc v26) (h27 : Kept K 134217728 s.maps v27) (h28 : Kept K 268435456 s.mbcBad
    v28) (h29 : Kept K 536870912 s.net v29) (h30 : Kept K 1073741824 s.msl v30) (h31 : Kept K 2147483648 s.mslMaps v31) (h32 :
    Kept K 4294967296 s.mgt v32) (h33 : Kept K 8589934592 s.slu v33) (h34 : Kept K 17179869184 s.upd v34) (h35 : Kept K
    34359738368 s.fpd v35) (b15 : tabWf (fun _ => ({} : Session)) s.ses.slots = true → tabWf (fun _ => ({} : Session))
    v15.slots = true) (b19 : tabWf (fun _ => ({} : PiuIn)) s.piu = true → tabWf (fun _ => ({} : PiuIn)) v19 = true) (b22 :
    tabWf (fun _ => ({} : AchCh)) s.ach = true → tabWf (fun _ => ({} : AchCh)) v22 = true) (b23 : tabWf (fun _ => ({} :
    LoopSt)) s.cle.loops = true → tabWf (fun _ => ({} : LoopSt)) v23.loops = true) (b24 : tabWf (fun _ => ({} : JobSlot))
    s.slv.slots = true → tabWf (fun _ => ({} : JobSlot)) v24.slots = true) (b25 : tabWf (fun _ => ({} : Brake)) s.saf.brakes =
    true → tabWf (fun _ => ({} : Brake)) v25.brakes = true) (b26 : tabWf (fun _ => ({} : MbcSt)) s.mbc = true → tabWf (fun _
    => ({} : MbcSt)) v26 = true) (b27 : tabWf (fun _ => ({} : MapSt)) s.maps = true → tabWf (fun _ => ({} : MapSt)) v27 =
    true) (b29 : tabWf (fun _ => ({} : SubSt)) s.net.subs = true → tabWf (fun _ => ({} : SubSt)) v29.subs = true) (b31 : tabWf
    (fun _ => ({} : MapSt)) s.mslMaps = true → tabWf (fun _ => ({} : MapSt)) v31 = true) (b32 : tabWf (fun _ => ({} : ProgSt))
    s.mgt.progs = true → tabWf (fun _ => ({} : ProgSt)) v32.progs = true) :
        Flows K s0 (State.mk s.pending s.now s.regs s.wide s.effOld v5 s.overlay v7 s.sheaf v9 s.img v11 v12 v13 v14 v15 v16
        v17 v18 v19 v20 v21 v22 v23 v24 v25 v26 v27 v28 v29 v30 v31 v32 v33 v34 v35 s.out s.draws) :=
    h.trans ⟨fun x => ⟨x.1, x.2.1, x.2.2.1, x.2.2.2.1, x.2.2.2.2.1, x.2.2.2.2.2.1, x.2.2.2.2.2.2.1, x.2.2.2.2.2.2.2.1,
      x.2.2.2.2.2.2.2.2.1, b15 x.2.2.2.2.2.2.2.2.2.1, b19 x.2.2.2.2.2.2.2.2.2.2.1, b22 x.2.2.2.2.2.2.2.2.2.2.2.1, b23
      x.2.2.2.2.2.2.2.2.2.2.2.2.1, b24 x.2.2.2.2.2.2.2.2.2.2.2.2.2.1, b25 x.2.2.2.2.2.2.2.2.2.2.2.2.2.2.1, b26
      x.2.2.2.2.2.2.2.2.2.2.2.2.2.2.2.1, b27 x.2.2.2.2.2.2.2.2.2.2.2.2.2.2.2.2.1, b29 x.2.2.2.2.2.2.2.2.2.2.2.2.2.2.2.2.2.1,
      b31 x.2.2.2.2.2.2.2.2.2.2.2.2.2.2.2.2.2.2.1, b32 x.2.2.2.2.2.2.2.2.2.2.2.2.2.2.2.2.2.2.2⟩, rfl, Nat.le_refl _,
      Nat.le_refl _, ⟨[], rfl⟩, kept_same _ _ _, kept_same _ _ _, kept_same _ _ _, kept_same _ _ _, h5, kept_same _ _ _, h7,
      kept_same _ _ _, h9, kept_same _ _ _, h11, h12, h13, h14, h15, h16, h17, h18, h19, h20, h21, h22, h23, h24, h25, h26,
      h27, h28, h29, h30, h31, h32, h33, h34, h35, kept_same _ _ _, kept_same _ _ _⟩

/-- The same, with a change of the image's copy set, upsets, error records, generation and scrub position. -/
@[simp] theorem flows_mk_img {K : Nat} {s0 s : State} (h : Flows K s0 s) {v5 v7 v9 v11 v12 v13 v14 v15 v16 v17 v18 v19 v20 v21
    v22 v23 v24 v25 v26 v27 v28 v29 v30 v31 v32 v33 v34 v35} {cs up ec g sc} (h5 : Kept K 32 s.evtClk v5) (h7 : Kept K 128
    s.overlayDig v7) (h9 : Kept K 512 s.active v9) (h11 : Kept K 2048 s.seq v11) (h12 : Kept K 4096 s.tbu v12) (h13 : Kept K
    8192 s.grn v13) (h14 : Kept K 16384 s.pmc v14) (h15 : Kept K 32768 s.ses v15) (h16 : Kept K 65536 s.pwr v16) (h17 : Kept K
    131072 s.red v17) (h18 : Kept K 262144 s.dio v18) (h19 : Kept K 524288 s.piu v19) (h20 : Kept K 1048576 s.gmu v20) (h21 :
    Kept K 2097152 s.syn v21) (h22 : Kept K 4194304 s.ach v22) (h23 : Kept K 8388608 s.cle v23) (h24 : Kept K 16777216 s.slv
    v24) (h25 : Kept K 33554432 s.saf v25) (h26 : Kept K 67108864 s.mbc v26) (h27 : Kept K 134217728 s.maps v27) (h28 : Kept K
    268435456 s.mbcBad v28) (h29 : Kept K 536870912 s.net v29) (h30 : Kept K 1073741824 s.msl v30) (h31 : Kept K 2147483648
    s.mslMaps v31) (h32 : Kept K 4294967296 s.mgt v32) (h33 : Kept K 8589934592 s.slu v33) (h34 : Kept K 17179869184 s.upd
    v34) (h35 : Kept K 34359738368 s.fpd v35) (b15 : tabWf (fun _ => ({} : Session)) s.ses.slots = true → tabWf (fun _ => ({}
    : Session)) v15.slots = true) (b19 : tabWf (fun _ => ({} : PiuIn)) s.piu = true → tabWf (fun _ => ({} : PiuIn)) v19 =
    true) (b22 : tabWf (fun _ => ({} : AchCh)) s.ach = true → tabWf (fun _ => ({} : AchCh)) v22 = true) (b23 : tabWf (fun _ =>
    ({} : LoopSt)) s.cle.loops = true → tabWf (fun _ => ({} : LoopSt)) v23.loops = true) (b24 : tabWf (fun _ => ({} :
    JobSlot)) s.slv.slots = true → tabWf (fun _ => ({} : JobSlot)) v24.slots = true) (b25 : tabWf (fun _ => ({} : Brake))
    s.saf.brakes = true → tabWf (fun _ => ({} : Brake)) v25.brakes = true) (b26 : tabWf (fun _ => ({} : MbcSt)) s.mbc = true →
    tabWf (fun _ => ({} : MbcSt)) v26 = true) (b27 : tabWf (fun _ => ({} : MapSt)) s.maps = true → tabWf (fun _ => ({} :
    MapSt)) v27 = true) (b29 : tabWf (fun _ => ({} : SubSt)) s.net.subs = true → tabWf (fun _ => ({} : SubSt)) v29.subs =
    true) (b31 : tabWf (fun _ => ({} : MapSt)) s.mslMaps = true → tabWf (fun _ => ({} : MapSt)) v31 = true) (b32 : tabWf (fun
    _ => ({} : ProgSt)) s.mgt.progs = true → tabWf (fun _ => ({} : ProgSt)) v32.progs = true)
    (h10 : Kept K 1024 s.img (ImgSt.mk s.img.words s.img.ptr s.img.dirty cs s.img.laneDiff up ec g sc)) :
        Flows K s0 (State.mk s.pending s.now s.regs s.wide s.effOld v5 s.overlay v7 s.sheaf v9 (ImgSt.mk s.img.words s.img.ptr
        s.img.dirty cs s.img.laneDiff up ec g sc) v11 v12 v13 v14 v15 v16 v17 v18 v19 v20 v21 v22 v23 v24 v25 v26 v27 v28 v29
        v30 v31 v32 v33 v34 v35 s.out s.draws) :=
    h.trans ⟨fun x => ⟨x.1, x.2.1, x.2.2.1, x.2.2.2.1, x.2.2.2.2.1, x.2.2.2.2.2.1, x.2.2.2.2.2.2.1, x.2.2.2.2.2.2.2.1,
      x.2.2.2.2.2.2.2.2.1, b15 x.2.2.2.2.2.2.2.2.2.1, b19 x.2.2.2.2.2.2.2.2.2.2.1, b22 x.2.2.2.2.2.2.2.2.2.2.2.1, b23
      x.2.2.2.2.2.2.2.2.2.2.2.2.1, b24 x.2.2.2.2.2.2.2.2.2.2.2.2.2.1, b25 x.2.2.2.2.2.2.2.2.2.2.2.2.2.2.1, b26
      x.2.2.2.2.2.2.2.2.2.2.2.2.2.2.2.1, b27 x.2.2.2.2.2.2.2.2.2.2.2.2.2.2.2.2.1, b29 x.2.2.2.2.2.2.2.2.2.2.2.2.2.2.2.2.2.1,
      b31 x.2.2.2.2.2.2.2.2.2.2.2.2.2.2.2.2.2.2.1, b32 x.2.2.2.2.2.2.2.2.2.2.2.2.2.2.2.2.2.2.2⟩, rfl, Nat.le_refl _,
      Nat.le_refl _, ⟨[], rfl⟩, kept_same _ _ _, kept_same _ _ _, kept_same _ _ _, kept_same _ _ _, h5, kept_same _ _ _, h7,
      kept_same _ _ _, h9, h10, h11, h12, h13, h14, h15, h16, h17, h18, h19, h20, h21, h22, h23, h24, h25, h26, h27, h28, h29,
      h30, h31, h32, h33, h34, h35, kept_same _ _ _, kept_same _ _ _⟩

@[simp] theorem flows_effOld {K : Nat} {s0 s : State} (hk : K &&& 16 = 0) (h : Flows K s0 s) {a : Nat} {v : Option Word} :
    Flows K s0 ({ s with effOld := tabSet (fun _ => none) s.effOld a v }) :=
  h.trans ⟨fun x => ⟨x.1, x.2.1, tabSet_wf x.2.2.1, x.2.2.2⟩, rfl, Nat.le_refl _, Nat.le_refl _, ⟨[], rfl⟩,
        kept_same _ _ _, kept_same _ _ _, kept_same _ _ _, .inl hk, kept_same _ _ _, kept_same _ _ _, kept_same _ _ _,
        kept_same _ _ _, kept_same _ _ _, kept_same _ _ _, kept_same _ _ _, kept_same _ _ _, kept_same _ _ _, kept_same _ _ _,
        kept_same _ _ _, kept_same _ _ _, kept_same _ _ _, kept_same _ _ _, kept_same _ _ _, kept_same _ _ _, kept_same _ _ _,
        kept_same _ _ _, kept_same _ _ _, kept_same _ _ _, kept_same _ _ _, kept_same _ _ _, kept_same _ _ _, kept_same _ _ _,
        kept_same _ _ _, kept_same _ _ _, kept_same _ _ _, kept_same _ _ _, kept_same _ _ _, kept_same _ _ _, kept_same _ _ _,
        kept_same _ _ _, kept_same _ _ _⟩

@[simp] theorem flows_effOld_nil {K : Nat} {s0 s : State} (hk : K &&& 16 = 0) (h : Flows K s0 s) : Flows K s0 ({ s with effOld
    := [] }) :=
  h.trans ⟨fun x => ⟨x.1, x.2.1, rfl, x.2.2.2⟩, rfl, Nat.le_refl _, Nat.le_refl _, ⟨[], rfl⟩,
        kept_same _ _ _, kept_same _ _ _, kept_same _ _ _, .inl hk, kept_same _ _ _, kept_same _ _ _, kept_same _ _ _,
        kept_same _ _ _, kept_same _ _ _, kept_same _ _ _, kept_same _ _ _, kept_same _ _ _, kept_same _ _ _, kept_same _ _ _,
        kept_same _ _ _, kept_same _ _ _, kept_same _ _ _, kept_same _ _ _, kept_same _ _ _, kept_same _ _ _, kept_same _ _ _,
        kept_same _ _ _, kept_same _ _ _, kept_same _ _ _, kept_same _ _ _, kept_same _ _ _, kept_same _ _ _, kept_same _ _ _,
        kept_same _ _ _, kept_same _ _ _, kept_same _ _ _, kept_same _ _ _, kept_same _ _ _, kept_same _ _ _, kept_same _ _ _,
        kept_same _ _ _, kept_same _ _ _⟩

@[simp] theorem flows_sheaf {K : Nat} {s0 s : State} (hk : K &&& 256 = 0) (h : Flows K s0 s) {a : Nat} {v : Word} : Flows K s0
    ({ s with sheaf := tabSet (fun _ => (0 : Word)) s.sheaf a v }) :=
    h.trans ⟨fun x => ⟨x.1, x.2.1, x.2.2.1, x.2.2.2.1, tabSet_wf x.2.2.2.2.1, x.2.2.2.2.2⟩, rfl, Nat.le_refl _, Nat.le_refl _,
      ⟨[], rfl⟩,
        kept_same _ _ _, kept_same _ _ _, kept_same _ _ _, kept_same _ _ _, kept_same _ _ _, kept_same _ _ _, kept_same _ _ _,
        .inl hk, kept_same _ _ _, kept_same _ _ _, kept_same _ _ _, kept_same _ _ _, kept_same _ _ _, kept_same _ _ _,
        kept_same _ _ _, kept_same _ _ _, kept_same _ _ _, kept_same _ _ _, kept_same _ _ _, kept_same _ _ _, kept_same _ _ _,
        kept_same _ _ _, kept_same _ _ _, kept_same _ _ _, kept_same _ _ _, kept_same _ _ _, kept_same _ _ _, kept_same _ _ _,
        kept_same _ _ _, kept_same _ _ _, kept_same _ _ _, kept_same _ _ _, kept_same _ _ _, kept_same _ _ _, kept_same _ _ _,
        kept_same _ _ _, kept_same _ _ _⟩

@[simp] theorem flows_sheafKeep {K : Nat} {s0 s : State} (hk : K &&& 256 = 0) (h : Flows K s0 s) {p : Nat → Bool} : Flows K s0
    ({ s with sheaf := tabKeep p s.sheaf }) :=
    h.trans ⟨fun x => ⟨x.1, x.2.1, x.2.2.1, x.2.2.2.1, tabKeep_wf p x.2.2.2.2.1, x.2.2.2.2.2⟩, rfl, Nat.le_refl _, Nat.le_refl
      _, ⟨[], rfl⟩,
        kept_same _ _ _, kept_same _ _ _, kept_same _ _ _, kept_same _ _ _, kept_same _ _ _, kept_same _ _ _, kept_same _ _ _,
        .inl hk, kept_same _ _ _, kept_same _ _ _, kept_same _ _ _, kept_same _ _ _, kept_same _ _ _, kept_same _ _ _,
        kept_same _ _ _, kept_same _ _ _, kept_same _ _ _, kept_same _ _ _, kept_same _ _ _, kept_same _ _ _, kept_same _ _ _,
        kept_same _ _ _, kept_same _ _ _, kept_same _ _ _, kept_same _ _ _, kept_same _ _ _, kept_same _ _ _, kept_same _ _ _,
        kept_same _ _ _, kept_same _ _ _, kept_same _ _ _, kept_same _ _ _, kept_same _ _ _, kept_same _ _ _, kept_same _ _ _,
        kept_same _ _ _, kept_same _ _ _⟩

/-- Time passes: the clock takes a value that is not below the present one. -/
theorem flows_now {K : Nat} {s0 s : State} (hk : K &&& 2 = 0) (h : Flows K s0 s) {c : Nat} (hc : s.now ≤ c) : Flows K s0 ({ s
    with now := c }) :=
  h.trans ⟨fun x => x, rfl, hc, Nat.le_refl _, ⟨[], rfl⟩,
        .inl hk, kept_same _ _ _, kept_same _ _ _, kept_same _ _ _, kept_same _ _ _, kept_same _ _ _, kept_same _ _ _,
        kept_same _ _ _, kept_same _ _ _, kept_same _ _ _, kept_same _ _ _, kept_same _ _ _, kept_same _ _ _, kept_same _ _ _,
        kept_same _ _ _, kept_same _ _ _, kept_same _ _ _, kept_same _ _ _, kept_same _ _ _, kept_same _ _ _, kept_same _ _ _,
        kept_same _ _ _, kept_same _ _ _, kept_same _ _ _, kept_same _ _ _, kept_same _ _ _, kept_same _ _ _, kept_same _ _ _,
        kept_same _ _ _, kept_same _ _ _, kept_same _ _ _, kept_same _ _ _, kept_same _ _ _, kept_same _ _ _, kept_same _ _ _,
        kept_same _ _ _, kept_same _ _ _⟩

@[simp] theorem flows_draws {K : Nat} {s0 s : State} (hk : K &&& 137438953472 = 0) (h : Flows K s0 s) {n : Nat} : Flows K s0
    ({ s with draws := s.draws + n }) :=
  h.trans ⟨fun x => x, rfl, Nat.le_refl _, Nat.le_add_right _ _, ⟨[], rfl⟩,
        kept_same _ _ _, kept_same _ _ _, kept_same _ _ _, kept_same _ _ _, kept_same _ _ _, kept_same _ _ _, kept_same _ _ _,
        kept_same _ _ _, kept_same _ _ _, kept_same _ _ _, kept_same _ _ _, kept_same _ _ _, kept_same _ _ _, kept_same _ _ _,
        kept_same _ _ _, kept_same _ _ _, kept_same _ _ _, kept_same _ _ _, kept_same _ _ _, kept_same _ _ _, kept_same _ _ _,
        kept_same _ _ _, kept_same _ _ _, kept_same _ _ _, kept_same _ _ _, kept_same _ _ _, kept_same _ _ _, kept_same _ _ _,
        kept_same _ _ _, kept_same _ _ _, kept_same _ _ _, kept_same _ _ _, kept_same _ _ _, kept_same _ _ _, kept_same _ _ _,
        kept_same _ _ _, .inl hk⟩

@[simp] theorem wr_flows {K : Nat} {s0 s : State} (hk : K &&& 4 = 0) (h : Flows K s0 s) {a v : Nat} : Flows K s0 (wr a v s) :=
  h.trans ⟨fun x => ⟨tabSet_wf x.1, x.2⟩, rfl, Nat.le_refl _, Nat.le_refl _, ⟨[], rfl⟩,
        kept_same _ _ _, .inl hk, kept_same _ _ _, kept_same _ _ _, kept_same _ _ _, kept_same _ _ _, kept_same _ _ _,
        kept_same _ _ _, kept_same _ _ _, kept_same _ _ _, kept_same _ _ _, kept_same _ _ _, kept_same _ _ _, kept_same _ _ _,
        kept_same _ _ _, kept_same _ _ _, kept_same _ _ _, kept_same _ _ _, kept_same _ _ _, kept_same _ _ _, kept_same _ _ _,
        kept_same _ _ _, kept_same _ _ _, kept_same _ _ _, kept_same _ _ _, kept_same _ _ _, kept_same _ _ _, kept_same _ _ _,
        kept_same _ _ _, kept_same _ _ _, kept_same _ _ _, kept_same _ _ _, kept_same _ _ _, kept_same _ _ _, kept_same _ _ _,
        kept_same _ _ _, kept_same _ _ _⟩

@[simp] theorem wideSet_flows {K : Nat} {s0 s : State} (hk : K &&& 8 = 0) (h : Flows K s0 s) {a v : Nat} : Flows K s0 (wideSet
    a v s) :=
  h.trans ⟨fun x => ⟨x.1, tabSet_wf x.2.1, x.2.2⟩, rfl, Nat.le_refl _, Nat.le_refl _, ⟨[], rfl⟩,
        kept_same _ _ _, kept_same _ _ _, .inl hk, kept_same _ _ _, kept_same _ _ _, kept_same _ _ _, kept_same _ _ _,
        kept_same _ _ _, kept_same _ _ _, kept_same _ _ _, kept_same _ _ _, kept_same _ _ _, kept_same _ _ _, kept_same _ _ _,
        kept_same _ _ _, kept_same _ _ _, kept_same _ _ _, kept_same _ _ _, kept_same _ _ _, kept_same _ _ _, kept_same _ _ _,
        kept_same _ _ _, kept_same _ _ _, kept_same _ _ _, kept_same _ _ _, kept_same _ _ _, kept_same _ _ _, kept_same _ _ _,
        kept_same _ _ _, kept_same _ _ _, kept_same _ _ _, kept_same _ _ _, kept_same _ _ _, kept_same _ _ _, kept_same _ _ _,
        kept_same _ _ _, kept_same _ _ _⟩

@[simp] theorem emit_flows {K : Nat} {s0 s : State} (hk : K &&& 68719476736 = 0) (h : Flows K s0 s) {o : Out} : Flows K s0
    (emit o s) :=
  h.trans ⟨fun x => x, rfl, Nat.le_refl _, Nat.le_refl _, ⟨[o], rfl⟩,
        kept_same _ _ _, kept_same _ _ _, kept_same _ _ _, kept_same _ _ _, kept_same _ _ _, kept_same _ _ _, kept_same _ _ _,
        kept_same _ _ _, kept_same _ _ _, kept_same _ _ _, kept_same _ _ _, kept_same _ _ _, kept_same _ _ _, kept_same _ _ _,
        kept_same _ _ _, kept_same _ _ _, kept_same _ _ _, kept_same _ _ _, kept_same _ _ _, kept_same _ _ _, kept_same _ _ _,
        kept_same _ _ _, kept_same _ _ _, kept_same _ _ _, kept_same _ _ _, kept_same _ _ _, kept_same _ _ _, kept_same _ _ _,
        kept_same _ _ _, kept_same _ _ _, kept_same _ _ _, kept_same _ _ _, kept_same _ _ _, kept_same _ _ _, kept_same _ _ _,
        .inl hk, kept_same _ _ _⟩

@[simp] theorem putCell_flows {K : Nat} {s0 s : State} (hk : K &&& 1024 = 0) (h : Flows K s0 s) {b w : Nat} {c : ICell} :
    Flows K s0 (putCell b w c s) :=
    h.trans ⟨fun x => ⟨x.1, x.2.1, x.2.2.1, x.2.2.2.1, x.2.2.2.2.1, tabSet_wf x.2.2.2.2.2.1, x.2.2.2.2.2.2.1,
      x.2.2.2.2.2.2.2.1, filter_wf _ x.2.2.2.2.2.2.2.2.1, x.2.2.2.2.2.2.2.2.2⟩, rfl, Nat.le_refl _, Nat.le_refl _, ⟨[], rfl⟩,
        kept_same _ _ _, kept_same _ _ _, kept_same _ _ _, kept_same _ _ _, kept_same _ _ _, kept_same _ _ _, kept_same _ _ _,
        kept_same _ _ _, kept_same _ _ _, .inl hk, kept_same _ _ _, kept_same _ _ _, kept_same _ _ _, kept_same _ _ _,
        kept_same _ _ _, kept_same _ _ _, kept_same _ _ _, kept_same _ _ _, kept_same _ _ _, kept_same _ _ _, kept_same _ _ _,
        kept_same _ _ _, kept_same _ _ _, kept_same _ _ _, kept_same _ _ _, kept_same _ _ _, kept_same _ _ _, kept_same _ _ _,
        kept_same _ _ _, kept_same _ _ _, kept_same _ _ _, kept_same _ _ _, kept_same _ _ _, kept_same _ _ _, kept_same _ _ _,
        kept_same _ _ _, kept_same _ _ _⟩

@[simp] theorem putLaneCell_flows {K : Nat} {s0 s : State} (hk : K &&& 1024 = 0) (h : Flows K s0 s) {l b w : Nat} {c : ICell}
    : Flows K s0 (putLaneCell l b w c s) :=
    h.trans ⟨fun x => ⟨x.1, x.2.1, x.2.2.1, x.2.2.2.1, x.2.2.2.2.1, x.2.2.2.2.2.1, x.2.2.2.2.2.2.1, x.2.2.2.2.2.2.2.1,
      tabSet_wf x.2.2.2.2.2.2.2.2.1, x.2.2.2.2.2.2.2.2.2⟩, rfl, Nat.le_refl _, Nat.le_refl _, ⟨[], rfl⟩,
        kept_same _ _ _, kept_same _ _ _, kept_same _ _ _, kept_same _ _ _, kept_same _ _ _, kept_same _ _ _, kept_same _ _ _,
        kept_same _ _ _, kept_same _ _ _, .inl hk, kept_same _ _ _, kept_same _ _ _, kept_same _ _ _, kept_same _ _ _,
        kept_same _ _ _, kept_same _ _ _, kept_same _ _ _, kept_same _ _ _, kept_same _ _ _, kept_same _ _ _, kept_same _ _ _,
        kept_same _ _ _, kept_same _ _ _, kept_same _ _ _, kept_same _ _ _, kept_same _ _ _, kept_same _ _ _, kept_same _ _ _,
        kept_same _ _ _, kept_same _ _ _, kept_same _ _ _, kept_same _ _ _, kept_same _ _ _, kept_same _ _ _, kept_same _ _ _,
        kept_same _ _ _, kept_same _ _ _⟩

@[simp] theorem flows_dirty {K : Nat} {s0 s : State} (hk : K &&& 1024 = 0) (h : Flows K s0 s) {l : Nat} {b : Bool} : Flows K
    s0 ({ s with img := { s.img with dirty := tabSet (fun _ => false) s.img.dirty l b } }) :=
    h.trans ⟨fun x => ⟨x.1, x.2.1, x.2.2.1, x.2.2.2.1, x.2.2.2.2.1, x.2.2.2.2.2.1, x.2.2.2.2.2.2.1, tabSet_wf
      x.2.2.2.2.2.2.2.1, x.2.2.2.2.2.2.2.2⟩, rfl, Nat.le_refl _, Nat.le_refl _, ⟨[], rfl⟩,
        kept_same _ _ _, kept_same _ _ _, kept_same _ _ _, kept_same _ _ _, kept_same _ _ _, kept_same _ _ _, kept_same _ _ _,
        kept_same _ _ _, kept_same _ _ _, .inl hk, kept_same _ _ _, kept_same _ _ _, kept_same _ _ _, kept_same _ _ _,
        kept_same _ _ _, kept_same _ _ _, kept_same _ _ _, kept_same _ _ _, kept_same _ _ _, kept_same _ _ _, kept_same _ _ _,
        kept_same _ _ _, kept_same _ _ _, kept_same _ _ _, kept_same _ _ _, kept_same _ _ _, kept_same _ _ _, kept_same _ _ _,
        kept_same _ _ _, kept_same _ _ _, kept_same _ _ _, kept_same _ _ _, kept_same _ _ _, kept_same _ _ _, kept_same _ _ _,
        kept_same _ _ _, kept_same _ _ _⟩

@[simp] theorem flows_ite {K : Nat} {s0 a b : State} {c : Prop} [Decidable c] (ha : Flows K s0 a) (hb : Flows K s0 b) :
    Flows K s0 (if c then a else b) := by
  split
  · exact ha
  · exact hb

@[simp] theorem when_flows {K : Nat} {s0 s : State} (h : Flows K s0 s) {b : Bool} {f : State → State}
    (hf : ∀ t, Flows K s0 t → Flows K s0 (f t)) : Flows K s0 (when_ b f s) := by
  simp only [when_]
  split
  · exact hf s h
  · exact h

@[simp] theorem each_flows {α : Type} {f : α → State → State} {K : Nat} {s0 : State}
    (hf : ∀ x t, Flows K s0 t → Flows K s0 (f x t)) : ∀ {l : List α} {s : State}, Flows K s0 s → Flows K s0 (each l f s)
  | [], _, h => h
  | x :: l, s, h => each_flows (l := l) hf (hf x s h)

@[simp] theorem foldl_flows {α : Type} {f : State → α → State} {K : Nat} {s0 : State}
    (hf : ∀ x t, Flows K s0 t → Flows K s0 (f t x)) : ∀ {l : List α} {s : State}, Flows K s0 s → Flows K s0 (l.foldl f s)
  | [], _, h => h
  | x :: l, s, h => foldl_flows (l := l) hf (hf x s h)

theorem foldl_fst_flows {α β : Type} {f : State × β → α → State × β} {K : Nat} {s0 : State}
    (hf : ∀ x acc, Flows K s0 acc.1 → Flows K s0 (f acc x).1) :
    ∀ {l : List α} {acc : State × β}, Flows K s0 acc.1 → Flows K s0 (l.foldl f acc).1
  | [], _, h => h
  | x :: l, acc, h => foldl_fst_flows (l := l) hf (hf x acc h)

theorem foldl_snd_flows {α β : Type} {f : β × State → α → β × State} {K : Nat} {s0 : State}
    (hf : ∀ x acc, Flows K s0 acc.2 → Flows K s0 (f acc x).2) :
    ∀ {l : List α} {acc : β × State}, Flows K s0 acc.2 → Flows K s0 (l.foldl f acc).2
  | [], _, h => h
  | x :: l, acc, h => foldl_snd_flows (l := l) hf (hf x acc h)

end Sys2Proof.Machine
end

