-- ==== Sys2Proof/Laws/FlowsOps.lean ====
section
/-! SUPPORT. What the operations of Machine/Ops.lean keep, each said once: the masks name the fields of State they leave
alone (Laws/Flows.lean). -/

namespace Sys2Proof.Machine

@[simp] theorem setFld_flows {K : Nat} {s0 s : State} (hk : K &&& 4 = 0) (h : Flows K s0 s) {x1 x2 x3 x4} :
    Flows K s0 (setFld x1 x2 x3 x4 s) := by
  refine h.comp hk (?_ : Flows 274877906938 s (setFld x1 x2 x3 x4 s))
  have h := Flows.refl 274877906938 s
  simp +contextual (maxDischargeDepth := 40) [setFld, h]

@[simp] theorem setFlag_flows {K : Nat} {s0 s : State} (hk : K &&& 4 = 0) (h : Flows K s0 s) {x1 x2 x3} :
    Flows K s0 (setFlag x1 x2 x3 s) := by
  refine h.comp hk (?_ : Flows 274877906938 s (setFlag x1 x2 x3 s))
  have h := Flows.refl 274877906938 s
  simp +contextual (maxDischargeDepth := 40) [setFlag, h]

@[simp] theorem bump_flows {K : Nat} {s0 s : State} (hk : K &&& 4 = 0) (h : Flows K s0 s) {x1 x2} :
    Flows K s0 (bump x1 x2 s) := by
  refine h.comp hk (?_ : Flows 274877906938 s (bump x1 x2 s))
  have h := Flows.refl 274877906938 s
  simp +contextual (maxDischargeDepth := 40) [bump, h]

@[simp] theorem wrF_flows {K : Nat} {s0 s : State} (hk : K &&& 4 = 0) (h : Flows K s0 s) {x1 x2} :
    Flows K s0 (wrF x1 x2 s) := by
  refine h.comp hk (?_ : Flows 274877906938 s (wrF x1 x2 s))
  have h := Flows.refl 274877906938 s
  simp +contextual (maxDischargeDepth := 40) [wrF, h]

@[simp] theorem drawNext_flows {K : Nat} {s0 s : State} (hk : K &&& 137438953472 = 0) (h : Flows K s0 s) :
    Flows K s0 (drawNext s) := by
  refine h.comp hk (?_ : Flows 137438953470 s (drawNext s))
  have h := Flows.refl 137438953470 s
  simp +contextual (maxDischargeDepth := 40) [drawNext, h]

@[simp] theorem pmcAdd_flows {K : Nat} {s0 s : State} (hk : K &&& 16384 = 0) (h : Flows K s0 s) {x1 x2} :
    Flows K s0 (pmcAdd x1 x2 s) := by
  refine h.comp hk (?_ : Flows 274877890558 s (pmcAdd x1 x2 s))
  have h := Flows.refl 274877890558 s
  simp +contextual (maxDischargeDepth := 40) [pmcAdd, h]

@[simp] theorem pmcInc_flows {K : Nat} {s0 s : State} (hk : K &&& 16384 = 0) (h : Flows K s0 s) {x1} :
    Flows K s0 (pmcInc x1 s) := by
  refine h.comp hk (?_ : Flows 274877890558 s (pmcInc x1 s))
  have h := Flows.refl 274877890558 s
  simp +contextual (maxDischargeDepth := 40) [pmcInc, h]

@[simp] theorem shipRebase_flows {K : Nat} {s0 s : State} (hk : K &&& 4096 = 0) (h : Flows K s0 s) :
    Flows K s0 (shipRebase s) := by
  refine h.comp hk (?_ : Flows 274877902846 s (shipRebase s))
  have h := Flows.refl 274877902846 s
  simp +contextual (maxDischargeDepth := 40) [shipRebase, h]

end Sys2Proof.Machine
end

