-- ==== Sys2Proof/Laws/FlowsView.lean ====
section
/-! SUPPORT. What the operations of Machine/View.lean keep, each said once: the masks name the fields of State they leave
alone (Laws/Flows.lean). -/

namespace Sys2Proof.Machine

@[simp] theorem putSession_flows {K : Nat} {s0 s : State} (hk : K &&& 32768 = 0) (h : Flows K s0 s) {x1 x2} :
    Flows K s0 (putSession x1 x2 s) := by
  refine h.comp hk (?_ : Flows 274877874174 s (putSession x1 x2 s))
  have h := Flows.refl 274877874174 s
  simp +contextual (maxDischargeDepth := 40) [putSession, h]

@[simp] theorem missingClear_flows {K : Nat} {s0 s : State} (hk : K &&& 4 = 0) (h : Flows K s0 s) :
    Flows K s0 (missingClear s) := by
  refine h.comp hk (?_ : Flows 274877906938 s (missingClear s))
  have h := Flows.refl 274877906938 s
  simp +contextual (maxDischargeDepth := 40) [missingClear, h]

end Sys2Proof.Machine
end

