-- ==== Sys2Proof/Laws/FlowsEvents.lean ====
section
/-! SUPPORT. What the operations of Machine/Events.lean keep, each said once: the masks name the fields of State they leave
alone (Laws/Flows.lean). -/

namespace Sys2Proof.Machine

@[simp] theorem amendNewest_flows {K : Nat} {s0 s : State} (hk : K &&& 8192 = 0) (h : Flows K s0 s) {x1} :
    Flows K s0 (amendNewest x1 s) := by
  refine h.comp hk (?_ : Flows 274877898750 s (amendNewest x1 s))
  have h := Flows.refl 274877898750 s
  simp +contextual (maxDischargeDepth := 40) [amendNewest, h]

@[simp] theorem fireCore_flows {K : Nat} {s0 s : State} (hk : K &&& 24576 = 0) (h : Flows K s0 s) {x1 x2} :
    Flows K s0 (fireCore x1 x2 s) := by
  refine h.comp hk (?_ : Flows 274877882366 s (fireCore x1 x2 s))
  have h := Flows.refl 274877882366 s
  simp +contextual (maxDischargeDepth := 40) [fireCore, h]

@[simp] theorem setRaw_flows {K : Nat} {s0 s : State} (hk : K &&& 36 = 0) (h : Flows K s0 s) {x1 x2} :
    Flows K s0 (setRaw x1 x2 s) := by
  refine h.comp hk (?_ : Flows 274877906906 s (setRaw x1 x2 s))
  have h := Flows.refl 274877906906 s
  simp +contextual (maxDischargeDepth := 40) [setRaw, h]

@[simp] theorem notePend_flows {K : Nat} {s0 s : State} (hk : K &&& 32768 = 0) (h : Flows K s0 s) {x1 x2} :
    Flows K s0 (notePend x1 x2 s) := by
  refine h.comp hk (?_ : Flows 274877874174 s (notePend x1 x2 s))
  have h := Flows.refl 274877874174 s
  simp +contextual (maxDischargeDepth := 40) [notePend, h]

@[simp] theorem noteFault_flows {K : Nat} {s0 s : State} (hk : K &&& 34359738368 = 0) (h : Flows K s0 s) {x1 x2} :
    Flows K s0 (noteFault x1 x2 s) := by
  refine h.comp hk (?_ : Flows 240518168574 s (noteFault x1 x2 s))
  have h := Flows.refl 240518168574 s
  simp +contextual (maxDischargeDepth := 40) [noteFault, h]

@[simp] theorem evtRises_flows {K : Nat} {s0 s : State} (hk : K &&& 57344 = 0) (h : Flows K s0 s) {x1 x2} :
    Flows K s0 (evtRises x1 x2 s) := by
  refine h.comp hk (?_ : Flows 274877849598 s (evtRises x1 x2 s))
  have h := Flows.refl 274877849598 s
  simp +contextual (maxDischargeDepth := 40) [evtRises, h]

@[simp] theorem evtEnable_flows {K : Nat} {s0 s : State} (hk : K &&& 32772 = 0) (h : Flows K s0 s) {x1 x2} :
    Flows K s0 (evtEnable x1 x2 s) := by
  refine h.comp hk (?_ : Flows 274877874170 s (evtEnable x1 x2 s))
  have h := Flows.refl 274877874170 s
  simp +contextual (maxDischargeDepth := 40) [evtEnable, h]

@[simp] theorem wrOrEnable_flows {K : Nat} {s0 s : State} (hk : K &&& 32772 = 0) (h : Flows K s0 s) {x1 x2} :
    Flows K s0 (wrOrEnable x1 x2 s) := by
  refine h.comp hk (?_ : Flows 274877874170 s (wrOrEnable x1 x2 s))
  have h := Flows.refl 274877874170 s
  simp +contextual (maxDischargeDepth := 40) [wrOrEnable, h]

@[simp] theorem raiseCore_flows {K : Nat} {s0 s : State} (hk : K &&& 34359795748 = 0) (h : Flows K s0 s) {x1 x2} :
    Flows K s0 (raiseCore x1 x2 s) := by
  refine h.comp hk (?_ : Flows 240518111194 s (raiseCore x1 x2 s))
  have h := Flows.refl 240518111194 s
  simp +contextual (maxDischargeDepth := 40) [raiseCore, h]

@[simp] theorem dropCheck_flows {K : Nat} {s0 s : State} (hk : K &&& 34359795748 = 0) (h : Flows K s0 s) {x1} :
    Flows K s0 (dropCheck x1 s) := by
  refine h.comp hk (?_ : Flows 240518111194 s (dropCheck x1 s))
  have h := Flows.refl 240518111194 s
  simp +contextual (maxDischargeDepth := 40) [dropCheck, h]

@[simp] theorem raise__flows {K : Nat} {s0 s : State} (hk : K &&& 34359795748 = 0) (h : Flows K s0 s) {x1 x2} :
    Flows K s0 (raise_ x1 x2 s) := by
  refine h.comp hk (?_ : Flows 240518111194 s (raise_ x1 x2 s))
  have h := Flows.refl 240518111194 s
  simp +contextual (maxDischargeDepth := 40) [raise_, h]

@[simp] theorem fixedRec_flows {K : Nat} {s0 s : State} (hk : K &&& 34359795748 = 0) (h : Flows K s0 s) {x1 x2 x3 x4 x5} :
    Flows K s0 (fixedRec x1 x2 x3 x4 x5 s) := by
  refine h.comp hk (?_ : Flows 240518111194 s (fixedRec x1 x2 x3 x4 x5 s))
  have h := Flows.refl 240518111194 s
  simp +contextual (maxDischargeDepth := 40) [fixedRec, h]

@[simp] theorem setRole_flows {K : Nat} {s0 s : State} (hk : K &&& 34359795748 = 0) (h : Flows K s0 s) {x1} :
    Flows K s0 (setRole x1 s) := by
  refine h.comp hk (?_ : Flows 240518111194 s (setRole x1 s))
  have h := Flows.refl 240518111194 s
  simp +contextual (maxDischargeDepth := 40) [setRole, h]

@[simp] theorem setStale_flows {K : Nat} {s0 s : State} (hk : K &&& 34359795748 = 0) (h : Flows K s0 s) {x1} :
    Flows K s0 (setStale x1 s) := by
  refine h.comp hk (?_ : Flows 240518111194 s (setStale x1 s))
  have h := Flows.refl 240518111194 s
  simp +contextual (maxDischargeDepth := 40) [setStale, h]

@[simp] theorem putAch_flows {K : Nat} {s0 s : State} (hk : K &&& 4194304 = 0) (h : Flows K s0 s) {x1 x2} :
    Flows K s0 (putAch x1 x2 s) := by
  refine h.comp hk (?_ : Flows 274873712638 s (putAch x1 x2 s))
  have h := Flows.refl 274873712638 s
  simp +contextual (maxDischargeDepth := 40) [putAch, h]

@[simp] theorem hartEnd_flows {K : Nat} {s0 s : State} (hk : K &&& 34359795748 = 0) (h : Flows K s0 s) {x1 x2} :
    Flows K s0 (hartEnd x1 x2 s) := by
  refine h.comp hk (?_ : Flows 240518111194 s (hartEnd x1 x2 s))
  have h := Flows.refl 240518111194 s
  simp +contextual (maxDischargeDepth := 40) [hartEnd, h]

@[simp] theorem hartAbort_flows {K : Nat} {s0 s : State} (hk : K &&& 103083466788 = 0) (h : Flows K s0 s) {x1} :
    Flows K s0 (hartAbort x1 s) := by
  refine h.comp hk (?_ : Flows 171794440154 s (hartAbort x1 s))
  have h := Flows.refl 171794440154 s
  simp +contextual (maxDischargeDepth := 40) [hartAbort, h]

@[simp] theorem clearRunOf_flows {K : Nat} {s0 s : State} (hk : K &&& 4 = 0) (h : Flows K s0 s) {x1} :
    Flows K s0 (clearRunOf x1 s) := by
  refine h.comp hk (?_ : Flows 274877906938 s (clearRunOf x1 s))
  have h := Flows.refl 274877906938 s
  simp +contextual (maxDischargeDepth := 40) [clearRunOf, h]

@[simp] theorem achListen_flows {K : Nat} {s0 s : State} (hk : K &&& 103083466788 = 0) (h : Flows K s0 s) {x1} :
    Flows K s0 (achListen x1 s) := by
  refine h.comp hk (?_ : Flows 171794440154 s (achListen x1 s))
  have h := Flows.refl 171794440154 s
  simp +contextual (maxDischargeDepth := 40) [achListen, h]

@[simp] theorem noLines_flows {K : Nat} {s0 s : State} (hk : K &&& 262144 = 0) (h : Flows K s0 s) :
    Flows K s0 (noLines s) := by
  refine h.comp hk (?_ : Flows 274877644798 s (noLines s))
  have h := Flows.refl 274877644798 s
  simp +contextual (maxDischargeDepth := 40) [noLines, h]

end Sys2Proof.Machine
end

