-- ==== Sys2Proof/Laws/FlowsMgt.lean ====
section
/-! SUPPORT. What the operations of Machine/Mgt.lean keep, each said once: the masks name the fields of State they leave
alone (Laws/Flows.lean). -/

namespace Sys2Proof.Machine

@[simp] theorem setBankState_flows {K : Nat} {s0 s : State} (hk : K &&& 4 = 0) (h : Flows K s0 s) {x1 x2 x3} :
    Flows K s0 (setBankState x1 x2 x3 s) := by
  refine h.comp hk (?_ : Flows 274877906938 s (setBankState x1 x2 x3 s))
  have h := Flows.refl 274877906938 s
  simp +contextual (maxDischargeDepth := 40) [setBankState, h]

@[simp] theorem setNextBank_flows {K : Nat} {s0 s : State} (hk : K &&& 4 = 0) (h : Flows K s0 s) {x1 x2} :
    Flows K s0 (setNextBank x1 x2 s) := by
  refine h.comp hk (?_ : Flows 274877906938 s (setNextBank x1 x2 s))
  have h := Flows.refl 274877906938 s
  simp +contextual (maxDischargeDepth := 40) [setNextBank, h]

@[simp] theorem putProg_flows {K : Nat} {s0 s : State} (hk : K &&& 4294967296 = 0) (h : Flows K s0 s) {x1 x2} :
    Flows K s0 (putProg x1 x2 s) := by
  refine h.comp hk (?_ : Flows 270582939646 s (putProg x1 x2 s))
  have h := Flows.refl 270582939646 s
  simp +contextual (maxDischargeDepth := 40) [putProg, h]

@[simp] theorem showRam_flows {K : Nat} {s0 s : State} (hk : K &&& 4 = 0) (h : Flows K s0 s) :
    Flows K s0 (showRam s) := by
  refine h.comp hk (?_ : Flows 274877906938 s (showRam s))
  have h := Flows.refl 274877906938 s
  simp +contextual (maxDischargeDepth := 40) [showRam, h]

@[simp] theorem progEnd_flows {K : Nat} {s0 s : State} (hk : K &&& 4294967300 = 0) (h : Flows K s0 s) {x1 x2} :
    Flows K s0 (progEnd x1 x2 s) := by
  refine h.comp hk (?_ : Flows 270582939642 s (progEnd x1 x2 s))
  have h := Flows.refl 270582939642 s
  simp +contextual (maxDischargeDepth := 40) [progEnd, h]

@[simp] theorem progStart_flows {K : Nat} {s0 s : State} (hk : K &&& 4294967300 = 0) (h : Flows K s0 s) {x1} :
    Flows K s0 (progStart x1 s) := by
  refine h.comp hk (?_ : Flows 270582939642 s (progStart x1 s))
  have h := Flows.refl 270582939642 s
  simp +contextual (maxDischargeDepth := 40) [progStart, h]

@[simp] theorem progStop_flows {K : Nat} {s0 s : State} (hk : K &&& 4294967300 = 0) (h : Flows K s0 s) {x1} :
    Flows K s0 (progStop x1 s) := by
  refine h.comp hk (?_ : Flows 270582939642 s (progStop x1 s))
  have h := Flows.refl 270582939642 s
  simp +contextual (maxDischargeDepth := 40) [progStop, h]

@[simp] theorem progLoad_flows {K : Nat} {s0 s : State} (hk : K &&& 4 = 0) (h : Flows K s0 s) {x1 x2} :
    Flows K s0 (progLoad x1 x2 s) := by
  refine h.comp hk (?_ : Flows 274877906938 s (progLoad x1 x2 s))
  have h := Flows.refl 274877906938 s
  simp +contextual (maxDischargeDepth := 40) [progLoad, h]

@[simp] theorem progTake_flows {K : Nat} {s0 s : State} (hk : K &&& 4294967300 = 0) (h : Flows K s0 s) {x1} :
    Flows K s0 (progTake x1 s) := by
  refine h.comp hk (?_ : Flows 270582939642 s (progTake x1 s))
  have h := Flows.refl 270582939642 s
  simp +contextual (maxDischargeDepth := 40) [progTake, h]

@[simp] theorem progRole_flows {K : Nat} {s0 s : State} (hk : K &&& 4294967300 = 0) (h : Flows K s0 s) :
    Flows K s0 (progRole s) := by
  refine h.comp hk (?_ : Flows 270582939642 s (progRole s))
  have h := Flows.refl 270582939642 s
  simp +contextual (maxDischargeDepth := 40) [progRole, h]

@[simp] theorem takeRole_flows {K : Nat} {s0 s : State} (hk : K &&& 107378696228 = 0) (h : Flows K s0 s) {x1} :
    Flows K s0 (takeRole x1 s) := by
  refine h.comp hk (?_ : Flows 167499210714 s (takeRole x1 s))
  have h := Flows.refl 167499210714 s
  simp +contextual (maxDischargeDepth := 40) [takeRole, h]

@[simp] theorem progFault_flows {K : Nat} {s0 s : State} (hk : K &&& 38654763044 = 0) (h : Flows K s0 s) {x1 x2 x3} :
    Flows K s0 (progFault x1 x2 x3 s) := by
  refine h.comp hk (?_ : Flows 236223143898 s (progFault x1 x2 x3 s))
  have h := Flows.refl 236223143898 s
  simp +contextual (maxDischargeDepth := 40) [progFault, h]

theorem execProgWatchdog_flows {s t : State} {x1} (hx : execProgWatchdog x1 s = .next t) : Flows 236223143898 s t := by
  have h := Flows.refl 236223143898 s
  simp only [execProgWatchdog, Host.Outcome.next.injEq] at hx
  subst hx
  simp +contextual (maxDischargeDepth := 40) [h]

theorem execProgMemoryFault_flows {s t : State} {x1} (hx : execProgMemoryFault x1 s = .next t) : Flows 236223143898 s t := by
  have h := Flows.refl 236223143898 s
  simp only [execProgMemoryFault, Host.Outcome.next.injEq] at hx
  subst hx
  simp +contextual (maxDischargeDepth := 40) [h]

theorem execProgDatagram_flows {s t : State} {x1 x2 x3 x4 x5 x6 x7} (hx : execProgDatagram x1 x2 x3 x4 x5 x6 x7 s = .next t) : Flows 201863446526 s t := by
  have h := Flows.refl 201863446526 s
  simp only [execProgDatagram, Host.Outcome.next.injEq] at hx
  subst hx
  simp +contextual (maxDischargeDepth := 40) [h]

@[simp] theorem eraseBank_flows {K : Nat} {s0 s : State} (hk : K &&& 256 = 0) (h : Flows K s0 s) {x1} :
    Flows K s0 (eraseBank x1 s) := by
  refine h.comp hk (?_ : Flows 274877906686 s (eraseBank x1 s))
  have h := Flows.refl 274877906686 s
  simp +contextual (maxDischargeDepth := 40) [eraseBank, h]

@[simp] theorem updIdle_flows {K : Nat} {s0 s : State} (hk : K &&& 17179869444 = 0) (h : Flows K s0 s) :
    Flows K s0 (updIdle s) := by
  refine h.comp hk (?_ : Flows 257698037498 s (updIdle s))
  have h := Flows.refl 257698037498 s
  simp +contextual (maxDischargeDepth := 40) [updIdle, h]

@[simp] theorem updAbort_flows {K : Nat} {s0 s : State} (hk : K &&& 51539665188 = 0) (h : Flows K s0 s) :
    Flows K s0 (updAbort s) := by
  refine h.comp hk (?_ : Flows 223338241754 s (updAbort s))
  have h := Flows.refl 223338241754 s
  simp only [updAbort]
  (repeat' split) <;> (first | exact h | (simp +contextual (maxDischargeDepth := 40) [h]; done))

@[simp] theorem updOwnerGone_flows {K : Nat} {s0 s : State} (hk : K &&& 51539665188 = 0) (h : Flows K s0 s) {x1} :
    Flows K s0 (updOwnerGone x1 s) := by
  refine h.comp hk (?_ : Flows 223338241754 s (updOwnerGone x1 s))
  have h := Flows.refl 223338241754 s
  simp +contextual (maxDischargeDepth := 40) [updOwnerGone, h]

@[simp] theorem sensorCheck_flows {K : Nat} {s0 s : State} (hk : K &&& 38654763044 = 0) (h : Flows K s0 s) {x1} :
    Flows K s0 (sensorCheck x1 s) := by
  refine h.comp hk (?_ : Flows 236223143898 s (sensorCheck x1 s))
  have h := Flows.refl 236223143898 s
  simp only [sensorCheck]
  (repeat' split) <;> (first | exact h | (simp +contextual (maxDischargeDepth := 40) [h]; done))

@[simp] theorem sensorStore_flows {K : Nat} {s0 s : State} (hk : K &&& 4 = 0) (h : Flows K s0 s) {x1 x2 x3} :
    Flows K s0 (sensorStore x1 x2 x3 s) := by
  refine h.comp hk (?_ : Flows 274877906938 s (sensorStore x1 x2 x3 s))
  have h := Flows.refl 274877906938 s
  simp +contextual (maxDischargeDepth := 40) [sensorStore, h]

theorem execSensorLimit_flows {s t : State} {x1 x2 x3} (hx : execSensorLimit x1 x2 x3 s = .next t) : Flows 236223143898 s t := by
  have h := Flows.refl 236223143898 s
  simp only [execSensorLimit, Host.Outcome.next.injEq] at hx
  subst hx
  simp +contextual (maxDischargeDepth := 40) [h]

theorem execSensorFault_flows {s t : State} {x1} (hx : execSensorFault x1 s = .next t) : Flows 240518111194 s t := by
  have h := Flows.refl 240518111194 s
  simp only [execSensorFault, Host.Outcome.next.injEq] at hx
  subst hx
  simp +contextual (maxDischargeDepth := 40) [h]

end Sys2Proof.Machine
end

