-- ==== Sys2Proof/Laws/FlowsPair.lean ====
section
/-! SUPPORT. What the operations of Machine/Pair.lean keep, each said once: the masks name the fields of State they leave
alone (Laws/Flows.lean). -/

namespace Sys2Proof.Machine

@[simp] theorem putMbc_flows {K : Nat} {s0 s : State} (hk : K &&& 67108864 = 0) (h : Flows K s0 s) {x1 x2} :
    Flows K s0 (putMbc x1 x2 s) := by
  refine h.comp hk (?_ : Flows 274810798078 s (putMbc x1 x2 s))
  have h := Flows.refl 274810798078 s
  simp +contextual (maxDischargeDepth := 40) [putMbc, h]

@[simp] theorem mbcUpd_flows {K : Nat} {s0 s : State} (hk : K &&& 67108864 = 0) (h : Flows K s0 s) {x1 x2} :
    Flows K s0 (mbcUpd x1 x2 s) := by
  refine h.comp hk (?_ : Flows 274810798078 s (mbcUpd x1 x2 s))
  have h := Flows.refl 274810798078 s
  simp +contextual (maxDischargeDepth := 40) [mbcUpd, h]

@[simp] theorem mbcForce_flows {K : Nat} {s0 s : State} (hk : K &&& 67108864 = 0) (h : Flows K s0 s) {x1} :
    Flows K s0 (mbcForce x1 s) := by
  refine h.comp hk (?_ : Flows 274810798078 s (mbcForce x1 s))
  have h := Flows.refl 274810798078 s
  simp +contextual (maxDischargeDepth := 40) [mbcForce, h]

@[simp] theorem mbcLeave_flows {K : Nat} {s0 s : State} (hk : K &&& 67108864 = 0) (h : Flows K s0 s) :
    Flows K s0 (mbcLeave s) := by
  refine h.comp hk (?_ : Flows 274810798078 s (mbcLeave s))
  have h := Flows.refl 274810798078 s
  simp +contextual (maxDischargeDepth := 40) [mbcLeave, h]

@[simp] theorem requestSwap_flows {K : Nat} {s0 s : State} (hk : K &&& 131072 = 0) (h : Flows K s0 s) {x1} :
    Flows K s0 (requestSwap x1 s) := by
  refine h.comp hk (?_ : Flows 274877775870 s (requestSwap x1 s))
  have h := Flows.refl 274877775870 s
  simp +contextual (maxDischargeDepth := 40) [requestSwap, h]

@[simp] theorem handback_flows {K : Nat} {s0 s : State} (hk : K &&& 34359926820 = 0) (h : Flows K s0 s) {x1 x2} :
    Flows K s0 (handback x1 x2 s) := by
  refine h.comp hk (?_ : Flows 240517980122 s (handback x1 x2 s))
  have h := Flows.refl 240517980122 s
  simp only [handback]
  (repeat' split) <;> (first | exact h | (simp +contextual (maxDischargeDepth := 40) [h]; done))

@[simp] theorem sendFrame_flows {K : Nat} {s0 s : State} (hk : K &&& 68719624192 = 0) (h : Flows K s0 s) {x1 x2 x3 x4} :
    Flows K s0 (sendFrame x1 x2 x3 x4 s) := by
  refine h.comp hk (?_ : Flows 206158282750 s (sendFrame x1 x2 x3 x4 s))
  have h := Flows.refl 206158282750 s
  simp +contextual (maxDischargeDepth := 40) [sendFrame, h]

@[simp] theorem sendHeartbeat_flows {K : Nat} {s0 s : State} (hk : K &&& 68719624192 = 0) (h : Flows K s0 s) {x1} :
    Flows K s0 (sendHeartbeat x1 s) := by
  refine h.comp hk (?_ : Flows 206158282750 s (sendHeartbeat x1 s))
  have h := Flows.refl 206158282750 s
  simp +contextual (maxDischargeDepth := 40) [sendHeartbeat, h]

@[simp] theorem switchGave_flows {K : Nat} {s0 s : State} (hk : K &&& 4 = 0) (h : Flows K s0 s) {x1} :
    Flows K s0 (switchGave x1 s) := by
  refine h.comp hk (?_ : Flows 274877906938 s (switchGave x1 s))
  have h := Flows.refl 274877906938 s
  simp +contextual (maxDischargeDepth := 40) [switchGave, h]

@[simp] theorem clampToken_flows {K : Nat} {s0 s : State} (hk : K &&& 34359926820 = 0) (h : Flows K s0 s) {x1} :
    Flows K s0 (clampToken x1 s) := by
  refine h.comp hk (?_ : Flows 240517980122 s (clampToken x1 s))
  have h := Flows.refl 240517980122 s
  simp +contextual (maxDischargeDepth := 40) [clampToken, h]

@[simp] theorem releaseToken_flows {K : Nat} {s0 s : State} (hk : K &&& 103079403556 = 0) (h : Flows K s0 s) {x1} :
    Flows K s0 (releaseToken x1 s) := by
  refine h.comp hk (?_ : Flows 171798503386 s (releaseToken x1 s))
  have h := Flows.refl 171798503386 s
  simp +contextual (maxDischargeDepth := 40) [releaseToken, h]

@[simp] theorem setLaneMode_flows {K : Nat} {s0 s : State} (hk : K &&& 4 = 0) (h : Flows K s0 s) :
    Flows K s0 (setLaneMode s) := by
  refine h.comp hk (?_ : Flows 274877906938 s (setLaneMode s))
  have h := Flows.refl 274877906938 s
  simp +contextual (maxDischargeDepth := 40) [setLaneMode, h]

@[simp] theorem laneOffline_flows {K : Nat} {s0 s : State} (hk : K &&& 4 = 0) (h : Flows K s0 s) {x1} :
    Flows K s0 (laneOffline x1 s) := by
  refine h.comp hk (?_ : Flows 274877906938 s (laneOffline x1 s))
  have h := Flows.refl 274877906938 s
  simp +contextual (maxDischargeDepth := 40) [laneOffline, h]

@[simp] theorem seqRestart_flows {K : Nat} {s0 s : State} (hk : K &&& 8390656 = 0) (h : Flows K s0 s) {x1} :
    Flows K s0 (seqRestart x1 s) := by
  refine h.comp hk (?_ : Flows 274869516286 s (seqRestart x1 s))
  have h := Flows.refl 274869516286 s
  simp +contextual (maxDischargeDepth := 40) [seqRestart, h]

@[simp] theorem leaveRole_flows {K : Nat} {s0 s : State} (hk : K &&& 629278720 = 0) (h : Flows K s0 s) :
    Flows K s0 (leaveRole s) := by
  refine h.comp hk (?_ : Flows 274248628222 s (leaveRole s))
  have h := Flows.refl 274248628222 s
  simp +contextual (maxDischargeDepth := 40) [leaveRole, h]

@[simp] theorem enterSyncing_flows {K : Nat} {s0 s : State} (hk : K &&& 108007974948 = 0) (h : Flows K s0 s) :
    Flows K s0 (enterSyncing s) := by
  refine h.comp hk (?_ : Flows 166869931994 s (enterSyncing s))
  have h := Flows.refl 166869931994 s
  simp +contextual (maxDischargeDepth := 40) [enterSyncing, h]

@[simp] theorem laneFaultLockstep_flows {K : Nat} {s0 s : State} (hk : K &&& 108007974948 = 0) (h : Flows K s0 s) :
    Flows K s0 (laneFaultLockstep s) := by
  refine h.comp hk (?_ : Flows 166869931994 s (laneFaultLockstep s))
  have h := Flows.refl 166869931994 s
  simp +contextual (maxDischargeDepth := 40) [laneFaultLockstep, h]

@[simp] theorem stationLost_flows {K : Nat} {s0 s : State} (hk : K &&& 34359863332 = 0) (h : Flows K s0 s) :
    Flows K s0 (stationLost s) := by
  refine h.comp hk (?_ : Flows 240518043610 s (stationLost s))
  have h := Flows.refl 240518043610 s
  simp +contextual (maxDischargeDepth := 40) [stationLost, h]

@[simp] theorem laneVotedOut_flows {K : Nat} {s0 s : State} (hk : K &&& 34359863332 = 0) (h : Flows K s0 s) {x1} :
    Flows K s0 (laneVotedOut x1 s) := by
  refine h.comp hk (?_ : Flows 240518043610 s (laneVotedOut x1 s))
  have h := Flows.refl 240518043610 s
  simp +contextual (maxDischargeDepth := 40) [laneVotedOut, h]

@[simp] theorem laneFault_flows {K : Nat} {s0 s : State} (hk : K &&& 108008040484 = 0) (h : Flows K s0 s) {x1} :
    Flows K s0 (laneFault x1 s) := by
  refine h.comp hk (?_ : Flows 166869866458 s (laneFault x1 s))
  have h := Flows.refl 166869866458 s
  simp +contextual (maxDischargeDepth := 40) [laneFault, h]

end Sys2Proof.Machine
end

