-- ==== Sys2Proof/Laws/FlowsEngine.lean ====
section
/-! SUPPORT. What the operations of Machine/Engine.lean keep, each said once: the masks name the fields of State they leave
alone (Laws/Flows.lean). -/

namespace Sys2Proof.Machine

@[simp] theorem beginSlot_flows {K : Nat} {s0 s : State} (hk : K &&& 2048 = 0) (h : Flows K s0 s) {x1} :
    Flows K s0 (beginSlot x1 s) := by
  refine h.comp hk (?_ : Flows 274877904894 s (beginSlot x1 s))
  have h := Flows.refl 274877904894 s
  simp +contextual (maxDischargeDepth := 40) [beginSlot, h]

@[simp] theorem catchUp_flows {K : Nat} {s0 : State} (hk : K &&& 2048 = 0) {c : Nat} :
    ∀ {n : Nat} {s : State}, Flows K s0 s → Flows K s0 (catchUp c n s)
  | 0, _, h => h
  | n + 1, s, h => by
    simp only [catchUp]
    split
    · exact catchUp_flows hk (n := n) (beginSlot_flows (land_sub hk rfl) h)
    · exact h


@[simp] theorem strike_flows {K : Nat} {s0 s : State} (hk : K &&& 1024 = 0) (h : Flows K s0 s) {x1} :
    Flows K s0 (strike x1 s) := by
  refine h.comp hk (?_ : Flows 274877905918 s (strike x1 s))
  have h := Flows.refl 274877905918 s
  simp +contextual (maxDischargeDepth := 40) [strike, h]

@[simp] theorem eccNote_flows {K : Nat} {s0 s : State} (hk : K &&& 1024 = 0) (h : Flows K s0 s) {x1 x2 x3 x4} :
    Flows K s0 (eccNote x1 x2 x3 x4 s) := by
  refine h.comp hk (?_ : Flows 274877905918 s (eccNote x1 x2 x3 x4 s))
  have h := Flows.refl 274877905918 s
  simp +contextual (maxDischargeDepth := 40) [eccNote, h]

@[simp] theorem eccCheck_flows {K : Nat} {s0 s : State} (hk : K &&& 34359796772 = 0) (h : Flows K s0 s) {x1 x2 x3} :
    Flows K s0 (eccCheck x1 x2 x3 s) := by
  refine h.comp hk (?_ : Flows 240518110170 s (eccCheck x1 x2 x3 s))
  have h := Flows.refl 240518110170 s
  simp only [eccCheck]
  (repeat' split) <;> (first | exact h | (simp +contextual (maxDischargeDepth := 40) [h]; done))

@[simp] theorem engineTouch_flows {K : Nat} {s0 s : State} (hk : K &&& 34359796772 = 0) (h : Flows K s0 s) {x1} :
    Flows K s0 (engineTouch x1 s) := by
  refine h.comp hk (?_ : Flows 240518110170 s (engineTouch x1 s))
  have h := Flows.refl 240518110170 s
  simp +contextual (maxDischargeDepth := 40) [engineTouch, h]

@[simp] theorem hostTouch_flows {K : Nat} {s0 s : State} (hk : K &&& 34359796772 = 0) (h : Flows K s0 s) {x1} :
    Flows K s0 (hostTouch x1 s) := by
  refine h.comp hk (?_ : Flows 240518110170 s (hostTouch x1 s))
  have h := Flows.refl 240518110170 s
  simp +contextual (maxDischargeDepth := 40) [hostTouch, h]

@[simp] theorem handOver_flows {α : Type} [DecidableEq α] {K : Nat} {s0 s : State} (hk : K &&& 108008040484 = 0) {f : Nat → α}
    {k : α → State → State} (hf : ∀ c t, Flows K s0 t → Flows K s0 (k c t)) (h : Flows K s0 s) : Flows K s0 (handOver f k s) := by
  have h1 : Flows K s0 (each (voteOf ((lanesIn s).map (fun l => (l, f l)))).2 laneFault s) :=
    each_flows (fun _ _ g => laneFault_flows (land_sub hk rfl) g) h
  simp only [handOver]
  split
  · exact hf _ _ h1
  · exact h1


@[simp] theorem copyWord_flows {K : Nat} {s0 s : State} (hk : K &&& 34359796772 = 0) (h : Flows K s0 s) {x1 x2} :
    Flows K s0 (copyWord x1 x2 s) := by
  refine h.comp hk (?_ : Flows 240518110170 s (copyWord x1 x2 s))
  have h := Flows.refl 240518110170 s
  simp +contextual (maxDischargeDepth := 40) [copyWord, h]

@[simp] theorem openLine_flows {K : Nat} {s0 s : State} (hk : K &&& 34359796772 = 0) (h : Flows K s0 s) {x1} : Flows K s0 (openLine x1 s) := by
  refine h.comp hk (?_ : Flows 240518110170 s (openLine x1 s))
  have h := Flows.refl 240518110170 s
  have h1 : Flows 240518110170 s (each (List.range 16) (fun i => copyWord (lineDone s x1) (16 * x1 + i)) s) :=
    each_flows (fun _ _ h => copyWord_flows rfl h) h
  simp only [openLine]
  generalize each (List.range 16) (fun i => copyWord (lineDone s x1) (16 * x1 + i)) s = s1 at h1 ⊢
  split
  · exact h
  · exact pmcInc_flows rfl (flows_dirty rfl h1)

@[simp] theorem laneWrite_flows {K : Nat} {s0 s : State} (hk : K &&& 108008041508 = 0) (h : Flows K s0 s) {w f} :
    Flows K s0 (laneWrite w f s) := by
  refine h.comp hk (?_ : Flows 166869865434 s (laneWrite w f s))
  have h := Flows.refl 166869865434 s
  simp only [laneWrite]
  split
  · refine handOver_flows rfl (fun c t g => each_flows (fun _ _ g => putLaneCell_flows rfl g) (putCell_flows rfl g)) ?_
    split
    · exact engineTouch_flows rfl (openLine_flows rfl h)
    · exact openLine_flows rfl h
  · exact h


@[simp] theorem imgPut_flows {K : Nat} {s0 s : State} (hk : K &&& 108008041508 = 0) (h : Flows K s0 s) {x1 x2 x3} :
    Flows K s0 (imgPut x1 x2 x3 s) := by
  refine h.comp hk (?_ : Flows 166869865434 s (imgPut x1 x2 x3 s))
  have h := Flows.refl 166869865434 s
  simp +contextual (maxDischargeDepth := 40) [imgPut, h]

@[simp] theorem entryUpd_flows {K : Nat} {s0 s : State} (hk : K &&& 2048 = 0) (h : Flows K s0 s) {x1 x2} :
    Flows K s0 (entryUpd x1 x2 s) := by
  refine h.comp hk (?_ : Flows 274877904894 s (entryUpd x1 x2 s))
  have h := Flows.refl 274877904894 s
  simp +contextual (maxDischargeDepth := 40) [entryUpd, h]

@[simp] theorem countLate_flows {K : Nat} {s0 s : State} (hk : K &&& 2052 = 0) (h : Flows K s0 s) :
    Flows K s0 (countLate s) := by
  refine h.comp hk (?_ : Flows 274877904890 s (countLate s))
  have h := Flows.refl 274877904890 s
  simp +contextual (maxDischargeDepth := 40) [countLate, h]

@[simp] theorem noteLate_flows {K : Nat} {s0 s : State} (hk : K &&& 34359797796 = 0) (h : Flows K s0 s) {x1 x2 x3} :
    Flows K s0 (noteLate x1 x2 x3 s) := by
  refine h.comp hk (?_ : Flows 240518109146 s (noteLate x1 x2 x3 s))
  have h := Flows.refl 240518109146 s
  simp +contextual (maxDischargeDepth := 40) [noteLate, h]

@[simp] theorem noteReads_flows {K : Nat} {s0 s : State} (hk : K &&& 34359798820 = 0) (h : Flows K s0 s) {x1 x2 x3} :
    Flows K s0 (noteReads x1 x2 x3 s) := by
  refine h.comp hk (?_ : Flows 240518108122 s (noteReads x1 x2 x3 s))
  have h := Flows.refl 240518108122 s
  simp only [noteReads]
  (repeat' split) <;> (first | exact h | (simp +contextual (maxDischargeDepth := 40) [h]; done))

@[simp] theorem consume_flows {K : Nat} {s0 s : State} (hk : K &&& 108008041508 = 0) (h : Flows K s0 s) {e ws} {k : List ICell → State → State}
    (hf : ∀ c t, Flows K s0 t → Flows K s0 (k c t)) : Flows K s0 (consume e ws k s) :=
  handOver_flows (land_sub hk rfl) hf (noteReads_flows (land_sub hk rfl) h)


@[simp] theorem readVoted_flows {K : Nat} {s0 s : State} (hk : K &&& 108008041508 = 0) (h : Flows K s0 s) {uid e ws} :
    Flows K s0 (readVoted uid e ws s).2 :=
  each_flows (fun _ _ g => laneFault_flows (land_sub hk rfl) g) (noteReads_flows (land_sub hk rfl) h)


@[simp] theorem writeNow_flows {K : Nat} {s0 s : State} (hk : K &&& 108008041508 = 0) (h : Flows K s0 s) {x1 x2} :
    Flows K s0 (writeNow x1 x2 s) := by
  refine h.comp hk (?_ : Flows 166869865434 s (writeNow x1 x2 s))
  have h := Flows.refl 166869865434 s
  simp +contextual (maxDischargeDepth := 40) [writeNow, h]

@[simp] theorem goOn_flows {K : Nat} {s0 s : State} (hk : K &&& 2048 = 0) (h : Flows K s0 s) {x1 x2 x3 x4} :
    Flows K s0 (goOn x1 x2 x3 x4 s) := by
  refine h.comp hk (?_ : Flows 274877904894 s (goOn x1 x2 x3 x4 s))
  have h := Flows.refl 274877904894 s
  simp +contextual (maxDischargeDepth := 40) [goOn, h]

@[simp] theorem addActs_flows {K : Nat} {s0 s : State} (hk : K &&& 2048 = 0) (h : Flows K s0 s) {x1 x2} :
    Flows K s0 (addActs x1 x2 s) := by
  refine h.comp hk (?_ : Flows 274877904894 s (addActs x1 x2 s))
  have h := Flows.refl 274877904894 s
  simp +contextual (maxDischargeDepth := 40) [addActs, h]

@[simp] theorem addWrites_flows {K : Nat} {s0 s : State} (hk : K &&& 2048 = 0) (h : Flows K s0 s) {x1 x2} :
    Flows K s0 (addWrites x1 x2 s) := by
  refine h.comp hk (?_ : Flows 274877904894 s (addWrites x1 x2 s))
  have h := Flows.refl 274877904894 s
  simp +contextual (maxDischargeDepth := 40) [addWrites, h]

@[simp] theorem addKeeps_flows {K : Nat} {s0 s : State} (hk : K &&& 2048 = 0) (h : Flows K s0 s) {x1 x2 x3} :
    Flows K s0 (addKeeps x1 x2 x3 s) := by
  refine h.comp hk (?_ : Flows 274877904894 s (addKeeps x1 x2 x3 s))
  have h := Flows.refl 274877904894 s
  simp +contextual (maxDischargeDepth := 40) [addKeeps, h]

@[simp] theorem entryWrite_flows {K : Nat} {s0 s : State} (hk : K &&& 108008041508 = 0) (h : Flows K s0 s) {x1 x2 x3} :
    Flows K s0 (entryWrite x1 x2 x3 s) := by
  refine h.comp hk (?_ : Flows 166869865434 s (entryWrite x1 x2 x3 s))
  have h := Flows.refl 166869865434 s
  simp only [entryWrite]
  (repeat' split) <;> (first | exact h | (simp +contextual (maxDischargeDepth := 40) [h]; done))

@[simp] theorem entryKeep_flows {K : Nat} {s0 s : State} (hk : K &&& 108008041508 = 0) (h : Flows K s0 s) {x1 x2 x3 x4} :
    Flows K s0 (entryKeep x1 x2 x3 x4 s) := by
  refine h.comp hk (?_ : Flows 166869865434 s (entryKeep x1 x2 x3 x4 s))
  have h := Flows.refl 166869865434 s
  simp +contextual (maxDischargeDepth := 40) [entryKeep, h]

@[simp] theorem entryCopy_flows {K : Nat} {s0 s : State} (hk : K &&& 108008041508 = 0) (h : Flows K s0 s) {x1 x2 x3 x4} :
    Flows K s0 (entryCopy x1 x2 x3 x4 s) := by
  refine h.comp hk (?_ : Flows 166869865434 s (entryCopy x1 x2 x3 x4 s))
  have h := Flows.refl 166869865434 s
  simp +contextual (maxDischargeDepth := 40) [entryCopy, h]

@[simp] theorem entryFetch_flows {K : Nat} {s0 s : State} (hk : K &&& 108008041508 = 0) (h : Flows K s0 s) {uid e w} :
    Flows K s0 (entryFetch uid e w s) :=
  handOver_flows (land_sub hk rfl) (fun _ _ g => entryUpd_flows (land_sub hk rfl) g) (noteReads_flows (land_sub hk rfl) h)


@[simp] theorem holdWord_flows {K : Nat} {s0 s : State} (hk : K &&& 108008041508 = 0) (h : Flows K s0 s) {x1} :
    Flows K s0 (holdWord x1 s) := by
  refine h.comp hk (?_ : Flows 166869865434 s (holdWord x1 s))
  have h := Flows.refl 166869865434 s
  simp +contextual (maxDischargeDepth := 40) [holdWord, h]

end Sys2Proof.Machine
end

