-- ==== Sys2Proof/Laws/FlowsLoop.lean ====
section
/-! SUPPORT. What the operations of Machine/Loop.lean keep, each said once: the masks name the fields of State they leave
alone (Laws/Flows.lean). -/

namespace Sys2Proof.Machine

@[simp] theorem putLoop_flows {K : Nat} {s0 s : State} (hk : K &&& 8388608 = 0) (h : Flows K s0 s) {x1 x2} :
    Flows K s0 (putLoop x1 x2 s) := by
  refine h.comp hk (?_ : Flows 274869518334 s (putLoop x1 x2 s))
  have h := Flows.refl 274869518334 s
  simp +contextual (maxDischargeDepth := 40) [putLoop, h]

@[simp] theorem putLaneLoop_flows {K : Nat} {s0 s : State} (hk : K &&& 8388608 = 0) (h : Flows K s0 s) {x1 x2 x3} :
    Flows K s0 (putLaneLoop x1 x2 x3 s) := by
  refine h.comp hk (?_ : Flows 274869518334 s (putLaneLoop x1 x2 x3 s))
  have h := Flows.refl 274869518334 s
  simp +contextual (maxDischargeDepth := 40) [putLaneLoop, h]

@[simp] theorem loopUpd_flows {K : Nat} {s0 s : State} (hk : K &&& 8388608 = 0) (h : Flows K s0 s) {x1 x2} :
    Flows K s0 (loopUpd x1 x2 s) := by
  refine h.comp hk (?_ : Flows 274869518334 s (loopUpd x1 x2 s))
  have h := Flows.refl 274869518334 s
  simp +contextual (maxDischargeDepth := 40) [loopUpd, h]

@[simp] theorem setOscMap_flows {K : Nat} {s0 s : State} (hk : K &&& 4 = 0) (h : Flows K s0 s) {x1 x2} :
    Flows K s0 (setOscMap x1 x2 s) := by
  refine h.comp hk (?_ : Flows 274877906938 s (setOscMap x1 x2 s))
  have h := Flows.refl 274877906938 s
  simp +contextual (maxDischargeDepth := 40) [setOscMap, h]

@[simp] theorem setHoldMap_flows {K : Nat} {s0 s : State} (hk : K &&& 4 = 0) (h : Flows K s0 s) {x1 x2} :
    Flows K s0 (setHoldMap x1 x2 s) := by
  refine h.comp hk (?_ : Flows 274877906938 s (setHoldMap x1 x2 s))
  have h := Flows.refl 274877906938 s
  simp +contextual (maxDischargeDepth := 40) [setHoldMap, h]

@[simp] theorem stepEvents_flows {K : Nat} {s0 s : State} (hk : K &&& 34359795748 = 0) (h : Flows K s0 s) {x1 x2} :
    Flows K s0 (stepEvents x1 x2 s) := by
  refine h.comp hk (?_ : Flows 240518111194 s (stepEvents x1 x2 s))
  have h := Flows.refl 240518111194 s
  simp +contextual (maxDischargeDepth := 40) [stepEvents, h]

@[simp] theorem entryLoop_flows {K : Nat} {s0 s : State} (hk : K &&& 108008041508 = 0) (h : Flows K s0 s) {uid k} :
    Flows K s0 (entryLoop uid k s) := by
  refine h.comp hk (?_ : Flows 166869865434 s (entryLoop uid k s))
  have h := Flows.refl 166869865434 s
  simp only [entryLoop]
  split
  · exact h
  · refine handOver_flows rfl (fun v t g => ?_) (noteReads_flows rfl h)
    refine entryUpd_flows rfl ?_
    have g1 {l : List Nat} {f : Nat → LoopSt} {x : LoopSt} : Flows 166869865434 s (each l (fun lane u => putLaneLoop lane k (f lane) u) (putLoop k x t)) :=
      each_flows (fun _ _ g => putLaneLoop_flows rfl g) (putLoop_flows rfl g)
    split
    · exact wr_flows rfl (stepEvents_flows rfl (setOscMap_flows rfl (setHoldMap_flows rfl g1)))
    · exact stepEvents_flows rfl (setOscMap_flows rfl (setHoldMap_flows rfl g1))


end Sys2Proof.Machine
end

