-- ==== Sys2Proof/Laws/FlowsMaps.lean ====
section
/-! SUPPORT. What the operations of Machine/Maps.lean keep, each said once: the masks name the fields of State they leave
alone (Laws/Flows.lean). -/

namespace Sys2Proof.Machine

@[simp] theorem entrySend_flows {K : Nat} {s0 s : State} (hk : K &&& 34695340068 = 0) (h : Flows K s0 s) {x1} :
    Flows K s0 (entrySend x1 s) := by
  refine h.comp hk (?_ : Flows 240182566874 s (entrySend x1 s))
  have h := Flows.refl 240182566874 s
  simp only [entrySend]
  (repeat' split) <;> (first | exact h | (simp +contextual (maxDischargeDepth := 40) [h]; done))

@[simp] theorem putMap_flows {K : Nat} {s0 s : State} (hk : K &&& 134217728 = 0) (h : Flows K s0 s) {x1 x2} :
    Flows K s0 (putMap x1 x2 s) := by
  refine h.comp hk (?_ : Flows 274743689214 s (putMap x1 x2 s))
  have h := Flows.refl 274743689214 s
  simp +contextual (maxDischargeDepth := 40) [putMap, h]

@[simp] theorem mapDecide_flows {K : Nat} {s0 s : State} (hk : K &&& 34494013476 = 0) (h : Flows K s0 s) {x1} :
    Flows K s0 (mapDecide x1 s).2 := by
  refine h.comp hk (?_ : Flows 240383893466 s (mapDecide x1 s).2)
  have h := Flows.refl 240383893466 s
  simp only [mapDecide]
  (repeat' split) <;> (first | exact h | (simp +contextual (maxDischargeDepth := 40) [h]; done))

@[simp] theorem putMslMap_flows {K : Nat} {s0 s : State} (hk : K &&& 2147483648 = 0) (h : Flows K s0 s) {x1 x2} :
    Flows K s0 (putMslMap x1 x2 s) := by
  refine h.comp hk (?_ : Flows 272730423294 s (putMslMap x1 x2 s))
  have h := Flows.refl 272730423294 s
  simp +contextual (maxDischargeDepth := 40) [putMslMap, h]

@[simp] theorem fieldDecide_flows {K : Nat} {s0 s : State} (hk : K &&& 36507279396 = 0) (h : Flows K s0 s) {x1} :
    Flows K s0 (fieldDecide x1 s).2 := by
  refine h.comp hk (?_ : Flows 238370627546 s (fieldDecide x1 s).2)
  have h := Flows.refl 238370627546 s
  simp only [fieldDecide]
  (repeat' split) <;> (first | exact h | (simp +contextual (maxDischargeDepth := 40) [h]; done))

@[simp] theorem entryDecide_flows {K : Nat} {s0 s : State} (hk : K &&& 2048 = 0) {uid} {f : State → List Act × State}
    (hf : ∀ t, Flows K s0 t → Flows K s0 (f t).2) (h : Flows K s0 s) : Flows K s0 (entryDecide uid f s) :=
  entryUpd_flows (land_sub hk rfl) (hf s h)


end Sys2Proof.Machine
end

