-- ==== Sys2Proof/Laws/FlowsJobs.lean ====
section
/-! SUPPORT. What the operations of Machine/Jobs.lean keep, each said once: the masks name the fields of State they leave
alone (Laws/Flows.lean). -/

namespace Sys2Proof.Machine

@[simp] theorem putJob_flows {K : Nat} {s0 s : State} (hk : K &&& 16777216 = 0) (h : Flows K s0 s) {x1 x2} :
    Flows K s0 (putJob x1 x2 s) := by
  refine h.comp hk (?_ : Flows 274861129726 s (putJob x1 x2 s))
  have h := Flows.refl 274861129726 s
  simp +contextual (maxDischargeDepth := 40) [putJob, h]

@[simp] theorem jobEnds_flows {K : Nat} {s0 s : State} (hk : K &&& 16777220 = 0) (h : Flows K s0 s) {x1 x2} :
    Flows K s0 (jobEnds x1 x2 s) := by
  refine h.comp hk (?_ : Flows 274861129722 s (jobEnds x1 x2 s))
  have h := Flows.refl 274861129722 s
  simp +contextual (maxDischargeDepth := 40) [jobEnds, h]

@[simp] theorem entryGathered_flows {K : Nat} {s0 s : State} (hk : K &&& 34376572964 = 0) (h : Flows K s0 s) {x1} :
    Flows K s0 (entryGathered x1 s) := by
  refine h.comp hk (?_ : Flows 240501333978 s (entryGathered x1 s))
  have h := Flows.refl 240501333978 s
  simp only [entryGathered]
  (repeat' split) <;> (first | exact h | (simp +contextual (maxDischargeDepth := 40) [h]; done))

@[simp] theorem laneCheck_flows {K : Nat} {s0 s : State} (hk : K &&& 34376572964 = 0) (h : Flows K s0 s) {x1} :
    Flows K s0 (laneCheck x1 s) := by
  refine h.comp hk (?_ : Flows 240501333978 s (laneCheck x1 s))
  have h := Flows.refl 240501333978 s
  simp only [laneCheck]
  (repeat' split) <;> (first | exact h | (simp +contextual (maxDischargeDepth := 40) [h]; done))

@[simp] theorem badCells_flows {K : Nat} {s0 s : State} (hk : K &&& 137438953472 = 0) (h : Flows K s0 s) {x1} :
    Flows K s0 (badCells x1 s).2 := by
  refine h.comp hk (?_ : Flows 137438953470 s (badCells x1 s).2)
  have h := Flows.refl 137438953470 s
  simp +contextual (maxDischargeDepth := 40) [badCells, h]

@[simp] theorem fallbackCells_flows {K : Nat} {s0 s : State} (hk : K &&& 137438953476 = 0) (h : Flows K s0 s) {x1 x2} :
    Flows K s0 (fallbackCells x1 x2 s).2 := by
  refine h.comp hk (?_ : Flows 137438953466 s (fallbackCells x1 x2 s).2)
  have h := Flows.refl 137438953466 s
  simp only [fallbackCells]
  (repeat' split) <;> (first | exact h | (simp +contextual (maxDischargeDepth := 40) [h]; done))

@[simp] theorem slvFallback_flows {K : Nat} {s0 s : State} (hk : K &&& 245446994980 = 0) (h : Flows K s0 s) {x1 x2 x3} :
    Flows K s0 (slvFallback x1 x2 x3 s).2 := by
  refine h.comp hk (?_ : Flows 29430911962 s (slvFallback x1 x2 x3 s).2)
  have h := Flows.refl 29430911962 s
  simp +contextual (maxDischargeDepth := 40) [slvFallback, h]

@[simp] theorem slvAges_flows {K : Nat} {s0 s : State} (hk : K &&& 16388 = 0) (h : Flows K s0 s) {x1} :
    Flows K s0 (slvAges x1 s) := by
  refine h.comp hk (?_ : Flows 274877890554 s (slvAges x1 s))
  have h := Flows.refl 274877890554 s
  simp +contextual (maxDischargeDepth := 40) [slvAges, h]

@[simp] theorem slvFails_flows {K : Nat} {s0 s : State} (hk : K &&& 245446994980 = 0) (h : Flows K s0 s) {x1 x2 x3} :
    Flows K s0 (slvFails x1 x2 x3 s).2 := by
  refine h.comp hk (?_ : Flows 29430911962 s (slvFails x1 x2 x3 s).2)
  have h := Flows.refl 29430911962 s
  simp only [slvFails]
  (repeat' split) <;> (first | exact h | (simp +contextual (maxDischargeDepth := 40) [h]; done))

@[simp] theorem slvPublish_flows {K : Nat} {s0 s : State} (hk : K &&& 245446994980 = 0) (h : Flows K s0 s) {x1 x2 x3 x4 x5} :
    Flows K s0 (slvPublish x1 x2 x3 x4 x5 s).2 := by
  refine h.comp hk (?_ : Flows 29430911962 s (slvPublish x1 x2 x3 x4 x5 s).2)
  have h := Flows.refl 29430911962 s
  simp only [slvPublish]
  (repeat' split) <;> (first | exact h | (simp +contextual (maxDischargeDepth := 40) [h]; done))

@[simp] theorem slvOutcome_flows {K : Nat} {s0 s : State} (hk : K &&& 245446994980 = 0) (h : Flows K s0 s) {x1 x2 x3} :
    Flows K s0 (slvOutcome x1 x2 x3 s).2 := by
  refine h.comp hk (?_ : Flows 29430911962 s (slvOutcome x1 x2 x3 s).2)
  have h := Flows.refl 29430911962 s
  simp only [slvOutcome]
  (repeat' split) <;> (first | exact h | (simp +contextual (maxDischargeDepth := 40) [h]; done))

@[simp] theorem entryCollect_flows {K : Nat} {s0 s : State} (hk : K &&& 245446994980 = 0) (h : Flows K s0 s) {uid} :
    Flows K s0 (entryCollect uid s) := by
  refine h.comp hk (?_ : Flows 29430911962 s (entryCollect uid s))
  have h := Flows.refl 29430911962 s
  simp only [entryCollect]
  split
  · exact h
  · exact entryUpd_flows rfl (slvOutcome_flows rfl (laneCheck_flows rfl h))


end Sys2Proof.Machine
end

