-- ==== Sys2Proof/Laws/FlowsTime.lean ====
section
/-! SUPPORT. What the operations of Machine/Time.lean keep, each said once: the masks name the fields of State they leave
alone (Laws/Flows.lean). -/

namespace Sys2Proof.Machine

@[simp] theorem sendNote_flows {K : Nat} {s0 s : State} (hk : K &&& 103079272484 = 0) (h : Flows K s0 s) {x1 x2 x3} :
    Flows K s0 (sendNote x1 x2 x3 s) := by
  refine h.comp hk (?_ : Flows 171798634458 s (sendNote x1 x2 x3 s))
  have h := Flows.refl 171798634458 s
  simp +contextual (maxDischargeDepth := 40) [sendNote, h]

@[simp] theorem sendNotes_flows {K : Nat} {s0 s : State} (hk : K &&& 103079272484 = 0) (h : Flows K s0 s) {x1} :
    Flows K s0 (sendNotes x1 s) := by
  refine h.comp hk (?_ : Flows 171798634458 s (sendNotes x1 s))
  have h := Flows.refl 171798634458 s
  simp +contextual (maxDischargeDepth := 40) [sendNotes, h]

@[simp] theorem flushNotes_flows {K : Nat} {s0 s : State} (hk : K &&& 103079272484 = 0) (h : Flows K s0 s) :
    Flows K s0 (flushNotes s) := by
  refine h.comp hk (?_ : Flows 171798634458 s (flushNotes s))
  have h := Flows.refl 171798634458 s
  simp +contextual (maxDischargeDepth := 40) [flushNotes, h]

@[simp] theorem snapTouch_flows {K : Nat} {s0 s : State} (hk : K &&& 34359796772 = 0) (h : Flows K s0 s) {x1} :
    Flows K s0 (snapTouch x1 s) := by
  refine h.comp hk (?_ : Flows 240518110170 s (snapTouch x1 s))
  have h := Flows.refl 240518110170 s
  simp only [snapTouch]
  (repeat' split) <;> (first | exact h | (simp +contextual (maxDischargeDepth := 40) [h]; done))

@[simp] theorem captureOne_flows {K : Nat} {s0 s : State} (hk : K &&& 34359796772 = 0) (h : Flows K s0 s) :
    Flows K s0 (captureOne s) := by
  refine h.comp hk (?_ : Flows 240518110170 s (captureOne s))
  have h := Flows.refl 240518110170 s
  simp only [captureOne]
  (repeat' split) <;> (first | exact h | (simp +contextual (maxDischargeDepth := 40) [h]; done))

@[simp] theorem captureN_flows {K : Nat} {s0 : State} (hk : K &&& 34359796772 = 0) :
    ∀ {s : State}, Flows K s0 s → ∀ {n : Nat}, Flows K s0 (captureN n s)
  | _, h, 0 => h
  | _, h, n + 1 => captureN_flows hk (captureOne_flows (land_sub hk rfl) h) (n := n)


@[simp] theorem commitRing_flows {K : Nat} {s0 s : State} (hk : K &&& 34359795748 = 0) (h : Flows K s0 s) {x1} :
    Flows K s0 (commitRing x1 s) := by
  refine h.comp hk (?_ : Flows 240518111194 s (commitRing x1 s))
  have h := Flows.refl 240518111194 s
  simp +contextual (maxDischargeDepth := 40) [commitRing, h]

@[simp] theorem stageRec_flows {K : Nat} {s0 s : State} (hk : K &&& 34359795748 = 0) (h : Flows K s0 s) {x1} :
    Flows K s0 (stageRec x1 s) := by
  refine h.comp hk (?_ : Flows 240518111194 s (stageRec x1 s))
  have h := Flows.refl 240518111194 s
  simp +contextual (maxDischargeDepth := 40) [stageRec, h]

@[simp] theorem commitFront_flows {K : Nat} {s0 s : State} (hk : K &&& 34359796772 = 0) (h : Flows K s0 s) :
    Flows K s0 (commitFront s) := by
  refine h.comp hk (?_ : Flows 240518110170 s (commitFront s))
  have h := Flows.refl 240518110170 s
  simp only [commitFront]
  (repeat' split) <;> (first | exact h | (simp +contextual (maxDischargeDepth := 40) [h]; done))

@[simp] theorem commitAll_flows {K : Nat} {s0 s : State} (hk : K &&& 34359796772 = 0) (h : Flows K s0 s) :
    Flows K s0 (commitAll s) := by
  refine h.comp hk (?_ : Flows 240518110170 s (commitAll s))
  have h := Flows.refl 240518110170 s
  simp +contextual (maxDischargeDepth := 40) [commitAll, h]

@[simp] theorem commitStaged_flows {K : Nat} {s0 s : State} (hk : K &&& 34359795748 = 0) (h : Flows K s0 s) :
    Flows K s0 (commitStaged s) := by
  refine h.comp hk (?_ : Flows 240518111194 s (commitStaged s))
  have h := Flows.refl 240518111194 s
  simp +contextual (maxDischargeDepth := 40) [commitStaged, h]

@[simp] theorem doAct1_flows {K : Nat} {s0 s : State} (hk : K &&& 247997131812 = 0) (h : Flows K s0 s) {x1 x2 x4} :
    Flows K s0 (doAct1 x1 x2 s x4) := by
  refine h.comp hk (?_ : Flows 26880775130 s (doAct1 x1 x2 s x4))
  have h := Flows.refl 26880775130 s
  simp only [doAct1]
  (repeat' split) <;> (first | exact h | (simp +contextual (maxDischargeDepth := 40) [h]; done))

@[simp] theorem doAct_flows {K : Nat} {s0 s : State} (hk : K &&& 247997131812 = 0) (h : Flows K s0 s) {x1 x2} :
    Flows K s0 (doAct x1 x2 s) := by
  refine h.comp hk (?_ : Flows 26880775130 s (doAct x1 x2 s))
  have h := Flows.refl 26880775130 s
  simp only [doAct]
  (repeat' split) <;> (first | exact h | (simp +contextual (maxDischargeDepth := 40) [h]; done))

@[simp] theorem settle_flows {K : Nat} {s0 s : State} (hk : K &&& 247997131812 = 0) (h : Flows K s0 s) {x1} :
    Flows K s0 (settle x1 s) := by
  refine h.comp hk (?_ : Flows 26880775130 s (settle x1 s))
  have h := Flows.refl 26880775130 s
  simp +contextual (maxDischargeDepth := 40) [settle, h]

@[simp] theorem thrCount_flows {K : Nat} {s0 s : State} (hk : K &&& 16384 = 0) (h : Flows K s0 s) {x1 x2} :
    Flows K s0 (thrCount x1 x2 s) := by
  refine h.comp hk (?_ : Flows 274877890558 s (thrCount x1 x2 s))
  have h := Flows.refl 274877890558 s
  simp +contextual (maxDischargeDepth := 40) [thrCount, h]

@[simp] theorem wrapCheck_flows {K : Nat} {s0 s : State} (hk : K &&& 34359795748 = 0) (h : Flows K s0 s) :
    Flows K s0 (wrapCheck s) := by
  refine h.comp hk (?_ : Flows 240518111194 s (wrapCheck s))
  have h := Flows.refl 240518111194 s
  simp +contextual (maxDischargeDepth := 40) [wrapCheck, h]

@[simp] theorem netSends_flows {K : Nat} {s0 s : State} (hk : K &&& 69256364036 = 0) (h : Flows K s0 s) {x1} :
    Flows K s0 (netSends x1 s) := by
  refine h.comp hk (?_ : Flows 205621542906 s (netSends x1 s))
  have h := Flows.refl 205621542906 s
  simp +contextual (maxDischargeDepth := 40) [netSends, h]

@[simp] theorem runTo_flows {K : Nat} {s0 s : State} (hk : K &&& 247997131814 = 0) (h : Flows K s0 s) {c : Nat} :
    Flows K s0 (runTo c s) := by
  refine h.comp hk (?_ : Flows 26880775128 s (runTo c s))
  have h := Flows.refl 26880775128 s
  have h3 : Flows 26880775128 s (captureN (min (c - s.now) (captureLeft (pmcAdd 0 (c - s.now) (each (List.range 16) (thrCount (c - s.now))
      (flushNotes s))))) (pmcAdd 0 (c - s.now) (each (List.range 16) (thrCount (c - s.now)) (flushNotes s)))) := by
    simp +contextual (maxDischargeDepth := 40) [h]
  have hn : (captureN (min (c - s.now) (captureLeft (pmcAdd 0 (c - s.now) (each (List.range 16) (thrCount (c - s.now))
      (flushNotes s))))) (pmcAdd 0 (c - s.now) (each (List.range 16) (thrCount (c - s.now)) (flushNotes s)))).now = s.now := by
    have h4 : Flows 2 s (captureN (min (c - s.now) (captureLeft (pmcAdd 0 (c - s.now) (each (List.range 16) (thrCount (c - s.now))
      (flushNotes s))))) (pmcAdd 0 (c - s.now) (each (List.range 16) (thrCount (c - s.now)) (flushNotes s)))) := by
      simp +contextual (maxDischargeDepth := 40) [Flows.refl]
    exact h4.now.resolve_left (by decide)
  simp only [runTo]
  generalize captureN (min (c - s.now) (captureLeft (pmcAdd 0 (c - s.now) (each (List.range 16) (thrCount (c - s.now))
      (flushNotes s))))) (pmcAdd 0 (c - s.now) (each (List.range 16) (thrCount (c - s.now)) (flushNotes s))) = s3 at h3 hn ⊢
  split
  · exact h
  · next hc =>
    exact wrapCheck_flows rfl (netSends_flows rfl (settle_flows rfl (flows_now rfl h3 (by omega))))


@[simp] theorem advanceTo_flows {K : Nat} {s0 s : State} (hk : K &&& 247997131814 = 0) (h : Flows K s0 s) {c : Nat} :
    Flows K s0 (advanceTo c s) := by
  refine h.comp hk (?_ : Flows 26880775128 s (advanceTo c s))
  have h := Flows.refl 26880775128 s
  exact runTo_flows rfl (each_flows (fun _ _ g => runTo_flows rfl g) h)


@[simp] theorem beginDispatch_flows {K : Nat} {s0 s : State} (hk : K &&& 247997131814 = 0) (h : Flows K s0 s) {x1} :
    Flows K s0 (beginDispatch x1 s) := by
  refine h.comp hk (?_ : Flows 26880775128 s (beginDispatch x1 s))
  have h := Flows.refl 26880775128 s
  simp +contextual (maxDischargeDepth := 40) [beginDispatch, h]

@[simp] theorem dispatchEntry_flows {K : Nat} {s0 s : State} (hk : K &&& 247997131814 = 0) (h : Flows K s0 s) {run : Entry → EntryIo → State → State}
    (hr : ∀ e io t, Flows K s0 t → Flows K s0 (run e io t)) {e io} : Flows K s0 (dispatchEntry run e io s) := by
  have h1 : Flows K s0 (beginDispatch e.pos s) := beginDispatch_flows (land_sub hk rfl) h
  have hq : K &&& 2048 = 0 := land_sub hk rfl
  simp only [dispatchEntry]
  generalize beginDispatch e.pos s = s1 at h1 ⊢
  refine catchUp_flows hq ?_
  split
  · simp [h1, hq]
  · exact hr _ _ _ h1


@[simp] theorem dispatch_flows {K : Nat} {s0 s : State} (hk : K &&& 247997131814 = 0) (h : Flows K s0 s) {run : Entry → EntryIo → State → State}
    (hr : ∀ e io t, Flows K s0 t → Flows K s0 (run e io t)) {e io} : Flows K s0 (dispatch run e io s) := by
  have hq : K &&& 2048 = 0 := land_sub hk rfl
  simp only [dispatch]
  split
  · exact dispatchEntry_flows hk (by simp [h, hq]) hr
  · exact h


end Sys2Proof.Machine
end

