-- ==== Sys2Proof/Laws/FlowsDio.lean ====
section
/-! SUPPORT. What the operations of Machine/Dio.lean keep, each said once: the masks name the fields of State they leave
alone (Laws/Flows.lean). -/

namespace Sys2Proof.Machine

@[simp] theorem lineEnter_flows {K : Nat} {s0 s : State} (hk : K &&& 34359926820 = 0) (h : Flows K s0 s) {x1 x2 x3} :
    Flows K s0 (lineEnter x1 x2 x3 s) := by
  refine h.comp hk (?_ : Flows 240517980122 s (lineEnter x1 x2 x3 s))
  have h := Flows.refl 240517980122 s
  simp +contextual (maxDischargeDepth := 40) [lineEnter, h]

@[simp] theorem setCond_flows {K : Nat} {s0 s : State} (hk : K &&& 262144 = 0) (h : Flows K s0 s) {x1 x2 x3} :
    Flows K s0 (setCond x1 x2 x3 s) := by
  refine h.comp hk (?_ : Flows 274877644798 s (setCond x1 x2 x3 s))
  have h := Flows.refl 274877644798 s
  simp +contextual (maxDischargeDepth := 40) [setCond, h]

@[simp] theorem dropConds_flows {K : Nat} {s0 s : State} (hk : K &&& 262144 = 0) (h : Flows K s0 s) {x1} :
    Flows K s0 (dropConds x1 s) := by
  refine h.comp hk (?_ : Flows 274877644798 s (dropConds x1 s))
  have h := Flows.refl 274877644798 s
  simp +contextual (maxDischargeDepth := 40) [dropConds, h]

@[simp] theorem withLines_flows {K : Nat} {s0 s : State} (hk : K &&& 34360188964 = 0) (h : Flows K s0 s) {f : State → State} (hf : ∀ t, Flows K s0 t → Flows K s0 (f t)) :
    Flows K s0 (withLines f s) := by
  simp only [withLines]
  exact each_flows (fun _ _ g => flows_ite (dropConds_flows (land_sub hk rfl) (lineEnter_flows (land_sub hk rfl) g))
    (lineEnter_flows (land_sub hk rfl) g)) (hf s h)


@[simp] theorem dioSet_flows {K : Nat} {s0 s : State} (hk : K &&& 278528 = 0) (h : Flows K s0 s) {x1 x2} :
    Flows K s0 (dioSet x1 x2 s) := by
  refine h.comp hk (?_ : Flows 274877628414 s (dioSet x1 x2 s))
  have h := Flows.refl 274877628414 s
  simp +contextual (maxDischargeDepth := 40) [dioSet, h]

@[simp] theorem putPulse_flows {K : Nat} {s0 s : State} (hk : K &&& 262144 = 0) (h : Flows K s0 s) {x1 x2} :
    Flows K s0 (putPulse x1 x2 s) := by
  refine h.comp hk (?_ : Flows 274877644798 s (putPulse x1 x2 s))
  have h := Flows.refl 274877644798 s
  simp +contextual (maxDischargeDepth := 40) [putPulse, h]

@[simp] theorem startPulse_flows {K : Nat} {s0 s : State} (hk : K &&& 278532 = 0) (h : Flows K s0 s) {x1 x2} :
    Flows K s0 (startPulse x1 x2 s) := by
  refine h.comp hk (?_ : Flows 274877628410 s (startPulse x1 x2 s))
  have h := Flows.refl 274877628410 s
  simp +contextual (maxDischargeDepth := 40) [startPulse, h]

@[simp] theorem dioApply_flows {K : Nat} {s0 s : State} (hk : K &&& 278532 = 0) (h : Flows K s0 s) {x1 x2} :
    Flows K s0 (dioApply x1 x2 s) := by
  refine h.comp hk (?_ : Flows 274877628410 s (dioApply x1 x2 s))
  have h := Flows.refl 274877628410 s
  simp only [dioApply]
  (repeat' split) <;> (first | exact h | (simp +contextual (maxDischargeDepth := 40) [h]; done))

@[simp] theorem pulseTick_flows {K : Nat} {s0 s : State} (hk : K &&& 262144 = 0) (h : Flows K s0 s) {x1 x2} :
    Flows K s0 (pulseTick x1 x2 s) := by
  refine h.comp hk (?_ : Flows 274877644798 s (pulseTick x1 x2 s))
  have h := Flows.refl 274877644798 s
  simp only [pulseTick]
  (repeat' split) <;> (first | exact h | (simp +contextual (maxDischargeDepth := 40) [h]; done))

@[simp] theorem testPulses_flows {K : Nat} {s0 s : State} (hk : K &&& 262144 = 0) (h : Flows K s0 s) :
    Flows K s0 (testPulses s) := by
  refine h.comp hk (?_ : Flows 274877644798 s (testPulses s))
  have h := Flows.refl 274877644798 s
  simp +contextual (maxDischargeDepth := 40) [testPulses, h]

@[simp] theorem dioSlot_flows {K : Nat} {s0 s : State} (hk : K &&& 278532 = 0) (h : Flows K s0 s) :
    Flows K s0 (dioSlot s) := by
  refine h.comp hk (?_ : Flows 274877628410 s (dioSlot s))
  have h := Flows.refl 274877628410 s
  simp +contextual (maxDischargeDepth := 40) [dioSlot, h]

@[simp] theorem dioAsk_flows {K : Nat} {s0 s : State} (hk : K &&& 262144 = 0) (h : Flows K s0 s) {x1 x2} :
    Flows K s0 (dioAsk x1 x2 s) := by
  refine h.comp hk (?_ : Flows 274877644798 s (dioAsk x1 x2 s))
  have h := Flows.refl 274877644798 s
  simp +contextual (maxDischargeDepth := 40) [dioAsk, h]

@[simp] theorem runDioSample_flows {K : Nat} {s0 s : State} (hk : K &&& 2048 = 0) (h : Flows K s0 s) {x1} :
    Flows K s0 (runDioSample x1 s) := by
  refine h.comp hk (?_ : Flows 274877904894 s (runDioSample x1 s))
  have h := Flows.refl 274877904894 s
  simp +contextual (maxDischargeDepth := 40) [runDioSample, h]

@[simp] theorem faultAct_flows {K : Nat} {s0 s : State} (hk : K &&& 262144 = 0) (h : Flows K s0 s) {x1} :
    Flows K s0 (faultAct x1 s) := by
  refine h.comp hk (?_ : Flows 274877644798 s (faultAct x1 s))
  have h := Flows.refl 274877644798 s
  simp only [faultAct]
  (repeat' split) <;> (first | exact h | (simp +contextual (maxDischargeDepth := 40) [h]; done))

@[simp] theorem driveOne_flows {K : Nat} {s0 s : State} (hk : K &&& 262144 = 0) (h : Flows K s0 s) {x1 x2 x3 x4} :
    Flows K s0 (driveOne x1 x2 x3 x4 s) := by
  refine h.comp hk (?_ : Flows 274877644798 s (driveOne x1 x2 x3 x4 s))
  have h := Flows.refl 274877644798 s
  simp +contextual (maxDischargeDepth := 40) [driveOne, h]

@[simp] theorem driveWords_flows {K : Nat} {s0 s : State} (hk : K &&& 34360057892 = 0) (h : Flows K s0 s) {x1 x2 x3} :
    Flows K s0 (driveWords x1 x2 x3 s) := by
  refine h.comp hk (?_ : Flows 240517849050 s (driveWords x1 x2 x3 s))
  have h := Flows.refl 240517849050 s
  simp +contextual (maxDischargeDepth := 40) [driveWords, h]

@[simp] theorem runDioDrive_flows {K : Nat} {s0 s : State} (hk : K &&& 247997131814 = 0) (h : Flows K s0 s) {x1} :
    Flows K s0 (runDioDrive x1 s) := by
  refine h.comp hk (?_ : Flows 26880775128 s (runDioDrive x1 s))
  have h := Flows.refl 26880775128 s
  simp +contextual (maxDischargeDepth := 40) [runDioDrive, h]

@[simp] theorem dioStart_flows {K : Nat} {s0 s : State} (hk : K &&& 278528 = 0) (h : Flows K s0 s) :
    Flows K s0 (dioStart s) := by
  refine h.comp hk (?_ : Flows 274877628414 s (dioStart s))
  have h := Flows.refl 274877628414 s
  simp +contextual (maxDischargeDepth := 40) [dioStart, h]

theorem execDioSample_flows {s t : State} {x1 x2 x3 x4} (hx : execDioSample x1 x2 x3 x4 s = .next t) : Flows 26880775128 s t := by
  have h := Flows.refl 26880775128 s
  simp only [execDioSample, Host.Outcome.next.injEq] at hx
  subst hx
  simp +contextual (maxDischargeDepth := 40) [h]

theorem execDioDrive_flows {s t : State} {x1 x2 x3 x4 x5} (hx : execDioDrive x1 x2 x3 x4 x5 s = .next t) : Flows 26880775128 s t := by
  have h := Flows.refl 26880775128 s
  simp only [execDioDrive, Host.Outcome.next.injEq] at hx
  subst hx
  simp +contextual (maxDischargeDepth := 40) [h]

theorem execDiQualify_flows {s t : State} {x1 x2 x3} (hx : execDiQualify x1 x2 x3 s = .next t) : Flows 274877644798 s t := by
  have h := Flows.refl 274877644798 s
  simp only [execDiQualify, Host.Outcome.next.injEq] at hx
  subst hx
  simp +contextual (maxDischargeDepth := 40) [h]

theorem execFsLow_flows {s t : State} {x1} (hx : execFsLow x1 s = .next t) : Flows 240517717978 s t := by
  have h := Flows.refl 240517717978 s
  simp only [execFsLow, Host.Outcome.next.injEq] at hx
  subst hx
  simp +contextual (maxDischargeDepth := 40) [h]

theorem execFsLowClear_flows {s t : State} {x1} (hx : execFsLowClear x1 s = .next t) : Flows 240517717978 s t := by
  have h := Flows.refl 240517717978 s
  simp only [execFsLowClear, Host.Outcome.next.injEq] at hx
  subst hx
  simp +contextual (maxDischargeDepth := 40) [h]

@[simp] theorem testPulseEnd_flows {K : Nat} {s0 s : State} (hk : K &&& 34360188964 = 0) (h : Flows K s0 s) {x1 x2} :
    Flows K s0 (testPulseEnd x1 x2 s) := by
  refine h.comp hk (?_ : Flows 240517717978 s (testPulseEnd x1 x2 s))
  have h := Flows.refl 240517717978 s
  simp +contextual (maxDischargeDepth := 40) [testPulseEnd, h]

theorem execTestPulse_flows {s t : State} {x1 x2} (hx : execTestPulse x1 x2 s = .next t) : Flows 26880775128 s t := by
  have h := Flows.refl 26880775128 s
  simp only [execTestPulse, Host.Outcome.next.injEq] at hx
  subst hx
  (repeat' split) <;> (first | exact h | (simp +contextual (maxDischargeDepth := 40) [h]; done))

theorem execLineStateChange_flows {s t : State} {x1 x2 x3} (hx : execLineStateChange x1 x2 x3 s = .next t) : Flows 240517717978 s t := by
  have h := Flows.refl 240517717978 s
  simp only [execLineStateChange, Host.Outcome.next.injEq] at hx
  subst hx
  simp +contextual (maxDischargeDepth := 40) [h]

theorem execOutputShort_flows {s t : State} {x1 x2} (hx : execOutputShort x1 x2 s = .next t) : Flows 240517849050 s t := by
  have h := Flows.refl 240517849050 s
  simp only [execOutputShort, Host.Outcome.next.injEq] at hx
  subst hx
  simp +contextual (maxDischargeDepth := 40) [h]

theorem execOutputRetry_flows {s t : State} {x1} (hx : execOutputRetry x1 s = .next t) : Flows 274877644798 s t := by
  have h := Flows.refl 274877644798 s
  simp only [execOutputRetry, Host.Outcome.next.injEq] at hx
  subst hx
  simp +contextual (maxDischargeDepth := 40) [h]

theorem execPulseEnd_flows {s t : State} {x1} (hx : execPulseEnd x1 s = .next t) : Flows 274877628414 s t := by
  have h := Flows.refl 274877628414 s
  simp only [execPulseEnd, Host.Outcome.next.injEq] at hx
  subst hx
  simp +contextual (maxDischargeDepth := 40) [h]

theorem execDiscreteStageLetGo_flows {s t : State} (hx : execDiscreteStageLetGo s = .next t) : Flows 274877644798 s t := by
  have h := Flows.refl 274877644798 s
  simp only [execDiscreteStageLetGo, Host.Outcome.next.injEq] at hx
  subst hx
  simp +contextual (maxDischargeDepth := 40) [h]

end Sys2Proof.Machine
end

