-- ==== Sys2Proof/Laws/FlowsShaft.lean ====
section
/-! SUPPORT. What the operations of Machine/Shaft.lean keep, each said once: the masks name the fields of State they leave
alone (Laws/Flows.lean). -/

namespace Sys2Proof.Machine

@[simp] theorem showShaft_flows {K : Nat} {s0 s : State} (hk : K &&& 4 = 0) (h : Flows K s0 s) :
    Flows K s0 (showShaft s) := by
  refine h.comp hk (?_ : Flows 274877906938 s (showShaft s))
  have h := Flows.refl 274877906938 s
  simp +contextual (maxDischargeDepth := 40) [showShaft, h]

@[simp] theorem shaftMiss_flows {K : Nat} {s0 s : State} (hk : K &&& 34359795748 = 0) (h : Flows K s0 s) :
    Flows K s0 (shaftMiss s) := by
  refine h.comp hk (?_ : Flows 240518111194 s (shaftMiss s))
  have h := Flows.refl 240518111194 s
  simp +contextual (maxDischargeDepth := 40) [shaftMiss, h]

@[simp] theorem shaftDue_flows {K : Nat} {s0 s : State} (hk : K &&& 34359799844 = 0) (h : Flows K s0 s) {x1} :
    Flows K s0 (shaftDue x1 s) := by
  refine h.comp hk (?_ : Flows 240518107098 s (shaftDue x1 s))
  have h := Flows.refl 240518107098 s
  simp +contextual (maxDischargeDepth := 40) [shaftDue, h]

@[simp] theorem shaftCompare_flows {K : Nat} {s0 s : State} (hk : K &&& 34359799844 = 0) (h : Flows K s0 s) :
    Flows K s0 (shaftCompare s) := by
  refine h.comp hk (?_ : Flows 240518107098 s (shaftCompare s))
  have h := Flows.refl 240518107098 s
  simp +contextual (maxDischargeDepth := 40) [shaftCompare, h]

@[simp] theorem shaftEnter_flows {K : Nat} {s0 s : State} (hk : K &&& 34359795748 = 0) (h : Flows K s0 s) {x1} :
    Flows K s0 (shaftEnter x1 s) := by
  refine h.comp hk (?_ : Flows 240518111194 s (shaftEnter x1 s))
  have h := Flows.refl 240518111194 s
  simp only [shaftEnter]
  (repeat' split) <;> (first | exact h | (simp +contextual (maxDischargeDepth := 40) [h]; done))

@[simp] theorem shaftSpeedCheck_flows {K : Nat} {s0 s : State} (hk : K &&& 34359795748 = 0) (h : Flows K s0 s) :
    Flows K s0 (shaftSpeedCheck s) := by
  refine h.comp hk (?_ : Flows 240518111194 s (shaftSpeedCheck s))
  have h := Flows.refl 240518111194 s
  simp +contextual (maxDischargeDepth := 40) [shaftSpeedCheck, h]

@[simp] theorem shaftOverspeed_flows {K : Nat} {s0 s : State} (hk : K &&& 34359799844 = 0) (h : Flows K s0 s) :
    Flows K s0 (shaftOverspeed s) := by
  refine h.comp hk (?_ : Flows 240518107098 s (shaftOverspeed s))
  have h := Flows.refl 240518107098 s
  simp +contextual (maxDischargeDepth := 40) [shaftOverspeed, h]

@[simp] theorem shaftSlot_flows {K : Nat} {s0 s : State} (hk : K &&& 34359799844 = 0) (h : Flows K s0 s) :
    Flows K s0 (shaftSlot s) := by
  refine h.comp hk (?_ : Flows 240518107098 s (shaftSlot s))
  have h := Flows.refl 240518107098 s
  simp +contextual (maxDischargeDepth := 40) [shaftSlot, h]

@[simp] theorem shaftEdge_flows {K : Nat} {s0 s : State} (hk : K &&& 34359799844 = 0) (h : Flows K s0 s) {x1} :
    Flows K s0 (shaftEdge x1 s) := by
  refine h.comp hk (?_ : Flows 240518107098 s (shaftEdge x1 s))
  have h := Flows.refl 240518107098 s
  simp +contextual (maxDischargeDepth := 40) [shaftEdge, h]

@[simp] theorem shaftIndex_flows {K : Nat} {s0 s : State} (hk : K &&& 34359799844 = 0) (h : Flows K s0 s) {x1} :
    Flows K s0 (shaftIndex x1 s) := by
  refine h.comp hk (?_ : Flows 240518107098 s (shaftIndex x1 s))
  have h := Flows.refl 240518107098 s
  simp +contextual (maxDischargeDepth := 40) [shaftIndex, h]

@[simp] theorem shaftConfigure_flows {K : Nat} {s0 s : State} (hk : K &&& 34359799844 = 0) (h : Flows K s0 s) :
    Flows K s0 (shaftConfigure s) := by
  refine h.comp hk (?_ : Flows 240518107098 s (shaftConfigure s))
  have h := Flows.refl 240518107098 s
  simp +contextual (maxDischargeDepth := 40) [shaftConfigure, h]

@[simp] theorem putPiu_flows {K : Nat} {s0 s : State} (hk : K &&& 524288 = 0) (h : Flows K s0 s) {x1 x2} :
    Flows K s0 (putPiu x1 x2 s) := by
  refine h.comp hk (?_ : Flows 274877382654 s (putPiu x1 x2 s))
  have h := Flows.refl 274877382654 s
  simp +contextual (maxDischargeDepth := 40) [putPiu, h]

@[simp] theorem piuEdge_flows {K : Nat} {s0 s : State} (hk : K &&& 540672 = 0) (h : Flows K s0 s) {n rev} : Flows K s0 (piuEdge n rev s) := by
  refine h.comp hk (?_ : Flows 274877366270 s (piuEdge n rev s))
  have h := Flows.refl 274877366270 s
  unfold piuEdge
  extract_lets x t iv isOver y
  exact when_flows (pmcInc_flows rfl (putPiu_flows rfl h)) (fun _ h => pmcInc_flows rfl h)


@[simp] theorem piuSlot_flows {K : Nat} {s0 s : State} (hk : K &&& 524288 = 0) (h : Flows K s0 s) :
    Flows K s0 (piuSlot s) := by
  refine h.comp hk (?_ : Flows 274877382654 s (piuSlot s))
  have h := Flows.refl 274877382654 s
  simp +contextual (maxDischargeDepth := 40) [piuSlot, h]

@[simp] theorem piuMajor_flows {K : Nat} {s0 s : State} (hk : K &&& 34360320036 = 0) (h : Flows K s0 s) :
    Flows K s0 (piuMajor s) := by
  refine h.comp hk (?_ : Flows 240517586906 s (piuMajor s))
  have h := Flows.refl 240517586906 s
  simp +contextual (maxDischargeDepth := 40) [piuMajor, h]

@[simp] theorem runPiuLatch_flows {K : Nat} {s0 s : State} (hk : K &&& 542720 = 0) (h : Flows K s0 s) {x1} :
    Flows K s0 (runPiuLatch x1 s) := by
  refine h.comp hk (?_ : Flows 274877364222 s (runPiuLatch x1 s))
  have h := Flows.refl 274877364222 s
  simp +contextual (maxDischargeDepth := 40) [runPiuLatch, h]

theorem execToothEdge_flows {s t : State} {x1 x2 x3 x4} (hx : execToothEdge x1 x2 x3 x4 s = .next t) : Flows 26880246744 s t := by
  have h := Flows.refl 26880246744 s
  simp only [execToothEdge, Host.Outcome.next.injEq] at hx
  subst hx
  simp +contextual (maxDischargeDepth := 40) [h]

theorem execIndexEdge_flows {s t : State} {x1 x2 x3} (hx : execIndexEdge x1 x2 x3 s = .next t) : Flows 26880246744 s t := by
  have h := Flows.refl 26880246744 s
  simp only [execIndexEdge, Host.Outcome.next.injEq] at hx
  subst hx
  simp +contextual (maxDischargeDepth := 40) [h]

theorem execPiLineFault_flows {s t : State} {x1 x2} (hx : execPiLineFault x1 x2 s = .next t) : Flows 240517586906 s t := by
  have h := Flows.refl 240517586906 s
  simp only [execPiLineFault, Host.Outcome.next.injEq] at hx
  subst hx
  simp +contextual (maxDischargeDepth := 40) [h]

theorem execPiStall_flows {s t : State} {x1} (hx : execPiStall x1 s = .next t) : Flows 274877382654 s t := by
  have h := Flows.refl 274877382654 s
  simp only [execPiStall, Host.Outcome.next.injEq] at hx
  subst hx
  simp +contextual (maxDischargeDepth := 40) [h]

theorem execPiuLatch_flows {s t : State} {x1 x2 x3} (hx : execPiuLatch x1 x2 x3 s = .next t) : Flows 26880250840 s t := by
  have h := Flows.refl 26880250840 s
  simp only [execPiuLatch, Host.Outcome.next.injEq] at hx
  subst hx
  simp +contextual (maxDischargeDepth := 40) [h]

end Sys2Proof.Machine
end

