-- ==== Sys2Proof/Laws/FlowsImage.lean ====
section
/-! SUPPORT. What the operations of Machine/Image.lean keep, each said once: the masks name the fields of State they leave
alone (Laws/Flows.lean). -/

namespace Sys2Proof.Machine

@[simp] theorem scrubSlot_flows {K : Nat} {s0 s : State} (hk : K &&& 34359796772 = 0) (h : Flows K s0 s) :
    Flows K s0 (scrubSlot s) := by
  refine h.comp hk (?_ : Flows 240518110170 s (scrubSlot s))
  have h := Flows.refl 240518110170 s
  simp +contextual (maxDischargeDepth := 40) [scrubSlot, h]

@[simp] theorem seqPosition_flows {K : Nat} {s0 s : State} (hk : K &&& 2048 = 0) (h : Flows K s0 s) :
    Flows K s0 (seqPosition s) := by
  refine h.comp hk (?_ : Flows 274877904894 s (seqPosition s))
  have h := Flows.refl 274877904894 s
  simp +contextual (maxDischargeDepth := 40) [seqPosition, h]

@[simp] theorem seqLags_flows {K : Nat} {s0 s : State} (hk : K &&& 34359797796 = 0) (h : Flows K s0 s) {x1} :
    Flows K s0 (seqLags x1 s) := by
  refine h.comp hk (?_ : Flows 240518109146 s (seqLags x1 s))
  have h := Flows.refl 240518109146 s
  simp +contextual (maxDischargeDepth := 40) [seqLags, h]

@[simp] theorem laneStops_flows {K : Nat} {s0 s : State} (hk : K &&& 108008040484 = 0) (h : Flows K s0 s) {x1} :
    Flows K s0 (laneStops x1 s) := by
  refine h.comp hk (?_ : Flows 166869866458 s (laneStops x1 s))
  have h := Flows.refl 166869866458 s
  simp +contextual (maxDischargeDepth := 40) [laneStops, h]

theorem execLaneStop_flows {s t : State} {x1} (hx : execLaneStop x1 s = .next t) : Flows 166869866458 s t := by
  have h := Flows.refl 166869866458 s
  simp only [execLaneStop, Host.Outcome.next.injEq] at hx
  subst hx
  simp +contextual (maxDischargeDepth := 40) [h]

@[simp] theorem holdEntry_flows {K : Nat} {s0 s : State} (hk : K &&& 108008041508 = 0) (h : Flows K s0 s) {x1} :
    Flows K s0 (holdEntry x1 s) := by
  refine h.comp hk (?_ : Flows 166869865434 s (holdEntry x1 s))
  have h := Flows.refl 166869865434 s
  simp +contextual (maxDischargeDepth := 40) [holdEntry, h]

theorem foldl_flip_wf {l : List Nat} : ∀ {p : Tab Bool}, tabWf (fun _ => false) p = true →
    tabWf (fun _ => false) (l.foldl (fun p l => tabSet (fun _ => false) p l (!tabGet (fun _ => false) p l)) p) = true := by
  induction l with
  | nil => exact id
  | cons x l ih => exact fun h => ih (tabSet_wf h)

@[simp] theorem flipBanks_flows {K : Nat} {s0 s : State} (hk : K &&& 34359796780 = 0) (h : Flows K s0 s) : Flows K s0 (flipBanks s) := by
  refine h.comp hk (?_ : Flows 240518110162 s (flipBanks s))
  have h := Flows.refl 240518110162 s
  unfold flipBanks
  extract_lets lines n ptr img s1 s2 s3
  have h1 : Flows 240518110162 s s1 := ⟨fun t => ⟨t.1, t.2.1, t.2.2.1, t.2.2.2.1, t.2.2.2.2.1, t.2.2.2.2.2.1,
    foldl_flip_wf t.2.2.2.2.2.2.1, rfl, t.2.2.2.2.2.2.2.2⟩, rfl, Nat.le_refl _, Nat.le_refl _, ⟨[], rfl⟩,
    .inr rfl, .inr rfl, .inr rfl, .inr rfl, .inr rfl, .inr rfl, .inr rfl, .inr rfl, .inr rfl, .inl rfl, .inr rfl, .inr rfl, .inr rfl, .inr rfl, .inr rfl, .inr rfl, .inr rfl, .inr rfl, .inr rfl, .inr rfl, .inr rfl, .inr rfl, .inr rfl, .inr rfl, .inr rfl, .inr rfl, .inr rfl, .inr rfl, .inr rfl, .inr rfl, .inr rfl, .inr rfl, .inr rfl, .inr rfl, .inr rfl, .inr rfl, .inr rfl⟩
  have h2 : Flows 240518110162 s s2 := pmcInc_flows rfl (wideSet_flows rfl (wr_flows rfl h1))
  have h3 : Flows 240518110162 s s3 := flows_ite (wr_flows rfl h2) h2
  exact flows_ite (raise__flows rfl (bump_flows rfl h3)) h3

@[simp] theorem bankSwap_flows {K : Nat} {s0 s : State} (hk : K &&& 108008041516 = 0) (h : Flows K s0 s) :
    Flows K s0 (bankSwap s) := by
  refine h.comp hk (?_ : Flows 166869865426 s (bankSwap s))
  have h := Flows.refl 166869865426 s
  simp +contextual (maxDischargeDepth := 40) [bankSwap, h]

theorem execBankSwap_flows {s t : State} (hx : execBankSwap s = .next t) : Flows 166869865426 s t := by
  have h := Flows.refl 166869865426 s
  simp only [execBankSwap, Host.Outcome.next.injEq] at hx
  subst hx
  simp +contextual (maxDischargeDepth := 40) [h]

theorem execNop_flows {s t : State} {x1} (hx : execNop x1 s = .next t) : Flows 26880775128 s t := by
  have h := Flows.refl 26880775128 s
  simp only [execNop, Host.Outcome.next.injEq] at hx
  subst hx
  simp +contextual (maxDischargeDepth := 40) [h]

@[simp] theorem runImgCopy_flows {K : Nat} {s0 s : State} (hk : K &&& 2048 = 0) (h : Flows K s0 s) {x1} :
    Flows K s0 (runImgCopy x1 s) := by
  refine h.comp hk (?_ : Flows 274877904894 s (runImgCopy x1 s))
  have h := Flows.refl 274877904894 s
  simp +contextual (maxDischargeDepth := 40) [runImgCopy, h]

theorem execImgCopy_flows {s t : State} {x1 x2 x3 x4 x5} (hx : execImgCopy x1 x2 x3 x4 x5 s = .next t) : Flows 26880775128 s t := by
  have h := Flows.refl 26880775128 s
  simp only [execImgCopy, Host.Outcome.next.injEq] at hx
  subst hx
  simp +contextual (maxDischargeDepth := 40) [h]

end Sys2Proof.Machine
end

