-- ==== Sys2Proof/Laws/FlowsGmu.lean ====
section
/-! SUPPORT. What the operations of Machine/Gmu.lean keep, each said once: the masks name the fields of State they leave
alone (Laws/Flows.lean). -/

namespace Sys2Proof.Machine

@[simp] theorem gmuSample_flows {K : Nat} {s0 s : State} (hk : K &&& 1064960 = 0) (h : Flows K s0 s) {x1} :
    Flows K s0 (gmuSample x1 s) := by
  refine h.comp hk (?_ : Flows 274876841982 s (gmuSample x1 s))
  have h := Flows.refl 274876841982 s
  simp +contextual (maxDischargeDepth := 40) [gmuSample, h]

@[simp] theorem gmuShow_flows {K : Nat} {s0 s : State} (hk : K &&& 4 = 0) (h : Flows K s0 s) :
    Flows K s0 (gmuShow s) := by
  refine h.comp hk (?_ : Flows 274877906938 s (gmuShow s))
  have h := Flows.refl 274877906938 s
  simp +contextual (maxDischargeDepth := 40) [gmuShow, h]

@[simp] theorem gmuDeliver_flows {K : Nat} {s0 s : State} (hk : K &&& 1064964 = 0) (h : Flows K s0 s) :
    Flows K s0 (gmuDeliver s) := by
  refine h.comp hk (?_ : Flows 274876841978 s (gmuDeliver s))
  have h := Flows.refl 274876841978 s
  simp +contextual (maxDischargeDepth := 40) [gmuDeliver, h]

@[simp] theorem convCheck_flows {K : Nat} {s0 s : State} (hk : K &&& 34360844324 = 0) (h : Flows K s0 s) {x1 x2} :
    Flows K s0 (convCheck x1 x2 s) := by
  refine h.comp hk (?_ : Flows 240517062618 s (convCheck x1 x2 s))
  have h := Flows.refl 240517062618 s
  simp +contextual (maxDischargeDepth := 40) [convCheck, h]

@[simp] theorem gmuSetFlags_flows {K : Nat} {s0 s : State} (hk : K &&& 34359795748 = 0) (h : Flows K s0 s) {x1} :
    Flows K s0 (gmuSetFlags x1 s) := by
  refine h.comp hk (?_ : Flows 240518111194 s (gmuSetFlags x1 s))
  have h := Flows.refl 240518111194 s
  simp +contextual (maxDischargeDepth := 40) [gmuSetFlags, h]

@[simp] theorem gmuMajor_flows {K : Nat} {s0 s : State} (hk : K &&& 34360844332 = 0) (h : Flows K s0 s) {x1} :
    Flows K s0 (gmuMajor x1 s) := by
  refine h.comp hk (?_ : Flows 240517062610 s (gmuMajor x1 s))
  have h := Flows.refl 240517062610 s
  simp +contextual (maxDischargeDepth := 40) [gmuMajor, h]

@[simp] theorem runGmuSnap_flows {K : Nat} {s0 s : State} (hk : K &&& 2048 = 0) (h : Flows K s0 s) {x1} :
    Flows K s0 (runGmuSnap x1 s) := by
  refine h.comp hk (?_ : Flows 274877904894 s (runGmuSnap x1 s))
  have h := Flows.refl 274877904894 s
  simp +contextual (maxDischargeDepth := 40) [runGmuSnap, h]

theorem execGmuSnap_flows {s t : State} {x1 x2 x3} (hx : execGmuSnap x1 x2 x3 s = .next t) : Flows 26880775128 s t := by
  have h := Flows.refl 26880775128 s
  simp only [execGmuSnap, Host.Outcome.next.injEq] at hx
  subst hx
  simp +contextual (maxDischargeDepth := 40) [h]

end Sys2Proof.Machine
end

