-- ==== Sys2Proof/Laws/FlowsTimebase.lean ====
section
/-! SUPPORT. What the operations of Machine/Timebase.lean keep, each said once: the masks name the fields of State they leave
alone (Laws/Flows.lean). -/

namespace Sys2Proof.Machine

@[simp] theorem tbuApply_flows {K : Nat} {s0 s : State} (hk : K &&& 4100 = 0) (h : Flows K s0 s) :
    Flows K s0 (tbuApply s) := by
  refine h.comp hk (?_ : Flows 274877902842 s (tbuApply s))
  have h := Flows.refl 274877902842 s
  simp +contextual (maxDischargeDepth := 40) [tbuApply, h]

@[simp] theorem busEnter_flows {K : Nat} {s0 s : State} (hk : K &&& 34359795748 = 0) (h : Flows K s0 s) {x1} :
    Flows K s0 (busEnter x1 s) := by
  refine h.comp hk (?_ : Flows 240518111194 s (busEnter x1 s))
  have h := Flows.refl 240518111194 s
  simp only [busEnter]
  (repeat' split) <;> (first | exact h | (simp +contextual (maxDischargeDepth := 40) [h]; done))

@[simp] theorem tbuJudge_flows {K : Nat} {s0 s : State} (hk : K &&& 34359795748 = 0) (h : Flows K s0 s) :
    Flows K s0 (tbuJudge s) := by
  refine h.comp hk (?_ : Flows 240518111194 s (tbuJudge s))
  have h := Flows.refl 240518111194 s
  simp +contextual (maxDischargeDepth := 40) [tbuJudge, h]

@[simp] theorem tbuPhase_flows {K : Nat} {s0 s : State} (hk : K &&& 34359799844 = 0) (h : Flows K s0 s) :
    Flows K s0 (tbuPhase s) := by
  refine h.comp hk (?_ : Flows 240518107098 s (tbuPhase s))
  have h := Flows.refl 240518107098 s
  simp only [tbuPhase]
  (repeat' split) <;> (first | exact h | (simp +contextual (maxDischargeDepth := 40) [h]; done))

@[simp] theorem boundaryTick_flows {K : Nat} {s0 s : State} (hk : K &&& 1069060 = 0) (h : Flows K s0 s) :
    Flows K s0 (boundaryTick s) := by
  refine h.comp hk (?_ : Flows 274876837882 s (boundaryTick s))
  have h := Flows.refl 274876837882 s
  simp +contextual (maxDischargeDepth := 40) [boundaryTick, h]

@[simp] theorem tbuMinor_flows {K : Nat} {s0 s : State} (hk : K &&& 34360848420 = 0) (h : Flows K s0 s) :
    Flows K s0 (tbuMinor s) := by
  refine h.comp hk (?_ : Flows 240517058522 s (tbuMinor s))
  have h := Flows.refl 240517058522 s
  simp +contextual (maxDischargeDepth := 40) [tbuMinor, h]

@[simp] theorem tbuRocof_flows {K : Nat} {s0 s : State} (hk : K &&& 4100 = 0) (h : Flows K s0 s) :
    Flows K s0 (tbuRocof s) := by
  refine h.comp hk (?_ : Flows 274877902842 s (tbuRocof s))
  have h := Flows.refl 274877902842 s
  simp +contextual (maxDischargeDepth := 40) [tbuRocof, h]

@[simp] theorem standstillStart_flows {K : Nat} {s0 s : State} (hk : K &&& 2048 = 0) (h : Flows K s0 s) :
    Flows K s0 (standstillStart s) := by
  refine h.comp hk (?_ : Flows 274877904894 s (standstillStart s))
  have h := Flows.refl 274877904894 s
  simp +contextual (maxDischargeDepth := 40) [standstillStart, h]

@[simp] theorem tbuMajor_flows {K : Nat} {s0 s : State} (hk : K &&& 34359801892 = 0) (h : Flows K s0 s) :
    Flows K s0 (tbuMajor s) := by
  refine h.comp hk (?_ : Flows 240518105050 s (tbuMajor s))
  have h := Flows.refl 240518105050 s
  simp +contextual (maxDischargeDepth := 40) [tbuMajor, h]

@[simp] theorem slotAdvance_flows {K : Nat} {s0 s : State} (hk : K &&& 247999233062 = 0) (h : Flows K s0 s) :
    Flows K s0 (slotAdvance s) := by
  refine h.comp hk (?_ : Flows 26878673880 s (slotAdvance s))
  have h := Flows.refl 26878673880 s
  simp +contextual (maxDischargeDepth := 40) [slotAdvance, h]

@[simp] theorem shipRate_flows {K : Nat} {s0 s : State} (hk : K &&& 4096 = 0) (h : Flows K s0 s) {x1} :
    Flows K s0 (shipRate x1 s) := by
  refine h.comp hk (?_ : Flows 274877902846 s (shipRate x1 s))
  have h := Flows.refl 274877902846 s
  simp +contextual (maxDischargeDepth := 40) [shipRate, h]

@[simp] theorem shipStep_flows {K : Nat} {s0 s : State} (hk : K &&& 4096 = 0) (h : Flows K s0 s) {x1} :
    Flows K s0 (shipStep x1 s) := by
  refine h.comp hk (?_ : Flows 274877902846 s (shipStep x1 s))
  have h := Flows.refl 274877902846 s
  simp +contextual (maxDischargeDepth := 40) [shipStep, h]

@[simp] theorem ptpApply_flows {K : Nat} {s0 s : State} (hk : K &&& 34359799844 = 0) (h : Flows K s0 s) {x1} :
    Flows K s0 (ptpApply x1 s) := by
  refine h.comp hk (?_ : Flows 240518107098 s (ptpApply x1 s))
  have h := Flows.refl 240518107098 s
  simp +contextual (maxDischargeDepth := 40) [ptpApply, h]

theorem execShipHoldover_flows {s t : State} (hx : execShipHoldover s = .next t) : Flows 240518107098 s t := by
  have h := Flows.refl 240518107098 s
  simp only [execShipHoldover, Host.Outcome.next.injEq] at hx
  subst hx
  simp +contextual (maxDischargeDepth := 40) [h]

end Sys2Proof.Machine
end

