-- ==== Sys2Proof/Laws/FlowsSyn.lean ====
section
/-! SUPPORT. What the operations of Machine/Syn.lean keep, each said once: the masks name the fields of State they leave
alone (Laws/Flows.lean). -/

namespace Sys2Proof.Machine

@[simp] theorem setSynState_flows {K : Nat} {s0 s : State} (hk : K &&& 4 = 0) (h : Flows K s0 s) {x1 x2} :
    Flows K s0 (setSynState x1 x2 s) := by
  refine h.comp hk (?_ : Flows 274877906938 s (setSynState x1 x2 s))
  have h := Flows.refl 274877906938 s
  simp +contextual (maxDischargeDepth := 40) [setSynState, h]

@[simp] theorem putBlock_flows {K : Nat} {s0 s : State} (hk : K &&& 2097156 = 0) (h : Flows K s0 s) {x1 x2} :
    Flows K s0 (putBlock x1 x2 s) := by
  refine h.comp hk (?_ : Flows 274875809786 s (putBlock x1 x2 s))
  have h := Flows.refl 274875809786 s
  simp +contextual (maxDischargeDepth := 40) [putBlock, h]

@[simp] theorem putMode_flows {K : Nat} {s0 s : State} (hk : K &&& 2097152 = 0) (h : Flows K s0 s) {x1 x2} :
    Flows K s0 (putMode x1 x2 s) := by
  refine h.comp hk (?_ : Flows 274875809790 s (putMode x1 x2 s))
  have h := Flows.refl 274875809790 s
  simp +contextual (maxDischargeDepth := 40) [putMode, h]

@[simp] theorem synRelease_flows {K : Nat} {s0 s : State} (hk : K &&& 4 = 0) (h : Flows K s0 s) :
    Flows K s0 (synRelease s) := by
  refine h.comp hk (?_ : Flows 274877906938 s (synRelease s))
  have h := Flows.refl 274877906938 s
  simp +contextual (maxDischargeDepth := 40) [synRelease, h]

@[simp] theorem synFail_flows {K : Nat} {s0 s : State} (hk : K &&& 2097156 = 0) (h : Flows K s0 s) {x1 x2} :
    Flows K s0 (synFail x1 x2 s) := by
  refine h.comp hk (?_ : Flows 274875809786 s (synFail x1 x2 s))
  have h := Flows.refl 274875809786 s
  simp +contextual (maxDischargeDepth := 40) [synFail, h]

@[simp] theorem synArm_flows {K : Nat} {s0 s : State} (hk : K &&& 34361892900 = 0) (h : Flows K s0 s) {x1} :
    Flows K s0 (synArm x1 s) := by
  refine h.comp hk (?_ : Flows 240516014042 s (synArm x1 s))
  have h := Flows.refl 240516014042 s
  simp +contextual (maxDischargeDepth := 40) [synArm, h]

@[simp] theorem synPresent_flows {K : Nat} {s0 s : State} (hk : K &&& 34361892900 = 0) (h : Flows K s0 s) {x1} :
    Flows K s0 (synPresent x1 s) := by
  refine h.comp hk (?_ : Flows 240516014042 s (synPresent x1 s))
  have h := Flows.refl 240516014042 s
  simp +contextual (maxDischargeDepth := 40) [synPresent, h]

@[simp] theorem synWithdrawn_flows {K : Nat} {s0 s : State} (hk : K &&& 2097156 = 0) (h : Flows K s0 s) {x1} :
    Flows K s0 (synWithdrawn x1 s) := by
  refine h.comp hk (?_ : Flows 274875809786 s (synWithdrawn x1 s))
  have h := Flows.refl 274875809786 s
  simp only [synWithdrawn]
  (repeat' split) <;> (first | exact h | (simp +contextual (maxDischargeDepth := 40) [h]; done))

@[simp] theorem runSynArm_flows {K : Nat} {s0 s : State} (hk : K &&& 247999228966 = 0) (h : Flows K s0 s) {x1} :
    Flows K s0 (runSynArm x1 s) := by
  refine h.comp hk (?_ : Flows 26878677976 s (runSynArm x1 s))
  have h := Flows.refl 26878677976 s
  simp +contextual (maxDischargeDepth := 40) [runSynArm, h]

@[simp] theorem deadTrack_flows {K : Nat} {s0 s : State} (hk : K &&& 2097152 = 0) (h : Flows K s0 s) {x1 x2} :
    Flows K s0 (deadTrack x1 x2 s) := by
  refine h.comp hk (?_ : Flows 274875809790 s (deadTrack x1 x2 s))
  have h := Flows.refl 274875809790 s
  simp +contextual (maxDischargeDepth := 40) [deadTrack, h]

@[simp] theorem synPlan_flows {K : Nat} {s0 s : State} (hk : K &&& 4 = 0) (h : Flows K s0 s) {x1 x2 x3} :
    Flows K s0 (synPlan x1 x2 x3 s) := by
  refine h.comp hk (?_ : Flows 274877906938 s (synPlan x1 x2 x3 s))
  have h := Flows.refl 274877906938 s
  simp only [synPlan]
  (repeat' split) <;> (first | exact h | (simp +contextual (maxDischargeDepth := 40) [h]; done))

@[simp] theorem synDecide_flows {K : Nat} {s0 s : State} (hk : K &&& 2113540 = 0) (h : Flows K s0 s) {x1} :
    Flows K s0 (synDecide x1 s) := by
  refine h.comp hk (?_ : Flows 274875793402 s (synDecide x1 s))
  have h := Flows.refl 274875793402 s
  simp only [synDecide]
  (repeat' split) <;> (first | exact h | (simp +contextual (maxDischargeDepth := 40) [h]; done))

@[simp] theorem synMinor_flows {K : Nat} {s0 s : State} (hk : K &&& 2113540 = 0) (h : Flows K s0 s) : Flows K s0 (synMinor s) := by
  refine h.comp hk (?_ : Flows 274875793402 s (synMinor s))
  have h := Flows.refl 274875793402 s
  unfold synMinor
  extract_lets s1
  have h1 : Flows 274875793402 s s1 := each_flows (fun _ _ g => deadTrack_flows rfl (deadTrack_flows rfl g)) h
  clear_value s1
  split
  · split
    · exact (by simp [h1])
    · exact flows_ite (synDecide_flows rfl h1) h1
  · exact h1

theorem execSynArm_flows {s t : State} {x1 x2 x3 x4} (hx : execSynArm x1 x2 x3 x4 s = .next t) : Flows 26878677976 s t := by
  have h := Flows.refl 26878677976 s
  simp only [execSynArm, Host.Outcome.next.injEq] at hx
  subst hx
  simp +contextual (maxDischargeDepth := 40) [h]

theorem execSynSettled_flows {s t : State} (hx : execSynSettled s = .next t) : Flows 274875793402 s t := by
  have h := Flows.refl 274875793402 s
  simp only [execSynSettled, Host.Outcome.next.injEq] at hx
  subst hx
  (repeat' split) <;> (first | exact h | (simp +contextual (maxDischargeDepth := 40) [h]; done))

@[simp] theorem synIssue_flows {K : Nat} {s0 s : State} (hk : K &&& 34362155052 = 0) (h : Flows K s0 s) {x1} :
    Flows K s0 (synIssue x1 s) := by
  refine h.comp hk (?_ : Flows 240515751890 s (synIssue x1 s))
  have h := Flows.refl 240515751890 s
  simp +contextual (maxDischargeDepth := 40) [synIssue, h]

theorem execCloseIssued_flows {s t : State} (hx : execCloseIssued s = .next t) : Flows 240515751890 s t := by
  have h := Flows.refl 240515751890 s
  simp only [execCloseIssued, Host.Outcome.next.injEq] at hx
  subst hx
  (repeat' split) <;> (first | exact h | (simp +contextual (maxDischargeDepth := 40) [h]; done))

theorem execCloseDone_flows {s t : State} (hx : execCloseDone s = .next t) : Flows 240517849050 s t := by
  have h := Flows.refl 240517849050 s
  simp only [execCloseDone, Host.Outcome.next.injEq] at hx
  subst hx
  (repeat' split) <;> (first | exact h | (simp +contextual (maxDischargeDepth := 40) [h]; done))

@[simp] theorem synAbort_flows {K : Nat} {s0 s : State} (hk : K &&& 2097156 = 0) (h : Flows K s0 s) {bit : Nat} {f : State → State}
    (hf : ∀ t, Flows K s0 t → Flows K s0 (f t)) : Flows K s0 (synAbort bit f s) := by
  simp only [synAbort]
  split
  · exact flows_ite (hf _ (synFail_flows (land_sub hk rfl) h)) h
  · exact h

theorem execSynTimeout_flows {s t : State} (hx : execSynTimeout s = .next t) : Flows 240516014042 s t := by
  have h := Flows.refl 240516014042 s
  simp only [execSynTimeout, Host.Outcome.next.injEq] at hx
  subst hx
  simp +contextual (maxDischargeDepth := 40) [h]

theorem execArmStale_flows {s t : State} (hx : execArmStale s = .next t) : Flows 274875809786 s t := by
  have h := Flows.refl 274875809786 s
  simp only [execArmStale, Host.Outcome.next.injEq] at hx
  subst hx
  simp +contextual (maxDischargeDepth := 40) [h]

@[simp] theorem synDisarm_flows {K : Nat} {s0 s : State} (hk : K &&& 2097156 = 0) (h : Flows K s0 s) :
    Flows K s0 (synDisarm s) := by
  refine h.comp hk (?_ : Flows 274875809786 s (synDisarm s))
  have h := Flows.refl 274875809786 s
  simp +contextual (maxDischargeDepth := 40) [synDisarm, h]

@[simp] theorem synTakeover_flows {K : Nat} {s0 s : State} (hk : K &&& 2097156 = 0) (h : Flows K s0 s) :
    Flows K s0 (synTakeover s) := by
  refine h.comp hk (?_ : Flows 274875809786 s (synTakeover s))
  have h := Flows.refl 274875809786 s
  simp +contextual (maxDischargeDepth := 40) [synTakeover, h]

theorem execSynFeedback_flows {s t : State} (hx : execSynFeedback s = .next t) : Flows 240516014042 s t := by
  have h := Flows.refl 240516014042 s
  simp only [execSynFeedback, Host.Outcome.next.injEq] at hx
  subst hx
  (repeat' split) <;> (first | exact h | (simp +contextual (maxDischargeDepth := 40) [h]; done))

end Sys2Proof.Machine
end

