-- ==== Sys2Proof/Laws/FlowsAch.lean ====
section
/-! SUPPORT. What the operations of Machine/Ach.lean keep, each said once: the masks name the fields of State they leave
alone (Laws/Flows.lean). -/

namespace Sys2Proof.Machine

@[simp] theorem latchEvents_flows {K : Nat} {s0 s : State} (hk : K &&& 34359795748 = 0) (h : Flows K s0 s) {x1 x2 x3} :
    Flows K s0 (latchEvents x1 x2 x3 s) := by
  refine h.comp hk (?_ : Flows 240518111194 s (latchEvents x1 x2 x3 s))
  have h := Flows.refl 240518111194 s
  simp +contextual (maxDischargeDepth := 40) [latchEvents, h]

@[simp] theorem latchWrite_flows {K : Nat} {s0 s : State} (hk : K &&& 34363992100 = 0) (h : Flows K s0 s) {x1 x2 x3 x4 x5 x6 x7} :
    Flows K s0 (latchWrite x1 x2 x3 x4 x5 x6 x7 s) := by
  refine h.comp hk (?_ : Flows 240513914842 s (latchWrite x1 x2 x3 x4 x5 x6 x7 s))
  have h := Flows.refl 240513914842 s
  simp +contextual (maxDischargeDepth := 40) [latchWrite, h]

@[simp] theorem latchHeld_flows {K : Nat} {s0 s : State} (hk : K &&& 2052 = 0) (h : Flows K s0 s) {x1 x2 x3} :
    Flows K s0 (latchHeld x1 x2 x3 s) := by
  refine h.comp hk (?_ : Flows 274877904890 s (latchHeld x1 x2 x3 s))
  have h := Flows.refl 274877904890 s
  simp +contextual (maxDischargeDepth := 40) [latchHeld, h]

@[simp] theorem latchInput_flows {K : Nat} {s0 s : State} (hk : K &&& 34363992100 = 0) (h : Flows K s0 s) {x1 x2 x3 x4 x5} :
    Flows K s0 (latchInput x1 x2 x3 x4 x5 s) := by
  refine h.comp hk (?_ : Flows 240513914842 s (latchInput x1 x2 x3 x4 x5 s))
  have h := Flows.refl 240513914842 s
  simp +contextual (maxDischargeDepth := 40) [latchInput, h]

@[simp] theorem latchOutput_flows {K : Nat} {s0 s : State} (hk : K &&& 34363992100 = 0) (h : Flows K s0 s) {x1 x2 x3 x4} :
    Flows K s0 (latchOutput x1 x2 x3 x4 s) := by
  refine h.comp hk (?_ : Flows 240513914842 s (latchOutput x1 x2 x3 x4 s))
  have h := Flows.refl 240513914842 s
  simp +contextual (maxDischargeDepth := 40) [latchOutput, h]

@[simp] theorem latchBringup_flows {K : Nat} {s0 s : State} (hk : K &&& 34363992100 = 0) (h : Flows K s0 s) {x1 x2} :
    Flows K s0 (latchBringup x1 x2 s) := by
  refine h.comp hk (?_ : Flows 240513914842 s (latchBringup x1 x2 s))
  have h := Flows.refl 240513914842 s
  simp only [latchBringup]
  (repeat' split) <;> (first | exact h | (simp +contextual (maxDischargeDepth := 40) [h]; done))

@[simp] theorem latchOff_flows {K : Nat} {s0 s : State} (hk : K &&& 4196356 = 0) (h : Flows K s0 s) {x1 x2} :
    Flows K s0 (latchOff x1 x2 s) := by
  refine h.comp hk (?_ : Flows 274873710586 s (latchOff x1 x2 s))
  have h := Flows.refl 274873710586 s
  simp +contextual (maxDischargeDepth := 40) [latchOff, h]

@[simp] theorem latchTemps_flows {K : Nat} {s0 s : State} (hk : K &&& 4 = 0) (h : Flows K s0 s) {x1 x2} :
    Flows K s0 (latchTemps x1 x2 s) := by
  refine h.comp hk (?_ : Flows 274877906938 s (latchTemps x1 x2 s))
  have h := Flows.refl 274877906938 s
  simp +contextual (maxDischargeDepth := 40) [latchTemps, h]

@[simp] theorem achLatch_flows {K : Nat} {s0 s : State} (hk : K &&& 34363992100 = 0) (h : Flows K s0 s) {x1 x2 x3} :
    Flows K s0 (achLatch x1 x2 x3 s) := by
  refine h.comp hk (?_ : Flows 240513914842 s (achLatch x1 x2 x3 s))
  have h := Flows.refl 240513914842 s
  simp only [achLatch]
  (repeat' split) <;> (first | exact h | (simp +contextual (maxDischargeDepth := 40) [h]; done))

@[simp] theorem abandon_flows {K : Nat} {s0 s : State} (hk : K &&& 34359795748 = 0) (h : Flows K s0 s) {x1} :
    Flows K s0 (abandon x1 s) := by
  refine h.comp hk (?_ : Flows 240518111194 s (abandon x1 s))
  have h := Flows.refl 240518111194 s
  simp +contextual (maxDischargeDepth := 40) [abandon, h]

@[simp] theorem openWindow_flows {K : Nat} {s0 s : State} (hk : K &&& 34363990052 = 0) (h : Flows K s0 s) {x1 x2} :
    Flows K s0 (openWindow x1 x2 s) := by
  refine h.comp hk (?_ : Flows 240513916890 s (openWindow x1 x2 s))
  have h := Flows.refl 240513916890 s
  simp +contextual (maxDischargeDepth := 40) [openWindow, h]

@[simp] theorem setNext_flows {K : Nat} {s0 s : State} (hk : K &&& 4194304 = 0) (h : Flows K s0 s) {x1 x2} :
    Flows K s0 (setNext x1 x2 s) := by
  refine h.comp hk (?_ : Flows 274873712638 s (setNext x1 x2 s))
  have h := Flows.refl 274873712638 s
  simp +contextual (maxDischargeDepth := 40) [setNext, h]

@[simp] theorem unclamp_flows {K : Nat} {s0 s : State} (hk : K &&& 4194304 = 0) (h : Flows K s0 s) {x1} :
    Flows K s0 (unclamp x1 s) := by
  refine h.comp hk (?_ : Flows 274873712638 s (unclamp x1 s))
  have h := Flows.refl 274873712638 s
  simp +contextual (maxDischargeDepth := 40) [unclamp, h]

@[simp] theorem cmdFault_flows {K : Nat} {s0 s : State} (hk : K &&& 4194308 = 0) (h : Flows K s0 s) {x1} :
    Flows K s0 (cmdFault x1 s) := by
  refine h.comp hk (?_ : Flows 274873712634 s (cmdFault x1 s))
  have h := Flows.refl 274873712634 s
  simp +contextual (maxDischargeDepth := 40) [cmdFault, h]

@[simp] theorem driveCmd_flows {K : Nat} {s0 s : State} (hk : K &&& 34363990052 = 0) (h : Flows K s0 s) {x1 x2} :
    Flows K s0 (driveCmd x1 x2 s) := by
  refine h.comp hk (?_ : Flows 240513916890 s (driveCmd x1 x2 s))
  have h := Flows.refl 240513916890 s
  simp +contextual (maxDischargeDepth := 40) [driveCmd, h]

@[simp] theorem loadWord_flows {K : Nat} {s0 s : State} (hk : K &&& 34363990052 = 0) (h : Flows K s0 s) {x1 x2} :
    Flows K s0 (loadWord x1 x2 s) := by
  refine h.comp hk (?_ : Flows 240513916890 s (loadWord x1 x2 s))
  have h := Flows.refl 240513916890 s
  simp +contextual (maxDischargeDepth := 40) [loadWord, h]

@[simp] theorem loadCommand_flows {K : Nat} {s0 s : State} (hk : K &&& 247997131814 = 0) (h : Flows K s0 s) {x1 x2} :
    Flows K s0 (loadCommand x1 x2 s) := by
  refine h.comp hk (?_ : Flows 26880775128 s (loadCommand x1 x2 s))
  have h := Flows.refl 26880775128 s
  simp +contextual (maxDischargeDepth := 40) [loadCommand, h]

@[simp] theorem achStart_flows {K : Nat} {s0 s : State} (hk : K &&& 247997131814 = 0) (h : Flows K s0 s) {x1} :
    Flows K s0 (achStart x1 s) := by
  refine h.comp hk (?_ : Flows 26880775128 s (achStart x1 s))
  have h := Flows.refl 26880775128 s
  simp +contextual (maxDischargeDepth := 40) [achStart, h]

@[simp] theorem runAchStart_flows {K : Nat} {s0 s : State} (hk : K &&& 247997131814 = 0) (h : Flows K s0 s) {x1 x2} :
    Flows K s0 (runAchStart x1 x2 s) := by
  refine h.comp hk (?_ : Flows 26880775128 s (runAchStart x1 x2 s))
  have h := Flows.refl 26880775128 s
  simp +contextual (maxDischargeDepth := 40) [runAchStart, h]

@[simp] theorem runAchLatch_flows {K : Nat} {s0 s : State} (hk : K &&& 34363992100 = 0) (h : Flows K s0 s) {x1 x2} :
    Flows K s0 (runAchLatch x1 x2 s) := by
  refine h.comp hk (?_ : Flows 240513914842 s (runAchLatch x1 x2 s))
  have h := Flows.refl 240513914842 s
  simp +contextual (maxDischargeDepth := 40) [runAchLatch, h]

theorem execAchStart_flows {s t : State} {x1 x2 x3 x4} (hx : execAchStart x1 x2 x3 x4 s = .next t) : Flows 26880775128 s t := by
  have h := Flows.refl 26880775128 s
  simp only [execAchStart, Host.Outcome.next.injEq] at hx
  subst hx
  simp +contextual (maxDischargeDepth := 40) [h]

theorem execAchLatch_flows {s t : State} {x1 x2 x3 x4 x5} (hx : execAchLatch x1 x2 x3 x4 x5 s = .next t) : Flows 26880775128 s t := by
  have h := Flows.refl 26880775128 s
  simp only [execAchLatch, Host.Outcome.next.injEq] at hx
  subst hx
  simp +contextual (maxDischargeDepth := 40) [h]

@[simp] theorem achSlotEnd_flows {K : Nat} {s0 s : State} (hk : K &&& 34363990052 = 0) (h : Flows K s0 s) :
    Flows K s0 (achSlotEnd s) := by
  refine h.comp hk (?_ : Flows 240513916890 s (achSlotEnd s))
  have h := Flows.refl 240513916890 s
  simp +contextual (maxDischargeDepth := 40) [achSlotEnd, h]

@[simp] theorem achSamples_flows {K : Nat} {s0 s : State} (hk : K &&& 4194304 = 0) (h : Flows K s0 s) {x1} :
    Flows K s0 (achSamples x1 s) := by
  refine h.comp hk (?_ : Flows 274873712638 s (achSamples x1 s))
  have h := Flows.refl 274873712638 s
  simp +contextual (maxDischargeDepth := 40) [achSamples, h]

@[simp] theorem achSlot_flows {K : Nat} {s0 s : State} (hk : K &&& 4194304 = 0) (h : Flows K s0 s) :
    Flows K s0 (achSlot s) := by
  refine h.comp hk (?_ : Flows 274873712638 s (achSlot s))
  have h := Flows.refl 274873712638 s
  simp +contextual (maxDischargeDepth := 40) [achSlot, h]

theorem execWindowOverrun_flows {s t : State} {x1} (hx : execWindowOverrun x1 s = .next t) : Flows 240513916890 s t := by
  have h := Flows.refl 240513916890 s
  simp only [execWindowOverrun, Host.Outcome.next.injEq] at hx
  subst hx
  (repeat' split) <;> (first | exact h | (simp +contextual (maxDischargeDepth := 40) [h]; done))

theorem execBringupConversion_flows {s t : State} {x1 x2} (hx : execBringupConversion x1 x2 s = .next t) : Flows 274873712638 s t := by
  have h := Flows.refl 274873712638 s
  simp only [execBringupConversion, Host.Outcome.next.injEq] at hx
  subst hx
  simp +contextual (maxDischargeDepth := 40) [h]

@[simp] theorem voidWindow_flows {K : Nat} {s0 s : State} (hk : K &&& 4194304 = 0) (h : Flows K s0 s) {x1} :
    Flows K s0 (voidWindow x1 s) := by
  refine h.comp hk (?_ : Flows 274873712638 s (voidWindow x1 s))
  have h := Flows.refl 274873712638 s
  simp +contextual (maxDischargeDepth := 40) [voidWindow, h]

@[simp] theorem dropWindow_flows {K : Nat} {s0 s : State} (hk : K &&& 4194304 = 0) (h : Flows K s0 s) {x1} :
    Flows K s0 (dropWindow x1 s) := by
  refine h.comp hk (?_ : Flows 274873712638 s (dropWindow x1 s))
  have h := Flows.refl 274873712638 s
  simp +contextual (maxDischargeDepth := 40) [dropWindow, h]

theorem execMiswire_flows {s t : State} {x1} (hx : execMiswire x1 s = .next t) : Flows 171794440154 s t := by
  have h := Flows.refl 171794440154 s
  simp only [execMiswire, Host.Outcome.next.injEq] at hx
  subst hx
  simp +contextual (maxDischargeDepth := 40) [h]

theorem execMiswireClear_flows {s t : State} {x1} (hx : execMiswireClear x1 s = .next t) : Flows 274873712634 s t := by
  have h := Flows.refl 274873712634 s
  simp only [execMiswireClear, Host.Outcome.next.injEq] at hx
  subst hx
  simp +contextual (maxDischargeDepth := 40) [h]

@[simp] theorem achCalibrate_flows {K : Nat} {s0 s : State} (hk : K &&& 4194308 = 0) (h : Flows K s0 s) {x1} :
    Flows K s0 (achCalibrate x1 s) := by
  refine h.comp hk (?_ : Flows 274873712634 s (achCalibrate x1 s))
  have h := Flows.refl 274873712634 s
  simp +contextual (maxDischargeDepth := 40) [achCalibrate, h]

theorem execCalibrationEnd_flows {s t : State} {x1 x2} (hx : execCalibrationEnd x1 x2 s = .next t) : Flows 240513916890 s t := by
  have h := Flows.refl 240513916890 s
  simp only [execCalibrationEnd, Host.Outcome.next.injEq] at hx
  subst hx
  simp +contextual (maxDischargeDepth := 40) [h]

@[simp] theorem achModeNew_flows {K : Nat} {s0 s : State} (hk : K &&& 103083466788 = 0) (h : Flows K s0 s) {x1} :
    Flows K s0 (achModeNew x1 s) := by
  refine h.comp hk (?_ : Flows 171794440154 s (achModeNew x1 s))
  have h := Flows.refl 171794440154 s
  simp +contextual (maxDischargeDepth := 40) [achModeNew, h]

@[simp] theorem achModeChange_flows {K : Nat} {s0 s : State} (hk : K &&& 103083466788 = 0) (h : Flows K s0 s) {x1} :
    Flows K s0 (achModeChange x1 s) := by
  refine h.comp hk (?_ : Flows 171794440154 s (achModeChange x1 s))
  have h := Flows.refl 171794440154 s
  simp +contextual (maxDischargeDepth := 40) [achModeChange, h]

@[simp] theorem achModeSheaf_flows {K : Nat} {s0 s : State} (hk : K &&& 240522420260 = 0) (h : Flows K s0 s) {x1} :
    Flows K s0 (achModeSheaf x1 s) := by
  refine h.comp hk (?_ : Flows 34355486682 s (achModeSheaf x1 s))
  have h := Flows.refl 34355486682 s
  simp +contextual (maxDischargeDepth := 40) [achModeSheaf, h]

@[simp] theorem latchMismatch_flows {K : Nat} {s0 s : State} (hk : K &&& 34364121124 = 0) (h : Flows K s0 s) {x1} :
    Flows K s0 (latchMismatch x1 s) := by
  refine h.comp hk (?_ : Flows 240513785818 s (latchMismatch x1 s))
  have h := Flows.refl 240513785818 s
  simp +contextual (maxDischargeDepth := 40) [latchMismatch, h]

@[simp] theorem setCompliance_flows {K : Nat} {s0 s : State} (hk : K &&& 34363990052 = 0) (h : Flows K s0 s) {x1 x2} :
    Flows K s0 (setCompliance x1 x2 s) := by
  refine h.comp hk (?_ : Flows 240513916890 s (setCompliance x1 x2 s))
  have h := Flows.refl 240513916890 s
  simp +contextual (maxDischargeDepth := 40) [setCompliance, h]

@[simp] theorem clearCompliance_flows {K : Nat} {s0 s : State} (hk : K &&& 4194308 = 0) (h : Flows K s0 s) {x1} :
    Flows K s0 (clearCompliance x1 s) := by
  refine h.comp hk (?_ : Flows 274873712634 s (clearCompliance x1 s))
  have h := Flows.refl 274873712634 s
  simp +contextual (maxDischargeDepth := 40) [clearCompliance, h]

@[simp] theorem countClear_flows {K : Nat} {s0 s : State} (hk : K &&& 4194308 = 0) (h : Flows K s0 s) {x1} :
    Flows K s0 (countClear x1 s) := by
  refine h.comp hk (?_ : Flows 274873712634 s (countClear x1 s))
  have h := Flows.refl 274873712634 s
  simp +contextual (maxDischargeDepth := 40) [countClear, h]

@[simp] theorem noMismatch_flows {K : Nat} {s0 s : State} (hk : K &&& 34363990052 = 0) (h : Flows K s0 s) {x1 x2 x3} :
    Flows K s0 (noMismatch x1 x2 x3 s) := by
  refine h.comp hk (?_ : Flows 240513916890 s (noMismatch x1 x2 x3 s))
  have h := Flows.refl 240513916890 s
  simp +contextual (maxDischargeDepth := 40) [noMismatch, h]

@[simp] theorem rbCompare_flows {K : Nat} {s0 s : State} (hk : K &&& 34364121124 = 0) (h : Flows K s0 s) {x1} :
    Flows K s0 (rbCompare x1 s) := by
  refine h.comp hk (?_ : Flows 240513785818 s (rbCompare x1 s))
  have h := Flows.refl 240513785818 s
  simp +contextual (maxDischargeDepth := 40) [rbCompare, h]

@[simp] theorem achMinor_flows {K : Nat} {s0 s : State} (hk : K &&& 34364121124 = 0) (h : Flows K s0 s) :
    Flows K s0 (achMinor s) := by
  refine h.comp hk (?_ : Flows 240513785818 s (achMinor s))
  have h := Flows.refl 240513785818 s
  simp +contextual (maxDischargeDepth := 40) [achMinor, h]

theorem execFieldAlarm_flows {s t : State} {x1} (hx : execFieldAlarm x1 s = .next t) : Flows 240518111194 s t := by
  have h := Flows.refl 240518111194 s
  simp only [execFieldAlarm, Host.Outcome.next.injEq] at hx
  subst hx
  simp +contextual (maxDischargeDepth := 40) [h]

theorem execMismatchClearApply_flows {s t : State} {x1} (hx : execMismatchClearApply x1 s = .next t) : Flows 274873712634 s t := by
  have h := Flows.refl 274873712634 s
  simp only [execMismatchClearApply, Host.Outcome.next.injEq] at hx
  subst hx
  simp +contextual (maxDischargeDepth := 40) [h]

@[simp] theorem achRestore_flows {K : Nat} {s0 s : State} (hk : K &&& 4194304 = 0) (h : Flows K s0 s) {x1} :
    Flows K s0 (achRestore x1 s) := by
  refine h.comp hk (?_ : Flows 274873712638 s (achRestore x1 s))
  have h := Flows.refl 274873712638 s
  simp +contextual (maxDischargeDepth := 40) [achRestore, h]

theorem execLoopOverload_flows {s t : State} {x1} (hx : execLoopOverload x1 s = .next t) : Flows 240513916890 s t := by
  have h := Flows.refl 240513916890 s
  simp only [execLoopOverload, Host.Outcome.next.injEq] at hx
  subst hx
  simp +contextual (maxDischargeDepth := 40) [h]

theorem execOverloadRetry_flows {s t : State} {x1} (hx : execOverloadRetry x1 s = .next t) : Flows 274877906938 s t := by
  have h := Flows.refl 274877906938 s
  simp only [execOverloadRetry, Host.Outcome.next.injEq] at hx
  subst hx
  simp +contextual (maxDischargeDepth := 40) [h]

theorem execRailFail_flows {s t : State} {x1} (hx : execRailFail x1 s = .next t) : Flows 240513916890 s t := by
  have h := Flows.refl 240513916890 s
  simp only [execRailFail, Host.Outcome.next.injEq] at hx
  subst hx
  simp +contextual (maxDischargeDepth := 40) [h]

theorem execRailRecover_flows {s t : State} {x1} (hx : execRailRecover x1 s = .next t) : Flows 274873712638 s t := by
  have h := Flows.refl 274873712638 s
  simp only [execRailRecover, Host.Outcome.next.injEq] at hx
  subst hx
  simp +contextual (maxDischargeDepth := 40) [h]

theorem execLspPowerHigh_flows {s t : State} {x1} (hx : execLspPowerHigh x1 s = .next t) : Flows 240518111194 s t := by
  have h := Flows.refl 240518111194 s
  simp only [execLspPowerHigh, Host.Outcome.next.injEq] at hx
  subst hx
  simp +contextual (maxDischargeDepth := 40) [h]

@[simp] theorem achBringup_flows {K : Nat} {s0 s : State} (hk : K &&& 4194308 = 0) (h : Flows K s0 s) :
    Flows K s0 (achBringup s) := by
  refine h.comp hk (?_ : Flows 274873712634 s (achBringup s))
  have h := Flows.refl 274873712634 s
  simp +contextual (maxDischargeDepth := 40) [achBringup, h]

@[simp] theorem achDropAll_flows {K : Nat} {s0 s : State} (hk : K &&& 4194304 = 0) (h : Flows K s0 s) :
    Flows K s0 (achDropAll s) := by
  refine h.comp hk (?_ : Flows 274873712638 s (achDropAll s))
  have h := Flows.refl 274873712638 s
  simp +contextual (maxDischargeDepth := 40) [achDropAll, h]

@[simp] theorem achTakeover_flows {K : Nat} {s0 s : State} (hk : K &&& 4194308 = 0) (h : Flows K s0 s) {x1} :
    Flows K s0 (achTakeover x1 s) := by
  refine h.comp hk (?_ : Flows 274873712634 s (achTakeover x1 s))
  have h := Flows.refl 274873712634 s
  simp +contextual (maxDischargeDepth := 40) [achTakeover, h]

end Sys2Proof.Machine
end

