-- ==== Sys2Proof/Laws/FlowsHart.lean ====
section
/-! SUPPORT. What the operations of Machine/Hart.lean keep, each said once: the masks name the fields of State they leave
alone (Laws/Flows.lean). -/

namespace Sys2Proof.Machine

@[simp] theorem hartSend_flows {K : Nat} {s0 s : State} (hk : K &&& 34359795748 = 0) (h : Flows K s0 s) {x1} :
    Flows K s0 (hartSend x1 s) := by
  refine h.comp hk (?_ : Flows 240518111194 s (hartSend x1 s))
  have h := Flows.refl 240518111194 s
  simp +contextual (maxDischargeDepth := 40) [hartSend, h]

theorem execHartBusFree_flows {s t : State} {x1} (hx : execHartBusFree x1 s = .next t) : Flows 274873712634 s t := by
  have h := Flows.refl 274873712634 s
  simp only [execHartBusFree, Host.Outcome.next.injEq] at hx
  subst hx
  simp +contextual (maxDischargeDepth := 40) [h]

theorem execHartTxDone_flows {s t : State} {x1} (hx : execHartTxDone x1 s = .next t) : Flows 206154235898 s t := by
  have h := Flows.refl 206154235898 s
  simp only [execHartTxDone, Host.Outcome.next.injEq] at hx
  subst hx
  simp +contextual (maxDischargeDepth := 40) [h]

theorem execHartStartCharacter_flows {s t : State} {x1} (hx : execHartStartCharacter x1 s = .next t) : Flows 274877906938 s t := by
  have h := Flows.refl 274877906938 s
  simp only [execHartStartCharacter, Host.Outcome.next.injEq] at hx
  subst hx
  simp +contextual (maxDischargeDepth := 40) [h]

@[simp] theorem hartStore_flows {K : Nat} {s0 s : State} (hk : K &&& 4 = 0) (h : Flows K s0 s) {x1 x2 x3} :
    Flows K s0 (hartStore x1 x2 x3 s) := by
  refine h.comp hk (?_ : Flows 274877906938 s (hartStore x1 x2 x3 s))
  have h := Flows.refl 274877906938 s
  simp +contextual (maxDischargeDepth := 40) [hartStore, h]

theorem execHartFrameReceived_flows {s t : State} {x1 x2 x3} (hx : execHartFrameReceived x1 x2 x3 s = .next t) : Flows 240518111194 s t := by
  have h := Flows.refl 240518111194 s
  simp only [execHartFrameReceived, Host.Outcome.next.injEq] at hx
  subst hx
  simp +contextual (maxDischargeDepth := 40) [h]

theorem execHartNoResponse_flows {s t : State} {x1} (hx : execHartNoResponse x1 s = .next t) : Flows 240518111194 s t := by
  have h := Flows.refl 240518111194 s
  simp only [execHartNoResponse, Host.Outcome.next.injEq] at hx
  subst hx
  simp +contextual (maxDischargeDepth := 40) [h]

@[simp] theorem hartRxRead_flows {K : Nat} {s0 s : State} (hk : K &&& 4 = 0) (h : Flows K s0 s) {x1} :
    Flows K s0 (hartRxRead x1 s) := by
  refine h.comp hk (?_ : Flows 274877906938 s (hartRxRead x1 s))
  have h := Flows.refl 274877906938 s
  simp +contextual (maxDischargeDepth := 40) [hartRxRead, h]

theorem execHartRxLenRead_flows {s t : State} {x1} (hx : execHartRxLenRead x1 s = .next t) : Flows 274877906938 s t := by
  have h := Flows.refl 274877906938 s
  simp only [execHartRxLenRead, Host.Outcome.next.injEq] at hx
  subst hx
  simp +contextual (maxDischargeDepth := 40) [h]

end Sys2Proof.Machine
end

