-- ==== Sys2Proof/Laws/FlowsCle.lean ====
section
/-! SUPPORT. What the operations of Machine/Cle.lean keep, each said once: the masks name the fields of State they leave
alone (Laws/Flows.lean). -/

namespace Sys2Proof.Machine

@[simp] theorem runCleRun_flows {K : Nat} {s0 s : State} (hk : K &&& 8407044 = 0) (h : Flows K s0 s) {x1} :
    Flows K s0 (runCleRun x1 s) := by
  refine h.comp hk (?_ : Flows 274869499898 s (runCleRun x1 s))
  have h := Flows.refl 274869499898 s
  simp +contextual (maxDischargeDepth := 40) [runCleRun, h]

theorem execCleRun_flows {s t : State} {x1 x2 x3} (hx : execCleRun x1 x2 x3 s = .next t) : Flows 26880775128 s t := by
  have h := Flows.refl 26880775128 s
  simp only [execCleRun, Host.Outcome.next.injEq] at hx
  subst hx
  simp +contextual (maxDischargeDepth := 40) [h]

theorem execCleRunDeferredStart_flows {s t : State} (hx : execCleRunDeferredStart s = .next t) : Flows 26880775128 s t := by
  have h := Flows.refl 26880775128 s
  simp only [execCleRunDeferredStart, Host.Outcome.next.injEq] at hx
  subst hx
  (repeat' split) <;> (first | exact h | (simp +contextual (maxDischargeDepth := 40) [h]; done))

@[simp] theorem cleOscAck_flows {K : Nat} {s0 s : State} (hk : K &&& 8388612 = 0) (h : Flows K s0 s) {x1} :
    Flows K s0 (cleOscAck x1 s) := by
  refine h.comp hk (?_ : Flows 274869518330 s (cleOscAck x1 s))
  have h := Flows.refl 274869518330 s
  simp +contextual (maxDischargeDepth := 40) [cleOscAck, h]

@[simp] theorem keepTables_flows {K : Nat} {s0 s : State} (hk : K &&& 2048 = 0) (h : Flows K s0 s) {x1} :
    Flows K s0 (keepTables x1 s) := by
  refine h.comp hk (?_ : Flows 274877904894 s (keepTables x1 s))
  have h := Flows.refl 274877904894 s
  simp +contextual (maxDischargeDepth := 40) [keepTables, h]

@[simp] theorem commitApply_flows {K : Nat} {s0 s : State} (hk : K &&& 34368186412 = 0) (h : Flows K s0 s) :
    Flows K s0 (commitApply s) := by
  refine h.comp hk (?_ : Flows 240509720530 s (commitApply s))
  have h := Flows.refl 240509720530 s
  simp +contextual (maxDischargeDepth := 40) [commitApply, h]

@[simp] theorem commitRefuse_flows {K : Nat} {s0 s : State} (hk : K &&& 34359795748 = 0) (h : Flows K s0 s) {x1 x2} :
    Flows K s0 (commitRefuse x1 x2 s) := by
  refine h.comp hk (?_ : Flows 240518111194 s (commitRefuse x1 x2 s))
  have h := Flows.refl 240518111194 s
  simp +contextual (maxDischargeDepth := 40) [commitRefuse, h]

@[simp] theorem cleCommit_flows {K : Nat} {s0 s : State} (hk : K &&& 34368186412 = 0) (h : Flows K s0 s) :
    Flows K s0 (cleCommit s) := by
  refine h.comp hk (?_ : Flows 240509720530 s (cleCommit s))
  have h := Flows.refl 240509720530 s
  simp only [cleCommit]
  (repeat' split) <;> (first | exact h | (simp +contextual (maxDischargeDepth := 40) [h]; done))

theorem execPageCommitApply_flows {s t : State} (hx : execPageCommitApply s = .next t) : Flows 240509720530 s t := by
  have h := Flows.refl 240509720530 s
  simp only [execPageCommitApply, Host.Outcome.next.injEq] at hx
  subst hx
  simp +contextual (maxDischargeDepth := 40) [h]

@[simp] theorem cleStart_flows {K : Nat} {s0 s : State} (hk : K &&& 8388608 = 0) (h : Flows K s0 s) :
    Flows K s0 (cleStart s) := by
  refine h.comp hk (?_ : Flows 274869518334 s (cleStart s))
  have h := Flows.refl 274869518334 s
  simp only [cleStart]
  (apply flows_mk h) <;> (first | exact kept_same _ _ _ | exact kept_free rfl | exact id | exact fun _ => rfl | (simp +contextual; done))

@[simp] theorem cleTakeover_flows {K : Nat} {s0 s : State} (hk : K &&& 8388608 = 0) (h : Flows K s0 s) {x1} :
    Flows K s0 (cleTakeover x1 s) := by
  refine h.comp hk (?_ : Flows 274869518334 s (cleTakeover x1 s))
  have h := Flows.refl 274869518334 s
  unfold cleTakeover
  refine flows_mk h ?_ ?_ ?_ ?_ ?_ ?_ ?_ ?_ ?_ ?_ ?_ ?_ ?_ ?_ ?_ ?_ ?_ ?_ ?_ ?_ ?_ ?_ ?_ ?_ ?_ ?_ ?_ ?_ ?_ ?_ ?_ ?_ ?_ ?_ ?_ ?_ ?_ ?_ ?_ <;> first | exact kept_same _ _ _ | exact kept_free rfl | exact id | exact tabMap_wf (d := fun _ => ({} : LoopSt)) (fun e : Nat × LoopSt => ({ e.2 with resumed := true, first := e.2.first || x1 } : LoopSt)) (fun e c => absurd (congrArg LoopSt.resumed c) (by simp))

end Sys2Proof.Machine
end

