-- ==== Sys2Proof/Laws/FlowsSlv.lean ====
section
/-! SUPPORT. What the operations of Machine/Slv.lean keep, each said once: the masks name the fields of State they leave
alone (Laws/Flows.lean). -/

namespace Sys2Proof.Machine

@[simp] theorem dropGather_flows {K : Nat} {s0 s : State} (hk : K &&& 2048 = 0) (h : Flows K s0 s) {x1} :
    Flows K s0 (dropGather x1 s) := by
  refine h.comp hk (?_ : Flows 274877904894 s (dropGather x1 s))
  have h := Flows.refl 274877904894 s
  simp +contextual (maxDischargeDepth := 40) [dropGather, h]

@[simp] theorem runSlvStart_flows {K : Nat} {s0 s : State} (hk : K &&& 34376575012 = 0) (h : Flows K s0 s) {x1} :
    Flows K s0 (runSlvStart x1 s) := by
  refine h.comp hk (?_ : Flows 240501331930 s (runSlvStart x1 s))
  have h := Flows.refl 240501331930 s
  simp +contextual (maxDischargeDepth := 40) [runSlvStart, h]

theorem execSlvStart_flows {s t : State} {x1 x2 x3} (hx : execSlvStart x1 x2 x3 s = .next t) : Flows 26880775128 s t := by
  have h := Flows.refl 26880775128 s
  simp only [execSlvStart, Host.Outcome.next.injEq] at hx
  subst hx
  simp +contextual (maxDischargeDepth := 40) [h]

theorem execSolverJobStart_flows {s t : State} (hx : execSolverJobStart s = .next t) : Flows 26880775128 s t := by
  have h := Flows.refl 26880775128 s
  simp only [execSolverJobStart, Host.Outcome.next.injEq] at hx
  subst hx
  (repeat' split) <;> (first | exact h | (simp +contextual (maxDischargeDepth := 40) [h]; done))

@[simp] theorem freeCount_flows {K : Nat} {s0 s : State} (hk : K &&& 137438969856 = 0) (h : Flows K s0 s) {x1 x2} :
    Flows K s0 (freeCount x1 x2 s) := by
  refine h.comp hk (?_ : Flows 137438937086 s (freeCount x1 x2 s))
  have h := Flows.refl 137438937086 s
  simp +contextual (maxDischargeDepth := 40) [freeCount, h]

@[simp] theorem jobStops_flows {K : Nat} {s0 s : State} (hk : K &&& 171815526436 = 0) (h : Flows K s0 s) {x1 x2 x3 x4 x5} :
    Flows K s0 (jobStops x1 x2 x3 x4 x5 s) := by
  refine h.comp hk (?_ : Flows 103062380506 s (jobStops x1 x2 x3 x4 x5 s))
  have h := Flows.refl 103062380506 s
  simp only [jobStops]
  (repeat' split) <;> (first | exact h | (simp +contextual (maxDischargeDepth := 40) [h]; done))

theorem execSolverJobEnd_flows {s t : State} {x1 x2} (hx : execSolverJobEnd x1 x2 s = .next t) : Flows 26880775128 s t := by
  have h := Flows.refl 26880775128 s
  simp only [execSolverJobEnd, Host.Outcome.next.injEq] at hx
  subst hx
  (repeat' split) <;> (first | exact h | (simp +contextual (maxDischargeDepth := 40) [h]; done))

@[simp] theorem runSlvDeadline_flows {K : Nat} {s0 s : State} (hk : K &&& 171815528484 = 0) (h : Flows K s0 s) {x1 x2} :
    Flows K s0 (runSlvDeadline x1 x2 s) := by
  refine h.comp hk (?_ : Flows 103062378458 s (runSlvDeadline x1 x2 s))
  have h := Flows.refl 103062378458 s
  simp +contextual (maxDischargeDepth := 40) [runSlvDeadline, h]

theorem execSlvDeadline_flows {s t : State} {x1 x2 x3} (hx : execSlvDeadline x1 x2 x3 s = .next t) : Flows 26880775128 s t := by
  have h := Flows.refl 26880775128 s
  simp only [execSlvDeadline, Host.Outcome.next.injEq] at hx
  subst hx
  simp +contextual (maxDischargeDepth := 40) [h]

theorem execWedged_flows {s t : State} (hx : execWedged s = .next t) : Flows 26880775128 s t := by
  have h := Flows.refl 26880775128 s
  simp only [execWedged, Host.Outcome.next.injEq] at hx
  subst hx
  (repeat' split) <;> (first | exact h | (simp +contextual (maxDischargeDepth := 40) [h]; done))

@[simp] theorem collectMoves_flows {K : Nat} {s0 s : State} (hk : K &&& 2048 = 0) (h : Flows K s0 s) {x1} :
    Flows K s0 (collectMoves x1 s) := by
  refine h.comp hk (?_ : Flows 274877904894 s (collectMoves x1 s))
  have h := Flows.refl 274877904894 s
  simp +contextual (maxDischargeDepth := 40) [collectMoves, h]

theorem execLaneCheckDone_flows {s t : State} {x1 x2} (hx : execLaneCheckDone x1 x2 s = .next t) : Flows 26880775128 s t := by
  have h := Flows.refl 26880775128 s
  simp only [execLaneCheckDone, Host.Outcome.next.injEq] at hx
  subst hx
  simp +contextual (maxDischargeDepth := 40) [h]

@[simp] theorem runSlvCollect_flows {K : Nat} {s0 s : State} (hk : K &&& 2048 = 0) (h : Flows K s0 s) {x1} :
    Flows K s0 (runSlvCollect x1 s) := by
  refine h.comp hk (?_ : Flows 274877904894 s (runSlvCollect x1 s))
  have h := Flows.refl 274877904894 s
  simp +contextual (maxDischargeDepth := 40) [runSlvCollect, h]

theorem execSlvCollect_flows {s t : State} {x1 x2} (hx : execSlvCollect x1 x2 s = .next t) : Flows 26880775128 s t := by
  have h := Flows.refl 26880775128 s
  simp only [execSlvCollect, Host.Outcome.next.injEq] at hx
  subst hx
  simp +contextual (maxDischargeDepth := 40) [h]

@[simp] theorem slvStart_flows {K : Nat} {s0 s : State} (hk : K &&& 16777216 = 0) (h : Flows K s0 s) :
    Flows K s0 (slvStart s) := by
  refine h.comp hk (?_ : Flows 274861129726 s (slvStart s))
  have h := Flows.refl 274861129726 s
  simp only [slvStart]
  (apply flows_mk h) <;> (first | exact kept_same _ _ _ | exact kept_free rfl | exact id | exact fun _ => rfl | (simp +contextual; done))

@[simp] theorem slvActivate_flows {K : Nat} {s0 s : State} (hk : K &&& 16779268 = 0) (h : Flows K s0 s) :
    Flows K s0 (slvActivate s) := by
  refine h.comp hk (?_ : Flows 274861127674 s (slvActivate s))
  have h := Flows.refl 274861127674 s
  simp +contextual (maxDischargeDepth := 40) [slvActivate, h]

@[simp] theorem slvTakeover_flows {K : Nat} {s0 s : State} (hk : K &&& 16777220 = 0) (h : Flows K s0 s) :
    Flows K s0 (slvTakeover s) := by
  refine h.comp hk (?_ : Flows 274861129722 s (slvTakeover s))
  have h := Flows.refl 274861129722 s
  simp +contextual (maxDischargeDepth := 40) [slvTakeover, h]

end Sys2Proof.Machine
end

