-- ==== Sys2Proof/Laws/FlowsSaf.lean ====
section
/-! SUPPORT. What the operations of Machine/Saf.lean keep, each said once: the masks name the fields of State they leave
alone (Laws/Flows.lean). -/

namespace Sys2Proof.Machine

@[simp] theorem safUpd_flows {K : Nat} {s0 s : State} (hk : K &&& 33554432 = 0) (h : Flows K s0 s) {f}
    (hf : ∀ x : SafSt, tabWf (fun _ => ({} : Brake)) x.brakes = true → tabWf (fun _ => ({} : Brake)) (f x).brakes = true) :
    Flows K s0 (safUpd f s) := by
  refine h.comp hk (?_ : Flows 274844352510 s (safUpd f s))
  have h := Flows.refl 274844352510 s
  unfold safUpd
  (apply flows_mk h) <;> (first | exact kept_same _ _ _ | exact kept_free rfl | exact id | exact hf _)


@[simp] theorem putBrake_flows {K : Nat} {s0 s : State} (hk : K &&& 33554432 = 0) (h : Flows K s0 s) {x1 x2} :
    Flows K s0 (putBrake x1 x2 s) := by
  refine h.comp hk (?_ : Flows 274844352510 s (putBrake x1 x2 s))
  have h := Flows.refl 274844352510 s
  simp +contextual (maxDischargeDepth := 40) [putBrake, h]

@[simp] theorem latchGroups_flows {K : Nat} {s0 s : State} (hk : K &&& 34393350180 = 0) (h : Flows K s0 s) {x1} :
    Flows K s0 (latchGroups x1 s) := by
  refine h.comp hk (?_ : Flows 240484556762 s (latchGroups x1 s))
  have h := Flows.refl 240484556762 s
  simp +contextual (maxDischargeDepth := 40) [latchGroups, h]

@[simp] theorem clearGroup_flows {K : Nat} {s0 s : State} (hk : K &&& 33554432 = 0) (h : Flows K s0 s) {x1} :
    Flows K s0 (clearGroup x1 s) := by
  refine h.comp hk (?_ : Flows 274844352510 s (clearGroup x1 s))
  have h := Flows.refl 274844352510 s
  simp +contextual (maxDischargeDepth := 40) [clearGroup, h]

@[simp] theorem pairCheck_flows {K : Nat} {s0 s : State} (hk : K &&& 33554432 = 0) (h : Flows K s0 s) {x1} :
    Flows K s0 (pairCheck x1 s) := by
  refine h.comp hk (?_ : Flows 274844352510 s (pairCheck x1 s))
  have h := Flows.refl 274844352510 s
  simp +contextual (maxDischargeDepth := 40) [pairCheck, h]

@[simp] theorem guardCheck_flows {K : Nat} {s0 s : State} (hk : K &&& 34393350180 = 0) (h : Flows K s0 s) {x1} :
    Flows K s0 (guardCheck x1 s) := by
  refine h.comp hk (?_ : Flows 240484556762 s (guardCheck x1 s))
  have h := Flows.refl 240484556762 s
  simp +contextual (maxDischargeDepth := 40) [guardCheck, h]

@[simp] theorem groupCheck_flows {K : Nat} {s0 s : State} (hk : K &&& 34393350180 = 0) (h : Flows K s0 s) {x1} :
    Flows K s0 (groupCheck x1 s) := by
  refine h.comp hk (?_ : Flows 240484556762 s (groupCheck x1 s))
  have h := Flows.refl 240484556762 s
  simp +contextual (maxDischargeDepth := 40) [groupCheck, h]

@[simp] theorem bkRecord_flows {K : Nat} {s0 s : State} (hk : K &&& 34359795748 = 0) (h : Flows K s0 s) {x1} :
    Flows K s0 (bkRecord x1 s) := by
  refine h.comp hk (?_ : Flows 240518111194 s (bkRecord x1 s))
  have h := Flows.refl 240518111194 s
  simp +contextual (maxDischargeDepth := 40) [bkRecord, h]

@[simp] theorem bkApply_flows {K : Nat} {s0 s : State} (hk : K &&& 33554432 = 0) (h : Flows K s0 s) {x1} :
    Flows K s0 (bkApply x1 s) := by
  refine h.comp hk (?_ : Flows 274844352510 s (bkApply x1 s))
  have h := Flows.refl 274844352510 s
  simp +contextual (maxDischargeDepth := 40) [bkApply, h]

@[simp] theorem bkSwitchFault_flows {K : Nat} {s0 s : State} (hk : K &&& 34393350180 = 0) (h : Flows K s0 s) {x1} :
    Flows K s0 (bkSwitchFault x1 s) := by
  refine h.comp hk (?_ : Flows 240484556762 s (bkSwitchFault x1 s))
  have h := Flows.refl 240484556762 s
  simp +contextual (maxDischargeDepth := 40) [bkSwitchFault, h]

@[simp] theorem bkReleaseFail_flows {K : Nat} {s0 s : State} (hk : K &&& 34393350180 = 0) (h : Flows K s0 s) {x1} :
    Flows K s0 (bkReleaseFail x1 s) := by
  refine h.comp hk (?_ : Flows 240484556762 s (bkReleaseFail x1 s))
  have h := Flows.refl 240484556762 s
  simp +contextual (maxDischargeDepth := 40) [bkReleaseFail, h]

@[simp] theorem bkAbort_flows {K : Nat} {s0 s : State} (hk : K &&& 34393350180 = 0) (h : Flows K s0 s) {x1 x2} :
    Flows K s0 (bkAbort x1 x2 s) := by
  refine h.comp hk (?_ : Flows 240484556762 s (bkAbort x1 x2 s))
  have h := Flows.refl 240484556762 s
  simp +contextual (maxDischargeDepth := 40) [bkAbort, h]

@[simp] theorem bkStart_flows {K : Nat} {s0 s : State} (hk : K &&& 33554432 = 0) (h : Flows K s0 s) {x1 x2} :
    Flows K s0 (bkStart x1 x2 s) := by
  refine h.comp hk (?_ : Flows 274844352510 s (bkStart x1 x2 s))
  have h := Flows.refl 274844352510 s
  simp +contextual (maxDischargeDepth := 40) [bkStart, h]

@[simp] theorem bkCount_flows {K : Nat} {s0 s : State} (hk : K &&& 33554432 = 0) (h : Flows K s0 s) {x1} :
    Flows K s0 (bkCount x1 s) := by
  refine h.comp hk (?_ : Flows 274844352510 s (bkCount x1 s))
  have h := Flows.refl 274844352510 s
  simp only [bkCount]
  (repeat' split) <;> (first | exact h | (simp +contextual (maxDischargeDepth := 40) [h]; done))

@[simp] theorem bkEval_flows {K : Nat} {s0 s : State} (hk : K &&& 34393350180 = 0) (h : Flows K s0 s) {n} : Flows K s0 (bkEval n s) := by
  refine h.comp hk (?_ : Flows 240484556762 s (bkEval n s))
  have h := Flows.refl 240484556762 s
  unfold bkEval
  extract_lets s1 m req src s2 b s3 c want
  have h1 : Flows 240484556762 s s1 := bkCount_flows rfl h
  have h2 : Flows 240484556762 s s2 := flows_ite h1 (putBrake_flows rfl h1)
  have h3 : Flows 240484556762 s s3 := flows_ite h2 (flows_ite (bkAbort_flows rfl h2) (flows_ite (bkAbort_flows rfl h2)
    (flows_ite (bkAbort_flows rfl h2) (flows_ite (putBrake_flows rfl h2) h2))))
  exact flows_ite h1 (flows_ite h3 (flows_ite (flows_ite h3 (bkApply_flows rfl h3))
    (flows_ite (flows_ite (bkStart_flows rfl h3) (putBrake_flows rfl h3)) h3)))


@[simp] theorem safWrite_flows {K : Nat} {s0 s : State} (hk : K &&& 68753178624 = 0) (h : Flows K s0 s) :
    Flows K s0 (safWrite s) := by
  refine h.comp hk (?_ : Flows 206124728318 s (safWrite s))
  have h := Flows.refl 206124728318 s
  simp +contextual (maxDischargeDepth := 40) [safWrite, h]

@[simp] theorem safChanged_flows {K : Nat} {s0 s : State} (hk : K &&& 68753178624 = 0) (h : Flows K s0 s) :
    Flows K s0 (safChanged s) := by
  refine h.comp hk (?_ : Flows 206124728318 s (safChanged s))
  have h := Flows.refl 206124728318 s
  simp +contextual (maxDischargeDepth := 40) [safChanged, h]

@[simp] theorem safEval_flows {K : Nat} {s0 s : State} (hk : K &&& 103112957988 = 0) (h : Flows K s0 s) :
    Flows K s0 (safEval s) := by
  refine h.comp hk (?_ : Flows 171764948954 s (safEval s))
  have h := Flows.refl 171764948954 s
  simp +contextual (maxDischargeDepth := 40) [safEval, h]

@[simp] theorem bkLatch_flows {K : Nat} {s0 s : State} (hk : K &&& 103112957988 = 0) (h : Flows K s0 s) {x1} :
    Flows K s0 (bkLatch x1 s) := by
  refine h.comp hk (?_ : Flows 171764948954 s (bkLatch x1 s))
  have h := Flows.refl 171764948954 s
  simp +contextual (maxDischargeDepth := 40) [bkLatch, h]

@[simp] theorem refuse_flows {K : Nat} {s0 s : State} (hk : K &&& 34359795748 = 0) (h : Flows K s0 s) {x1 x2 x3} :
    Flows K s0 (refuse x1 x2 x3 s) := by
  refine h.comp hk (?_ : Flows 240518111194 s (refuse x1 x2 x3 s))
  have h := Flows.refl 240518111194 s
  simp +contextual (maxDischargeDepth := 40) [refuse, h]

@[simp] theorem tryClear_flows {K : Nat} {s0 s : State} (hk : K &&& 34393350180 = 0) (h : Flows K s0 s) {x1 x2} :
    Flows K s0 (tryClear x1 x2 s) := by
  refine h.comp hk (?_ : Flows 240484556762 s (tryClear x1 x2 s))
  have h := Flows.refl 240484556762 s
  simp +contextual (maxDischargeDepth := 40) [tryClear, h]

@[simp] theorem setStuck_flows {K : Nat} {s0 s : State} (hk : K &&& 34393350180 = 0) (h : Flows K s0 s) {x1} :
    Flows K s0 (setStuck x1 s) := by
  refine h.comp hk (?_ : Flows 240484556762 s (setStuck x1 s))
  have h := Flows.refl 240484556762 s
  simp +contextual (maxDischargeDepth := 40) [setStuck, h]

@[simp] theorem pressRelease_flows {K : Nat} {s0 s : State} (hk : K &&& 34393350180 = 0) (h : Flows K s0 s) {x1 x2} :
    Flows K s0 (pressRelease x1 x2 s) := by
  refine h.comp hk (?_ : Flows 240484556762 s (pressRelease x1 x2 s))
  have h := Flows.refl 240484556762 s
  simp +contextual (maxDischargeDepth := 40) [pressRelease, h]

@[simp] theorem setPress_flows {K : Nat} {s0 s : State} (hk : K &&& 33554432 = 0) (h : Flows K s0 s) {x1 x2} :
    Flows K s0 (setPress x1 x2 s) := by
  refine h.comp hk (?_ : Flows 274844352510 s (setPress x1 x2 s))
  have h := Flows.refl 274844352510 s
  simp +contextual (maxDischargeDepth := 40) [setPress, h]

@[simp] theorem resetEdge_flows {K : Nat} {s0 s : State} (hk : K &&& 34393350180 = 0) (h : Flows K s0 s) {x1 x2} :
    Flows K s0 (resetEdge x1 x2 s) := by
  refine h.comp hk (?_ : Flows 240484556762 s (resetEdge x1 x2 s))
  have h := Flows.refl 240484556762 s
  simp only [resetEdge]
  (repeat' split) <;> (first | exact h | (simp +contextual (maxDischargeDepth := 40) [h]; done))

@[simp] theorem qualify_flows {K : Nat} {s0 s : State} (hk : K &&& 103112957988 = 0) (h : Flows K s0 s) {x1 x2} :
    Flows K s0 (qualify x1 x2 s) := by
  refine h.comp hk (?_ : Flows 171764948954 s (qualify x1 x2 s))
  have h := Flows.refl 171764948954 s
  simp +contextual (maxDischargeDepth := 40) [qualify, h]

@[simp] theorem midpointCheck_flows {K : Nat} {s0 s : State} (hk : K &&& 103112957988 = 0) (h : Flows K s0 s) {x1 x2} :
    Flows K s0 (midpointCheck x1 x2 s) := by
  refine h.comp hk (?_ : Flows 171764948954 s (midpointCheck x1 x2 s))
  have h := Flows.refl 171764948954 s
  simp +contextual (maxDischargeDepth := 40) [midpointCheck, h]

theorem execSafetyInputChange_flows {s t : State} {x1 x2 x3 x4} (hx : execSafetyInputChange x1 x2 x3 x4 s = .next t) : Flows 26847220696 s t := by
  have h := Flows.refl 26847220696 s
  simp only [execSafetyInputChange, Host.Outcome.next.injEq] at hx
  subst hx
  simp +contextual (maxDischargeDepth := 40) [h]

theorem execResetPressRelease_flows {s t : State} {x1 x2} (hx : execResetPressRelease x1 x2 s = .next t) : Flows 26847220696 s t := by
  have h := Flows.refl 26847220696 s
  simp only [execResetPressRelease, Host.Outcome.next.injEq] at hx
  subst hx
  simp +contextual (maxDischargeDepth := 40) [h]

theorem execResetStuck_flows {s t : State} {x1} (hx : execResetStuck x1 s = .next t) : Flows 26847220696 s t := by
  have h := Flows.refl 26847220696 s
  simp only [execResetStuck, Host.Outcome.next.injEq] at hx
  subst hx
  (repeat' split) <;> (first | exact h | (simp +contextual (maxDischargeDepth := 40) [h]; done))

theorem execResetStuckClear_flows {s t : State} {x1} (hx : execResetStuckClear x1 s = .next t) : Flows 26847220696 s t := by
  have h := Flows.refl 26847220696 s
  simp only [execResetStuckClear, Host.Outcome.next.injEq] at hx
  subst hx
  simp +contextual (maxDischargeDepth := 40) [h]

theorem execDiscrepancy_flows {s t : State} {x1} (hx : execDiscrepancy x1 s = .next t) : Flows 26847220696 s t := by
  have h := Flows.refl 26847220696 s
  simp only [execDiscrepancy, Host.Outcome.next.injEq] at hx
  subst hx
  (repeat' split) <;> (first | exact h | (simp +contextual (maxDischargeDepth := 40) [h]; done))

@[simp] theorem crossCheck_flows {K : Nat} {s0 s : State} (hk : K &&& 34393350180 = 0) (h : Flows K s0 s) {x1 x2} :
    Flows K s0 (crossCheck x1 x2 s) := by
  refine h.comp hk (?_ : Flows 240484556762 s (crossCheck x1 x2 s))
  have h := Flows.refl 240484556762 s
  simp +contextual (maxDischargeDepth := 40) [crossCheck, h]

theorem execSafetyTestSourcePulse_flows {s t : State} {x1 x2} (hx : execSafetyTestSourcePulse x1 x2 s = .next t) : Flows 26847220696 s t := by
  have h := Flows.refl 26847220696 s
  simp only [execSafetyTestSourcePulse, Host.Outcome.next.injEq] at hx
  subst hx
  (repeat' split) <;> (first | exact h | (simp +contextual (maxDischargeDepth := 40) [h]; done))

@[simp] theorem safFault_flows {K : Nat} {s0 s : State} (hk : K &&& 103112957988 = 0) (h : Flows K s0 s) :
    Flows K s0 (safFault s) := by
  refine h.comp hk (?_ : Flows 171764948954 s (safFault s))
  have h := Flows.refl 171764948954 s
  simp +contextual (maxDischargeDepth := 40) [safFault, h]

@[simp] theorem channelFault_flows {K : Nat} {s0 s : State} (hk : K &&& 103112957988 = 0) (h : Flows K s0 s) :
    Flows K s0 (channelFault s) := by
  refine h.comp hk (?_ : Flows 171764948954 s (channelFault s))
  have h := Flows.refl 171764948954 s
  simp +contextual (maxDischargeDepth := 40) [channelFault, h]

theorem execChannelCompare_flows {s t : State} {x1 x2} (hx : execChannelCompare x1 x2 s = .next t) : Flows 171764948954 s t := by
  have h := Flows.refl 171764948954 s
  simp only [execChannelCompare, Host.Outcome.next.injEq] at hx
  subst hx
  simp +contextual (maxDischargeDepth := 40) [h]

theorem execFaultWaitExpire_flows {s t : State} (hx : execFaultWaitExpire s = .next t) : Flows 26847220696 s t := by
  have h := Flows.refl 26847220696 s
  simp only [execFaultWaitExpire, Host.Outcome.next.injEq] at hx
  subst hx
  simp +contextual (maxDischargeDepth := 40) [h]

@[simp] theorem outFault_flows {K : Nat} {s0 s : State} (hk : K &&& 103112957988 = 0) (h : Flows K s0 s) {x1 x2} :
    Flows K s0 (outFault x1 x2 s) := by
  refine h.comp hk (?_ : Flows 171764948954 s (outFault x1 x2 s))
  have h := Flows.refl 171764948954 s
  simp +contextual (maxDischargeDepth := 40) [outFault, h]

theorem execSoPulseTest_flows {s t : State} {x1 x2} (hx : execSoPulseTest x1 x2 s = .next t) : Flows 26847220696 s t := by
  have h := Flows.refl 26847220696 s
  simp only [execSoPulseTest, Host.Outcome.next.injEq] at hx
  subst hx
  (repeat' split) <;> (first | exact h | (simp +contextual (maxDischargeDepth := 40) [h]; done))

theorem execSoOvercurrent_flows {s t : State} {x1} (hx : execSoOvercurrent x1 s = .next t) : Flows 171764948954 s t := by
  have h := Flows.refl 171764948954 s
  simp only [execSoOvercurrent, Host.Outcome.next.injEq] at hx
  subst hx
  simp +contextual (maxDischargeDepth := 40) [h]

theorem execSoTerminalStuck_flows {s t : State} {x1} (hx : execSoTerminalStuck x1 s = .next t) : Flows 171764948954 s t := by
  have h := Flows.refl 171764948954 s
  simp only [execSoTerminalStuck, Host.Outcome.next.injEq] at hx
  subst hx
  simp +contextual (maxDischargeDepth := 40) [h]

theorem execBrakeReleaseTimeout_flows {s t : State} {x1 x2} (hx : execBrakeReleaseTimeout x1 x2 s = .next t) : Flows 26847220696 s t := by
  have h := Flows.refl 26847220696 s
  simp only [execBrakeReleaseTimeout, Host.Outcome.next.injEq] at hx
  subst hx
  simp +contextual (maxDischargeDepth := 40) [h]

theorem execCoilCurrentLost_flows {s t : State} {x1 x2} (hx : execCoilCurrentLost x1 x2 s = .next t) : Flows 171764948954 s t := by
  have h := Flows.refl 171764948954 s
  simp only [execCoilCurrentLost, Host.Outcome.next.injEq] at hx
  subst hx
  simp +contextual (maxDischargeDepth := 40) [h]

theorem execBrakeApplyTimeout_flows {s t : State} {x1 x2 x3} (hx : execBrakeApplyTimeout x1 x2 x3 s = .next t) : Flows 26847220696 s t := by
  have h := Flows.refl 26847220696 s
  simp only [execBrakeApplyTimeout, Host.Outcome.next.injEq] at hx
  subst hx
  simp +contextual (maxDischargeDepth := 40) [h]

theorem execBtDue_flows {s t : State} {x1} (hx : execBtDue x1 s = .next t) : Flows 26847220696 s t := by
  have h := Flows.refl 26847220696 s
  simp only [execBtDue, Host.Outcome.next.injEq] at hx
  subst hx
  (repeat' split) <;> (first | exact h | (simp +contextual (maxDischargeDepth := 40) [h]; done))

@[simp] theorem btStart_flows {K : Nat} {s0 s : State} (hk : K &&& 103112957988 = 0) (h : Flows K s0 s) {x1} :
    Flows K s0 (btStart x1 s) := by
  refine h.comp hk (?_ : Flows 171764948954 s (btStart x1 s))
  have h := Flows.refl 171764948954 s
  simp +contextual (maxDischargeDepth := 40) [btStart, h]

theorem execBtConfirmTimeout_flows {s t : State} {x1} (hx : execBtConfirmTimeout x1 s = .next t) : Flows 26847220696 s t := by
  have h := Flows.refl 26847220696 s
  simp only [execBtConfirmTimeout, Host.Outcome.next.injEq] at hx
  subst hx
  simp +contextual (maxDischargeDepth := 40) [h]

@[simp] theorem bkPass_flows {K : Nat} {s0 s : State} (hk : K &&& 103112957988 = 0) (h : Flows K s0 s) {x1} :
    Flows K s0 (bkPass x1 s) := by
  refine h.comp hk (?_ : Flows 171764948954 s (bkPass x1 s))
  have h := Flows.refl 171764948954 s
  simp +contextual (maxDischargeDepth := 40) [bkPass, h]

theorem execBtTimeEnd_flows {s t : State} {x1} (hx : execBtTimeEnd x1 s = .next t) : Flows 26847220696 s t := by
  have h := Flows.refl 26847220696 s
  simp only [execBtTimeEnd, Host.Outcome.next.injEq] at hx
  subst hx
  simp +contextual (maxDischargeDepth := 40) [h]

@[simp] theorem bkFail_flows {K : Nat} {s0 s : State} (hk : K &&& 103112957988 = 0) (h : Flows K s0 s) {x1} :
    Flows K s0 (bkFail x1 s) := by
  refine h.comp hk (?_ : Flows 171764948954 s (bkFail x1 s))
  have h := Flows.refl 171764948954 s
  simp +contextual (maxDischargeDepth := 40) [bkFail, h]

@[simp] theorem bkEdge_flows {K : Nat} {s0 s : State} (hk : K &&& 103112957988 = 0) (h : Flows K s0 s) {x1 x2} :
    Flows K s0 (bkEdge x1 x2 s) := by
  refine h.comp hk (?_ : Flows 171764948954 s (bkEdge x1 x2 s))
  have h := Flows.refl 171764948954 s
  simp +contextual (maxDischargeDepth := 40) [bkEdge, h]

theorem execSafetyPiEdge_flows {s t : State} {x1 x2} (hx : execSafetyPiEdge x1 x2 s = .next t) : Flows 171764948954 s t := by
  have h := Flows.refl 171764948954 s
  simp only [execSafetyPiEdge, Host.Outcome.next.injEq] at hx
  subst hx
  simp +contextual (maxDischargeDepth := 40) [h]

@[simp] theorem safFresh_flows {K : Nat} {s0 s : State} (hk : K &&& 33554432 = 0) (h : Flows K s0 s) :
    Flows K s0 (safFresh s) := by
  refine h.comp hk (?_ : Flows 274844352510 s (safFresh s))
  have h := Flows.refl 274844352510 s
  simp +contextual (maxDischargeDepth := 40) [safFresh, h]

@[simp] theorem safFaultsFromStore_flows {K : Nat} {s0 s : State} (hk : K &&& 33554432 = 0) (h : Flows K s0 s) :
    Flows K s0 (safFaultsFromStore s) := by
  refine h.comp hk (?_ : Flows 274844352510 s (safFaultsFromStore s))
  have h := Flows.refl 274844352510 s
  simp +contextual (maxDischargeDepth := 40) [safFaultsFromStore, h]

@[simp] theorem safRestore_flows {K : Nat} {s0 s : State} (hk : K &&& 33554432 = 0) (h : Flows K s0 s) {x1} :
    Flows K s0 (safRestore x1 s) := by
  refine h.comp hk (?_ : Flows 274844352510 s (safRestore x1 s))
  have h := Flows.refl 274844352510 s
  simp +contextual (maxDischargeDepth := 40) [safRestore, h]

@[simp] theorem stuckAtStart_flows {K : Nat} {s0 s : State} (hk : K &&& 34393350180 = 0) (h : Flows K s0 s) :
    Flows K s0 (stuckAtStart s) := by
  refine h.comp hk (?_ : Flows 240484556762 s (stuckAtStart s))
  have h := Flows.refl 240484556762 s
  simp +contextual (maxDischargeDepth := 40) [stuckAtStart, h]

@[simp] theorem safLive_flows {K : Nat} {s0 s : State} (hk : K &&& 103112957988 = 0) (h : Flows K s0 s) :
    Flows K s0 (safLive s) := by
  refine h.comp hk (?_ : Flows 171764948954 s (safLive s))
  have h := Flows.refl 171764948954 s
  simp +contextual (maxDischargeDepth := 40) [safLive, h]

@[simp] theorem safCold_flows {K : Nat} {s0 s : State} (hk : K &&& 103112957988 = 0) (h : Flows K s0 s) :
    Flows K s0 (safCold s) := by
  refine h.comp hk (?_ : Flows 171764948954 s (safCold s))
  have h := Flows.refl 171764948954 s
  simp +contextual (maxDischargeDepth := 40) [safCold, h]

@[simp] theorem safTryStart_flows {K : Nat} {s0 s : State} (hk : K &&& 103112957988 = 0) (h : Flows K s0 s) :
    Flows K s0 (safTryStart s) := by
  refine h.comp hk (?_ : Flows 171764948954 s (safTryStart s))
  have h := Flows.refl 171764948954 s
  simp +contextual (maxDischargeDepth := 40) [safTryStart, h]

@[simp] theorem safOff_flows {K : Nat} {s0 s : State} (hk : K &&& 33554432 = 0) (h : Flows K s0 s) : Flows K s0 (safOff s) :=
  safUpd_flows hk h (fun _ _ => rfl)


@[simp] theorem safPowerOn_flows {K : Nat} {s0 s : State} (hk : K &&& 33554432 = 0) (h : Flows K s0 s) :
    Flows K s0 (safPowerOn s) := by
  refine h.comp hk (?_ : Flows 274844352510 s (safPowerOn s))
  have h := Flows.refl 274844352510 s
  simp +contextual (maxDischargeDepth := 40) [safPowerOn, h]

@[simp] theorem safBrownOut_flows {K : Nat} {s0 s : State} (hk : K &&& 33554432 = 0) (h : Flows K s0 s) :
    Flows K s0 (safBrownOut s) := by
  refine h.comp hk (?_ : Flows 274844352510 s (safBrownOut s))
  have h := Flows.refl 274844352510 s
  simp +contextual (maxDischargeDepth := 40) [safBrownOut, h]

theorem execSafetySupplyBrownOut_flows {s t : State} (hx : execSafetySupplyBrownOut s = .next t) : Flows 274844352510 s t := by
  have h := Flows.refl 274844352510 s
  simp only [execSafetySupplyBrownOut, Host.Outcome.next.injEq] at hx
  subst hx
  simp +contextual (maxDischargeDepth := 40) [h]

theorem execSafetySelfTestDone_flows {s t : State} {x1 x2 x3 x4 x5 x6} (hx : execSafetySelfTestDone x1 x2 x3 x4 x5 x6 s = .next t) : Flows 171764948954 s t := by
  have h := Flows.refl 171764948954 s
  simp only [execSafetySelfTestDone, Host.Outcome.next.injEq] at hx
  subst hx
  simp +contextual (maxDischargeDepth := 40) [h]

@[simp] theorem safLoad_flows {K : Nat} {s0 s : State} (hk : K &&& 4 = 0) (h : Flows K s0 s) :
    Flows K s0 (safLoad s) := by
  refine h.comp hk (?_ : Flows 274877906938 s (safLoad s))
  have h := Flows.refl 274877906938 s
  simp +contextual (maxDischargeDepth := 40) [safLoad, h]

@[simp] theorem safAccept_flows {K : Nat} {s0 s : State} (hk : K &&& 103112957988 = 0) (h : Flows K s0 s) {x1} :
    Flows K s0 (safAccept x1 s) := by
  refine h.comp hk (?_ : Flows 171764948954 s (safAccept x1 s))
  have h := Flows.refl 171764948954 s
  simp +contextual (maxDischargeDepth := 40) [safAccept, h]

@[simp] theorem safTakeover_flows {K : Nat} {s0 s : State} (hk : K &&& 103112957988 = 0) (h : Flows K s0 s) :
    Flows K s0 (safTakeover s) := by
  refine h.comp hk (?_ : Flows 171764948954 s (safTakeover s))
  have h := Flows.refl 171764948954 s
  simp only [safTakeover]
  (repeat' split) <;> (first | exact h | (simp +contextual (maxDischargeDepth := 40) [h]; done))

theorem execSafetyTakeover_flows {s t : State} (hx : execSafetyTakeover s = .next t) : Flows 171764948954 s t := by
  have h := Flows.refl 171764948954 s
  simp only [execSafetyTakeover, Host.Outcome.next.injEq] at hx
  subst hx
  simp +contextual (maxDischargeDepth := 40) [h]

theorem execSafetyHandover_flows {s t : State} (hx : execSafetyHandover s = .next t) : Flows 26847220696 s t := by
  have h := Flows.refl 26847220696 s
  simp only [execSafetyHandover, Host.Outcome.next.injEq] at hx
  subst hx
  simp +contextual (maxDischargeDepth := 40) [h]

theorem execSafetyRecordPeriodic_flows {s t : State} (hx : execSafetyRecordPeriodic s = .next t) : Flows 26847220696 s t := by
  have h := Flows.refl 26847220696 s
  simp only [execSafetyRecordPeriodic, Host.Outcome.next.injEq] at hx
  subst hx
  simp +contextual (maxDischargeDepth := 40) [h]

@[simp] theorem safReceive_flows {K : Nat} {s0 s : State} (hk : K &&& 33554432 = 0) (h : Flows K s0 s) {x1} :
    Flows K s0 (safReceive x1 s) := by
  refine h.comp hk (?_ : Flows 274844352510 s (safReceive x1 s))
  have h := Flows.refl 274844352510 s
  simp +contextual (maxDischargeDepth := 40) [safReceive, h]

theorem execSafetyRecordReceived_flows {s t : State} {x1} (hx : execSafetyRecordReceived x1 s = .next t) : Flows 274844352510 s t := by
  have h := Flows.refl 274844352510 s
  simp only [execSafetyRecordReceived, Host.Outcome.next.injEq] at hx
  subst hx
  simp +contextual (maxDischargeDepth := 40) [h]

theorem execStoreStale_flows {s t : State} (hx : execStoreStale s = .next t) : Flows 26847220696 s t := by
  have h := Flows.refl 26847220696 s
  simp only [execStoreStale, Host.Outcome.next.injEq] at hx
  subst hx
  simp +contextual (maxDischargeDepth := 40) [h]

@[simp] theorem runSafExport_flows {K : Nat} {s0 s : State} (hk : K &&& 2048 = 0) (h : Flows K s0 s) {x1} :
    Flows K s0 (runSafExport x1 s) := by
  refine h.comp hk (?_ : Flows 274877904894 s (runSafExport x1 s))
  have h := Flows.refl 274877904894 s
  simp +contextual (maxDischargeDepth := 40) [runSafExport, h]

theorem execSafExport_flows {s t : State} {x1 x2} (hx : execSafExport x1 x2 s = .next t) : Flows 26880775128 s t := by
  have h := Flows.refl 26880775128 s
  simp only [execSafExport, Host.Outcome.next.injEq] at hx
  subst hx
  simp +contextual (maxDischargeDepth := 40) [h]

end Sys2Proof.Machine
end

