-- ==== Sys2Proof/Laws/FlowsMbc.lean ====
section
/-! SUPPORT. What the operations of Machine/Mbc.lean keep, each said once: the masks name the fields of State they leave
alone (Laws/Flows.lean). -/

namespace Sys2Proof.Machine

@[simp] theorem jnlWrite_flows {K : Nat} {s0 s : State} (hk : K &&& 67125252 = 0) (h : Flows K s0 s) {x1 x2} :
    Flows K s0 (jnlWrite x1 x2 s) := by
  refine h.comp hk (?_ : Flows 274810781690 s (jnlWrite x1 x2 s))
  have h := Flows.refl 274810781690 s
  simp +contextual (maxDischargeDepth := 40) [jnlWrite, h]

@[simp] theorem jnlFrame_flows {K : Nat} {s0 s : State} (hk : K &&& 67125252 = 0) (h : Flows K s0 s) {x1 x2 x3 x4 x5} :
    Flows K s0 (jnlFrame x1 x2 x3 x4 x5 s) := by
  refine h.comp hk (?_ : Flows 274810781690 s (jnlFrame x1 x2 x3 x4 x5 s))
  have h := Flows.refl 274810781690 s
  simp +contextual (maxDischargeDepth := 40) [jnlFrame, h]

@[simp] theorem chaffNew_flows {K : Nat} {s0 s : State} (hk : K &&& 67125252 = 0) (h : Flows K s0 s) {x1 x2 x3 x4 x5} :
    Flows K s0 (chaffNew x1 x2 x3 x4 x5 s) := by
  refine h.comp hk (?_ : Flows 274810781690 s (chaffNew x1 x2 x3 x4 x5 s))
  have h := Flows.refl 274810781690 s
  simp +contextual (maxDischargeDepth := 40) [chaffNew, h]

@[simp] theorem chaffEvent_flows {K : Nat} {s0 s : State} (hk : K &&& 67125252 = 0) (h : Flows K s0 s) {x1 x2 x3 x4 x5} :
    Flows K s0 (chaffEvent x1 x2 x3 x4 x5 s) := by
  refine h.comp hk (?_ : Flows 274810781690 s (chaffEvent x1 x2 x3 x4 x5 s))
  have h := Flows.refl 274810781690 s
  simp +contextual (maxDischargeDepth := 40) [chaffEvent, h]

@[simp] theorem failoverMove_flows {K : Nat} {s0 s : State} (hk : K &&& 34426904612 = 0) (h : Flows K s0 s) {x1} :
    Flows K s0 (failoverMove x1 s) := by
  refine h.comp hk (?_ : Flows 240451002330 s (failoverMove x1 s))
  have h := Flows.refl 240451002330 s
  simp +contextual (maxDischargeDepth := 40) [failoverMove, h]

@[simp] theorem runMbcSend_flows {K : Nat} {s0 s : State} (hk : K &&& 2048 = 0) (h : Flows K s0 s) {x1} :
    Flows K s0 (runMbcSend x1 s) := by
  refine h.comp hk (?_ : Flows 274877904894 s (runMbcSend x1 s))
  have h := Flows.refl 274877904894 s
  simp +contextual (maxDischargeDepth := 40) [runMbcSend, h]

theorem execMbcSend_flows {s t : State} {x1 x2 x3} (hx : execMbcSend x1 x2 x3 s = .next t) : Flows 26880775128 s t := by
  have h := Flows.refl 26880775128 s
  simp only [execMbcSend, Host.Outcome.next.injEq] at hx
  subst hx
  simp +contextual (maxDischargeDepth := 40) [h]

theorem execTxAttempt_flows {s t : State} {x1} (hx : execTxAttempt x1 s = .next t) : Flows 274810798078 s t := by
  have h := Flows.refl 274810798078 s
  simp only [execTxAttempt, Host.Outcome.next.injEq] at hx
  subst hx
  (repeat' split) <;> (first | exact h | (simp +contextual (maxDischargeDepth := 40) [h]; done))

@[simp] theorem setLastTx_flows {K : Nat} {s0 s : State} (hk : K &&& 4 = 0) (h : Flows K s0 s) {x1 x2 x3} :
    Flows K s0 (setLastTx x1 x2 x3 s) := by
  refine h.comp hk (?_ : Flows 274877906938 s (setLastTx x1 x2 x3 s))
  have h := Flows.refl 274877906938 s
  simp +contextual (maxDischargeDepth := 40) [setLastTx, h]

@[simp] theorem enterBusOff_flows {K : Nat} {s0 s : State} (hk : K &&& 34426904612 = 0) (h : Flows K s0 s) {x1} :
    Flows K s0 (enterBusOff x1 s) := by
  refine h.comp hk (?_ : Flows 240451002330 s (enterBusOff x1 s))
  have h := Flows.refl 240451002330 s
  simp only [enterBusOff]
  (repeat' split) <;> (first | exact h | (simp +contextual (maxDischargeDepth := 40) [h]; done))

@[simp] theorem errTransitions_flows {K : Nat} {s0 s : State} (hk : K &&& 34426904612 = 0) (h : Flows K s0 s) {x1 x2} :
    Flows K s0 (errTransitions x1 x2 s) := by
  refine h.comp hk (?_ : Flows 240451002330 s (errTransitions x1 x2 s))
  have h := Flows.refl 240451002330 s
  simp +contextual (maxDischargeDepth := 40) [errTransitions, h]

@[simp] theorem mbcError_flows {K : Nat} {s0 s : State} (hk : K &&& 34426904612 = 0) (h : Flows K s0 s) {x1 x2 x3 x4 x5 x6 x7} :
    Flows K s0 (mbcError x1 x2 x3 x4 x5 x6 x7 s) := by
  refine h.comp hk (?_ : Flows 240451002330 s (mbcError x1 x2 x3 x4 x5 x6 x7 s))
  have h := Flows.refl 240451002330 s
  simp +contextual (maxDischargeDepth := 40) [mbcError, h]

theorem execBusError_flows {s t : State} {x1 x2 x3 x4 x5} (hx : execBusError x1 x2 x3 x4 x5 s = .next t) : Flows 240451002330 s t := by
  have h := Flows.refl 240451002330 s
  simp only [execBusError, Host.Outcome.next.injEq] at hx
  subst hx
  simp +contextual (maxDischargeDepth := 40) [h]

@[simp] theorem mbcCountersZero_flows {K : Nat} {s0 s : State} (hk : K &&& 34426904612 = 0) (h : Flows K s0 s) {x1} :
    Flows K s0 (mbcCountersZero x1 s) := by
  refine h.comp hk (?_ : Flows 240451002330 s (mbcCountersZero x1 s))
  have h := Flows.refl 240451002330 s
  simp +contextual (maxDischargeDepth := 40) [mbcCountersZero, h]

@[simp] theorem mbcTiming_flows {K : Nat} {s0 s : State} (hk : K &&& 34426904628 = 0) (h : Flows K s0 s) {n} : Flows K s0 (mbcTiming n s) := by
  refine h.comp hk (?_ : Flows 240451002314 s (mbcTiming n s))
  exact mbcCountersZero_flows rfl (mbcUpd_flows rfl (flows_effOld rfl (s := { s with effOld := tabSet (fun _ => none) s.effOld (Reg.mbcNbt n) none })
    (flows_effOld rfl (Flows.refl 240451002314 s))))


@[simp] theorem mbcJudge_flows {K : Nat} {s0 s : State} (hk : K &&& 67108864 = 0) (h : Flows K s0 s) {x1} :
    Flows K s0 (mbcJudge x1 s) := by
  refine h.comp hk (?_ : Flows 274810798078 s (mbcJudge x1 s))
  have h := Flows.refl 274810798078 s
  simp +contextual (maxDischargeDepth := 40) [mbcJudge, h]

@[simp] theorem mbcEnter_flows {K : Nat} {s0 s : State} (hk : K &&& 34426904612 = 0) (h : Flows K s0 s) {x1} :
    Flows K s0 (mbcEnter x1 s) := by
  refine h.comp hk (?_ : Flows 240451002330 s (mbcEnter x1 s))
  have h := Flows.refl 240451002330 s
  simp +contextual (maxDischargeDepth := 40) [mbcEnter, h]

@[simp] theorem mbcMajor_flows {K : Nat} {s0 s : State} (hk : K &&& 67108864 = 0) (h : Flows K s0 s) {x1} :
    Flows K s0 (mbcMajor x1 s) := by
  refine h.comp hk (?_ : Flows 274810798078 s (mbcMajor x1 s))
  have h := Flows.refl 274810798078 s
  simp +contextual (maxDischargeDepth := 40) [mbcMajor, h]

@[simp] theorem attEffects_flows {K : Nat} {s0 s : State} (hk : K &&& 34426904628 = 0) (h : Flows K s0 s) {x1} :
    Flows K s0 (attEffects x1 s) := by
  refine h.comp hk (?_ : Flows 240451002314 s (attEffects x1 s))
  have h := Flows.refl 240451002314 s
  simp +contextual (maxDischargeDepth := 40) [attEffects, h]

@[simp] theorem attOver_flows {K : Nat} {s0 s : State} (hk : K &&& 67108864 = 0) (h : Flows K s0 s) {x1} :
    Flows K s0 (attOver x1 s) := by
  refine h.comp hk (?_ : Flows 274810798078 s (attOver x1 s))
  have h := Flows.refl 274810798078 s
  simp +contextual (maxDischargeDepth := 40) [attOver, h]

@[simp] theorem latchFrame_flows {K : Nat} {s0 s : State} (hk : K &&& 134217728 = 0) (h : Flows K s0 s) {x1 x2 x3} :
    Flows K s0 (latchFrame x1 x2 x3 s) := by
  refine h.comp hk (?_ : Flows 274743689214 s (latchFrame x1 x2 x3 s))
  have h := Flows.refl 274743689214 s
  simp +contextual (maxDischargeDepth := 40) [latchFrame, h]

@[simp] theorem mapAge_flows {K : Nat} {s0 s : State} (hk : K &&& 134217728 = 0) (h : Flows K s0 s) : Flows K s0 (mapAge s) := by
  refine h.comp hk (?_ : Flows 274743689214 s (mapAge s))
  have h := Flows.refl 274743689214 s
  unfold mapAge
  (apply flows_mk h) <;> (first | exact kept_same _ _ _ | exact kept_free rfl | exact id |
    exact fun w => (tabMapFilter_wf (d := fun _ => ({} : MapSt)) _ _ (fun e he => by simpa using he) w).1)


@[simp] theorem mbcReceive_flows {K : Nat} {s0 s : State} (hk : K &&& 172000075812 = 0) (h : Flows K s0 s) {x1 x2 x3} :
    Flows K s0 (mbcReceive x1 x2 x3 s) := by
  refine h.comp hk (?_ : Flows 102877831130 s (mbcReceive x1 x2 x3 s))
  have h := Flows.refl 102877831130 s
  simp +contextual (maxDischargeDepth := 40) [mbcReceive, h]

theorem execCanFrameReceived_flows {s t : State} {x1 x2 x3} (hx : execCanFrameReceived x1 x2 x3 s = .next t) : Flows 102877831130 s t := by
  have h := Flows.refl 102877831130 s
  simp only [execCanFrameReceived, Host.Outcome.next.injEq] at hx
  subst hx
  simp +contextual (maxDischargeDepth := 40) [h]

@[simp] theorem txOk_flows {K : Nat} {s0 s : State} (hk : K &&& 103280599092 = 0) (h : Flows K s0 s) {x1 x2 x3} :
    Flows K s0 (txOk x1 x2 x3 s) := by
  refine h.comp hk (?_ : Flows 171597307850 s (txOk x1 x2 x3 s))
  have h := Flows.refl 171597307850 s
  simp only [txOk]
  (repeat' split) <;> (first | exact h | (simp +contextual (maxDischargeDepth := 40) [h]; done))

@[simp] theorem noAck_flows {K : Nat} {s0 s : State} (hk : K &&& 34426904612 = 0) (h : Flows K s0 s) {x1} :
    Flows K s0 (noAck x1 s) := by
  refine h.comp hk (?_ : Flows 240451002330 s (noAck x1 s))
  have h := Flows.refl 240451002330 s
  simp +contextual (maxDischargeDepth := 40) [noAck, h]

@[simp] theorem txFail_flows {K : Nat} {s0 s : State} (hk : K &&& 34426904628 = 0) (h : Flows K s0 s) {x1 x2 x3 x4 x5 x6 x7} :
    Flows K s0 (txFail x1 x2 x3 x4 x5 x6 x7 s) := by
  refine h.comp hk (?_ : Flows 240451002314 s (txFail x1 x2 x3 x4 x5 x6 x7 s))
  have h := Flows.refl 240451002314 s
  simp +contextual (maxDischargeDepth := 40) [txFail, h]

theorem execTxAttemptEnd_flows {s t : State} {x1 x2 x3 x4 x5 x6} (hx : execTxAttemptEnd x1 x2 x3 x4 x5 x6 s = .next t) : Flows 171597307850 s t := by
  have h := Flows.refl 171597307850 s
  simp only [execTxAttemptEnd, Host.Outcome.next.injEq] at hx
  subst hx
  (repeat' split) <;> (first | exact h | (simp +contextual (maxDischargeDepth := 40) [h]; done))

theorem execRecovered_flows {s t : State} {x1} (hx : execRecovered x1 s = .next t) : Flows 240451002330 s t := by
  have h := Flows.refl 240451002330 s
  simp only [execRecovered, Host.Outcome.next.injEq] at hx
  subst hx
  simp +contextual (maxDischargeDepth := 40) [h]

@[simp] theorem mbcRecover_flows {K : Nat} {s0 s : State} (hk : K &&& 67108864 = 0) (h : Flows K s0 s) {x1} :
    Flows K s0 (mbcRecover x1 s) := by
  refine h.comp hk (?_ : Flows 274810798078 s (mbcRecover x1 s))
  have h := Flows.refl 274810798078 s
  simp +contextual (maxDischargeDepth := 40) [mbcRecover, h]

@[simp] theorem runMbcMap_flows {K : Nat} {s0 s : State} (hk : K &&& 2048 = 0) (h : Flows K s0 s) {x1} :
    Flows K s0 (runMbcMap x1 s) := by
  refine h.comp hk (?_ : Flows 274877904894 s (runMbcMap x1 s))
  have h := Flows.refl 274877904894 s
  simp +contextual (maxDischargeDepth := 40) [runMbcMap, h]

theorem execMbcMap_flows {s t : State} {x1 x2 x3 x4} (hx : execMbcMap x1 x2 x3 x4 s = .next t) : Flows 26880775128 s t := by
  have h := Flows.refl 26880775128 s
  simp only [execMbcMap, Host.Outcome.next.injEq] at hx
  subst hx
  simp +contextual (maxDischargeDepth := 40) [h]

@[simp] theorem mbcStart_flows {K : Nat} {s0 s : State} (hk : K &&& 469762048 = 0) (h : Flows K s0 s) : Flows K s0 (mbcStart s) := by
  refine h.comp hk (?_ : Flows 274408144894 s (mbcStart s))
  have h := Flows.refl 274408144894 s
  unfold mbcStart
  refine each_flows (fun _ _ g => mbcForce_flows rfl g) ?_
  (apply flows_mk h) <;> (first | exact kept_same _ _ _ | exact kept_free rfl | exact id | exact fun _ => rfl)


@[simp] theorem mbcService_flows {K : Nat} {s0 s : State} (hk : K &&& 34426904612 = 0) (h : Flows K s0 s) :
    Flows K s0 (mbcService s) := by
  refine h.comp hk (?_ : Flows 240451002330 s (mbcService s))
  have h := Flows.refl 240451002330 s
  simp +contextual (maxDischargeDepth := 40) [mbcService, h]

end Sys2Proof.Machine
end

