-- ==== Sys2Proof/Laws/FlowsNet.lean ====
section
/-! SUPPORT. What the operations of Machine/Net.lean keep, each said once: the masks name the fields of State they leave
alone (Laws/Flows.lean). -/

namespace Sys2Proof.Machine

@[simp] theorem setUp_flows {K : Nat} {s0 s : State} (hk : K &&& 34359795748 = 0) (h : Flows K s0 s) {x1 x2} :
    Flows K s0 (setUp x1 x2 s) := by
  refine h.comp hk (?_ : Flows 240518111194 s (setUp x1 x2 s))
  have h := Flows.refl 240518111194 s
  simp +contextual (maxDischargeDepth := 40) [setUp, h]

theorem execSfpInsert_flows {s t : State} {x1 x2 x3} (hx : execSfpInsert x1 x2 x3 s = .next t) : Flows 240518111194 s t := by
  have h := Flows.refl 240518111194 s
  simp only [execSfpInsert, Host.Outcome.next.injEq] at hx
  subst hx
  simp +contextual (maxDischargeDepth := 40) [h]

theorem execLinkChange_flows {s t : State} {x1 x2} (hx : execLinkChange x1 x2 s = .next t) : Flows 239981240282 s t := by
  have h := Flows.refl 239981240282 s
  simp only [execLinkChange, Host.Outcome.next.injEq] at hx
  subst hx
  simp +contextual (maxDischargeDepth := 40) [h]

theorem execPathFault_flows {s t : State} {x1} (hx : execPathFault x1 s = .next t) : Flows 240518111194 s t := by
  have h := Flows.refl 240518111194 s
  simp only [execPathFault, Host.Outcome.next.injEq] at hx
  subst hx
  simp +contextual (maxDischargeDepth := 40) [h]

theorem execSupervisionFrame_flows {s t : State} (hx : execSupervisionFrame s = .next t) : Flows 206158430206 s t := by
  have h := Flows.refl 206158430206 s
  simp only [execSupervisionFrame, Host.Outcome.next.injEq] at hx
  subst hx
  simp +contextual (maxDischargeDepth := 40) [h]

@[simp] theorem rxPorts_flows {K : Nat} {s0 s : State} (hk : K &&& 16388 = 0) (h : Flows K s0 s) {x1} :
    Flows K s0 (rxPorts x1 s) := by
  refine h.comp hk (?_ : Flows 274877890554 s (rxPorts x1 s))
  have h := Flows.refl 274877890554 s
  simp only [rxPorts]
  (repeat' split) <;> (first | exact h | (simp +contextual (maxDischargeDepth := 40) [h]; done))

theorem execPtpDelayResponse_flows {s t : State} {x1} (hx : execPtpDelayResponse x1 s = .next t) : Flows 274341036030 s t := by
  have h := Flows.refl 274341036030 s
  simp only [execPtpDelayResponse, Host.Outcome.next.injEq] at hx
  subst hx
  simp +contextual (maxDischargeDepth := 40) [h]

@[simp] theorem ptpUse_flows {K : Nat} {s0 s : State} (hk : K &&& 34359795748 = 0) (h : Flows K s0 s) {x1} :
    Flows K s0 (ptpUse x1 s) := by
  refine h.comp hk (?_ : Flows 240518111194 s (ptpUse x1 s))
  have h := Flows.refl 240518111194 s
  simp +contextual (maxDischargeDepth := 40) [ptpUse, h]

@[simp] theorem ptpOffset_flows {K : Nat} {s0 s : State} (hk : K &&& 34359799844 = 0) (h : Flows K s0 s) {x1 x2} :
    Flows K s0 (ptpOffset x1 x2 s) := by
  refine h.comp hk (?_ : Flows 240518107098 s (ptpOffset x1 x2 s))
  have h := Flows.refl 240518107098 s
  simp only [ptpOffset]
  (repeat' split) <;> (first | exact h | (simp +contextual (maxDischargeDepth := 40) [h]; done))

theorem execPtpSync_flows {s t : State} {x1 x2 x3} (hx : execPtpSync x1 x2 x3 s = .next t) : Flows 239981236186 s t := by
  have h := Flows.refl 239981236186 s
  simp only [execPtpSync, Host.Outcome.next.injEq] at hx
  subst hx
  simp +contextual (maxDischargeDepth := 40) [h]

@[simp] theorem touchLines_flows {K : Nat} {s0 s : State} (hk : K &&& 34359796772 = 0) (h : Flows K s0 s) {x1 x2} :
    Flows K s0 (touchLines x1 x2 s) := by
  refine h.comp hk (?_ : Flows 240518110170 s (touchLines x1 x2 s))
  have h := Flows.refl 240518110170 s
  simp +contextual (maxDischargeDepth := 40) [touchLines, h]

@[simp] theorem runNetPublish_flows {K : Nat} {s0 s : State} (hk : K &&& 108008041508 = 0) (h : Flows K s0 s) {x1} :
    Flows K s0 (runNetPublish x1 s) := by
  refine h.comp hk (?_ : Flows 166869865434 s (runNetPublish x1 s))
  have h := Flows.refl 166869865434 s
  simp only [runNetPublish]
  (repeat' split) <;> (first | exact h | (simp +contextual (maxDischargeDepth := 40) [h]; done))

theorem execNetPublish_flows {s t : State} {x1 x2} (hx : execNetPublish x1 x2 s = .next t) : Flows 26880775128 s t := by
  have h := Flows.refl 26880775128 s
  simp only [execNetPublish, Host.Outcome.next.injEq] at hx
  subst hx
  simp +contextual (maxDischargeDepth := 40) [h]

@[simp] theorem netSplit_flows {K : Nat} {s0 s : State} (hk : K &&& 34896666660 = 0) (h : Flows K s0 s) :
    Flows K s0 (netSplit s) := by
  refine h.comp hk (?_ : Flows 239981240282 s (netSplit s))
  have h := Flows.refl 239981240282 s
  simp +contextual (maxDischargeDepth := 40) [netSplit, h]

@[simp] theorem putSub_flows {K : Nat} {s0 s : State} (hk : K &&& 536870912 = 0) (h : Flows K s0 s) {x1 x2} :
    Flows K s0 (putSub x1 x2 s) := by
  refine h.comp hk (?_ : Flows 274341036030 s (putSub x1 x2 s))
  have h := Flows.refl 274341036030 s
  simp +contextual (maxDischargeDepth := 40) [putSub, h]

@[simp] theorem peerLog_flows {K : Nat} {s0 s : State} (hk : K &&& 536870916 = 0) (h : Flows K s0 s) {x1 x2 x3 x4 x5} :
    Flows K s0 (peerLog x1 x2 x3 x4 x5 s) := by
  refine h.comp hk (?_ : Flows 274341036026 s (peerLog x1 x2 x3 x4 x5 s))
  have h := Flows.refl 274341036026 s
  simp +contextual (maxDischargeDepth := 40) [peerLog, h]

@[simp] theorem subFragment_flows {K : Nat} {s0 s : State} (hk : K &&& 536887300 = 0) (h : Flows K s0 s) {x1 x2} :
    Flows K s0 (subFragment x1 x2 s) := by
  refine h.comp hk (?_ : Flows 274341019642 s (subFragment x1 x2 s))
  have h := Flows.refl 274341019642 s
  simp +contextual (maxDischargeDepth := 40) [subFragment, h]

theorem execPubDatagramRx_flows {s t : State} {x1 x2} (hx : execPubDatagramRx x1 x2 s = .next t) : Flows 239981240282 s t := by
  have h := Flows.refl 239981240282 s
  simp only [execPubDatagramRx, Host.Outcome.next.injEq] at hx
  subst hx
  simp +contextual (maxDischargeDepth := 40) [h]

@[simp] theorem runNetAccept_flows {K : Nat} {s0 s : State} (hk : K &&& 34896668708 = 0) (h : Flows K s0 s) {x1} :
    Flows K s0 (runNetAccept x1 s) := by
  refine h.comp hk (?_ : Flows 239981238234 s (runNetAccept x1 s))
  have h := Flows.refl 239981238234 s
  simp only [runNetAccept]
  (repeat' split) <;> (first | exact h | (simp +contextual (maxDischargeDepth := 40) [h]; done))

theorem execNetAccept_flows {s t : State} {x1 x2} (hx : execNetAccept x1 x2 s = .next t) : Flows 26880775128 s t := by
  have h := Flows.refl 26880775128 s
  simp only [execNetAccept, Host.Outcome.next.injEq] at hx
  subst hx
  simp +contextual (maxDischargeDepth := 40) [h]

@[simp] theorem joinGroups_flows {K : Nat} {s0 s : State} (hk : K &&& 69256347648 = 0) (h : Flows K s0 s) :
    Flows K s0 (joinGroups s) := by
  refine h.comp hk (?_ : Flows 205621559294 s (joinGroups s))
  have h := Flows.refl 205621559294 s
  simp +contextual (maxDischargeDepth := 40) [joinGroups, h]

@[simp] theorem netStart_flows {K : Nat} {s0 s : State} (hk : K &&& 536870912 = 0) (h : Flows K s0 s) :
    Flows K s0 (netStart s) := by
  refine h.comp hk (?_ : Flows 274341036030 s (netStart s))
  have h := Flows.refl 274341036030 s
  simp only [netStart]
  (apply flows_mk h) <;> (first | exact kept_same _ _ _ | exact kept_free rfl | exact id | exact fun _ => rfl | (simp +contextual; done))

@[simp] theorem putMsl_flows {K : Nat} {s0 s : State} (hk : K &&& 1073741824 = 0) (h : Flows K s0 s) {x1 x2} :
    Flows K s0 (putMsl x1 x2 s) := by
  refine h.comp hk (?_ : Flows 273804165118 s (putMsl x1 x2 s))
  have h := Flows.refl 273804165118 s
  simp +contextual (maxDischargeDepth := 40) [putMsl, h]

@[simp] theorem mslWrite_flows {K : Nat} {s0 s : State} (hk : K &&& 1073741828 = 0) (h : Flows K s0 s) {x1 x2 x3 x4 x5 x6} :
    Flows K s0 (mslWrite x1 x2 x3 x4 x5 x6 s) := by
  refine h.comp hk (?_ : Flows 273804165114 s (mslWrite x1 x2 x3 x4 x5 x6 s))
  have h := Flows.refl 273804165114 s
  simp +contextual (maxDischargeDepth := 40) [mslWrite, h]

theorem execMslSentence_flows {s t : State} {x1 x2 x3 x4 x5} (hx : execMslSentence x1 x2 x3 x4 x5 s = .next t) : Flows 237296885722 s t := by
  have h := Flows.refl 237296885722 s
  simp only [execMslSentence, Host.Outcome.next.injEq] at hx
  subst hx
  simp +contextual (maxDischargeDepth := 40) [h]

theorem execMslSilent_flows {s t : State} {x1} (hx : execMslSilent x1 s = .next t) : Flows 240518111194 s t := by
  have h := Flows.refl 240518111194 s
  simp only [execMslSilent, Host.Outcome.next.injEq] at hx
  subst hx
  simp +contextual (maxDischargeDepth := 40) [h]

@[simp] theorem runMslMap_flows {K : Nat} {s0 s : State} (hk : K &&& 18432 = 0) (h : Flows K s0 s) {x1} :
    Flows K s0 (runMslMap x1 s) := by
  refine h.comp hk (?_ : Flows 274877888510 s (runMslMap x1 s))
  have h := Flows.refl 274877888510 s
  simp +contextual (maxDischargeDepth := 40) [runMslMap, h]

theorem execMslMap_flows {s t : State} {x1 x2 x3 x4} (hx : execMslMap x1 x2 x3 x4 s = .next t) : Flows 26880775128 s t := by
  have h := Flows.refl 26880775128 s
  simp only [execMslMap, Host.Outcome.next.injEq] at hx
  subst hx
  simp +contextual (maxDischargeDepth := 40) [h]

@[simp] theorem mslAge_flows {K : Nat} {s0 s : State} (hk : K &&& 2147483648 = 0) (h : Flows K s0 s) : Flows K s0 (mslAge s) := by
  refine h.comp hk (?_ : Flows 272730423294 s (mslAge s))
  have h := Flows.refl 272730423294 s
  unfold mslAge
  (apply flows_mk h) <;> (first | exact kept_same _ _ _ | exact kept_free rfl | exact id |
    exact fun w => (tabMapFilter_wf (d := fun _ => ({} : MapSt)) _ _ (fun e he => by simpa using he) w).1)


@[simp] theorem mslStart_flows {K : Nat} {s0 s : State} (hk : K &&& 3221225472 = 0) (h : Flows K s0 s) :
    Flows K s0 (mslStart s) := by
  refine h.comp hk (?_ : Flows 271656681470 s (mslStart s))
  have h := Flows.refl 271656681470 s
  simp only [mslStart]
  (apply flows_mk h) <;> (first | exact kept_same _ _ _ | exact kept_free rfl | exact id | exact fun _ => rfl | (simp +contextual; done))

end Sys2Proof.Machine
end

