-- ==== Sys2Proof/Laws/FlowsGrn.lean ====
section
/-! SUPPORT. What the operations of Machine/Grn.lean keep, each said once: the masks name the fields of State they leave
alone (Laws/Flows.lean). -/

namespace Sys2Proof.Machine

@[simp] theorem condKeep_flows {K : Nat} {s0 s : State} (hk : K &&& 8192 = 0) (h : Flows K s0 s) {x1 x2 x3} :
    Flows K s0 (condKeep x1 x2 x3 s) := by
  refine h.comp hk (?_ : Flows 274877898750 s (condKeep x1 x2 x3 s))
  have h := Flows.refl 274877898750 s
  simp +contextual (maxDischargeDepth := 40) [condKeep, h]

@[simp] theorem condEval_flows {K : Nat} {s0 s : State} (hk : K &&& 34359796772 = 0) (h : Flows K s0 s) {x1 x2} :
    Flows K s0 (condEval x1 x2 s) := by
  refine h.comp hk (?_ : Flows 240518110170 s (condEval x1 x2 s))
  have h := Flows.refl 240518110170 s
  simp +contextual (maxDischargeDepth := 40) [condEval, h]

@[simp] theorem runGrnTick_flows {K : Nat} {s0 s : State} (hk : K &&& 34359796772 = 0) (h : Flows K s0 s) {x1} :
    Flows K s0 (runGrnTick x1 s) := by
  refine h.comp hk (?_ : Flows 240518110170 s (runGrnTick x1 s))
  have h := Flows.refl 240518110170 s
  simp +contextual (maxDischargeDepth := 40) [runGrnTick, h]

theorem execGrnTick_flows {s t : State} {x1 x2 x3} (hx : execGrnTick x1 x2 x3 s = .next t) : Flows 26880775128 s t := by
  have h := Flows.refl 26880775128 s
  simp only [execGrnTick, Host.Outcome.next.injEq] at hx
  subst hx
  simp +contextual (maxDischargeDepth := 40) [h]

theorem execRecordCommit_flows {s t : State} (hx : execRecordCommit s = .next t) : Flows 240518110170 s t := by
  have h := Flows.refl 240518110170 s
  simp only [execRecordCommit, Host.Outcome.next.injEq] at hx
  subst hx
  simp +contextual (maxDischargeDepth := 40) [h]

@[simp] theorem freezeBegin_flows {K : Nat} {s0 s : State} (hk : K &&& 8192 = 0) (h : Flows K s0 s) {x1} :
    Flows K s0 (freezeBegin x1 s) := by
  refine h.comp hk (?_ : Flows 274877898750 s (freezeBegin x1 s))
  have h := Flows.refl 274877898750 s
  simp +contextual (maxDischargeDepth := 40) [freezeBegin, h]

@[simp] theorem freezeEnd_flows {K : Nat} {s0 s : State} (hk : K &&& 34359795748 = 0) (h : Flows K s0 s) :
    Flows K s0 (freezeEnd s) := by
  refine h.comp hk (?_ : Flows 240518111194 s (freezeEnd s))
  have h := Flows.refl 240518111194 s
  simp +contextual (maxDischargeDepth := 40) [freezeEnd, h]

@[simp] theorem freezeDrop_flows {K : Nat} {s0 s : State} (hk : K &&& 34359795748 = 0) (h : Flows K s0 s) {x1} :
    Flows K s0 (freezeDrop x1 s) := by
  refine h.comp hk (?_ : Flows 240518111194 s (freezeDrop x1 s))
  have h := Flows.refl 240518111194 s
  simp +contextual (maxDischargeDepth := 40) [freezeDrop, h]

theorem execFreezeExpired_flows {s t : State} (hx : execFreezeExpired s = .next t) : Flows 26880775128 s t := by
  have h := Flows.refl 26880775128 s
  simp only [execFreezeExpired, Host.Outcome.next.injEq] at hx
  subst hx
  (repeat' split) <;> (first | exact h | (simp +contextual (maxDischargeDepth := 40) [h]; done))

@[simp] theorem grnClear_flows {K : Nat} {s0 s : State} (hk : K &&& 34359795748 = 0) (h : Flows K s0 s) {x1} :
    Flows K s0 (grnClear x1 s) := by
  refine h.comp hk (?_ : Flows 240518111194 s (grnClear x1 s))
  have h := Flows.refl 240518111194 s
  simp +contextual (maxDischargeDepth := 40) [grnClear, h]

theorem execGrnEraseDone_flows {s t : State} (hx : execGrnEraseDone s = .next t) : Flows 274877898746 s t := by
  have h := Flows.refl 274877898746 s
  simp only [execGrnEraseDone, Host.Outcome.next.injEq] at hx
  subst hx
  simp +contextual (maxDischargeDepth := 40) [h]

@[simp] theorem pmcSnap_flows {K : Nat} {s0 s : State} (hk : K &&& 12 = 0) (h : Flows K s0 s) :
    Flows K s0 (pmcSnap s) := by
  refine h.comp hk (?_ : Flows 274877906930 s (pmcSnap s))
  have h := Flows.refl 274877906930 s
  simp +contextual (maxDischargeDepth := 40) [pmcSnap, h]

@[simp] theorem runPmcMark_flows {K : Nat} {s0 s : State} (hk : K &&& 4 = 0) (h : Flows K s0 s) {x1} :
    Flows K s0 (runPmcMark x1 s) := by
  refine h.comp hk (?_ : Flows 274877906938 s (runPmcMark x1 s))
  have h := Flows.refl 274877906938 s
  simp +contextual (maxDischargeDepth := 40) [runPmcMark, h]

theorem execPmcMark_flows {s t : State} {x1 x2} (hx : execPmcMark x1 x2 s = .next t) : Flows 26880775128 s t := by
  have h := Flows.refl 26880775128 s
  simp only [execPmcMark, Host.Outcome.next.injEq] at hx
  subst hx
  simp +contextual (maxDischargeDepth := 40) [h]

@[simp] theorem wrapCounter_flows {K : Nat} {s0 s : State} (hk : K &&& 16384 = 0) (h : Flows K s0 s) {x1} :
    Flows K s0 (wrapCounter x1 s) := by
  refine h.comp hk (?_ : Flows 274877890558 s (wrapCounter x1 s))
  have h := Flows.refl 274877890558 s
  simp +contextual (maxDischargeDepth := 40) [wrapCounter, h]

theorem execCounterWrap_flows {s t : State} {x1} (hx : execCounterWrap x1 s = .next t) : Flows 240518111194 s t := by
  have h := Flows.refl 240518111194 s
  simp only [execCounterWrap, Host.Outcome.next.injEq] at hx
  subst hx
  simp +contextual (maxDischargeDepth := 40) [h]

end Sys2Proof.Machine
end

