-- ==== Sys2Proof/Laws/FlowsSes.lean ====
section
/-! SUPPORT. What the operations of Machine/Ses.lean keep, each said once: the masks name the fields of State they leave
alone (Laws/Flows.lean). -/

namespace Sys2Proof.Machine

@[simp] theorem qapSend_flows {K : Nat} {s0 s : State} (hk : K &&& 68719493120 = 0) (h : Flows K s0 s) {x1 x2} :
    Flows K s0 (qapSend x1 x2 s) := by
  refine h.comp hk (?_ : Flows 206158413822 s (qapSend x1 x2 s))
  have h := Flows.refl 206158413822 s
  simp +contextual (maxDischargeDepth := 40) [qapSend, h]

@[simp] theorem qapPlain_flows {K : Nat} {s0 s : State} (hk : K &&& 68719493120 = 0) (h : Flows K s0 s) {x1 x2 x3 x4 x5} :
    Flows K s0 (qapPlain x1 x2 x3 x4 x5 s) := by
  refine h.comp hk (?_ : Flows 206158413822 s (qapPlain x1 x2 x3 x4 x5 s))
  have h := Flows.refl 206158413822 s
  simp +contextual (maxDischargeDepth := 40) [qapPlain, h]

@[simp] theorem sesUpd_flows {K : Nat} {s0 s : State} (hk : K &&& 32768 = 0) (h : Flows K s0 s) {f}
    (hf : ∀ x : SesSt, tabWf (fun _ => ({} : Session)) x.slots = true → tabWf (fun _ => ({} : Session)) (f x).slots = true) :
    Flows K s0 (sesUpd f s) := by
  refine h.comp hk (?_ : Flows 274877874174 s (sesUpd f s))
  have h := Flows.refl 274877874174 s
  unfold sesUpd
  (apply flows_mk h) <;> (first | exact kept_same _ _ _ | exact kept_free rfl | exact id | exact hf _)


@[simp] theorem openBusy_flows {K : Nat} {s0 s : State} (hk : K &&& 240518225956 = 0) (h : Flows K s0 s) {x1} :
    Flows K s0 (openBusy x1 s) := by
  refine h.comp hk (?_ : Flows 34359680986 s (openBusy x1 s))
  have h := Flows.refl 34359680986 s
  simp +contextual (maxDischargeDepth := 40) [openBusy, h]

@[simp] theorem openSlot_flows {K : Nat} {s0 s : State} (hk : K &&& 206158479360 = 0) (h : Flows K s0 s) {x1 x2} :
    Flows K s0 (openSlot x1 x2 s) := by
  refine h.comp hk (?_ : Flows 68719427582 s (openSlot x1 x2 s))
  have h := Flows.refl 68719427582 s
  simp +contextual (maxDischargeDepth := 40) [openSlot, h]

@[simp] theorem openHandled_flows {K : Nat} {s0 s : State} (hk : K &&& 206158479360 = 0) (h : Flows K s0 s) {x1} :
    Flows K s0 (openHandled x1 s) := by
  refine h.comp hk (?_ : Flows 68719427582 s (openHandled x1 s))
  have h := Flows.refl 68719427582 s
  simp only [openHandled]
  (repeat' split) <;> (first | exact h | (simp +contextual (maxDischargeDepth := 40) [h]; done))

@[simp] theorem badLength_flows {K : Nat} {s0 s : State} (hk : K &&& 4 = 0) (h : Flows K s0 s) :
    Flows K s0 (badLength s) := by
  refine h.comp hk (?_ : Flows 274877906938 s (badLength s))
  have h := Flows.refl 274877906938 s
  simp +contextual (maxDischargeDepth := 40) [badLength, h]

theorem execQapOpen_flows {s t : State} {x1} (hx : execQapOpen x1 s = .next t) : Flows 34359680986 s t := by
  have h := Flows.refl 34359680986 s
  simp only [execQapOpen, Host.Outcome.next.injEq] at hx
  subst hx
  simp +contextual (maxDischargeDepth := 40) [h]

@[simp] theorem newWindow_flows {K : Nat} {s0 s : State} (hk : K &&& 32768 = 0) (h : Flows K s0 s) :
    Flows K s0 (newWindow s) := by
  refine h.comp hk (?_ : Flows 274877874174 s (newWindow s))
  have h := Flows.refl 274877874174 s
  simp +contextual (maxDischargeDepth := 40) [newWindow, h]

theorem execSessionGateOpen_flows {s t : State} (hx : execSessionGateOpen s = .next t) : Flows 26880775128 s t := by
  have h := Flows.refl 26880775128 s
  simp only [execSessionGateOpen, Host.Outcome.next.injEq] at hx
  subst hx
  simp +contextual (maxDischargeDepth := 40) [h]

theorem execAdmissionWindow_flows {s t : State} (hx : execAdmissionWindow s = .next t) : Flows 26880775128 s t := by
  have h := Flows.refl 26880775128 s
  simp only [execAdmissionWindow, Host.Outcome.next.injEq] at hx
  subst hx
  simp +contextual (maxDischargeDepth := 40) [h]

@[simp] theorem proofFail_flows {K : Nat} {s0 s : State} (hk : K &&& 34359795748 = 0) (h : Flows K s0 s) {x1 x2} :
    Flows K s0 (proofFail x1 x2 s) := by
  refine h.comp hk (?_ : Flows 240518111194 s (proofFail x1 x2 s))
  have h := Flows.refl 240518111194 s
  simp +contextual (maxDischargeDepth := 40) [proofFail, h]

@[simp] theorem proveOpen_flows {K : Nat} {s0 s : State} (hk : K &&& 103079272484 = 0) (h : Flows K s0 s) {x1 x2} :
    Flows K s0 (proveOpen x1 x2 s) := by
  refine h.comp hk (?_ : Flows 171798634458 s (proveOpen x1 x2 s))
  have h := Flows.refl 171798634458 s
  simp +contextual (maxDischargeDepth := 40) [proveOpen, h]

@[simp] theorem qapRespond_flows {K : Nat} {s0 s : State} (hk : K &&& 68719525888 = 0) (h : Flows K s0 s) {x1 x2 x3 x4} :
    Flows K s0 (qapRespond x1 x2 x3 x4 s) := by
  refine h.comp hk (?_ : Flows 206158381054 s (qapRespond x1 x2 x3 x4 s))
  have h := Flows.refl 206158381054 s
  simp +contextual (maxDischargeDepth := 40) [qapRespond, h]

@[simp] theorem qapAccept_flows {K : Nat} {s0 s : State} (hk : K &&& 32768 = 0) (h : Flows K s0 s) {x1} :
    Flows K s0 (qapAccept x1 s) := by
  refine h.comp hk (?_ : Flows 274877874174 s (qapAccept x1 s))
  have h := Flows.refl 274877874174 s
  simp +contextual (maxDischargeDepth := 40) [qapAccept, h]

@[simp] theorem qapChecked_flows {K : Nat} {s0 s : State} (hk : K &&& 103079272484 = 0) (h : Flows K s0 s) {op m} {f : State → State}
    (hf : ∀ t, Flows K s0 t → Flows K s0 (f t)) : Flows K s0 (qapChecked op m f s) := by
  unfold qapChecked
  extract_lets x s1
  have h1 : Flows K s0 s1 := pmcInc_flows (land_sub hk rfl) h
  clear_value s1
  exact flows_ite (raise__flows (land_sub hk rfl) (pmcInc_flows (land_sub hk rfl) (bump_flows (land_sub hk rfl) h1))) (flows_ite (hf _ (qapAccept_flows (land_sub hk rfl) h1))
    (flows_ite (qapSend_flows (land_sub hk rfl) (pmcInc_flows (land_sub hk rfl) (bump_flows (land_sub hk rfl) h1))) (pmcInc_flows (land_sub hk rfl) (bump_flows (land_sub hk rfl) h1))))


@[simp] theorem qapRequest_flows {K : Nat} {s0 s : State} (hk : K &&& 103079272484 = 0) (h : Flows K s0 s) {op m} {f : State → State}
    (hf : ∀ t, Flows K s0 t → Flows K s0 (f t)) : Flows K s0 (qapRequest op m f s) := by
  unfold qapRequest
  extract_lets s1
  have h1 : Flows K s0 s1 := pmcInc_flows (land_sub hk rfl) h
  clear_value s1
  exact flows_ite (badLength_flows (land_sub hk rfl) h1) (flows_ite (qapPlain_flows (land_sub hk rfl) h1) (qapChecked_flows (land_sub hk rfl) h1 hf))


theorem execQapProve_flows {s t : State} {x1} (hx : execQapProve x1 s = .next t) : Flows 171798634458 s t := by
  have h := Flows.refl 171798634458 s
  simp only [execQapProve, Host.Outcome.next.injEq] at hx
  subst hx
  simp +contextual (maxDischargeDepth := 40) [h]

@[simp] theorem sesFree_flows {K : Nat} {s0 s : State} (hk : K &&& 51539665188 = 0) (h : Flows K s0 s) {x1} :
    Flows K s0 (sesFree x1 s) := by
  refine h.comp hk (?_ : Flows 223338241754 s (sesFree x1 s))
  have h := Flows.refl 223338241754 s
  simp +contextual (maxDischargeDepth := 40) [sesFree, h]

theorem execLockoutExpire_flows {s t : State} {x1} (hx : execLockoutExpire x1 s = .next t) : Flows 26880775128 s t := by
  have h := Flows.refl 26880775128 s
  simp only [execLockoutExpire, Host.Outcome.next.injEq] at hx
  subst hx
  (repeat' split) <;> (first | exact h | (simp +contextual (maxDischargeDepth := 40) [h]; done))

theorem execProvingTimeout_flows {s t : State} {x1} (hx : execProvingTimeout x1 s = .next t) : Flows 26880775128 s t := by
  have h := Flows.refl 26880775128 s
  simp only [execProvingTimeout, Host.Outcome.next.injEq] at hx
  subst hx
  simp +contextual (maxDischargeDepth := 40) [h]

theorem execIdleTimeout_flows {s t : State} {x1} (hx : execIdleTimeout x1 s = .next t) : Flows 9700905688 s t := by
  have h := Flows.refl 9700905688 s
  simp only [execIdleTimeout, Host.Outcome.next.injEq] at hx
  subst hx
  simp +contextual (maxDischargeDepth := 40) [h]

theorem execQapClose_flows {s t : State} {x1} (hx : execQapClose x1 s = .next t) : Flows 154618765018 s t := by
  have h := Flows.refl 154618765018 s
  simp only [execQapClose, Host.Outcome.next.injEq] at hx
  subst hx
  simp +contextual (maxDischargeDepth := 40) [h]

theorem execQapSubscribe_flows {s t : State} {x1} (hx : execQapSubscribe x1 s = .next t) : Flows 171798634458 s t := by
  have h := Flows.refl 171798634458 s
  simp only [execQapSubscribe, Host.Outcome.next.injEq] at hx
  subst hx
  simp +contextual (maxDischargeDepth := 40) [h]

theorem execQapFreeze_flows {s t : State} {m} (hx : execQapFreeze m s = .next t) : Flows 171798634458 s t := by
  simp only [execQapFreeze, Host.Outcome.next.injEq] at hx
  subst hx
  refine qapRequest_flows rfl (Flows.refl 171798634458 s) (fun t h => flows_ite (qapRespond_flows rfl h) ?_)
  split
  · exact qapRespond_flows rfl h
  · exact qapRespond_flows rfl (freezeBegin_flows rfl h)


theorem execQapUnfreeze_flows {s t : State} {x1} (hx : execQapUnfreeze x1 s = .next t) : Flows 171798634458 s t := by
  have h := Flows.refl 171798634458 s
  simp only [execQapUnfreeze, Host.Outcome.next.injEq] at hx
  subst hx
  simp +contextual (maxDischargeDepth := 40) [h]

@[simp] theorem overlayStore_flows {K : Nat} {s0 s : State} (hk : K &&& 196 = 0) (h : Flows K s0 s) : Flows K s0 (overlayStore s) := by
  refine h.comp hk (?_ : Flows 274877906746 s (overlayStore s))
  have h := Flows.refl 274877906746 s
  unfold overlayStore
  refine setFlag_flows rfl (wr_flows rfl (h.trans ?_))
  exact ⟨fun t => ⟨t.1, t.2.1, t.2.2.1, foldl_set_wf rfl, t.2.2.2.2⟩, rfl, Nat.le_refl _, Nat.le_refl _, ⟨[], rfl⟩,
    .inr rfl, .inr rfl, .inr rfl, .inr rfl, .inr rfl, .inl rfl, .inl rfl, .inr rfl, .inr rfl, .inr rfl, .inr rfl, .inr rfl, .inr rfl, .inr rfl, .inr rfl, .inr rfl, .inr rfl, .inr rfl, .inr rfl, .inr rfl, .inr rfl, .inr rfl, .inr rfl, .inr rfl, .inr rfl, .inr rfl, .inr rfl, .inr rfl, .inr rfl, .inr rfl, .inr rfl, .inr rfl, .inr rfl, .inr rfl, .inr rfl, .inr rfl, .inr rfl⟩


theorem execQapCommit_flows {s t : State} {x1} (hx : execQapCommit x1 s = .next t) : Flows 171798634266 s t := by
  have h := Flows.refl 171798634266 s
  simp only [execQapCommit, Host.Outcome.next.injEq] at hx
  subst hx
  simp +contextual (maxDischargeDepth := 40) [h]

end Sys2Proof.Machine
end

