-- ==== Sys2Proof/Laws/FlowsActivate.lean ====
section
/-! SUPPORT. What the operations of Machine/Activate.lean keep, each said once: the masks name the fields of State they leave
alone (Laws/Flows.lean). -/

namespace Sys2Proof.Machine

@[simp] theorem keepOld_flows {K : Nat} {s0 s : State} (hk : K &&& 16 = 0) (h : Flows K s0 s) {x1} :
    Flows K s0 (keepOld x1 s) := by
  refine h.comp hk (?_ : Flows 274877906926 s (keepOld x1 s))
  have h := Flows.refl 274877906926 s
  simp only [keepOld]
  (repeat' split) <;> (first | exact h | (simp +contextual (maxDischargeDepth := 40) [h]; done))

@[simp] theorem dropOld_flows {K : Nat} {s0 s : State} (hk : K &&& 16 = 0) (h : Flows K s0 s) {x1} :
    Flows K s0 (dropOld x1 s) := by
  refine h.comp hk (?_ : Flows 274877906926 s (dropOld x1 s))
  have h := Flows.refl 274877906926 s
  simp +contextual (maxDischargeDepth := 40) [dropOld, h]

@[simp] theorem pageEffect_flows {K : Nat} {s0 s : State} (hk : K &&& 103151104052 = 0) (h : Flows K s0 s) {x1 x2 x3} :
    Flows K s0 (pageEffect x1 x2 x3 s) := by
  refine h.comp hk (?_ : Flows 171726802890 s (pageEffect x1 x2 x3 s))
  have h := Flows.refl 171726802890 s
  simp only [pageEffect]
  (repeat' split) <;> (first | exact h | (simp +contextual (maxDischargeDepth := 40) [h]; done))

@[simp] theorem configEffect_flows {K : Nat} {s0 s : State} (hk : K &&& 103151104052 = 0) (h : Flows K s0 s) {x1 x2} :
    Flows K s0 (configEffect x1 x2 s) := by
  refine h.comp hk (?_ : Flows 171726802890 s (configEffect x1 x2 s))
  have h := Flows.refl 171726802890 s
  simp +contextual (maxDischargeDepth := 40) [configEffect, h]

@[simp] theorem takeEffect_flows {K : Nat} {s0 s : State} (hk : K &&& 103151497268 = 0) (h : Flows K s0 s) {a} : Flows K s0 (takeEffect a s) := by
  refine h.comp hk (?_ : Flows 171726409674 s (takeEffect a s))
  have h := Flows.refl 171726409674 s
  unfold takeEffect
  extract_lets n
  clear_value n
  split
  · exact h
  · exact flows_ite (mbcUpd_flows rfl h) (configEffect_flows rfl (withLines_flows rfl h (fun _ g => dropOld_flows rfl g)))


theorem execConfigTakeEffect_flows {s t : State} (hx : execConfigTakeEffect s = .next t) : Flows 171726409674 s t := by
  have h := Flows.refl 171726409674 s
  simp only [execConfigTakeEffect, Host.Outcome.next.injEq] at hx
  subst hx
  simp +contextual (maxDischargeDepth := 40) [h]

@[simp] theorem applyInit_flows {K : Nat} {s0 s : State} (hk : K &&& 32788 = 0) (h : Flows K s0 s) : Flows K s0 (applyInit s) := by
  refine h.comp hk (?_ : Flows 274877874154 s (applyInit s))
  have h := Flows.refl 274877874154 s
  unfold applyInit
  extract_lets s1
  have h1 : Flows 274877874154 s s1 := each_flows (fun _ _ g => wrOrEnable_flows rfl g) (flows_effOld_nil rfl h)
  clear_value s1
  split
  · exact setFld_flows rfl h1
  · exact h1


@[simp] theorem showSheaf_flows {K : Nat} {s0 s : State} (hk : K &&& 516 = 0) (h : Flows K s0 s) {x1} :
    Flows K s0 (showSheaf x1 s) := by
  refine h.comp hk (?_ : Flows 274877906426 s (showSheaf x1 s))
  have h := Flows.refl 274877906426 s
  simp +contextual (maxDischargeDepth := 40) [showSheaf, h]

@[simp] theorem applyOverlay_flows {K : Nat} {s0 s : State} (hk : K &&& 34359795748 = 0) (h : Flows K s0 s) : Flows K s0 (applyOverlay s) := by
  refine h.comp hk (?_ : Flows 240518111194 s (applyOverlay s))
  have h := Flows.refl 240518111194 s
  unfold applyOverlay
  refine flows_ite (setFlag_flows rfl h) (flows_ite (setFlag_flows rfl (each_flows (fun e t g => ?_) h)) (raise__flows rfl (setFlag_flows rfl h)))
  cases e.2 with
  | none => exact g
  | some w => exact wrOrEnable_flows rfl g


@[simp] theorem retagWord_flows {K : Nat} {s0 s : State} (hk : K &&& 1024 = 0) (h : Flows K s0 s) {x1 x2} :
    Flows K s0 (retagWord x1 x2 s) := by
  refine h.comp hk (?_ : Flows 274877905918 s (retagWord x1 x2 s))
  have h := Flows.refl 274877905918 s
  simp +contextual (maxDischargeDepth := 40) [retagWord, h]

@[simp] theorem activateTags_flows {K : Nat} {s0 s : State} (hk : K &&& 1024 = 0) (h : Flows K s0 s) {x1 x2} :
    Flows K s0 (activateTags x1 x2 s) := by
  refine h.comp hk (?_ : Flows 274877905918 s (activateTags x1 x2 s))
  have h := Flows.refl 274877905918 s
  simp +contextual (maxDischargeDepth := 40) [activateTags, h]

@[simp] theorem activateShaft_flows {K : Nat} {s0 s : State} (hk : K &&& 34359799844 = 0) (h : Flows K s0 s) :
    Flows K s0 (activateShaft s) := by
  refine h.comp hk (?_ : Flows 240518107098 s (activateShaft s))
  have h := Flows.refl 240518107098 s
  simp +contextual (maxDischargeDepth := 40) [activateShaft, h]

@[simp] theorem activateLoops_flows {K : Nat} {s0 s : State} (hk : K &&& 8390656 = 0) (h : Flows K s0 s) {x1} :
    Flows K s0 (activateLoops x1 s) := by
  refine h.comp hk (?_ : Flows 274869516286 s (activateLoops x1 s))
  have h := Flows.refl 274869516286 s
  simp +contextual (maxDischargeDepth := 40) [activateLoops, h]

@[simp] theorem activateSeq_flows {K : Nat} {s0 s : State} (hk : K &&& 2048 = 0) (h : Flows K s0 s) {x1} :
    Flows K s0 (activateSeq x1 s) := by
  refine h.comp hk (?_ : Flows 274877904894 s (activateSeq x1 s))
  have h := Flows.refl 274877904894 s
  simp +contextual (maxDischargeDepth := 40) [activateSeq, h]

@[simp] theorem activateTx_flows {K : Nat} {s0 s : State} (hk : K &&& 67108868 = 0) (h : Flows K s0 s) {x1 x2} :
    Flows K s0 (activateTx x1 x2 s) := by
  refine h.comp hk (?_ : Flows 274810798074 s (activateTx x1 x2 s))
  have h := Flows.refl 274810798074 s
  simp +contextual (maxDischargeDepth := 40) [activateTx, h]

@[simp] theorem activateMaps_flows {K : Nat} {s0 s : State} (hk : K &&& 134217728 = 0) (h : Flows K s0 s) {x1 x2} :
    Flows K s0 (activateMaps x1 x2 s) := by
  refine h.comp hk (?_ : Flows 274743689214 s (activateMaps x1 x2 s))
  have h := Flows.refl 274743689214 s
  unfold activateMaps
  (apply flows_mk h) <;> (first | exact kept_same _ _ _ | exact kept_free rfl | exact id | exact fun _ => foldl_set_wf rfl)


@[simp] theorem activateNet_flows {K : Nat} {s0 s : State} (hk : K &&& 2684354560 = 0) (h : Flows K s0 s) {x1 x2} :
    Flows K s0 (activateNet x1 x2 s) := by
  refine h.comp hk (?_ : Flows 272193552382 s (activateNet x1 x2 s))
  have h := Flows.refl 272193552382 s
  unfold activateNet
  (apply flows_mk h) <;> (first | exact kept_same _ _ _ | exact kept_free rfl | exact id | exact fun g => filter_wf _ g)


@[simp] theorem activateTrigs_flows {K : Nat} {s0 s : State} (hk : K &&& 8192 = 0) (h : Flows K s0 s) :
    Flows K s0 (activateTrigs s) := by
  refine h.comp hk (?_ : Flows 274877898750 s (activateTrigs s))
  have h := Flows.refl 274877898750 s
  simp +contextual (maxDischargeDepth := 40) [activateTrigs, h]

@[simp] theorem sheafPageEffect_flows {K : Nat} {s0 s : State} (hk : K &&& 240590057524 = 0) (h : Flows K s0 s) {x1 x2 x3} :
    Flows K s0 (sheafPageEffect x1 x2 x3 s) := by
  refine h.comp hk (?_ : Flows 34287849418 s (sheafPageEffect x1 x2 x3 s))
  have h := Flows.refl 34287849418 s
  simp only [sheafPageEffect]
  (repeat' split) <;> (first | exact h | (simp +contextual (maxDischargeDepth := 40) [h]; done))

@[simp] theorem sheafEffect_flows {K : Nat} {s0 s : State} (hk : K &&& 240590057524 = 0) (h : Flows K s0 s) {x1 x2} :
    Flows K s0 (sheafEffect x1 x2 s) := by
  refine h.comp hk (?_ : Flows 34287849418 s (sheafEffect x1 x2 s))
  have h := Flows.refl 34287849418 s
  simp only [sheafEffect]
  (repeat' split) <;> (first | exact h | (simp +contextual (maxDischargeDepth := 40) [h]; done))

@[simp] theorem activateEffects_flows {K : Nat} {s0 s : State} (hk : K &&& 240590057524 = 0) (h : Flows K s0 s) {x1} :
    Flows K s0 (activateEffects x1 s) := by
  refine h.comp hk (?_ : Flows 34287849418 s (activateEffects x1 s))
  have h := Flows.refl 34287849418 s
  simp +contextual (maxDischargeDepth := 40) [activateEffects, h]

@[simp] theorem activateSheaf_flows {K : Nat} {s0 s : State} (hk : K &&& 243434192436 = 0) (h : Flows K s0 s) {x1 x2} :
    Flows K s0 (activateSheaf x1 x2 s) := by
  refine h.comp hk (?_ : Flows 31443714506 s (activateSheaf x1 x2 s))
  have h := Flows.refl 31443714506 s
  simp +contextual (maxDischargeDepth := 40) [activateSheaf, h]

end Sys2Proof.Machine
end

