-- ==== Sys2Proof/Laws/FlowsCopy.lean ====
section
/-! SUPPORT. What the operations of Machine/Copy.lean keep, each said once: the masks name the fields of State they leave
alone (Laws/Flows.lean). -/

namespace Sys2Proof.Machine

@[simp] theorem storeTake_flows {K : Nat} {s0 s : State} (hk : K &&& 8589934592 = 0) (h : Flows K s0 s) :
    Flows K s0 (storeTake s) := by
  refine h.comp hk (?_ : Flows 266287972350 s (storeTake s))
  have h := Flows.refl 266287972350 s
  simp +contextual (maxDischargeDepth := 40) [storeTake, h]

@[simp] theorem sendEngine_flows {K : Nat} {s0 s : State} (hk : K &&& 68719624192 = 0) (h : Flows K s0 s) {x1 x2 x3} :
    Flows K s0 (sendEngine x1 x2 x3 s) := by
  refine h.comp hk (?_ : Flows 206158282750 s (sendEngine x1 x2 x3 s))
  have h := Flows.refl 206158282750 s
  simp +contextual (maxDischargeDepth := 40) [sendEngine, h]

@[simp] theorem sendLines_flows {K : Nat} {s0 s : State} (hk : K &&& 68719624192 = 0) (h : Flows K s0 s) {x1 x2 x3} :
    Flows K s0 (sendLines x1 x2 x3 s) := by
  refine h.comp hk (?_ : Flows 206158282750 s (sendLines x1 x2 x3 s))
  have h := Flows.refl 206158282750 s
  simp +contextual (maxDischargeDepth := 40) [sendLines, h]

@[simp] theorem sendRecs_flows {K : Nat} {s0 s : State} (hk : K &&& 68719624192 = 0) (h : Flows K s0 s) {x1 x2 x3} :
    Flows K s0 (sendRecs x1 x2 x3 s) := by
  refine h.comp hk (?_ : Flows 206158282750 s (sendRecs x1 x2 x3 s))
  have h := Flows.refl 206158282750 s
  simp +contextual (maxDischargeDepth := 40) [sendRecs, h]

@[simp] theorem sendFinal_flows {K : Nat} {s0 s : State} (hk : K &&& 68719624192 = 0) (h : Flows K s0 s) {x1 x2} :
    Flows K s0 (sendFinal x1 x2 s) := by
  refine h.comp hk (?_ : Flows 206158282750 s (sendFinal x1 x2 s))
  have h := Flows.refl 206158282750 s
  simp only [sendFinal]
  (repeat' split) <;> (first | exact h | (simp +contextual (maxDischargeDepth := 40) [h]; done))

@[simp] theorem noteCopy_flows {K : Nat} {s0 s : State} (hk : K &&& 34359926828 = 0) (h : Flows K s0 s) {x1 x2 x3 x4 x5 x6 x7} :
    Flows K s0 (noteCopy x1 x2 x3 x4 x5 x6 x7 s) := by
  refine h.comp hk (?_ : Flows 240517980114 s (noteCopy x1 x2 x3 x4 x5 x6 x7 s))
  have h := Flows.refl 240517980114 s
  simp +contextual (maxDischargeDepth := 40) [noteCopy, h]

@[simp] theorem sendCopy_flows {K : Nat} {s0 s : State} (hk : K &&& 240518358060 = 0) (h : Flows K s0 s) {x1} :
    Flows K s0 (sendCopy x1 s) := by
  refine h.comp hk (?_ : Flows 34359548882 s (sendCopy x1 s))
  exact noteCopy_flows rfl (sendFrame_flows rfl (sendFinal_flows rfl (sendRecs_flows rfl (sendLines_flows rfl (sendRecs_flows rfl
    (sendLines_flows rfl (each_flows (fun _ _ g => touchLines_flows rfl g) (drawNext_flows rfl (Flows.refl 34359548882 s)))))))))


@[simp] theorem runSluCopy_flows {K : Nat} {s0 s : State} (hk : K &&& 240518358060 = 0) (h : Flows K s0 s) :
    Flows K s0 (runSluCopy s) := by
  refine h.comp hk (?_ : Flows 34359548882 s (runSluCopy s))
  have h := Flows.refl 34359548882 s
  simp +contextual (maxDischargeDepth := 40) [runSluCopy, h]

theorem execSluCopy_flows {s t : State} {x1} (hx : execSluCopy x1 s = .next t) : Flows 26880775120 s t := by
  have h := Flows.refl 26880775120 s
  simp only [execSluCopy, Host.Outcome.next.injEq] at hx
  subst hx
  simp +contextual (maxDischargeDepth := 40) [h]

@[simp] theorem applyTbu_flows {K : Nat} {s0 s : State} (hk : K &&& 4096 = 0) (h : Flows K s0 s) {x1 x2} :
    Flows K s0 (applyTbu x1 x2 s) := by
  refine h.comp hk (?_ : Flows 274877902846 s (applyTbu x1 x2 s))
  have h := Flows.refl 274877902846 s
  simp +contextual (maxDischargeDepth := 40) [applyTbu, h]

@[simp] theorem applyReg_flows {K : Nat} {s0 s : State} (hk : K &&& 32796 = 0) (h : Flows K s0 s) {x1 x2 x3} :
    Flows K s0 (applyReg x1 x2 x3 s) := by
  refine h.comp hk (?_ : Flows 274877874146 s (applyReg x1 x2 x3 s))
  have h := Flows.refl 274877874146 s
  simp +contextual (maxDischargeDepth := 40) [applyReg, h]

@[simp] theorem applyEng_flows {K : Nat} {s0 s : State} (hk : K &&& 2917961756 = 0) (h : Flows K s0 s) {x1 x2} :
    Flows K s0 (applyEng x1 x2 s) := by
  refine h.comp hk (?_ : Flows 271959945186 s (applyEng x1 x2 s))
  have h := Flows.refl 271959945186 s
  simp only [applyEng]
  (repeat' split) <;> (first | exact h | (simp +contextual (maxDischargeDepth := 40) [h]; done))

@[simp] theorem applyLine_flows {K : Nat} {s0 s : State} (hk : K &&& 1024 = 0) (h : Flows K s0 s) {x1} :
    Flows K s0 (applyLine x1 s) := by
  refine h.comp hk (?_ : Flows 274877905918 s (applyLine x1 s))
  have h := Flows.refl 274877905918 s
  simp +contextual (maxDischargeDepth := 40) [applyLine, h]

@[simp] theorem dropCopy_flows {K : Nat} {s0 s : State} (hk : K &&& 8589934592 = 0) (h : Flows K s0 s) :
    Flows K s0 (dropCopy s) := by
  refine h.comp hk (?_ : Flows 266287972350 s (dropCopy s))
  have h := Flows.refl 266287972350 s
  simp +contextual (maxDischargeDepth := 40) [dropCopy, h]

@[simp] theorem applyCopy_flows {K : Nat} {s0 s : State} (hk : K &&& 45867791420 = 0) (h : Flows K s0 s) {x1 x2 x3} :
    Flows K s0 (applyCopy x1 x2 x3 s) := by
  refine h.comp hk (?_ : Flows 229010115522 s (applyCopy x1 x2 x3 s))
  have h := Flows.refl 229010115522 s
  simp +contextual (maxDischargeDepth := 40) [applyCopy, h]

@[simp] theorem loseCopy_flows {K : Nat} {s0 s : State} (hk : K &&& 42949861412 = 0) (h : Flows K s0 s) :
    Flows K s0 (loseCopy s) := by
  refine h.comp hk (?_ : Flows 231928045530 s (loseCopy s))
  have h := Flows.refl 231928045530 s
  simp +contextual (maxDischargeDepth := 40) [loseCopy, h]

theorem execCopyLost_flows {s t : State} (hx : execCopyLost s = .next t) : Flows 231928045530 s t := by
  have h := Flows.refl 231928045530 s
  simp only [execCopyLost, Host.Outcome.next.injEq] at hx
  subst hx
  simp +contextual (maxDischargeDepth := 40) [h]

@[simp] theorem frameBad_flows {K : Nat} {s0 s : State} (hk : K &&& 77309558784 = 0) (h : Flows K s0 s) {x1} :
    Flows K s0 (frameBad x1 s) := by
  refine h.comp hk (?_ : Flows 197568348158 s (frameBad x1 s))
  have h := Flows.refl 197568348158 s
  simp +contextual (maxDischargeDepth := 40) [frameBad, h]

@[simp] theorem resend_flows {K : Nat} {s0 s : State} (hk : K &&& 68719476740 = 0) (h : Flows K s0 s) {x1} :
    Flows K s0 (resend x1 s) := by
  refine h.comp hk (?_ : Flows 206158430202 s (resend x1 s))
  have h := Flows.refl 206158430202 s
  simp only [resend]
  (repeat' split) <;> (first | exact h | (simp +contextual (maxDischargeDepth := 40) [h]; done))

@[simp] theorem countFrame_flows {K : Nat} {s0 s : State} (hk : K &&& 8589934592 = 0) (h : Flows K s0 s) {x1 x2 x3} :
    Flows K s0 (countFrame x1 x2 x3 s) := by
  refine h.comp hk (?_ : Flows 266287972350 s (countFrame x1 x2 x3 s))
  have h := Flows.refl 266287972350 s
  simp +contextual (maxDischargeDepth := 40) [countFrame, h]

@[simp] theorem commitFrame_flows {K : Nat} {s0 s : State} (hk : K &&& 45867791420 = 0) (h : Flows K s0 s) {x1 x2 x3 x4 x5 x6 x7} :
    Flows K s0 (commitFrame x1 x2 x3 x4 x5 x6 x7 s) := by
  refine h.comp hk (?_ : Flows 229010115522 s (commitFrame x1 x2 x3 x4 x5 x6 x7 s))
  have h := Flows.refl 229010115522 s
  simp +contextual (maxDischargeDepth := 40) [commitFrame, h]

end Sys2Proof.Machine
end

