-- ==== Sys2Proof/Laws/FlowsRed.lean ====
section
/-! SUPPORT. What the operations of Machine/Red.lean keep, each said once: the masks name the fields of State they leave
alone (Laws/Flows.lean). -/

namespace Sys2Proof.Machine

@[simp] theorem swapDueCheck_flows {K : Nat} {s0 s : State} (hk : K &&& 34359795748 = 0) (h : Flows K s0 s) :
    Flows K s0 (swapDueCheck s) := by
  refine h.comp hk (?_ : Flows 240518111194 s (swapDueCheck s))
  have h := Flows.refl 240518111194 s
  simp +contextual (maxDischargeDepth := 40) [swapDueCheck, h]

@[simp] theorem heartbeatIn_flows {K : Nat} {s0 s : State} (hk : K &&& 116597909540 = 0) (h : Flows K s0 s) {x1 x2} :
    Flows K s0 (heartbeatIn x1 x2 s) := by
  refine h.comp hk (?_ : Flows 158279997402 s (heartbeatIn x1 x2 s))
  have h := Flows.refl 158279997402 s
  simp +contextual (maxDischargeDepth := 40) [heartbeatIn, h]

theorem execHeartbeatRx_flows {s t : State} {x1 x2} (hx : execHeartbeatRx x1 x2 s = .next t) : Flows 158279997402 s t := by
  have h := Flows.refl 158279997402 s
  simp only [execHeartbeatRx, Host.Outcome.next.injEq] at hx
  subst hx
  simp +contextual (maxDischargeDepth := 40) [h]

@[simp] theorem tokenCheck_flows {K : Nat} {s0 s : State} (hk : K &&& 34359926820 = 0) (h : Flows K s0 s) {x1} :
    Flows K s0 (tokenCheck x1 s) := by
  refine h.comp hk (?_ : Flows 240517980122 s (tokenCheck x1 s))
  have h := Flows.refl 240517980122 s
  simp +contextual (maxDischargeDepth := 40) [tokenCheck, h]

@[simp] theorem syncAbort_flows {K : Nat} {s0 s : State} (hk : K &&& 65536 = 0) (h : Flows K s0 s) :
    Flows K s0 (syncAbort s) := by
  refine h.comp hk (?_ : Flows 274877841406 s (syncAbort s))
  have h := Flows.refl 274877841406 s
  simp +contextual (maxDischargeDepth := 40) [syncAbort, h]

@[simp] theorem partnerLost_flows {K : Nat} {s0 s : State} (hk : K &&& 107378827300 = 0) (h : Flows K s0 s) :
    Flows K s0 (partnerLost s) := by
  refine h.comp hk (?_ : Flows 167499079642 s (partnerLost s))
  have h := Flows.refl 167499079642 s
  simp +contextual (maxDischargeDepth := 40) [partnerLost, h]

@[simp] theorem heartbeatCheck_flows {K : Nat} {s0 s : State} (hk : K &&& 107378892836 = 0) (h : Flows K s0 s) :
    Flows K s0 (heartbeatCheck s) := by
  refine h.comp hk (?_ : Flows 167499014106 s (heartbeatCheck s))
  have h := Flows.refl 167499014106 s
  simp only [heartbeatCheck]
  (repeat' split) <;> (first | exact h | (simp +contextual (maxDischargeDepth := 40) [h]; done))

theorem execHeartbeatCheck_flows {s t : State} (hx : execHeartbeatCheck s = .next t) : Flows 167499014106 s t := by
  have h := Flows.refl 167499014106 s
  simp only [execHeartbeatCheck, Host.Outcome.next.injEq] at hx
  subst hx
  simp +contextual (maxDischargeDepth := 40) [h]

@[simp] theorem achLetGo_flows {K : Nat} {s0 s : State} (hk : K &&& 4194304 = 0) (h : Flows K s0 s) :
    Flows K s0 (achLetGo s) := by
  refine h.comp hk (?_ : Flows 274873712638 s (achLetGo s))
  have h := Flows.refl 274873712638 s
  simp +contextual (maxDischargeDepth := 40) [achLetGo, h]

@[simp] theorem dualActive_flows {K : Nat} {s0 s : State} (hk : K &&& 108007974948 = 0) (h : Flows K s0 s) :
    Flows K s0 (dualActive s) := by
  refine h.comp hk (?_ : Flows 166869931994 s (dualActive s))
  have h := Flows.refl 166869931994 s
  simp +contextual (maxDischargeDepth := 40) [dualActive, h]

@[simp] theorem ownLine_flows {K : Nat} {s0 s : State} (hk : K &&& 34359926820 = 0) (h : Flows K s0 s) {x1} :
    Flows K s0 (ownLine x1 s) := by
  refine h.comp hk (?_ : Flows 240517980122 s (ownLine x1 s))
  have h := Flows.refl 240517980122 s
  simp +contextual (maxDischargeDepth := 40) [ownLine, h]

@[simp] theorem partnerLine_flows {K : Nat} {s0 s : State} (hk : K &&& 108008040484 = 0) (h : Flows K s0 s) {x1} :
    Flows K s0 (partnerLine x1 s) := by
  refine h.comp hk (?_ : Flows 166869866458 s (partnerLine x1 s))
  have h := Flows.refl 166869866458 s
  simp +contextual (maxDischargeDepth := 40) [partnerLine, h]

theorem execTokenLineChange_flows {s t : State} {x1 x2} (hx : execTokenLineChange x1 x2 s = .next t) : Flows 166869866458 s t := by
  have h := Flows.refl 166869866458 s
  simp only [execTokenLineChange, Host.Outcome.next.injEq] at hx
  subst hx
  simp +contextual (maxDischargeDepth := 40) [h]

theorem execClockStop_flows {s t : State} (hx : execClockStop s = .next t) : Flows 240517978074 s t := by
  have h := Flows.refl 240517978074 s
  simp only [execClockStop, Host.Outcome.next.injEq] at hx
  subst hx
  simp +contextual (maxDischargeDepth := 40) [h]

@[simp] theorem frameIn_flows {K : Nat} {s0 s : State} (hk : K &&& 118915791932 = 0) (h : Flows K s0 s) {x1} :
    Flows K s0 (frameIn x1 s) := by
  refine h.comp hk (?_ : Flows 155962115010 s (frameIn x1 s))
  have h := Flows.refl 155962115010 s
  simp only [frameIn]
  (repeat' split) <;> (first | exact h | (simp +contextual (maxDischargeDepth := 40) [h]; done))

theorem execSluiceFrameRx_flows {s t : State} {x1 x2} (hx : execSluiceFrameRx x1 x2 s = .next t) : Flows 155962115010 s t := by
  have h := Flows.refl 155962115010 s
  simp only [execSluiceFrameRx, Host.Outcome.next.injEq] at hx
  subst hx
  simp +contextual (maxDischargeDepth := 40) [h]

theorem execSluiceLane_flows {s t : State} {x1} (hx : execSluiceLane x1 s = .next t) : Flows 240518111194 s t := by
  have h := Flows.refl 240518111194 s
  simp only [execSluiceLane, Host.Outcome.next.injEq] at hx
  subst hx
  simp +contextual (maxDischargeDepth := 40) [h]

theorem execSluiceLaneUp_flows {s t : State} {x1} (hx : execSluiceLaneUp x1 s = .next t) : Flows 274877906938 s t := by
  have h := Flows.refl 274877906938 s
  simp only [execSluiceLaneUp, Host.Outcome.next.injEq] at hx
  subst hx
  simp +contextual (maxDischargeDepth := 40) [h]

@[simp] theorem takeoverSheaf_flows {K : Nat} {s0 s : State} (hk : K &&& 252024127028 = 0) (h : Flows K s0 s) :
    Flows K s0 (takeoverSheaf s) := by
  refine h.comp hk (?_ : Flows 22853779914 s (takeoverSheaf s))
  have h := Flows.refl 22853779914 s
  simp only [takeoverSheaf]
  (repeat' split) <;> (first | exact h | (simp +contextual (maxDischargeDepth := 40) [h]; done))

@[simp] theorem takeoverOutputs_flows {K : Nat} {s0 s : State} (hk : K &&& 4456452 = 0) (h : Flows K s0 s) {x1} :
    Flows K s0 (takeoverOutputs x1 s) := by
  refine h.comp hk (?_ : Flows 274873450490 s (takeoverOutputs x1 s))
  have h := Flows.refl 274873450490 s
  simp +contextual (maxDischargeDepth := 40) [takeoverOutputs, h]

@[simp] theorem takeover_flows {K : Nat} {s0 s : State} (hk : K &&& 256321191484 = 0) (h : Flows K s0 s) :
    Flows K s0 (takeover s) := by
  refine h.comp hk (?_ : Flows 18556715458 s (takeover s))
  have h := Flows.refl 18556715458 s
  simp +contextual (maxDischargeDepth := 40) [takeover, h]

theorem execTakeover_flows {s t : State} (hx : execTakeover s = .next t) : Flows 18556715458 s t := by
  have h := Flows.refl 18556715458 s
  simp only [execTakeover, Host.Outcome.next.injEq] at hx
  subst hx
  simp +contextual (maxDischargeDepth := 40) [h]

theorem execSyncDone_flows {s t : State} (hx : execSyncDone s = .next t) : Flows 167499210714 s t := by
  have h := Flows.refl 167499210714 s
  simp only [execSyncDone, Host.Outcome.next.injEq] at hx
  subst hx
  simp +contextual (maxDischargeDepth := 40) [h]

theorem execPlannedSwapBoundary_flows {s t : State} (hx : execPlannedSwapBoundary s = .next t) : Flows 34359546834 s t := by
  have h := Flows.refl 34359546834 s
  simp only [execPlannedSwapBoundary, Host.Outcome.next.injEq] at hx
  subst hx
  (repeat' split) <;> (first | exact h | (simp +contextual (maxDischargeDepth := 40) [h]; done))

@[simp] theorem afterSwap_flows {K : Nat} {s0 s : State} (hk : K &&& 108008041508 = 0) (h : Flows K s0 s) {x1} :
    Flows K s0 (afterSwap x1 s) := by
  refine h.comp hk (?_ : Flows 166869865434 s (afterSwap x1 s))
  have h := Flows.refl 166869865434 s
  simp only [afterSwap]
  (repeat' split) <;> (first | exact h | (simp +contextual (maxDischargeDepth := 40) [h]; done))

theorem execPlannedSwapRelease_flows {s t : State} (hx : execPlannedSwapRelease s = .next t) : Flows 26880775128 s t := by
  have h := Flows.refl 26880775128 s
  simp only [execPlannedSwapRelease, Host.Outcome.next.injEq] at hx
  subst hx
  (repeat' split) <;> (first | exact h | (simp +contextual (maxDischargeDepth := 40) [h]; done))

@[simp] theorem holdOrder_flows {K : Nat} {s0 s : State} (hk : K &&& 131072 = 0) (h : Flows K s0 s) :
    Flows K s0 (holdOrder s) := by
  refine h.comp hk (?_ : Flows 274877775870 s (holdOrder s))
  have h := Flows.refl 274877775870 s
  simp +contextual (maxDischargeDepth := 40) [holdOrder, h]

@[simp] theorem holdBoundary_flows {K : Nat} {s0 s : State} (hk : K &&& 108008041508 = 0) (h : Flows K s0 s) :
    Flows K s0 (holdBoundary s) := by
  refine h.comp hk (?_ : Flows 166869865434 s (holdBoundary s))
  have h := Flows.refl 166869865434 s
  simp +contextual (maxDischargeDepth := 40) [holdBoundary, h]

@[simp] theorem resume_flows {K : Nat} {s0 s : State} (hk : K &&& 108007974948 = 0) (h : Flows K s0 s) :
    Flows K s0 (resume s) := by
  refine h.comp hk (?_ : Flows 166869931994 s (resume s))
  have h := Flows.refl 166869931994 s
  simp +contextual (maxDischargeDepth := 40) [resume, h]

@[simp] theorem clrLatent_flows {K : Nat} {s0 s : State} (hk : K &&& 4 = 0) (h : Flows K s0 s) :
    Flows K s0 (clrLatent s) := by
  refine h.comp hk (?_ : Flows 274877906938 s (clrLatent s))
  have h := Flows.refl 274877906938 s
  simp +contextual (maxDischargeDepth := 40) [clrLatent, h]

theorem execIdleHour_flows {s t : State} (hx : execIdleHour s = .next t) : Flows 240518111194 s t := by
  have h := Flows.refl 240518111194 s
  simp only [execIdleHour, Host.Outcome.next.injEq] at hx
  subst hx
  simp +contextual (maxDischargeDepth := 40) [h]

theorem execLaneCEngineTest_flows {s t : State} (hx : execLaneCEngineTest s = .next t) : Flows 166869866458 s t := by
  have h := Flows.refl 166869866458 s
  simp only [execLaneCEngineTest, Host.Outcome.next.injEq] at hx
  subst hx
  simp +contextual (maxDischargeDepth := 40) [h]

@[simp] theorem laneCompare_flows {K : Nat} {s0 s : State} (hk : K &&& 108008040484 = 0) (h : Flows K s0 s) :
    Flows K s0 (laneCompare s) := by
  refine h.comp hk (?_ : Flows 166869866458 s (laneCompare s))
  have h := Flows.refl 166869866458 s
  simp +contextual (maxDischargeDepth := 40) [laneCompare, h]

@[simp] theorem redMinor_flows {K : Nat} {s0 s : State} (hk : K &&& 116597976100 = 0) (h : Flows K s0 s) :
    Flows K s0 (redMinor s) := by
  refine h.comp hk (?_ : Flows 158279930842 s (redMinor s))
  have h := Flows.refl 158279930842 s
  simp +contextual (maxDischargeDepth := 40) [redMinor, h]

end Sys2Proof.Machine
end

