-- ==== Sys2Proof/Laws/FlowsUpd.lean ====
section
/-! SUPPORT. What the operations of Machine/Upd.lean keep, each said once: the masks name the fields of State they leave
alone (Laws/Flows.lean). -/

namespace Sys2Proof.Machine

@[simp] theorem updRefuse_flows {K : Nat} {s0 s : State} (hk : K &&& 34359795748 = 0) (h : Flows K s0 s) {x1 x2} :
    Flows K s0 (updRefuse x1 x2 s) := by
  refine h.comp hk (?_ : Flows 240518111194 s (updRefuse x1 x2 s))
  have h := Flows.refl 240518111194 s
  simp +contextual (maxDischargeDepth := 40) [updRefuse, h]

@[simp] theorem setPhase_flows {K : Nat} {s0 s : State} (hk : K &&& 4 = 0) (h : Flows K s0 s) {x1} :
    Flows K s0 (setPhase x1 s) := by
  refine h.comp hk (?_ : Flows 274877906938 s (setPhase x1 s))
  have h := Flows.refl 274877906938 s
  simp +contextual (maxDischargeDepth := 40) [setPhase, h]

@[simp] theorem updBegin_flows {K : Nat} {s0 s : State} (hk : K &&& 17179869444 = 0) (h : Flows K s0 s) {x1 x2} :
    Flows K s0 (updBegin x1 x2 s) := by
  refine h.comp hk (?_ : Flows 257698037498 s (updBegin x1 x2 s))
  have h := Flows.refl 257698037498 s
  simp +contextual (maxDischargeDepth := 40) [updBegin, h]

@[simp] theorem updCheck_flows {K : Nat} {s0 s : State} (hk : K &&& 4 = 0) (h : Flows K s0 s) :
    Flows K s0 (updCheck s) := by
  refine h.comp hk (?_ : Flows 274877906938 s (updCheck s))
  have h := Flows.refl 274877906938 s
  simp +contextual (maxDischargeDepth := 40) [updCheck, h]

@[simp] theorem updProgram_flows {K : Nat} {s0 s : State} (hk : K &&& 17179869188 = 0) (h : Flows K s0 s) :
    Flows K s0 (updProgram s) := by
  refine h.comp hk (?_ : Flows 257698037754 s (updProgram s))
  have h := Flows.refl 257698037754 s
  simp +contextual (maxDischargeDepth := 40) [updProgram, h]

@[simp] theorem updArmReset_flows {K : Nat} {s0 s : State} (hk : K &&& 51539664932 = 0) (h : Flows K s0 s) :
    Flows K s0 (updArmReset s) := by
  refine h.comp hk (?_ : Flows 223338242010 s (updArmReset s))
  have h := Flows.refl 223338242010 s
  simp +contextual (maxDischargeDepth := 40) [updArmReset, h]

@[simp] theorem updActivateAt_flows {K : Nat} {s0 s : State} (hk : K &&& 51539664932 = 0) (h : Flows K s0 s) :
    Flows K s0 (updActivateAt s) := by
  refine h.comp hk (?_ : Flows 223338242010 s (updActivateAt s))
  have h := Flows.refl 223338242010 s
  simp +contextual (maxDischargeDepth := 40) [updActivateAt, h]

@[simp] theorem updCommand_flows {K : Nat} {s0 s : State} (hk : K &&& 51539665188 = 0) (h : Flows K s0 s) {x1 x2} :
    Flows K s0 (updCommand x1 x2 s) := by
  refine h.comp hk (?_ : Flows 223338241754 s (updCommand x1 x2 s))
  have h := Flows.refl 223338241754 s
  simp only [updCommand]
  (repeat' split) <;> (first | exact h | (simp +contextual (maxDischargeDepth := 40) [h]; done))

@[simp] theorem stagingWrite_flows {K : Nat} {s0 s : State} (hk : K &&& 260 = 0) (h : Flows K s0 s) {off v} : Flows K s0 (stagingWrite off v s) := by
  refine h.comp hk (?_ : Flows 274877906682 s (stagingWrite off v s))
  have h := Flows.refl 274877906682 s
  unfold stagingWrite
  extract_lets s1
  have h1 : Flows 274877906682 s s1 := flows_sheaf rfl h
  exact flows_ite (wr_flows rfl h1) h1


@[simp] theorem reportReject_flows {K : Nat} {s0 s : State} (hk : K &&& 34359795748 = 0) (h : Flows K s0 s) {x1} :
    Flows K s0 (reportReject x1 s) := by
  refine h.comp hk (?_ : Flows 240518111194 s (reportReject x1 s))
  have h := Flows.refl 240518111194 s
  simp +contextual (maxDischargeDepth := 40) [reportReject, h]

theorem execUpdCheckDone_flows {s t : State} (hx : execUpdCheckDone s = .next t) : Flows 223338241754 s t := by
  have h := Flows.refl 223338241754 s
  simp only [execUpdCheckDone, Host.Outcome.next.injEq] at hx
  subst hx
  (repeat' split) <;> (first | exact h | (simp +contextual (maxDischargeDepth := 40) [h]; done))

@[simp] theorem copyBank_flows {K : Nat} {s0 s : State} (hk : K &&& 256 = 0) (h : Flows K s0 s) {dst} : Flows K s0 (copyBank dst s) := by
  refine h.comp hk (?_ : Flows 274877906686 s (copyBank dst s))
  have h := Flows.refl 274877906686 s
  unfold copyBank
  exact each_flows (fun _ _ g => flows_sheaf rfl g) (eraseBank_flows rfl h)


theorem execUpdProgramDone_flows {s t : State} {x1} (hx : execUpdProgramDone x1 s = .next t) : Flows 223338241754 s t := by
  have h := Flows.refl 223338241754 s
  simp only [execUpdProgramDone, Host.Outcome.next.injEq] at hx
  subst hx
  simp +contextual (maxDischargeDepth := 40) [h]

theorem execPreloadDone_flows {s t : State} {x1} (hx : execPreloadDone x1 s = .next t) : Flows 223338241754 s t := by
  have h := Flows.refl 223338241754 s
  simp only [execPreloadDone, Host.Outcome.next.injEq] at hx
  subst hx
  simp +contextual (maxDischargeDepth := 40) [h]

@[simp] theorem activateWaiting_flows {K : Nat} {s0 s : State} (hk : K &&& 77846282756 = 0) (h : Flows K s0 s) {x1} :
    Flows K s0 (activateWaiting x1 s) := by
  refine h.comp hk (?_ : Flows 197031624186 s (activateWaiting x1 s))
  have h := Flows.refl 197031624186 s
  simp +contextual (maxDischargeDepth := 40) [activateWaiting, h]

@[simp] theorem activateProg_flows {K : Nat} {s0 s : State} (hk : K &&& 4294967300 = 0) (h : Flows K s0 s) {x1 x2} :
    Flows K s0 (activateProg x1 x2 s) := by
  refine h.comp hk (?_ : Flows 270582939642 s (activateProg x1 x2 s))
  have h := Flows.refl 270582939642 s
  simp +contextual (maxDischargeDepth := 40) [activateProg, h]

theorem execSheafActivate_flows {s t : State} (hx : execSheafActivate s = .next t) : Flows 1378943170 s t := by
  have h := Flows.refl 1378943170 s
  simp only [execSheafActivate, Host.Outcome.next.injEq] at hx
  subst hx
  simp +contextual (maxDischargeDepth := 40) [h]

@[simp] theorem progFallBack_flows {K : Nat} {s0 s : State} (hk : K &&& 38654763044 = 0) (h : Flows K s0 s) {x1 x2} :
    Flows K s0 (progFallBack x1 x2 s) := by
  refine h.comp hk (?_ : Flows 236223143898 s (progFallBack x1 x2 s))
  have h := Flows.refl 236223143898 s
  simp +contextual (maxDischargeDepth := 40) [progFallBack, h]

theorem execProgActivationFail_flows {s t : State} {x1 x2} (hx : execProgActivationFail x1 x2 s = .next t) : Flows 236223143898 s t := by
  have h := Flows.refl 236223143898 s
  simp only [execProgActivationFail, Host.Outcome.next.injEq] at hx
  subst hx
  (repeat' split) <;> (first | exact h | (simp +contextual (maxDischargeDepth := 40) [h]; done))

theorem execProgRestart_flows {s t : State} {x1} (hx : execProgRestart x1 s = .next t) : Flows 26880775128 s t := by
  have h := Flows.refl 26880775128 s
  simp only [execProgRestart, Host.Outcome.next.injEq] at hx
  subst hx
  (repeat' split) <;> (first | exact h | (simp +contextual (maxDischargeDepth := 40) [h]; done))

end Sys2Proof.Machine
end

