-- ==== Sys2Proof/Laws/FlowsPanel.lean ====
section
/-! SUPPORT. What the operations of Machine/Panel.lean keep, each said once: the masks name the fields of State they leave
alone (Laws/Flows.lean). -/

namespace Sys2Proof.Machine

@[simp] theorem drawRegion_flows {K : Nat} {s0 s : State} (hk : K &&& 34359738368 = 0) (h : Flows K s0 s) {x1} :
    Flows K s0 (drawRegion x1 s) := by
  refine h.comp hk (?_ : Flows 240518168574 s (drawRegion x1 s))
  have h := Flows.refl 240518168574 s
  simp only [drawRegion]
  (repeat' split) <;> (first | exact h | (simp +contextual (maxDischargeDepth := 40) [h]; done))

end Sys2Proof.Machine
end

