-- ==== Sys2Proof/Laws/FlowsFpd.lean ====
section
/-! SUPPORT. What the operations of Machine/Fpd.lean keep, each said once: the masks name the fields of State they leave
alone (Laws/Flows.lean). -/

namespace Sys2Proof.Machine

@[simp] theorem lcdCompose_flows {K : Nat} {s0 s : State} (hk : K &&& 4 = 0) (h : Flows K s0 s) :
    Flows K s0 (lcdCompose s) := by
  refine h.comp hk (?_ : Flows 274877906938 s (lcdCompose s))
  have h := Flows.refl 274877906938 s
  simp +contextual (maxDischargeDepth := 40) [lcdCompose, h]

@[simp] theorem lcdRefresh_flows {K : Nat} {s0 s : State} (hk : K &&& 34359738372 = 0) (h : Flows K s0 s) :
    Flows K s0 (lcdRefresh s) := by
  refine h.comp hk (?_ : Flows 240518168570 s (lcdRefresh s))
  have h := Flows.refl 240518168570 s
  simp +contextual (maxDischargeDepth := 40) [lcdRefresh, h]

theorem execLcdAutoCompose_flows {s t : State} (hx : execLcdAutoCompose s = .next t) : Flows 26880775128 s t := by
  have h := Flows.refl 26880775128 s
  simp only [execLcdAutoCompose, Host.Outcome.next.injEq] at hx
  subst hx
  simp +contextual (maxDischargeDepth := 40) [h]

theorem execLcdFrame_flows {s t : State} (hx : execLcdFrame s = .next t) : Flows 206158413822 s t := by
  have h := Flows.refl 206158413822 s
  simp only [execLcdFrame, Host.Outcome.next.injEq] at hx
  subst hx
  simp +contextual (maxDischargeDepth := 40) [h]

@[simp] theorem setPend_flows {K : Nat} {s0 s : State} (hk : K &&& 34359738368 = 0) (h : Flows K s0 s) {x1 x2} :
    Flows K s0 (setPend x1 x2 s) := by
  refine h.comp hk (?_ : Flows 240518168574 s (setPend x1 x2 s))
  have h := Flows.refl 240518168574 s
  simp +contextual (maxDischargeDepth := 40) [setPend, h]

@[simp] theorem requestRegion_flows {K : Nat} {s0 s : State} (hk : K &&& 34359795748 = 0) (h : Flows K s0 s) {x1} :
    Flows K s0 (requestRegion x1 s) := by
  refine h.comp hk (?_ : Flows 240518111194 s (requestRegion x1 s))
  have h := Flows.refl 240518111194 s
  simp +contextual (maxDischargeDepth := 40) [requestRegion, h]

@[simp] theorem requestRegions_flows {K : Nat} {s0 s : State} (hk : K &&& 34359795748 = 0) (h : Flows K s0 s) {x1} :
    Flows K s0 (requestRegions x1 s) := by
  refine h.comp hk (?_ : Flows 240518111194 s (requestRegions x1 s))
  have h := Flows.refl 240518111194 s
  simp +contextual (maxDischargeDepth := 40) [requestRegions, h]

@[simp] theorem startUpdate_flows {K : Nat} {s0 s : State} (hk : K &&& 34359738368 = 0) (h : Flows K s0 s) {x1} :
    Flows K s0 (startUpdate x1 s) := by
  refine h.comp hk (?_ : Flows 240518168574 s (startUpdate x1 s))
  have h := Flows.refl 240518168574 s
  simp +contextual (maxDischargeDepth := 40) [startUpdate, h]

@[simp] theorem endUpdate_flows {K : Nat} {s0 s : State} (hk : K &&& 34359754756 = 0) (h : Flows K s0 s) {x1} :
    Flows K s0 (endUpdate x1 s) := by
  refine h.comp hk (?_ : Flows 240518152186 s (endUpdate x1 s))
  have h := Flows.refl 240518152186 s
  simp +contextual (maxDischargeDepth := 40) [endUpdate, h]

@[simp] theorem endUpdates_flows {K : Nat} {s0 s : State} (hk : K &&& 34359754756 = 0) (h : Flows K s0 s) :
    Flows K s0 (endUpdates s) := by
  refine h.comp hk (?_ : Flows 240518152186 s (endUpdates s))
  have h := Flows.refl 240518152186 s
  simp +contextual (maxDischargeDepth := 40) [endUpdates, h]

@[simp] theorem startPending_flows {K : Nat} {s0 s : State} (hk : K &&& 34359754756 = 0) (h : Flows K s0 s) :
    Flows K s0 (startPending s) := by
  refine h.comp hk (?_ : Flows 240518152186 s (startPending s))
  have h := Flows.refl 240518152186 s
  simp +contextual (maxDischargeDepth := 40) [startPending, h]

@[simp] theorem markerFrame_flows {K : Nat} {s0 s : State} (hk : K &&& 34359738368 = 0) (h : Flows K s0 s) :
    Flows K s0 (markerFrame s) := by
  refine h.comp hk (?_ : Flows 240518168574 s (markerFrame s))
  have h := Flows.refl 240518168574 s
  simp +contextual (maxDischargeDepth := 40) [markerFrame, h]

@[simp] theorem markerStart_flows {K : Nat} {s0 s : State} (hk : K &&& 34359738368 = 0) (h : Flows K s0 s) :
    Flows K s0 (markerStart s) := by
  refine h.comp hk (?_ : Flows 240518168574 s (markerStart s))
  have h := Flows.refl 240518168574 s
  simp +contextual (maxDischargeDepth := 40) [markerStart, h]

@[simp] theorem clearFrame_flows {K : Nat} {s0 s : State} (hk : K &&& 34359795748 = 0) (h : Flows K s0 s) :
    Flows K s0 (clearFrame s) := by
  refine h.comp hk (?_ : Flows 240518111194 s (clearFrame s))
  have h := Flows.refl 240518111194 s
  simp only [clearFrame]
  (repeat' split) <;> (first | exact h | (simp +contextual (maxDischargeDepth := 40) [h]; done))

@[simp] theorem panelOff_flows {K : Nat} {s0 s : State} (hk : K &&& 34359738368 = 0) (h : Flows K s0 s) :
    Flows K s0 (panelOff s) := by
  refine h.comp hk (?_ : Flows 240518168574 s (panelOff s))
  have h := Flows.refl 240518168574 s
  simp +contextual (maxDischargeDepth := 40) [panelOff, h]

@[simp] theorem shutdownJudge_flows {K : Nat} {s0 s : State} (hk : K &&& 34359795748 = 0) (h : Flows K s0 s) :
    Flows K s0 (shutdownJudge s) := by
  refine h.comp hk (?_ : Flows 240518111194 s (shutdownJudge s))
  have h := Flows.refl 240518111194 s
  simp +contextual (maxDischargeDepth := 40) [shutdownJudge, h]

@[simp] theorem updatesFrame_flows {K : Nat} {s0 s : State} (hk : K &&& 34359754756 = 0) (h : Flows K s0 s) :
    Flows K s0 (updatesFrame s) := by
  refine h.comp hk (?_ : Flows 240518152186 s (updatesFrame s))
  have h := Flows.refl 240518152186 s
  simp +contextual (maxDischargeDepth := 40) [updatesFrame, h]

theorem execPanelFrame_flows {s t : State} {x1 x2} (hx : execPanelFrame x1 x2 s = .next t) : Flows 240518111194 s t := by
  have h := Flows.refl 240518111194 s
  simp only [execPanelFrame, Host.Outcome.next.injEq] at hx
  subst hx
  simp +contextual (maxDischargeDepth := 40) [h]

@[simp] theorem runFpdRefresh_flows {K : Nat} {s0 s : State} (hk : K &&& 34359795748 = 0) (h : Flows K s0 s) {x1} :
    Flows K s0 (runFpdRefresh x1 s) := by
  refine h.comp hk (?_ : Flows 240518111194 s (runFpdRefresh x1 s))
  have h := Flows.refl 240518111194 s
  simp only [runFpdRefresh]
  (repeat' split) <;> (first | exact h | (simp +contextual (maxDischargeDepth := 40) [h]; done))

theorem execFpdRefresh_flows {s t : State} {x1 x2} (hx : execFpdRefresh x1 x2 s = .next t) : Flows 26880775128 s t := by
  have h := Flows.refl 26880775128 s
  simp only [execFpdRefresh, Host.Outcome.next.injEq] at hx
  subst hx
  simp +contextual (maxDischargeDepth := 40) [h]

@[simp] theorem panelClear_flows {K : Nat} {s0 s : State} (hk : K &&& 34359738368 = 0) (h : Flows K s0 s) :
    Flows K s0 (panelClear s) := by
  refine h.comp hk (?_ : Flows 240518168574 s (panelClear s))
  have h := Flows.refl 240518168574 s
  simp +contextual (maxDischargeDepth := 40) [panelClear, h]

@[simp] theorem panelOn_flows {K : Nat} {s0 s : State} (hk : K &&& 34359795748 = 0) (h : Flows K s0 s) {x1} :
    Flows K s0 (panelOn x1 s) := by
  refine h.comp hk (?_ : Flows 240518111194 s (panelOn x1 s))
  have h := Flows.refl 240518111194 s
  simp +contextual (maxDischargeDepth := 40) [panelOn, h]

theorem execPanelRailUp_flows {s t : State} (hx : execPanelRailUp s = .next t) : Flows 240518168574 s t := by
  have h := Flows.refl 240518168574 s
  simp only [execPanelRailUp, Host.Outcome.next.injEq] at hx
  subst hx
  simp +contextual (maxDischargeDepth := 40) [h]

theorem execPanelRailFault_flows {s t : State} (hx : execPanelRailFault s = .next t) : Flows 240518111194 s t := by
  have h := Flows.refl 240518111194 s
  simp only [execPanelRailFault, Host.Outcome.next.injEq] at hx
  subst hx
  simp +contextual (maxDischargeDepth := 40) [h]

@[simp] theorem sysText_flows {K : Nat} {s0 s : State} (hk : K &&& 34359795748 = 0) (h : Flows K s0 s) {x1} :
    Flows K s0 (sysText x1 s) := by
  refine h.comp hk (?_ : Flows 240518111194 s (sysText x1 s))
  have h := Flows.refl 240518111194 s
  simp +contextual (maxDischargeDepth := 40) [sysText, h]

@[simp] theorem panelShutdown_flows {K : Nat} {s0 s : State} (hk : K &&& 34359795748 = 0) (h : Flows K s0 s) :
    Flows K s0 (panelShutdown s) := by
  refine h.comp hk (?_ : Flows 240518111194 s (panelShutdown s))
  have h := Flows.refl 240518111194 s
  simp +contextual (maxDischargeDepth := 40) [panelShutdown, h]

end Sys2Proof.Machine
end

