-- ==== Sys2Proof/Laws/FlowsPower.lean ====
section
/-! SUPPORT. What the operations of Machine/Power.lean keep, each said once: the masks name the fields of State they leave
alone (Laws/Flows.lean). -/

namespace Sys2Proof.Machine

@[simp] theorem pwrUpd_flows {K : Nat} {s0 s : State} (hk : K &&& 65536 = 0) (h : Flows K s0 s) {x1} :
    Flows K s0 (pwrUpd x1 s) := by
  refine h.comp hk (?_ : Flows 274877841406 s (pwrUpd x1 s))
  have h := Flows.refl 274877841406 s
  simp +contextual (maxDischargeDepth := 40) [pwrUpd, h]

@[simp] theorem keepPut_flows {K : Nat} {s0 s : State} (hk : K &&& 65544 = 0) (h : Flows K s0 s) {x1} :
    Flows K s0 (keepPut x1 s) := by
  refine h.comp hk (?_ : Flows 274877841398 s (keepPut x1 s))
  have h := Flows.refl 274877841398 s
  simp +contextual (maxDischargeDepth := 40) [keepPut, h]

@[simp] theorem keepShut_flows {K : Nat} {s0 s : State} (hk : K &&& 65544 = 0) (h : Flows K s0 s) :
    Flows K s0 (keepShut s) := by
  refine h.comp hk (?_ : Flows 274877841398 s (keepShut s))
  have h := Flows.refl 274877841398 s
  simp +contextual (maxDischargeDepth := 40) [keepShut, h]

@[simp] theorem tamperSet_flows {K : Nat} {s0 s : State} (hk : K &&& 34359861292 = 0) (h : Flows K s0 s) :
    Flows K s0 (tamperSet s) := by
  refine h.comp hk (?_ : Flows 240518045650 s (tamperSet s))
  have h := Flows.refl 240518045650 s
  simp +contextual (maxDischargeDepth := 40) [tamperSet, h]

@[simp] theorem keepCheck_flows {K : Nat} {s0 s : State} (hk : K &&& 34359865388 = 0) (h : Flows K s0 s) {x1} :
    Flows K s0 (keepCheck x1 s) := by
  refine h.comp hk (?_ : Flows 240518041554 s (keepCheck x1 s))
  have h := Flows.refl 240518041554 s
  simp +contextual (maxDischargeDepth := 40) [keepCheck, h]

@[simp] theorem tamperFound_flows {K : Nat} {s0 s : State} (hk : K &&& 34359795748 = 0) (h : Flows K s0 s) :
    Flows K s0 (tamperFound s) := by
  refine h.comp hk (?_ : Flows 240518111194 s (tamperFound s))
  have h := Flows.refl 240518111194 s
  simp +contextual (maxDischargeDepth := 40) [tamperFound, h]

@[simp] theorem freshState_flows {K : Nat} {s0 s : State} (hk : K &&& 68719476540 = 0) (h : Flows K s0 s) {b} : Flows K s0 (freshState b s) := by
  refine h.comp hk (?_ : Flows 206158430402 s (freshState b s))
  have h := Flows.refl 206158430402 s
  unfold freshState
  extract_lets kw g base s1
  have hb : Flows 206158430402 s base :=
    ⟨fun t => ⟨tabKeep_wf startKeeps t.1, rfl, rfl, t.2.2.2.1, tabKeep_wf (fun i => i / 2097152 != 2) t.2.2.2.2.1, rfl, rfl, rfl, rfl, rfl, rfl, rfl, rfl, rfl,
      t.2.2.2.2.2.2.2.2.2.2.2.2.2.2.1, rfl, rfl, rfl, rfl, rfl⟩, rfl, Nat.le_refl _, Nat.le_refl _,
      ⟨[], rfl⟩, .inr rfl, .inl rfl, .inl rfl, .inl rfl, .inl rfl, .inr rfl, .inr rfl, .inl rfl, .inl rfl, .inl rfl, .inl rfl, .inl rfl, .inl rfl, .inl rfl, .inl rfl, .inl rfl, .inl rfl, .inl rfl, .inl rfl, .inl rfl, .inl rfl, .inl rfl, .inl rfl, .inl rfl, .inr rfl, .inl rfl, .inl rfl, .inl rfl, .inl rfl, .inl rfl, .inl rfl, .inl rfl, .inl rfl, .inl rfl, .inl rfl, .inr rfl, .inr rfl⟩
  have h1 : Flows 206158430402 s s1 := h.trans (each_flows (fun _ _ k => wideSet_flows rfl k) hb)
  exact flows_ite (safPowerOn_flows rfl h1) h1


@[simp] theorem supplyRead_flows {K : Nat} {s0 s : State} (hk : K &&& 4 = 0) (h : Flows K s0 s) {x1 x2 x3} :
    Flows K s0 (supplyRead x1 x2 x3 s) := by
  refine h.comp hk (?_ : Flows 274877906938 s (supplyRead x1 x2 x3 s))
  have h := Flows.refl 274877906938 s
  simp +contextual (maxDischargeDepth := 40) [supplyRead, h]

@[simp] theorem holdupShow_flows {K : Nat} {s0 s : State} (hk : K &&& 4 = 0) (h : Flows K s0 s) {x1 x2} :
    Flows K s0 (holdupShow x1 x2 s) := by
  refine h.comp hk (?_ : Flows 274877906938 s (holdupShow x1 x2 s))
  have h := Flows.refl 274877906938 s
  simp +contextual (maxDischargeDepth := 40) [holdupShow, h]

@[simp] theorem showSupply_flows {K : Nat} {s0 s : State} (hk : K &&& 4 = 0) (h : Flows K s0 s) {x1} :
    Flows K s0 (showSupply x1 s) := by
  refine h.comp hk (?_ : Flows 274877906938 s (showSupply x1 s))
  have h := Flows.refl 274877906938 s
  simp +contextual (maxDischargeDepth := 40) [showSupply, h]

@[simp] theorem showSupplies_flows {K : Nat} {s0 s : State} (hk : K &&& 4 = 0) (h : Flows K s0 s) {x1} :
    Flows K s0 (showSupplies x1 s) := by
  refine h.comp hk (?_ : Flows 274877906938 s (showSupplies x1 s))
  have h := Flows.refl 274877906938 s
  simp only [showSupplies]
  (repeat' split) <;> (first | exact h | (simp +contextual (maxDischargeDepth := 40) [h]; done))

@[simp] theorem showMeasured_flows {K : Nat} {s0 s : State} (hk : K &&& 4 = 0) (h : Flows K s0 s) {x1} :
    Flows K s0 (showMeasured x1 s) := by
  refine h.comp hk (?_ : Flows 274877906938 s (showMeasured x1 s))
  have h := Flows.refl 274877906938 s
  simp only [showMeasured]
  (repeat' split) <;> (first | exact h | (simp +contextual (maxDischargeDepth := 40) [h]; done))

@[simp] theorem powerOn_flows {K : Nat} {s0 s : State} (hk : K &&& 68719476540 = 0) (h : Flows K s0 s) {x1 x2 x3 x4 x5} :
    Flows K s0 (powerOn x1 x2 x3 x4 x5 s) := by
  refine h.comp hk (?_ : Flows 206158430402 s (powerOn x1 x2 x3 x4 x5 s))
  have h := Flows.refl 206158430402 s
  simp +contextual (maxDischargeDepth := 40) [powerOn, h]

theorem execSupplyValid_flows {s t : State} {x1 x2 x3 x4} (hx : execSupplyValid x1 x2 x3 x4 s = .next t) : Flows 206158430402 s t := by
  have h := Flows.refl 206158430402 s
  simp only [execSupplyValid, Host.Outcome.next.injEq] at hx
  subst hx
  (repeat' split) <;> (first | exact h | (simp +contextual (maxDischargeDepth := 40) [h]; done))

theorem execColdHoldRelease_flows {s t : State} {x1} (hx : execColdHoldRelease x1 s = .next t) : Flows 274877841406 s t := by
  have h := Flows.refl 274877841406 s
  simp only [execColdHoldRelease, Host.Outcome.next.injEq] at hx
  subst hx
  simp +contextual (maxDischargeDepth := 40) [h]

theorem execPowerFail_flows {s t : State} (hx : execPowerFail s = .next t) : Flows 240518045658 s t := by
  have h := Flows.refl 240518045658 s
  simp only [execPowerFail, Host.Outcome.next.injEq] at hx
  subst hx
  (repeat' split) <;> (first | exact h | (simp +contextual (maxDischargeDepth := 40) [h]; done))

theorem execSupplyLow_flows {s t : State} {x1 x2 x3} (hx : execSupplyLow x1 x2 x3 s = .next t) : Flows 240518111194 s t := by
  have h := Flows.refl 240518111194 s
  simp only [execSupplyLow, Host.Outcome.next.injEq] at hx
  subst hx
  simp +contextual (maxDischargeDepth := 40) [h]

theorem execSurge_flows {s t : State} {x1 x2 x3} (hx : execSurge x1 x2 x3 s = .next t) : Flows 240518111194 s t := by
  have h := Flows.refl 240518111194 s
  simp only [execSurge, Host.Outcome.next.injEq] at hx
  subst hx
  simp +contextual (maxDischargeDepth := 40) [h]

theorem execInputPowerHigh_flows {s t : State} {x1} (hx : execInputPowerHigh x1 s = .next t) : Flows 240518111194 s t := by
  have h := Flows.refl 240518111194 s
  simp only [execInputPowerHigh, Host.Outcome.next.injEq] at hx
  subst hx
  simp +contextual (maxDischargeDepth := 40) [h]

@[simp] theorem sealedCheck_flows {K : Nat} {s0 s : State} (hk : K &&& 34359861284 = 0) (h : Flows K s0 s) {x1} :
    Flows K s0 (sealedCheck x1 s) := by
  refine h.comp hk (?_ : Flows 240518045658 s (sealedCheck x1 s))
  have h := Flows.refl 240518045658 s
  simp +contextual (maxDischargeDepth := 40) [sealedCheck, h]

@[simp] theorem causeWrite_flows {K : Nat} {s0 s : State} (hk : K &&& 4 = 0) (h : Flows K s0 s) :
    Flows K s0 (causeWrite s) := by
  refine h.comp hk (?_ : Flows 274877906938 s (causeWrite s))
  have h := Flows.refl 274877906938 s
  simp +contextual (maxDischargeDepth := 40) [causeWrite, h]

@[simp] theorem buttonStuck_flows {K : Nat} {s0 s : State} (hk : K &&& 34359795748 = 0) (h : Flows K s0 s) :
    Flows K s0 (buttonStuck s) := by
  refine h.comp hk (?_ : Flows 240518111194 s (buttonStuck s))
  have h := Flows.refl 240518111194 s
  simp +contextual (maxDischargeDepth := 40) [buttonStuck, h]

@[simp] theorem startRecord_flows {K : Nat} {s0 s : State} (hk : K &&& 34359795748 = 0) (h : Flows K s0 s) :
    Flows K s0 (startRecord s) := by
  refine h.comp hk (?_ : Flows 240518111194 s (startRecord s))
  have h := Flows.refl 240518111194 s
  simp +contextual (maxDischargeDepth := 40) [startRecord, h]

theorem execResetRelease_flows {s t : State} {x1 x2 x3} (hx : execResetRelease x1 x2 x3 s = .next t) : Flows 240518041562 s t := by
  have h := Flows.refl 240518041562 s
  simp only [execResetRelease, Host.Outcome.next.injEq] at hx
  subst hx
  simp +contextual (maxDischargeDepth := 40) [h]

theorem execLaneSelfTestDone_flows {s t : State} {x1} (hx : execLaneSelfTestDone x1 s = .next t) : Flows 274877841402 s t := by
  have h := Flows.refl 274877841402 s
  simp only [execLaneSelfTestDone, Host.Outcome.next.injEq] at hx
  subst hx
  simp +contextual (maxDischargeDepth := 40) [h]

@[simp] theorem bankAccept_flows {K : Nat} {s0 s : State} (hk : K &&& 103112958500 = 0) (h : Flows K s0 s) {x1} :
    Flows K s0 (bankAccept x1 s) := by
  refine h.comp hk (?_ : Flows 171764948442 s (bankAccept x1 s))
  have h := Flows.refl 171764948442 s
  simp +contextual (maxDischargeDepth := 40) [bankAccept, h]

@[simp] theorem bankReject_flows {K : Nat} {s0 s : State} (hk : K &&& 34359795748 = 0) (h : Flows K s0 s) {x1 x2} :
    Flows K s0 (bankReject x1 x2 s) := by
  refine h.comp hk (?_ : Flows 240518111194 s (bankReject x1 x2 s))
  have h := Flows.refl 240518111194 s
  simp +contextual (maxDischargeDepth := 40) [bankReject, h]

@[simp] theorem enterNoSheaf_flows {K : Nat} {s0 s : State} (hk : K &&& 34393350180 = 0) (h : Flows K s0 s) :
    Flows K s0 (enterNoSheaf s) := by
  refine h.comp hk (?_ : Flows 240484556762 s (enterNoSheaf s))
  have h := Flows.refl 240484556762 s
  simp +contextual (maxDischargeDepth := 40) [enterNoSheaf, h]

theorem execSheafBankCheck_flows {s t : State} (hx : execSheafBankCheck s = .next t) : Flows 171764948442 s t := by
  have h := Flows.refl 171764948442 s
  simp only [execSheafBankCheck, Host.Outcome.next.injEq] at hx
  subst hx
  (repeat' split) <;> (first | exact h | (simp +contextual (maxDischargeDepth := 40) [h]; done))

@[simp] theorem stagesConnect_flows {K : Nat} {s0 s : State} (hk : K &&& 4456448 = 0) (h : Flows K s0 s) :
    Flows K s0 (stagesConnect s) := by
  refine h.comp hk (?_ : Flows 274873450494 s (stagesConnect s))
  have h := Flows.refl 274873450494 s
  simp +contextual (maxDischargeDepth := 40) [stagesConnect, h]

@[simp] theorem timebaseStart_flows {K : Nat} {s0 s : State} (hk : K &&& 34360849444 = 0) (h : Flows K s0 s) {x1 x2 x3} :
    Flows K s0 (timebaseStart x1 x2 x3 s) := by
  refine h.comp hk (?_ : Flows 240517057498 s (timebaseStart x1 x2 x3 s))
  have h := Flows.refl 240517057498 s
  simp +contextual (maxDischargeDepth := 40) [timebaseStart, h]

@[simp] theorem bringupRole_flows {K : Nat} {s0 s : State} (hk : K &&& 108007974948 = 0) (h : Flows K s0 s) :
    Flows K s0 (bringupRole s) := by
  refine h.comp hk (?_ : Flows 166869931994 s (bringupRole s))
  have h := Flows.refl 166869931994 s
  simp +contextual (maxDischargeDepth := 40) [bringupRole, h]

@[simp] theorem holdupRead_flows {K : Nat} {s0 s : State} (hk : K &&& 34359795748 = 0) (h : Flows K s0 s) {x1 x2} :
    Flows K s0 (holdupRead x1 x2 s) := by
  refine h.comp hk (?_ : Flows 240518111194 s (holdupRead x1 x2 s))
  have h := Flows.refl 240518111194 s
  simp +contextual (maxDischargeDepth := 40) [holdupRead, h]

@[simp] theorem bringup_flows {K : Nat} {s0 s : State} (hk : K &&& 111632972852 = 0) (h : Flows K s0 s) {x1 x2 x3 x4 x5} :
    Flows K s0 (bringup x1 x2 x3 x4 x5 s) := by
  refine h.comp hk (?_ : Flows 163244934090 s (bringup x1 x2 x3 x4 x5 s))
  have h := Flows.refl 163244934090 s
  simp +contextual (maxDischargeDepth := 40) [bringup, h]

theorem execBringupStart_flows {s t : State} {x1 x2 x3 x4 x5} (hx : execBringupStart x1 x2 x3 x4 x5 s = .next t) : Flows 163244934090 s t := by
  have h := Flows.refl 163244934090 s
  simp only [execBringupStart, Host.Outcome.next.injEq] at hx
  subst hx
  simp +contextual (maxDischargeDepth := 40) [h]

theorem execSlotBHeartbeatWaitEnd_flows {s t : State} (hx : execSlotBHeartbeatWaitEnd s = .next t) : Flows 26880775128 s t := by
  have h := Flows.refl 26880775128 s
  simp only [execSlotBHeartbeatWaitEnd, Host.Outcome.next.injEq] at hx
  subst hx
  simp +contextual (maxDischargeDepth := 40) [h]

@[simp] theorem fullService_flows {K : Nat} {s0 s : State} (hk : K &&& 34431100964 = 0) (h : Flows K s0 s) :
    Flows K s0 (fullService s) := by
  refine h.comp hk (?_ : Flows 240446805978 s (fullService s))
  have h := Flows.refl 240446805978 s
  simp +contextual (maxDischargeDepth := 40) [fullService, h]

theorem execFullService_flows {s t : State} (hx : execFullService s = .next t) : Flows 240446805978 s t := by
  have h := Flows.refl 240446805978 s
  simp only [execFullService, Host.Outcome.next.injEq] at hx
  subst hx
  simp +contextual (maxDischargeDepth := 40) [h]

theorem execStartLate_flows {s t : State} (hx : execStartLate s = .next t) : Flows 240446805978 s t := by
  have h := Flows.refl 240446805978 s
  simp only [execStartLate, Host.Outcome.next.injEq] at hx
  subst hx
  simp +contextual (maxDischargeDepth := 40) [h]

theorem execShutdownStart_flows {s t : State} (hx : execShutdownStart s = .next t) : Flows 240518045658 s t := by
  have h := Flows.refl 240518045658 s
  simp only [execShutdownStart, Host.Outcome.next.injEq] at hx
  subst hx
  simp +contextual (maxDischargeDepth := 40) [h]

theorem execShutdownBoundary_flows {s t : State} (hx : execShutdownBoundary s = .next t) : Flows 34359481298 s t := by
  have h := Flows.refl 34359481298 s
  simp only [execShutdownBoundary, Host.Outcome.next.injEq] at hx
  subst hx
  simp +contextual (maxDischargeDepth := 40) [h]

@[simp] theorem stagesLetGo_flows {K : Nat} {s0 s : State} (hk : K &&& 38076416 = 0) (h : Flows K s0 s) :
    Flows K s0 (stagesLetGo s) := by
  refine h.comp hk (?_ : Flows 274839830526 s (stagesLetGo s))
  have h := Flows.refl 274839830526 s
  simp +contextual (maxDischargeDepth := 40) [stagesLetGo, h]

@[simp] theorem powerLossRecord_flows {K : Nat} {s0 s : State} (hk : K &&& 34359796772 = 0) (h : Flows K s0 s) :
    Flows K s0 (powerLossRecord s) := by
  refine h.comp hk (?_ : Flows 240518110170 s (powerLossRecord s))
  have h := Flows.refl 240518110170 s
  simp +contextual (maxDischargeDepth := 40) [powerLossRecord, h]

theorem execShutdownShed_flows {s t : State} (hx : execShutdownShed s = .next t) : Flows 26847216592 s t := by
  have h := Flows.refl 26847216592 s
  simp only [execShutdownShed, Host.Outcome.next.injEq] at hx
  subst hx
  simp +contextual (maxDischargeDepth := 40) [h]

theorem execStageLetGoTimeout_flows {s t : State} (hx : execStageLetGoTimeout s = .next t) : Flows 26847220696 s t := by
  have h := Flows.refl 26847220696 s
  simp only [execStageLetGoTimeout, Host.Outcome.next.injEq] at hx
  subst hx
  simp +contextual (maxDischargeDepth := 40) [h]

theorem execDomainOff_flows {s t : State} {x1 x2 x3 x4} (hx : execDomainOff x1 x2 x3 x4 s = .next t) : Flows 206158430402 s t := by
  have h := Flows.refl 206158430402 s
  simp only [execDomainOff, Host.Outcome.next.injEq] at hx
  subst hx
  simp +contextual (maxDischargeDepth := 40) [h]

theorem execBrownOut_flows {s t : State} (hx : execBrownOut s = .next t) : Flows 274877841406 s t := by
  have h := Flows.refl 274877841406 s
  simp only [execBrownOut, Host.Outcome.next.injEq] at hx
  subst hx
  simp +contextual (maxDischargeDepth := 40) [h]

theorem execModuleReset_flows {s t : State} (hx : execModuleReset s = .next t) : Flows 206158430402 s t := by
  simp only [execModuleReset, Host.Outcome.next.injEq] at hx
  subst hx
  split
  · refine flows_ite (Flows.refl 206158430402 s) ?_
    exact pwrUpd_flows rfl (freshState_flows rfl (keepShut_flows rfl (commitStaged_flows rfl (commitAll_flows rfl (Flows.refl 206158430402 s)))))
  · exact Flows.refl 206158430402 s


theorem execTamper_flows {s t : State} (hx : execTamper s = .next t) : Flows 240518045650 s t := by
  have h := Flows.refl 240518045650 s
  simp only [execTamper, Host.Outcome.next.injEq] at hx
  subst hx
  simp +contextual (maxDischargeDepth := 40) [h]

@[simp] theorem tamperClr_flows {K : Nat} {s0 s : State} (hk : K &&& 65548 = 0) (h : Flows K s0 s) :
    Flows K s0 (tamperClr s) := by
  refine h.comp hk (?_ : Flows 274877841394 s (tamperClr s))
  have h := Flows.refl 274877841394 s
  simp +contextual (maxDischargeDepth := 40) [tamperClr, h]

@[simp] theorem sysReset_flows {K : Nat} {s0 s : State} (hk : K &&& 196608 = 0) (h : Flows K s0 s) :
    Flows K s0 (sysReset s) := by
  refine h.comp hk (?_ : Flows 274877710334 s (sysReset s))
  have h := Flows.refl 274877710334 s
  simp +contextual (maxDischargeDepth := 40) [sysReset, h]

@[simp] theorem identify_flows {K : Nat} {s0 s : State} (hk : K &&& 65536 = 0) (h : Flows K s0 s) :
    Flows K s0 (identify s) := by
  refine h.comp hk (?_ : Flows 274877841406 s (identify s))
  have h := Flows.refl 274877841406 s
  simp +contextual (maxDischargeDepth := 40) [identify, h]

theorem execIdentifyEnd_flows {s t : State} (hx : execIdentifyEnd s = .next t) : Flows 26880775128 s t := by
  have h := Flows.refl 26880775128 s
  simp only [execIdentifyEnd, Host.Outcome.next.injEq] at hx
  subst hx
  (repeat' split) <;> (first | exact h | (simp +contextual (maxDischargeDepth := 40) [h]; done))

@[simp] theorem disarmButton_flows {K : Nat} {s0 s : State} (hk : K &&& 34359795748 = 0) (h : Flows K s0 s) :
    Flows K s0 (disarmButton s) := by
  refine h.comp hk (?_ : Flows 240518111194 s (disarmButton s))
  have h := Flows.refl 240518111194 s
  simp +contextual (maxDischargeDepth := 40) [disarmButton, h]

@[simp] theorem validPress_flows {K : Nat} {s0 s : State} (hk : K &&& 34359992356 = 0) (h : Flows K s0 s) :
    Flows K s0 (validPress s) := by
  refine h.comp hk (?_ : Flows 240517914586 s (validPress s))
  have h := Flows.refl 240517914586 s
  simp +contextual (maxDischargeDepth := 40) [validPress, h]

theorem execButtonPress_flows {s t : State} (hx : execButtonPress s = .next t) : Flows 274877841402 s t := by
  have h := Flows.refl 274877841402 s
  simp only [execButtonPress, Host.Outcome.next.injEq] at hx
  subst hx
  simp +contextual (maxDischargeDepth := 40) [h]

theorem execButtonRelease_flows {s t : State} (hx : execButtonRelease s = .next t) : Flows 240517914586 s t := by
  have h := Flows.refl 240517914586 s
  simp only [execButtonRelease, Host.Outcome.next.injEq] at hx
  subst hx
  (repeat' split) <;> (first | exact h | (simp +contextual (maxDischargeDepth := 40) [h]; done))

theorem execButtonStuck_flows {s t : State} (hx : execButtonStuck s = .next t) : Flows 26880775128 s t := by
  have h := Flows.refl 26880775128 s
  simp only [execButtonStuck, Host.Outcome.next.injEq] at hx
  subst hx
  (repeat' split) <;> (first | exact h | (simp +contextual (maxDischargeDepth := 40) [h]; done))

theorem execButtonStuckClear_flows {s t : State} (hx : execButtonStuckClear s = .next t) : Flows 26880775128 s t := by
  have h := Flows.refl 26880775128 s
  simp only [execButtonStuckClear, Host.Outcome.next.injEq] at hx
  subst hx
  simp +contextual (maxDischargeDepth := 40) [h]

theorem execUnprotArmExpire_flows {s t : State} (hx : execUnprotArmExpire s = .next t) : Flows 26880775128 s t := by
  have h := Flows.refl 26880775128 s
  simp only [execUnprotArmExpire, Host.Outcome.next.injEq] at hx
  subst hx
  simp +contextual (maxDischargeDepth := 40) [h]

end Sys2Proof.Machine
end

