-- ==== Sys2Proof/Laws/FlowsAccess.lean ====
section
/-! SUPPORT. What the operations of Machine/Access.lean keep, each said once: the masks name the fields of State they leave
alone (Laws/Flows.lean). -/

namespace Sys2Proof.Machine

@[simp] theorem readEffect_flows {K : Nat} {s0 s : State} (hk : K &&& 137438969860 = 0) (h : Flows K s0 s) {a} : Flows K s0 (readEffect a s) := by
  refine h.comp hk (?_ : Flows 137438937082 s (readEffect a s))
  have h := Flows.refl 137438937082 s
  unfold readEffect
  cases pairLive s a
  · simp only
    generalize blockOf (pageOf a) = b
    generalize mapRow a = m
    split
    · split
      · exact hartRxRead_flows rfl h
      · exact h
    · split
      · exact (by simp [h])
      · exact h
    · exact pmcInc_flows rfl h
    · exact drawNext_flows rfl h
    · exact h
  · exact wr_flows rfl h


@[simp] theorem readWords_flows {K : Nat} {s0 s : State} (hk : K &&& 137438969860 = 0) (h : Flows K s0 s) {l} : Flows K s0 (readWords s l).2 := by
  refine h.comp hk (?_ : Flows 137438937082 s (readWords s l).2)
  have h : Flows 137438937082 s (([], s) : List Nat × State).2 := Flows.refl 137438937082 s
  simp only [readWords]
  exact foldl_snd_flows (fun x acc g => by simp only; exact readEffect_flows rfl g) h


@[simp] theorem countReject_flows {K : Nat} {s0 s : State} (hk : K &&& 34359795748 = 0) (h : Flows K s0 s) {x1 x2 x3} :
    Flows K s0 (countReject x1 x2 x3 s) := by
  refine h.comp hk (?_ : Flows 240518111194 s (countReject x1 x2 x3 s))
  have h := Flows.refl 240518111194 s
  simp +contextual (maxDischargeDepth := 40) [countReject, h]

@[simp] theorem updRefusals_flows {K : Nat} {s0 s : State} (hk : K &&& 34359795748 = 0) (h : Flows K s0 s) {x1 x2} :
    Flows K s0 (updRefusals x1 x2 s) := by
  refine h.comp hk (?_ : Flows 240518111194 s (updRefusals x1 x2 s))
  have h := Flows.refl 240518111194 s
  simp only [updRefusals]
  (repeat' split) <;> (first | exact h | (simp +contextual (maxDischargeDepth := 40) [h]; done))

@[simp] theorem rejectWords_flows {K : Nat} {s0 s : State} (hk : K &&& 34359795748 = 0) (h : Flows K s0 s) {x1 x2 x3} :
    Flows K s0 (rejectWords x1 x2 x3 s) := by
  refine h.comp hk (?_ : Flows 240518111194 s (rejectWords x1 x2 x3 s))
  have h := Flows.refl 240518111194 s
  simp +contextual (maxDischargeDepth := 40) [rejectWords, h]

@[simp] theorem keyResult_flows {K : Nat} {s0 s : State} (hk : K &&& 4 = 0) (h : Flows K s0 s) {x1} :
    Flows K s0 (keyResult x1 s) := by
  refine h.comp hk (?_ : Flows 274877906938 s (keyResult x1 s))
  have h := Flows.refl 274877906938 s
  simp +contextual (maxDischargeDepth := 40) [keyResult, h]

@[simp] theorem keyDone_flows {K : Nat} {s0 s : State} (hk : K &&& 34359795748 = 0) (h : Flows K s0 s) {x1} :
    Flows K s0 (keyDone x1 s) := by
  refine h.comp hk (?_ : Flows 240518111194 s (keyDone x1 s))
  have h := Flows.refl 240518111194 s
  simp +contextual (maxDischargeDepth := 40) [keyDone, h]

@[simp] theorem sesInstall_flows {K : Nat} {s0 s : State} (hk : K &&& 34359795748 = 0) (h : Flows K s0 s) {x1 x2} :
    Flows K s0 (sesInstall x1 x2 s) := by
  refine h.comp hk (?_ : Flows 240518111194 s (sesInstall x1 x2 s))
  have h := Flows.refl 240518111194 s
  simp only [sesInstall]
  (repeat' split) <;> (first | exact h | (simp +contextual (maxDischargeDepth := 40) [h]; done))

@[simp] theorem sesErase_flows {K : Nat} {s0 s : State} (hk : K &&& 34359795748 = 0) (h : Flows K s0 s) {x1} :
    Flows K s0 (sesErase x1 s) := by
  refine h.comp hk (?_ : Flows 240518111194 s (sesErase x1 s))
  have h := Flows.refl 240518111194 s
  simp +contextual (maxDischargeDepth := 40) [sesErase, h]

@[simp] theorem sesKeyCtrl_flows {K : Nat} {s0 s : State} (hk : K &&& 34359795748 = 0) (h : Flows K s0 s) {x1 x2} :
    Flows K s0 (sesKeyCtrl x1 x2 s) := by
  refine h.comp hk (?_ : Flows 240518111194 s (sesKeyCtrl x1 x2 s))
  have h := Flows.refl 240518111194 s
  simp only [sesKeyCtrl]
  (repeat' split) <;> (first | exact h | (simp +contextual (maxDischargeDepth := 40) [h]; done))

@[simp] theorem safKeyCtrl_flows {K : Nat} {s0 s : State} (hk : K &&& 33554436 = 0) (h : Flows K s0 s) {x1} :
    Flows K s0 (safKeyCtrl x1 s) := by
  refine h.comp hk (?_ : Flows 274844352506 s (safKeyCtrl x1 s))
  have h := Flows.refl 274844352506 s
  simp only [safKeyCtrl]
  (repeat' split) <;> (first | exact h | (simp +contextual (maxDischargeDepth := 40) [h]; done))

@[simp] theorem evtClear_flows {K : Nat} {s0 s : State} (hk : K &&& 57380 = 0) (h : Flows K s0 s) {x1 x2} :
    Flows K s0 (evtClear x1 x2 s) := by
  refine h.comp hk (?_ : Flows 274877849562 s (evtClear x1 x2 s))
  have h := Flows.refl 274877849562 s
  simp +contextual (maxDischargeDepth := 40) [evtClear, h]

@[simp] theorem tagsWrite_flows {K : Nat} {s0 s : State} (hk : K &&& 108008041508 = 0) (h : Flows K s0 s) {x1 x2} :
    Flows K s0 (tagsWrite x1 x2 s) := by
  refine h.comp hk (?_ : Flows 166869865434 s (tagsWrite x1 x2 s))
  have h := Flows.refl 166869865434 s
  simp +contextual (maxDischargeDepth := 40) [tagsWrite, h]

@[simp] theorem operatorWrite_flows {K : Nat} {s0 s : State} (hk : K &&& 108008041508 = 0) (h : Flows K s0 s) {x1 x2} :
    Flows K s0 (operatorWrite x1 x2 s) := by
  refine h.comp hk (?_ : Flows 166869865434 s (operatorWrite x1 x2 s))
  have h := Flows.refl 166869865434 s
  simp +contextual (maxDischargeDepth := 40) [operatorWrite, h]

@[simp] theorem pixWrite_flows {K : Nat} {s0 s : State} (hk : K &&& 34359738368 = 0) (h : Flows K s0 s) {x1 x2} :
    Flows K s0 (pixWrite x1 x2 s) := by
  refine h.comp hk (?_ : Flows 240518168574 s (pixWrite x1 x2 s))
  have h := Flows.refl 240518168574 s
  simp +contextual (maxDischargeDepth := 40) [pixWrite, h]

@[simp] theorem shadowWrite_flows {K : Nat} {s0 s : State} (hk : K &&& 8388608 = 0) (h : Flows K s0 s) {x1 x2} :
    Flows K s0 (shadowWrite x1 x2 s) := by
  refine h.comp hk (?_ : Flows 274869518334 s (shadowWrite x1 x2 s))
  have h := Flows.refl 274869518334 s
  simp only [shadowWrite]
  (repeat' split) <;> (first | exact h | (simp +contextual (maxDischargeDepth := 40) [h]; done))

@[simp] theorem stageWrite_flows {K : Nat} {s0 s : State} (hk : K &&& 32768 = 0) (h : Flows K s0 s) {x1 x2 x3} :
    Flows K s0 (stageWrite x1 x2 x3 s) := by
  refine h.comp hk (?_ : Flows 274877874174 s (stageWrite x1 x2 x3 s))
  have h := Flows.refl 274877874174 s
  simp +contextual (maxDischargeDepth := 40) [stageWrite, h]

@[simp] theorem stickyClear_flows {K : Nat} {s0 s : State} (hk : K &&& 16384 = 0) (h : Flows K s0 s) {x1 x2} :
    Flows K s0 (stickyClear x1 x2 s) := by
  refine h.comp hk (?_ : Flows 274877890558 s (stickyClear x1 x2 s))
  have h := Flows.refl 274877890558 s
  simp +contextual (maxDischargeDepth := 40) [stickyClear, h]

@[simp] theorem storeWord_flows {K : Nat} {s0 s : State} (hk : K &&& 20 = 0) (h : Flows K s0 s) {x1 x2} :
    Flows K s0 (storeWord x1 x2 s) := by
  refine h.comp hk (?_ : Flows 274877906922 s (storeWord x1 x2 s))
  have h := Flows.refl 274877906922 s
  simp +contextual (maxDischargeDepth := 40) [storeWord, h]

@[simp] theorem ctrlWrite_flows {K : Nat} {s0 s : State} (hk : K &&& 125223561516 = 0) (h : Flows K s0 s) {x1 x2 x3} :
    Flows K s0 (ctrlWrite x1 x2 x3 s) := by
  refine h.comp hk (?_ : Flows 149654345426 s (ctrlWrite x1 x2 x3 s))
  have h := Flows.refl 149654345426 s
  simp only [ctrlWrite]
  (repeat' split) <;> (first | exact h | (simp +contextual (maxDischargeDepth := 40) [h]; done))

@[simp] theorem orderWrite_flows {K : Nat} {s0 s : State} (hk : K &&& 125223562540 = 0) (h : Flows K s0 s) {sess a new} : Flows K s0 (orderWrite sess a new s) := by
  refine h.comp hk (?_ : Flows 149654344402 s (orderWrite sess a new s))
  have h := Flows.refl 149654344402 s
  unfold orderWrite
  refine flows_ite (ctrlWrite_flows rfl h) (flows_ite (evtClear_flows rfl h) (flows_ite (evtEnable_flows rfl h) ?_))
  split
  · exact tagsWrite_flows rfl h
  · exact flows_ite (when_flows h (fun _ g => achRestore_flows rfl g))
      (when_flows (when_flows h (fun _ g => hartAbort_flows rfl g)) (fun _ g => hartSend_flows rfl g))
  · exact flows_ite (when_flows h (fun _ g => cleOscAck_flows rfl g)) (shadowWrite_flows rfl h)
  · exact safKeyCtrl_flows rfl (wr_flows rfl h)
  · exact flows_ite (sesKeyCtrl_flows rfl (wr_flows rfl h)) (stageWrite_flows rfl h)
  · exact when_flows h (fun _ g => tamperClr_flows rfl g)
  · exact grnClear_flows rfl h
  · exact stickyClear_flows rfl h
  · exact pixWrite_flows rfl h
  · exact h


@[simp] theorem applyWords_flows {K : Nat} {s0 s : State} (hk : K &&& 125223562556 = 0) (h : Flows K s0 s) {sess ws} : Flows K s0 (applyWords sess ws s) := by
  refine h.comp hk (?_ : Flows 149654344386 s (applyWords sess ws s))
  have h := Flows.refl 149654344386 s
  unfold applyWords
  extract_lets merged s1 l inPage store names s2 s3
  have h1 : Flows 149654344386 s s1 := each_flows (fun _ _ g => engineTouch_flows rfl g) h
  have hs {t : State} (g : Flows 149654344386 s t) : Flows 149654344386 s (store t) := each_flows (fun _ _ g => storeWord_flows rfl g) g
  have h2 : Flows 149654344386 s s2 := flows_ite (withLines_flows rfl h1 (fun _ g => hs g)) (hs h1)
  have h3 : Flows 149654344386 s s3 := when_flows h2 (fun _ g => each_flows (fun _ _ g => mbcJudge_flows rfl g) g)
  refine each_flows (fun e t g => ?_) h3
  split
  · exact orderWrite_flows rfl g
  · exact operatorWrite_flows rfl g
  · exact stagingWrite_flows rfl g
  · exact g


@[simp] theorem writeWords_flows {K : Nat} {s0 s : State} (hk : K &&& 125223562556 = 0) (h : Flows K s0 s) {x1 x2} :
    Flows K s0 (writeWords x1 x2 s) := by
  refine h.comp hk (?_ : Flows 149654344386 s (writeWords x1 x2 s))
  have h := Flows.refl 149654344386 s
  simp +contextual (maxDischargeDepth := 40) [writeWords, h]

@[simp] theorem writeReg_flows {K : Nat} {s0 s : State} (hk : K &&& 125223562556 = 0) (h : Flows K s0 s) {x1 x2 x3} :
    Flows K s0 (writeReg x1 x2 x3 s) := by
  refine h.comp hk (?_ : Flows 149654344386 s (writeReg x1 x2 x3 s))
  have h := Flows.refl 149654344386 s
  simp +contextual (maxDischargeDepth := 40) [writeReg, h]

end Sys2Proof.Machine
end

