-- ==== Sys2Proof/Laws/FlowsHost.lean ====
section
/-! SUPPORT. What the operations of Machine/Host.lean keep, each said once: the masks name the fields of State they leave
alone (Laws/Flows.lean). -/

namespace Sys2Proof.Machine

@[simp] theorem qapRead_flows {K : Nat} {s0 s : State} (hk : K &&& 240518226980 = 0) (h : Flows K s0 s) {x1} :
    Flows K s0 (qapRead x1 s) := by
  refine h.comp hk (?_ : Flows 34359679962 s (qapRead x1 s))
  have h := Flows.refl 34359679962 s
  simp +contextual (maxDischargeDepth := 40) [qapRead, h]

@[simp] theorem qapChange_flows {K : Nat} {s0 s : State} (hk : K &&& 125223562556 = 0) (h : Flows K s0 s) {x1 x2 x3} :
    Flows K s0 (qapChange x1 x2 x3 s) := by
  refine h.comp hk (?_ : Flows 149654344386 s (qapChange x1 x2 x3 s))
  have h := Flows.refl 149654344386 s
  simp only [qapChange]
  (repeat' split) <;> (first | exact h | (simp +contextual (maxDischargeDepth := 40) [h]; done))

theorem execQapRead_flows {s t : State} {x1 x2} (hx : execQapRead x1 x2 s = .next t) : Flows 34359679962 s t := by
  have h := Flows.refl 34359679962 s
  simp only [execQapRead, Host.Outcome.next.injEq] at hx
  subst hx
  simp +contextual (maxDischargeDepth := 40) [h]

theorem execQapWrite_flows {s t : State} {x1} (hx : execQapWrite x1 s = .next t) : Flows 149654344386 s t := by
  have h := Flows.refl 149654344386 s
  simp only [execQapWrite, Host.Outcome.next.injEq] at hx
  subst hx
  simp +contextual (maxDischargeDepth := 40) [h]

theorem execQapModify_flows {s t : State} {x1} (hx : execQapModify x1 s = .next t) : Flows 149654344386 s t := by
  have h := Flows.refl 149654344386 s
  simp only [execQapModify, Host.Outcome.next.injEq] at hx
  subst hx
  simp +contextual (maxDischargeDepth := 40) [h]

theorem execRegisterWrite_flows {s t : State} {x1 x2 x3 x4} (hx : execRegisterWrite x1 x2 x3 x4 s = .next t) : Flows 149654344386 s t := by
  have h := Flows.refl 149654344386 s
  simp only [execRegisterWrite, Host.Outcome.next.injEq] at hx
  subst hx
  simp +contextual (maxDischargeDepth := 40) [h]

theorem execEvtRawClear_flows {s t : State} {x1 x2 x3} (hx : execEvtRawClear x1 x2 x3 s = .next t) : Flows 149654344386 s t := by
  have h := Flows.refl 149654344386 s
  simp only [execEvtRawClear, Host.Outcome.next.injEq] at hx
  subst hx
  simp +contextual (maxDischargeDepth := 40) [h]

theorem execEvtEnWrite_flows {s t : State} {x1 x2 x3} (hx : execEvtEnWrite x1 x2 x3 s = .next t) : Flows 149654344386 s t := by
  have h := Flows.refl 149654344386 s
  simp only [execEvtEnWrite, Host.Outcome.next.injEq] at hx
  subst hx
  simp +contextual (maxDischargeDepth := 40) [h]

theorem execLockWrite_flows {s t : State} {x1 x2 x3} (hx : execLockWrite x1 x2 x3 s = .next t) : Flows 149654344386 s t := by
  have h := Flows.refl 149654344386 s
  simp only [execLockWrite, Host.Outcome.next.injEq] at hx
  subst hx
  simp +contextual (maxDischargeDepth := 40) [h]

theorem execTagWindowWrite_flows {s t : State} {x1 x2 x3} (hx : execTagWindowWrite x1 x2 x3 s = .next t) : Flows 149654344386 s t := by
  have h := Flows.refl 149654344386 s
  simp only [execTagWindowWrite, Host.Outcome.next.injEq] at hx
  subst hx
  simp +contextual (maxDischargeDepth := 40) [h]

theorem execOperatorWordWrite_flows {s t : State} {x1 x2 x3} (hx : execOperatorWordWrite x1 x2 x3 s = .next t) : Flows 149654344386 s t := by
  have h := Flows.refl 149654344386 s
  simp only [execOperatorWordWrite, Host.Outcome.next.injEq] at hx
  subst hx
  simp +contextual (maxDischargeDepth := 40) [h]

theorem execTamperClr_flows {s t : State} {x1} (hx : execTamperClr x1 s = .next t) : Flows 149654344386 s t := by
  have h := Flows.refl 149654344386 s
  simp only [execTamperClr, Host.Outcome.next.injEq] at hx
  subst hx
  simp +contextual (maxDischargeDepth := 40) [h]

theorem execSysReset_flows {s t : State} {x1 x2 x3} (hx : execSysReset x1 x2 x3 s = .next t) : Flows 149654344386 s t := by
  have h := Flows.refl 149654344386 s
  simp only [execSysReset, Host.Outcome.next.injEq] at hx
  subst hx
  simp +contextual (maxDischargeDepth := 40) [h]

theorem execIdentify_flows {s t : State} {x1} (hx : execIdentify x1 s = .next t) : Flows 149654344386 s t := by
  have h := Flows.refl 149654344386 s
  simp only [execIdentify, Host.Outcome.next.injEq] at hx
  subst hx
  simp +contextual (maxDischargeDepth := 40) [h]

theorem execPageCommitArm_flows {s t : State} {x1} (hx : execPageCommitArm x1 s = .next t) : Flows 149654344386 s t := by
  have h := Flows.refl 149654344386 s
  simp only [execPageCommitArm, Host.Outcome.next.injEq] at hx
  subst hx
  simp +contextual (maxDischargeDepth := 40) [h]

theorem execRecal_flows {s t : State} {x1 x2} (hx : execRecal x1 x2 s = .next t) : Flows 149654344386 s t := by
  have h := Flows.refl 149654344386 s
  simp only [execRecal, Host.Outcome.next.injEq] at hx
  subst hx
  simp +contextual (maxDischargeDepth := 40) [h]

theorem execOutRestore_flows {s t : State} {x1 x2} (hx : execOutRestore x1 x2 s = .next t) : Flows 149654344386 s t := by
  have h := Flows.refl 149654344386 s
  simp only [execOutRestore, Host.Outcome.next.injEq] at hx
  subst hx
  simp +contextual (maxDischargeDepth := 40) [h]

theorem execHartSend_flows {s t : State} {x1 x2} (hx : execHartSend x1 x2 s = .next t) : Flows 149654344386 s t := by
  have h := Flows.refl 149654344386 s
  simp only [execHartSend, Host.Outcome.next.injEq] at hx
  subst hx
  simp +contextual (maxDischargeDepth := 40) [h]

theorem execHartAbort_flows {s t : State} {x1 x2} (hx : execHartAbort x1 x2 s = .next t) : Flows 149654344386 s t := by
  have h := Flows.refl 149654344386 s
  simp only [execHartAbort, Host.Outcome.next.injEq] at hx
  subst hx
  simp +contextual (maxDischargeDepth := 40) [h]

theorem execDisarm_flows {s t : State} {x1} (hx : execDisarm x1 s = .next t) : Flows 149654344386 s t := by
  have h := Flows.refl 149654344386 s
  simp only [execDisarm, Host.Outcome.next.injEq] at hx
  subst hx
  simp +contextual (maxDischargeDepth := 40) [h]

theorem execOscAck_flows {s t : State} {x1 x2} (hx : execOscAck x1 x2 s = .next t) : Flows 149654344386 s t := by
  have h := Flows.refl 149654344386 s
  simp only [execOscAck, Host.Outcome.next.injEq] at hx
  subst hx
  simp +contextual (maxDischargeDepth := 40) [h]

theorem execRecover_flows {s t : State} {x1 x2} (hx : execRecover x1 x2 s = .next t) : Flows 149654344386 s t := by
  have h := Flows.refl 149654344386 s
  simp only [execRecover, Host.Outcome.next.injEq] at hx
  subst hx
  simp +contextual (maxDischargeDepth := 40) [h]

theorem execBtStart_flows {s t : State} {x1 x2} (hx : execBtStart x1 x2 s = .next t) : Flows 149654344386 s t := by
  have h := Flows.refl 149654344386 s
  simp only [execBtStart, Host.Outcome.next.injEq] at hx
  subst hx
  simp +contextual (maxDischargeDepth := 40) [h]

theorem execSafKeyInstall_flows {s t : State} {x1 x2} (hx : execSafKeyInstall x1 x2 s = .next t) : Flows 149654344386 s t := by
  have h := Flows.refl 149654344386 s
  simp only [execSafKeyInstall, Host.Outcome.next.injEq] at hx
  subst hx
  simp +contextual (maxDischargeDepth := 40) [h]

theorem execSafKeyErase_flows {s t : State} {x1 x2} (hx : execSafKeyErase x1 x2 s = .next t) : Flows 149654344386 s t := by
  have h := Flows.refl 149654344386 s
  simp only [execSafKeyErase, Host.Outcome.next.injEq] at hx
  subst hx
  simp +contextual (maxDischargeDepth := 40) [h]

theorem execSesKeyInstall_flows {s t : State} {x1 x2 x3} (hx : execSesKeyInstall x1 x2 x3 s = .next t) : Flows 149654344386 s t := by
  have h := Flows.refl 149654344386 s
  simp only [execSesKeyInstall, Host.Outcome.next.injEq] at hx
  subst hx
  simp +contextual (maxDischargeDepth := 40) [h]

theorem execSesKeyErase_flows {s t : State} {x1 x2 x3} (hx : execSesKeyErase x1 x2 x3 s = .next t) : Flows 149654344386 s t := by
  have h := Flows.refl 149654344386 s
  simp only [execSesKeyErase, Host.Outcome.next.injEq] at hx
  subst hx
  simp +contextual (maxDischargeDepth := 40) [h]

theorem execSwap_flows {s t : State} {x1} (hx : execSwap x1 s = .next t) : Flows 149654344386 s t := by
  have h := Flows.refl 149654344386 s
  simp only [execSwap, Host.Outcome.next.injEq] at hx
  subst hx
  simp +contextual (maxDischargeDepth := 40) [h]

theorem execHold_flows {s t : State} {x1 x2} (hx : execHold x1 x2 s = .next t) : Flows 149654344386 s t := by
  have h := Flows.refl 149654344386 s
  simp only [execHold, Host.Outcome.next.injEq] at hx
  subst hx
  simp +contextual (maxDischargeDepth := 40) [h]

theorem execResume_flows {s t : State} {x1} (hx : execResume x1 s = .next t) : Flows 149654344386 s t := by
  have h := Flows.refl 149654344386 s
  simp only [execResume, Host.Outcome.next.injEq] at hx
  subst hx
  simp +contextual (maxDischargeDepth := 40) [h]

theorem execClrLatent_flows {s t : State} {x1} (hx : execClrLatent x1 s = .next t) : Flows 149654344386 s t := by
  have h := Flows.refl 149654344386 s
  simp only [execClrLatent, Host.Outcome.next.injEq] at hx
  subst hx
  simp +contextual (maxDischargeDepth := 40) [h]

theorem execGrnClear_flows {s t : State} {x1 x2} (hx : execGrnClear x1 x2 s = .next t) : Flows 149654344386 s t := by
  have h := Flows.refl 149654344386 s
  simp only [execGrnClear, Host.Outcome.next.injEq] at hx
  subst hx
  simp +contextual (maxDischargeDepth := 40) [h]

theorem execPmcSnap_flows {s t : State} {x1} (hx : execPmcSnap x1 s = .next t) : Flows 149654344386 s t := by
  have h := Flows.refl 149654344386 s
  simp only [execPmcSnap, Host.Outcome.next.injEq] at hx
  subst hx
  simp +contextual (maxDischargeDepth := 40) [h]

theorem execProgStart_flows {s t : State} {x1 x2} (hx : execProgStart x1 x2 s = .next t) : Flows 149654344386 s t := by
  have h := Flows.refl 149654344386 s
  simp only [execProgStart, Host.Outcome.next.injEq] at hx
  subst hx
  simp +contextual (maxDischargeDepth := 40) [h]

theorem execProgStop_flows {s t : State} {x1 x2} (hx : execProgStop x1 x2 s = .next t) : Flows 149654344386 s t := by
  have h := Flows.refl 149654344386 s
  simp only [execProgStop, Host.Outcome.next.injEq] at hx
  subst hx
  simp +contextual (maxDischargeDepth := 40) [h]

theorem execUpdBegin_flows {s t : State} {x1 x2} (hx : execUpdBegin x1 x2 s = .next t) : Flows 149654344386 s t := by
  have h := Flows.refl 149654344386 s
  simp only [execUpdBegin, Host.Outcome.next.injEq] at hx
  subst hx
  simp +contextual (maxDischargeDepth := 40) [h]

theorem execStagingWrite_flows {s t : State} {x1 x2 x3} (hx : execStagingWrite x1 x2 x3 s = .next t) : Flows 149654344386 s t := by
  have h := Flows.refl 149654344386 s
  simp only [execStagingWrite, Host.Outcome.next.injEq] at hx
  subst hx
  simp +contextual (maxDischargeDepth := 40) [h]

theorem execUpdCheck_flows {s t : State} {x1} (hx : execUpdCheck x1 s = .next t) : Flows 149654344386 s t := by
  have h := Flows.refl 149654344386 s
  simp only [execUpdCheck, Host.Outcome.next.injEq] at hx
  subst hx
  simp +contextual (maxDischargeDepth := 40) [h]

theorem execUpdProgram_flows {s t : State} {x1} (hx : execUpdProgram x1 s = .next t) : Flows 149654344386 s t := by
  have h := Flows.refl 149654344386 s
  simp only [execUpdProgram, Host.Outcome.next.injEq] at hx
  subst hx
  simp +contextual (maxDischargeDepth := 40) [h]

theorem execActivateAt_flows {s t : State} {x1} (hx : execActivateAt x1 s = .next t) : Flows 149654344386 s t := by
  have h := Flows.refl 149654344386 s
  simp only [execActivateAt, Host.Outcome.next.injEq] at hx
  subst hx
  simp +contextual (maxDischargeDepth := 40) [h]

theorem execActivateReset_flows {s t : State} {x1} (hx : execActivateReset x1 s = .next t) : Flows 149654344386 s t := by
  have h := Flows.refl 149654344386 s
  simp only [execActivateReset, Host.Outcome.next.injEq] at hx
  subst hx
  simp +contextual (maxDischargeDepth := 40) [h]

theorem execUpdAbort_flows {s t : State} {x1} (hx : execUpdAbort x1 s = .next t) : Flows 149654344386 s t := by
  have h := Flows.refl 149654344386 s
  simp only [execUpdAbort, Host.Outcome.next.injEq] at hx
  subst hx
  simp +contextual (maxDischargeDepth := 40) [h]

theorem execFpdUpdate_flows {s t : State} {x1 x2} (hx : execFpdUpdate x1 x2 s = .next t) : Flows 149654344386 s t := by
  have h := Flows.refl 149654344386 s
  simp only [execFpdUpdate, Host.Outcome.next.injEq] at hx
  subst hx
  simp +contextual (maxDischargeDepth := 40) [h]

theorem execFpdClear_flows {s t : State} {x1} (hx : execFpdClear x1 s = .next t) : Flows 149654344386 s t := by
  have h := Flows.refl 149654344386 s
  simp only [execFpdClear, Host.Outcome.next.injEq] at hx
  subst hx
  simp +contextual (maxDischargeDepth := 40) [h]

end Sys2Proof.Machine
end

