-- ==== Sys2Proof/Laws/FlowsBoundary.lean ====
section
/-! SUPPORT. What the operations of Machine/Boundary.lean keep, each said once: the masks name the fields of State they leave
alone (Laws/Flows.lean). -/

namespace Sys2Proof.Machine

theorem execSlotBoundary_flows {s t : State} {x1 x2 x3 x4 x5} (hx : execSlotBoundary x1 x2 x3 x4 x5 s = .next t) : Flows 26877101016 s t := by
  have h := Flows.refl 26877101016 s
  simp only [execSlotBoundary, Host.Outcome.next.injEq] at hx
  subst hx
  simp +contextual (maxDischargeDepth := 40) [h]

theorem execMajorCycleBoundary_flows {s t : State} {x1} (hx : execMajorCycleBoundary x1 s = .next t) : Flows 240449423314 s t := by
  have h := Flows.refl 240449423314 s
  simp only [execMajorCycleBoundary, Host.Outcome.next.injEq] at hx
  subst hx
  simp +contextual (maxDischargeDepth := 40) [h]

theorem execMinorCycleBoundary_flows {s t : State} {x1} (hx : execMinorCycleBoundary x1 s = .next t) : Flows 155995079642 s t := by
  have h := Flows.refl 155995079642 s
  simp only [execMinorCycleBoundary, Host.Outcome.next.injEq] at hx
  subst hx
  simp +contextual (maxDischargeDepth := 40) [h]

@[simp] theorem runEntry_flows {K : Nat} {s0 s : State} (hk : K &&& 247999753262 = 0) (h : Flows K s0 s) {x1 x2} :
    Flows K s0 (runEntry x1 x2 s) := by
  refine h.comp hk (?_ : Flows 26878153680 s (runEntry x1 x2 s))
  have h := Flows.refl 26878153680 s
  simp only [runEntry]
  (repeat' split) <;> (first | exact h | (simp +contextual (maxDischargeDepth := 40) [h]; done))

theorem execDispatchAfterWait_flows {s t : State} (hx : execDispatchAfterWait s = .next t) : Flows 26878153680 s t := by
  have h := Flows.refl 26878153680 s
  simp only [execDispatchAfterWait, Host.Outcome.next.injEq] at hx
  subst hx
  (repeat' split) <;> (first | exact h | (simp +contextual (maxDischargeDepth := 40) [h]; done))

@[simp] theorem dispatchRecord_flows {K : Nat} {s0 s : State} (hk : K &&& 247999753262 = 0) (h : Flows K s0 s) {x1 x2 x3} :
    Flows K s0 (dispatchRecord x1 x2 x3 s) := by
  refine h.comp hk (?_ : Flows 26878153680 s (dispatchRecord x1 x2 x3 s))
  have h := Flows.refl 26878153680 s
  simp only [dispatchRecord]
  (repeat' split) <;> (first | exact h | (simp +contextual (maxDischargeDepth := 40) [h]; done))

theorem execStandstillListRun_flows {s t : State} {x1} (hx : execStandstillListRun x1 s = .next t) : Flows 26878153680 s t := by
  have h := Flows.refl 26878153680 s
  simp only [execStandstillListRun, Host.Outcome.next.injEq] at hx
  subst hx
  (repeat' split) <;> (first | exact h | (simp +contextual (maxDischargeDepth := 40) [h]; done))

theorem execShaftQueueDispatch_flows {s t : State} {x1} (hx : execShaftQueueDispatch x1 s = .next t) : Flows 26878149584 s t := by
  have h := Flows.refl 26878149584 s
  simp only [execShaftQueueDispatch, Host.Outcome.next.injEq] at hx
  subst hx
  (repeat' split) <;> (first | exact h | (simp +contextual (maxDischargeDepth := 40) [h]; done))

end Sys2Proof.Machine
end

