-- ==== Sys2Proof/Laws/State.lean ====
section
/-! SUPPORT. What the primitive updates of State leave alone and what they change, one lemma per field and update. -/

namespace Sys2Proof.Machine

/-! ### wr -/

@[simp] theorem wr_pending (a v : Nat) (s : State) : (wr a v s).pending = s.pending := rfl
@[simp] theorem wr_now (a v : Nat) (s : State) : (wr a v s).now = s.now := rfl
@[simp] theorem wr_wide (a v : Nat) (s : State) : (wr a v s).wide = s.wide := rfl
@[simp] theorem wr_effOld (a v : Nat) (s : State) : (wr a v s).effOld = s.effOld := rfl
@[simp] theorem wr_evtClk (a v : Nat) (s : State) : (wr a v s).evtClk = s.evtClk := rfl
@[simp] theorem wr_overlay (a v : Nat) (s : State) : (wr a v s).overlay = s.overlay := rfl
@[simp] theorem wr_overlayDig (a v : Nat) (s : State) : (wr a v s).overlayDig = s.overlayDig := rfl
@[simp] theorem wr_sheaf (a v : Nat) (s : State) : (wr a v s).sheaf = s.sheaf := rfl
@[simp] theorem wr_active (a v : Nat) (s : State) : (wr a v s).active = s.active := rfl
@[simp] theorem wr_img (a v : Nat) (s : State) : (wr a v s).img = s.img := rfl
@[simp] theorem wr_seq (a v : Nat) (s : State) : (wr a v s).seq = s.seq := rfl
@[simp] theorem wr_tbu (a v : Nat) (s : State) : (wr a v s).tbu = s.tbu := rfl
@[simp] theorem wr_grn (a v : Nat) (s : State) : (wr a v s).grn = s.grn := rfl
@[simp] theorem wr_pmc (a v : Nat) (s : State) : (wr a v s).pmc = s.pmc := rfl
@[simp] theorem wr_ses (a v : Nat) (s : State) : (wr a v s).ses = s.ses := rfl
@[simp] theorem wr_pwr (a v : Nat) (s : State) : (wr a v s).pwr = s.pwr := rfl
@[simp] theorem wr_red (a v : Nat) (s : State) : (wr a v s).red = s.red := rfl
@[simp] theorem wr_dio (a v : Nat) (s : State) : (wr a v s).dio = s.dio := rfl
@[simp] theorem wr_piu (a v : Nat) (s : State) : (wr a v s).piu = s.piu := rfl
@[simp] theorem wr_gmu (a v : Nat) (s : State) : (wr a v s).gmu = s.gmu := rfl
@[simp] theorem wr_syn (a v : Nat) (s : State) : (wr a v s).syn = s.syn := rfl
@[simp] theorem wr_ach (a v : Nat) (s : State) : (wr a v s).ach = s.ach := rfl
@[simp] theorem wr_cle (a v : Nat) (s : State) : (wr a v s).cle = s.cle := rfl
@[simp] theorem wr_slv (a v : Nat) (s : State) : (wr a v s).slv = s.slv := rfl
@[simp] theorem wr_saf (a v : Nat) (s : State) : (wr a v s).saf = s.saf := rfl
@[simp] theorem wr_mbc (a v : Nat) (s : State) : (wr a v s).mbc = s.mbc := rfl
@[simp] theorem wr_maps (a v : Nat) (s : State) : (wr a v s).maps = s.maps := rfl
@[simp] theorem wr_mbcBad (a v : Nat) (s : State) : (wr a v s).mbcBad = s.mbcBad := rfl
@[simp] theorem wr_net (a v : Nat) (s : State) : (wr a v s).net = s.net := rfl
@[simp] theorem wr_msl (a v : Nat) (s : State) : (wr a v s).msl = s.msl := rfl
@[simp] theorem wr_mslMaps (a v : Nat) (s : State) : (wr a v s).mslMaps = s.mslMaps := rfl
@[simp] theorem wr_mgt (a v : Nat) (s : State) : (wr a v s).mgt = s.mgt := rfl
@[simp] theorem wr_slu (a v : Nat) (s : State) : (wr a v s).slu = s.slu := rfl
@[simp] theorem wr_upd (a v : Nat) (s : State) : (wr a v s).upd = s.upd := rfl
@[simp] theorem wr_fpd (a v : Nat) (s : State) : (wr a v s).fpd = s.fpd := rfl
@[simp] theorem wr_out (a v : Nat) (s : State) : (wr a v s).out = s.out := rfl
@[simp] theorem wr_draws (a v : Nat) (s : State) : (wr a v s).draws = s.draws := rfl

/-! ### setFld -/

@[simp] theorem setFld_pending (a hi lo v : Nat) (s : State) : (setFld a hi lo v s).pending = s.pending := rfl
@[simp] theorem setFld_now (a hi lo v : Nat) (s : State) : (setFld a hi lo v s).now = s.now := rfl
@[simp] theorem setFld_wide (a hi lo v : Nat) (s : State) : (setFld a hi lo v s).wide = s.wide := rfl
@[simp] theorem setFld_effOld (a hi lo v : Nat) (s : State) : (setFld a hi lo v s).effOld = s.effOld := rfl
@[simp] theorem setFld_evtClk (a hi lo v : Nat) (s : State) : (setFld a hi lo v s).evtClk = s.evtClk := rfl
@[simp] theorem setFld_overlay (a hi lo v : Nat) (s : State) : (setFld a hi lo v s).overlay = s.overlay := rfl
@[simp] theorem setFld_overlayDig (a hi lo v : Nat) (s : State) : (setFld a hi lo v s).overlayDig = s.overlayDig := rfl
@[simp] theorem setFld_sheaf (a hi lo v : Nat) (s : State) : (setFld a hi lo v s).sheaf = s.sheaf := rfl
@[simp] theorem setFld_active (a hi lo v : Nat) (s : State) : (setFld a hi lo v s).active = s.active := rfl
@[simp] theorem setFld_img (a hi lo v : Nat) (s : State) : (setFld a hi lo v s).img = s.img := rfl
@[simp] theorem setFld_seq (a hi lo v : Nat) (s : State) : (setFld a hi lo v s).seq = s.seq := rfl
@[simp] theorem setFld_tbu (a hi lo v : Nat) (s : State) : (setFld a hi lo v s).tbu = s.tbu := rfl
@[simp] theorem setFld_grn (a hi lo v : Nat) (s : State) : (setFld a hi lo v s).grn = s.grn := rfl
@[simp] theorem setFld_pmc (a hi lo v : Nat) (s : State) : (setFld a hi lo v s).pmc = s.pmc := rfl
@[simp] theorem setFld_ses (a hi lo v : Nat) (s : State) : (setFld a hi lo v s).ses = s.ses := rfl
@[simp] theorem setFld_pwr (a hi lo v : Nat) (s : State) : (setFld a hi lo v s).pwr = s.pwr := rfl
@[simp] theorem setFld_red (a hi lo v : Nat) (s : State) : (setFld a hi lo v s).red = s.red := rfl
@[simp] theorem setFld_dio (a hi lo v : Nat) (s : State) : (setFld a hi lo v s).dio = s.dio := rfl
@[simp] theorem setFld_piu (a hi lo v : Nat) (s : State) : (setFld a hi lo v s).piu = s.piu := rfl
@[simp] theorem setFld_gmu (a hi lo v : Nat) (s : State) : (setFld a hi lo v s).gmu = s.gmu := rfl
@[simp] theorem setFld_syn (a hi lo v : Nat) (s : State) : (setFld a hi lo v s).syn = s.syn := rfl
@[simp] theorem setFld_ach (a hi lo v : Nat) (s : State) : (setFld a hi lo v s).ach = s.ach := rfl
@[simp] theorem setFld_cle (a hi lo v : Nat) (s : State) : (setFld a hi lo v s).cle = s.cle := rfl
@[simp] theorem setFld_slv (a hi lo v : Nat) (s : State) : (setFld a hi lo v s).slv = s.slv := rfl
@[simp] theorem setFld_saf (a hi lo v : Nat) (s : State) : (setFld a hi lo v s).saf = s.saf := rfl
@[simp] theorem setFld_mbc (a hi lo v : Nat) (s : State) : (setFld a hi lo v s).mbc = s.mbc := rfl
@[simp] theorem setFld_maps (a hi lo v : Nat) (s : State) : (setFld a hi lo v s).maps = s.maps := rfl
@[simp] theorem setFld_mbcBad (a hi lo v : Nat) (s : State) : (setFld a hi lo v s).mbcBad = s.mbcBad := rfl
@[simp] theorem setFld_net (a hi lo v : Nat) (s : State) : (setFld a hi lo v s).net = s.net := rfl
@[simp] theorem setFld_msl (a hi lo v : Nat) (s : State) : (setFld a hi lo v s).msl = s.msl := rfl
@[simp] theorem setFld_mslMaps (a hi lo v : Nat) (s : State) : (setFld a hi lo v s).mslMaps = s.mslMaps := rfl
@[simp] theorem setFld_mgt (a hi lo v : Nat) (s : State) : (setFld a hi lo v s).mgt = s.mgt := rfl
@[simp] theorem setFld_slu (a hi lo v : Nat) (s : State) : (setFld a hi lo v s).slu = s.slu := rfl
@[simp] theorem setFld_upd (a hi lo v : Nat) (s : State) : (setFld a hi lo v s).upd = s.upd := rfl
@[simp] theorem setFld_fpd (a hi lo v : Nat) (s : State) : (setFld a hi lo v s).fpd = s.fpd := rfl
@[simp] theorem setFld_out (a hi lo v : Nat) (s : State) : (setFld a hi lo v s).out = s.out := rfl
@[simp] theorem setFld_draws (a hi lo v : Nat) (s : State) : (setFld a hi lo v s).draws = s.draws := rfl

/-! ### setFlag -/

@[simp] theorem setFlag_pending (a i : Nat) (b : Bool) (s : State) : (setFlag a i b s).pending = s.pending := rfl
@[simp] theorem setFlag_now (a i : Nat) (b : Bool) (s : State) : (setFlag a i b s).now = s.now := rfl
@[simp] theorem setFlag_wide (a i : Nat) (b : Bool) (s : State) : (setFlag a i b s).wide = s.wide := rfl
@[simp] theorem setFlag_effOld (a i : Nat) (b : Bool) (s : State) : (setFlag a i b s).effOld = s.effOld := rfl
@[simp] theorem setFlag_evtClk (a i : Nat) (b : Bool) (s : State) : (setFlag a i b s).evtClk = s.evtClk := rfl
@[simp] theorem setFlag_overlay (a i : Nat) (b : Bool) (s : State) : (setFlag a i b s).overlay = s.overlay := rfl
@[simp] theorem setFlag_overlayDig (a i : Nat) (b : Bool) (s : State) : (setFlag a i b s).overlayDig = s.overlayDig := rfl
@[simp] theorem setFlag_sheaf (a i : Nat) (b : Bool) (s : State) : (setFlag a i b s).sheaf = s.sheaf := rfl
@[simp] theorem setFlag_active (a i : Nat) (b : Bool) (s : State) : (setFlag a i b s).active = s.active := rfl
@[simp] theorem setFlag_img (a i : Nat) (b : Bool) (s : State) : (setFlag a i b s).img = s.img := rfl
@[simp] theorem setFlag_seq (a i : Nat) (b : Bool) (s : State) : (setFlag a i b s).seq = s.seq := rfl
@[simp] theorem setFlag_tbu (a i : Nat) (b : Bool) (s : State) : (setFlag a i b s).tbu = s.tbu := rfl
@[simp] theorem setFlag_grn (a i : Nat) (b : Bool) (s : State) : (setFlag a i b s).grn = s.grn := rfl
@[simp] theorem setFlag_pmc (a i : Nat) (b : Bool) (s : State) : (setFlag a i b s).pmc = s.pmc := rfl
@[simp] theorem setFlag_ses (a i : Nat) (b : Bool) (s : State) : (setFlag a i b s).ses = s.ses := rfl
@[simp] theorem setFlag_pwr (a i : Nat) (b : Bool) (s : State) : (setFlag a i b s).pwr = s.pwr := rfl
@[simp] theorem setFlag_red (a i : Nat) (b : Bool) (s : State) : (setFlag a i b s).red = s.red := rfl
@[simp] theorem setFlag_dio (a i : Nat) (b : Bool) (s : State) : (setFlag a i b s).dio = s.dio := rfl
@[simp] theorem setFlag_piu (a i : Nat) (b : Bool) (s : State) : (setFlag a i b s).piu = s.piu := rfl
@[simp] theorem setFlag_gmu (a i : Nat) (b : Bool) (s : State) : (setFlag a i b s).gmu = s.gmu := rfl
@[simp] theorem setFlag_syn (a i : Nat) (b : Bool) (s : State) : (setFlag a i b s).syn = s.syn := rfl
@[simp] theorem setFlag_ach (a i : Nat) (b : Bool) (s : State) : (setFlag a i b s).ach = s.ach := rfl
@[simp] theorem setFlag_cle (a i : Nat) (b : Bool) (s : State) : (setFlag a i b s).cle = s.cle := rfl
@[simp] theorem setFlag_slv (a i : Nat) (b : Bool) (s : State) : (setFlag a i b s).slv = s.slv := rfl
@[simp] theorem setFlag_saf (a i : Nat) (b : Bool) (s : State) : (setFlag a i b s).saf = s.saf := rfl
@[simp] theorem setFlag_mbc (a i : Nat) (b : Bool) (s : State) : (setFlag a i b s).mbc = s.mbc := rfl
@[simp] theorem setFlag_maps (a i : Nat) (b : Bool) (s : State) : (setFlag a i b s).maps = s.maps := rfl
@[simp] theorem setFlag_mbcBad (a i : Nat) (b : Bool) (s : State) : (setFlag a i b s).mbcBad = s.mbcBad := rfl
@[simp] theorem setFlag_net (a i : Nat) (b : Bool) (s : State) : (setFlag a i b s).net = s.net := rfl
@[simp] theorem setFlag_msl (a i : Nat) (b : Bool) (s : State) : (setFlag a i b s).msl = s.msl := rfl
@[simp] theorem setFlag_mslMaps (a i : Nat) (b : Bool) (s : State) : (setFlag a i b s).mslMaps = s.mslMaps := rfl
@[simp] theorem setFlag_mgt (a i : Nat) (b : Bool) (s : State) : (setFlag a i b s).mgt = s.mgt := rfl
@[simp] theorem setFlag_slu (a i : Nat) (b : Bool) (s : State) : (setFlag a i b s).slu = s.slu := rfl
@[simp] theorem setFlag_upd (a i : Nat) (b : Bool) (s : State) : (setFlag a i b s).upd = s.upd := rfl
@[simp] theorem setFlag_fpd (a i : Nat) (b : Bool) (s : State) : (setFlag a i b s).fpd = s.fpd := rfl
@[simp] theorem setFlag_out (a i : Nat) (b : Bool) (s : State) : (setFlag a i b s).out = s.out := rfl
@[simp] theorem setFlag_draws (a i : Nat) (b : Bool) (s : State) : (setFlag a i b s).draws = s.draws := rfl

/-! ### bump -/

@[simp] theorem bump_pending (a n : Nat) (s : State) : (bump a n s).pending = s.pending := rfl
@[simp] theorem bump_now (a n : Nat) (s : State) : (bump a n s).now = s.now := rfl
@[simp] theorem bump_wide (a n : Nat) (s : State) : (bump a n s).wide = s.wide := rfl
@[simp] theorem bump_effOld (a n : Nat) (s : State) : (bump a n s).effOld = s.effOld := rfl
@[simp] theorem bump_evtClk (a n : Nat) (s : State) : (bump a n s).evtClk = s.evtClk := rfl
@[simp] theorem bump_overlay (a n : Nat) (s : State) : (bump a n s).overlay = s.overlay := rfl
@[simp] theorem bump_overlayDig (a n : Nat) (s : State) : (bump a n s).overlayDig = s.overlayDig := rfl
@[simp] theorem bump_sheaf (a n : Nat) (s : State) : (bump a n s).sheaf = s.sheaf := rfl
@[simp] theorem bump_active (a n : Nat) (s : State) : (bump a n s).active = s.active := rfl
@[simp] theorem bump_img (a n : Nat) (s : State) : (bump a n s).img = s.img := rfl
@[simp] theorem bump_seq (a n : Nat) (s : State) : (bump a n s).seq = s.seq := rfl
@[simp] theorem bump_tbu (a n : Nat) (s : State) : (bump a n s).tbu = s.tbu := rfl
@[simp] theorem bump_grn (a n : Nat) (s : State) : (bump a n s).grn = s.grn := rfl
@[simp] theorem bump_pmc (a n : Nat) (s : State) : (bump a n s).pmc = s.pmc := rfl
@[simp] theorem bump_ses (a n : Nat) (s : State) : (bump a n s).ses = s.ses := rfl
@[simp] theorem bump_pwr (a n : Nat) (s : State) : (bump a n s).pwr = s.pwr := rfl
@[simp] theorem bump_red (a n : Nat) (s : State) : (bump a n s).red = s.red := rfl
@[simp] theorem bump_dio (a n : Nat) (s : State) : (bump a n s).dio = s.dio := rfl
@[simp] theorem bump_piu (a n : Nat) (s : State) : (bump a n s).piu = s.piu := rfl
@[simp] theorem bump_gmu (a n : Nat) (s : State) : (bump a n s).gmu = s.gmu := rfl
@[simp] theorem bump_syn (a n : Nat) (s : State) : (bump a n s).syn = s.syn := rfl
@[simp] theorem bump_ach (a n : Nat) (s : State) : (bump a n s).ach = s.ach := rfl
@[simp] theorem bump_cle (a n : Nat) (s : State) : (bump a n s).cle = s.cle := rfl
@[simp] theorem bump_slv (a n : Nat) (s : State) : (bump a n s).slv = s.slv := rfl
@[simp] theorem bump_saf (a n : Nat) (s : State) : (bump a n s).saf = s.saf := rfl
@[simp] theorem bump_mbc (a n : Nat) (s : State) : (bump a n s).mbc = s.mbc := rfl
@[simp] theorem bump_maps (a n : Nat) (s : State) : (bump a n s).maps = s.maps := rfl
@[simp] theorem bump_mbcBad (a n : Nat) (s : State) : (bump a n s).mbcBad = s.mbcBad := rfl
@[simp] theorem bump_net (a n : Nat) (s : State) : (bump a n s).net = s.net := rfl
@[simp] theorem bump_msl (a n : Nat) (s : State) : (bump a n s).msl = s.msl := rfl
@[simp] theorem bump_mslMaps (a n : Nat) (s : State) : (bump a n s).mslMaps = s.mslMaps := rfl
@[simp] theorem bump_mgt (a n : Nat) (s : State) : (bump a n s).mgt = s.mgt := rfl
@[simp] theorem bump_slu (a n : Nat) (s : State) : (bump a n s).slu = s.slu := rfl
@[simp] theorem bump_upd (a n : Nat) (s : State) : (bump a n s).upd = s.upd := rfl
@[simp] theorem bump_fpd (a n : Nat) (s : State) : (bump a n s).fpd = s.fpd := rfl
@[simp] theorem bump_out (a n : Nat) (s : State) : (bump a n s).out = s.out := rfl
@[simp] theorem bump_draws (a n : Nat) (s : State) : (bump a n s).draws = s.draws := rfl

/-! ### wrF -/

@[simp] theorem wrF_pending (a : Nat) (x : FVal) (s : State) : (wrF a x s).pending = s.pending := rfl
@[simp] theorem wrF_now (a : Nat) (x : FVal) (s : State) : (wrF a x s).now = s.now := rfl
@[simp] theorem wrF_wide (a : Nat) (x : FVal) (s : State) : (wrF a x s).wide = s.wide := rfl
@[simp] theorem wrF_effOld (a : Nat) (x : FVal) (s : State) : (wrF a x s).effOld = s.effOld := rfl
@[simp] theorem wrF_evtClk (a : Nat) (x : FVal) (s : State) : (wrF a x s).evtClk = s.evtClk := rfl
@[simp] theorem wrF_overlay (a : Nat) (x : FVal) (s : State) : (wrF a x s).overlay = s.overlay := rfl
@[simp] theorem wrF_overlayDig (a : Nat) (x : FVal) (s : State) : (wrF a x s).overlayDig = s.overlayDig := rfl
@[simp] theorem wrF_sheaf (a : Nat) (x : FVal) (s : State) : (wrF a x s).sheaf = s.sheaf := rfl
@[simp] theorem wrF_active (a : Nat) (x : FVal) (s : State) : (wrF a x s).active = s.active := rfl
@[simp] theorem wrF_img (a : Nat) (x : FVal) (s : State) : (wrF a x s).img = s.img := rfl
@[simp] theorem wrF_seq (a : Nat) (x : FVal) (s : State) : (wrF a x s).seq = s.seq := rfl
@[simp] theorem wrF_tbu (a : Nat) (x : FVal) (s : State) : (wrF a x s).tbu = s.tbu := rfl
@[simp] theorem wrF_grn (a : Nat) (x : FVal) (s : State) : (wrF a x s).grn = s.grn := rfl
@[simp] theorem wrF_pmc (a : Nat) (x : FVal) (s : State) : (wrF a x s).pmc = s.pmc := rfl
@[simp] theorem wrF_ses (a : Nat) (x : FVal) (s : State) : (wrF a x s).ses = s.ses := rfl
@[simp] theorem wrF_pwr (a : Nat) (x : FVal) (s : State) : (wrF a x s).pwr = s.pwr := rfl
@[simp] theorem wrF_red (a : Nat) (x : FVal) (s : State) : (wrF a x s).red = s.red := rfl
@[simp] theorem wrF_dio (a : Nat) (x : FVal) (s : State) : (wrF a x s).dio = s.dio := rfl
@[simp] theorem wrF_piu (a : Nat) (x : FVal) (s : State) : (wrF a x s).piu = s.piu := rfl
@[simp] theorem wrF_gmu (a : Nat) (x : FVal) (s : State) : (wrF a x s).gmu = s.gmu := rfl
@[simp] theorem wrF_syn (a : Nat) (x : FVal) (s : State) : (wrF a x s).syn = s.syn := rfl
@[simp] theorem wrF_ach (a : Nat) (x : FVal) (s : State) : (wrF a x s).ach = s.ach := rfl
@[simp] theorem wrF_cle (a : Nat) (x : FVal) (s : State) : (wrF a x s).cle = s.cle := rfl
@[simp] theorem wrF_slv (a : Nat) (x : FVal) (s : State) : (wrF a x s).slv = s.slv := rfl
@[simp] theorem wrF_saf (a : Nat) (x : FVal) (s : State) : (wrF a x s).saf = s.saf := rfl
@[simp] theorem wrF_mbc (a : Nat) (x : FVal) (s : State) : (wrF a x s).mbc = s.mbc := rfl
@[simp] theorem wrF_maps (a : Nat) (x : FVal) (s : State) : (wrF a x s).maps = s.maps := rfl
@[simp] theorem wrF_mbcBad (a : Nat) (x : FVal) (s : State) : (wrF a x s).mbcBad = s.mbcBad := rfl
@[simp] theorem wrF_net (a : Nat) (x : FVal) (s : State) : (wrF a x s).net = s.net := rfl
@[simp] theorem wrF_msl (a : Nat) (x : FVal) (s : State) : (wrF a x s).msl = s.msl := rfl
@[simp] theorem wrF_mslMaps (a : Nat) (x : FVal) (s : State) : (wrF a x s).mslMaps = s.mslMaps := rfl
@[simp] theorem wrF_mgt (a : Nat) (x : FVal) (s : State) : (wrF a x s).mgt = s.mgt := rfl
@[simp] theorem wrF_slu (a : Nat) (x : FVal) (s : State) : (wrF a x s).slu = s.slu := rfl
@[simp] theorem wrF_upd (a : Nat) (x : FVal) (s : State) : (wrF a x s).upd = s.upd := rfl
@[simp] theorem wrF_fpd (a : Nat) (x : FVal) (s : State) : (wrF a x s).fpd = s.fpd := rfl
@[simp] theorem wrF_out (a : Nat) (x : FVal) (s : State) : (wrF a x s).out = s.out := rfl
@[simp] theorem wrF_draws (a : Nat) (x : FVal) (s : State) : (wrF a x s).draws = s.draws := rfl

/-! ### wideSet -/

@[simp] theorem wideSet_pending (a v : Nat) (s : State) : (wideSet a v s).pending = s.pending := rfl
@[simp] theorem wideSet_now (a v : Nat) (s : State) : (wideSet a v s).now = s.now := rfl
@[simp] theorem wideSet_regs (a v : Nat) (s : State) : (wideSet a v s).regs = s.regs := rfl
@[simp] theorem wideSet_effOld (a v : Nat) (s : State) : (wideSet a v s).effOld = s.effOld := rfl
@[simp] theorem wideSet_evtClk (a v : Nat) (s : State) : (wideSet a v s).evtClk = s.evtClk := rfl
@[simp] theorem wideSet_overlay (a v : Nat) (s : State) : (wideSet a v s).overlay = s.overlay := rfl
@[simp] theorem wideSet_overlayDig (a v : Nat) (s : State) : (wideSet a v s).overlayDig = s.overlayDig := rfl
@[simp] theorem wideSet_sheaf (a v : Nat) (s : State) : (wideSet a v s).sheaf = s.sheaf := rfl
@[simp] theorem wideSet_active (a v : Nat) (s : State) : (wideSet a v s).active = s.active := rfl
@[simp] theorem wideSet_img (a v : Nat) (s : State) : (wideSet a v s).img = s.img := rfl
@[simp] theorem wideSet_seq (a v : Nat) (s : State) : (wideSet a v s).seq = s.seq := rfl
@[simp] theorem wideSet_tbu (a v : Nat) (s : State) : (wideSet a v s).tbu = s.tbu := rfl
@[simp] theorem wideSet_grn (a v : Nat) (s : State) : (wideSet a v s).grn = s.grn := rfl
@[simp] theorem wideSet_pmc (a v : Nat) (s : State) : (wideSet a v s).pmc = s.pmc := rfl
@[simp] theorem wideSet_ses (a v : Nat) (s : State) : (wideSet a v s).ses = s.ses := rfl
@[simp] theorem wideSet_pwr (a v : Nat) (s : State) : (wideSet a v s).pwr = s.pwr := rfl
@[simp] theorem wideSet_red (a v : Nat) (s : State) : (wideSet a v s).red = s.red := rfl
@[simp] theorem wideSet_dio (a v : Nat) (s : State) : (wideSet a v s).dio = s.dio := rfl
@[simp] theorem wideSet_piu (a v : Nat) (s : State) : (wideSet a v s).piu = s.piu := rfl
@[simp] theorem wideSet_gmu (a v : Nat) (s : State) : (wideSet a v s).gmu = s.gmu := rfl
@[simp] theorem wideSet_syn (a v : Nat) (s : State) : (wideSet a v s).syn = s.syn := rfl
@[simp] theorem wideSet_ach (a v : Nat) (s : State) : (wideSet a v s).ach = s.ach := rfl
@[simp] theorem wideSet_cle (a v : Nat) (s : State) : (wideSet a v s).cle = s.cle := rfl
@[simp] theorem wideSet_slv (a v : Nat) (s : State) : (wideSet a v s).slv = s.slv := rfl
@[simp] theorem wideSet_saf (a v : Nat) (s : State) : (wideSet a v s).saf = s.saf := rfl
@[simp] theorem wideSet_mbc (a v : Nat) (s : State) : (wideSet a v s).mbc = s.mbc := rfl
@[simp] theorem wideSet_maps (a v : Nat) (s : State) : (wideSet a v s).maps = s.maps := rfl
@[simp] theorem wideSet_mbcBad (a v : Nat) (s : State) : (wideSet a v s).mbcBad = s.mbcBad := rfl
@[simp] theorem wideSet_net (a v : Nat) (s : State) : (wideSet a v s).net = s.net := rfl
@[simp] theorem wideSet_msl (a v : Nat) (s : State) : (wideSet a v s).msl = s.msl := rfl
@[simp] theorem wideSet_mslMaps (a v : Nat) (s : State) : (wideSet a v s).mslMaps = s.mslMaps := rfl
@[simp] theorem wideSet_mgt (a v : Nat) (s : State) : (wideSet a v s).mgt = s.mgt := rfl
@[simp] theorem wideSet_slu (a v : Nat) (s : State) : (wideSet a v s).slu = s.slu := rfl
@[simp] theorem wideSet_upd (a v : Nat) (s : State) : (wideSet a v s).upd = s.upd := rfl
@[simp] theorem wideSet_fpd (a v : Nat) (s : State) : (wideSet a v s).fpd = s.fpd := rfl
@[simp] theorem wideSet_out (a v : Nat) (s : State) : (wideSet a v s).out = s.out := rfl
@[simp] theorem wideSet_draws (a v : Nat) (s : State) : (wideSet a v s).draws = s.draws := rfl

/-! ### emit -/

@[simp] theorem emit_pending (o : Out) (s : State) : (emit o s).pending = s.pending := rfl
@[simp] theorem emit_now (o : Out) (s : State) : (emit o s).now = s.now := rfl
@[simp] theorem emit_regs (o : Out) (s : State) : (emit o s).regs = s.regs := rfl
@[simp] theorem emit_wide (o : Out) (s : State) : (emit o s).wide = s.wide := rfl
@[simp] theorem emit_effOld (o : Out) (s : State) : (emit o s).effOld = s.effOld := rfl
@[simp] theorem emit_evtClk (o : Out) (s : State) : (emit o s).evtClk = s.evtClk := rfl
@[simp] theorem emit_overlay (o : Out) (s : State) : (emit o s).overlay = s.overlay := rfl
@[simp] theorem emit_overlayDig (o : Out) (s : State) : (emit o s).overlayDig = s.overlayDig := rfl
@[simp] theorem emit_sheaf (o : Out) (s : State) : (emit o s).sheaf = s.sheaf := rfl
@[simp] theorem emit_active (o : Out) (s : State) : (emit o s).active = s.active := rfl
@[simp] theorem emit_img (o : Out) (s : State) : (emit o s).img = s.img := rfl
@[simp] theorem emit_seq (o : Out) (s : State) : (emit o s).seq = s.seq := rfl
@[simp] theorem emit_tbu (o : Out) (s : State) : (emit o s).tbu = s.tbu := rfl
@[simp] theorem emit_grn (o : Out) (s : State) : (emit o s).grn = s.grn := rfl
@[simp] theorem emit_pmc (o : Out) (s : State) : (emit o s).pmc = s.pmc := rfl
@[simp] theorem emit_ses (o : Out) (s : State) : (emit o s).ses = s.ses := rfl
@[simp] theorem emit_pwr (o : Out) (s : State) : (emit o s).pwr = s.pwr := rfl
@[simp] theorem emit_red (o : Out) (s : State) : (emit o s).red = s.red := rfl
@[simp] theorem emit_dio (o : Out) (s : State) : (emit o s).dio = s.dio := rfl
@[simp] theorem emit_piu (o : Out) (s : State) : (emit o s).piu = s.piu := rfl
@[simp] theorem emit_gmu (o : Out) (s : State) : (emit o s).gmu = s.gmu := rfl
@[simp] theorem emit_syn (o : Out) (s : State) : (emit o s).syn = s.syn := rfl
@[simp] theorem emit_ach (o : Out) (s : State) : (emit o s).ach = s.ach := rfl
@[simp] theorem emit_cle (o : Out) (s : State) : (emit o s).cle = s.cle := rfl
@[simp] theorem emit_slv (o : Out) (s : State) : (emit o s).slv = s.slv := rfl
@[simp] theorem emit_saf (o : Out) (s : State) : (emit o s).saf = s.saf := rfl
@[simp] theorem emit_mbc (o : Out) (s : State) : (emit o s).mbc = s.mbc := rfl
@[simp] theorem emit_maps (o : Out) (s : State) : (emit o s).maps = s.maps := rfl
@[simp] theorem emit_mbcBad (o : Out) (s : State) : (emit o s).mbcBad = s.mbcBad := rfl
@[simp] theorem emit_net (o : Out) (s : State) : (emit o s).net = s.net := rfl
@[simp] theorem emit_msl (o : Out) (s : State) : (emit o s).msl = s.msl := rfl
@[simp] theorem emit_mslMaps (o : Out) (s : State) : (emit o s).mslMaps = s.mslMaps := rfl
@[simp] theorem emit_mgt (o : Out) (s : State) : (emit o s).mgt = s.mgt := rfl
@[simp] theorem emit_slu (o : Out) (s : State) : (emit o s).slu = s.slu := rfl
@[simp] theorem emit_upd (o : Out) (s : State) : (emit o s).upd = s.upd := rfl
@[simp] theorem emit_fpd (o : Out) (s : State) : (emit o s).fpd = s.fpd := rfl
@[simp] theorem emit_draws (o : Out) (s : State) : (emit o s).draws = s.draws := rfl

/-! ### drawNext -/

@[simp] theorem drawNext_pending (s : State) : (drawNext s).pending = s.pending := rfl
@[simp] theorem drawNext_now (s : State) : (drawNext s).now = s.now := rfl
@[simp] theorem drawNext_regs (s : State) : (drawNext s).regs = s.regs := rfl
@[simp] theorem drawNext_wide (s : State) : (drawNext s).wide = s.wide := rfl
@[simp] theorem drawNext_effOld (s : State) : (drawNext s).effOld = s.effOld := rfl
@[simp] theorem drawNext_evtClk (s : State) : (drawNext s).evtClk = s.evtClk := rfl
@[simp] theorem drawNext_overlay (s : State) : (drawNext s).overlay = s.overlay := rfl
@[simp] theorem drawNext_overlayDig (s : State) : (drawNext s).overlayDig = s.overlayDig := rfl
@[simp] theorem drawNext_sheaf (s : State) : (drawNext s).sheaf = s.sheaf := rfl
@[simp] theorem drawNext_active (s : State) : (drawNext s).active = s.active := rfl
@[simp] theorem drawNext_img (s : State) : (drawNext s).img = s.img := rfl
@[simp] theorem drawNext_seq (s : State) : (drawNext s).seq = s.seq := rfl
@[simp] theorem drawNext_tbu (s : State) : (drawNext s).tbu = s.tbu := rfl
@[simp] theorem drawNext_grn (s : State) : (drawNext s).grn = s.grn := rfl
@[simp] theorem drawNext_pmc (s : State) : (drawNext s).pmc = s.pmc := rfl
@[simp] theorem drawNext_ses (s : State) : (drawNext s).ses = s.ses := rfl
@[simp] theorem drawNext_pwr (s : State) : (drawNext s).pwr = s.pwr := rfl
@[simp] theorem drawNext_red (s : State) : (drawNext s).red = s.red := rfl
@[simp] theorem drawNext_dio (s : State) : (drawNext s).dio = s.dio := rfl
@[simp] theorem drawNext_piu (s : State) : (drawNext s).piu = s.piu := rfl
@[simp] theorem drawNext_gmu (s : State) : (drawNext s).gmu = s.gmu := rfl
@[simp] theorem drawNext_syn (s : State) : (drawNext s).syn = s.syn := rfl
@[simp] theorem drawNext_ach (s : State) : (drawNext s).ach = s.ach := rfl
@[simp] theorem drawNext_cle (s : State) : (drawNext s).cle = s.cle := rfl
@[simp] theorem drawNext_slv (s : State) : (drawNext s).slv = s.slv := rfl
@[simp] theorem drawNext_saf (s : State) : (drawNext s).saf = s.saf := rfl
@[simp] theorem drawNext_mbc (s : State) : (drawNext s).mbc = s.mbc := rfl
@[simp] theorem drawNext_maps (s : State) : (drawNext s).maps = s.maps := rfl
@[simp] theorem drawNext_mbcBad (s : State) : (drawNext s).mbcBad = s.mbcBad := rfl
@[simp] theorem drawNext_net (s : State) : (drawNext s).net = s.net := rfl
@[simp] theorem drawNext_msl (s : State) : (drawNext s).msl = s.msl := rfl
@[simp] theorem drawNext_mslMaps (s : State) : (drawNext s).mslMaps = s.mslMaps := rfl
@[simp] theorem drawNext_mgt (s : State) : (drawNext s).mgt = s.mgt := rfl
@[simp] theorem drawNext_slu (s : State) : (drawNext s).slu = s.slu := rfl
@[simp] theorem drawNext_upd (s : State) : (drawNext s).upd = s.upd := rfl
@[simp] theorem drawNext_fpd (s : State) : (drawNext s).fpd = s.fpd := rfl
@[simp] theorem drawNext_out (s : State) : (drawNext s).out = s.out := rfl

/-! ### pmcAdd -/

@[simp] theorem pmcAdd_pending (i n : Nat) (s : State) : (pmcAdd i n s).pending = s.pending := rfl
@[simp] theorem pmcAdd_now (i n : Nat) (s : State) : (pmcAdd i n s).now = s.now := rfl
@[simp] theorem pmcAdd_regs (i n : Nat) (s : State) : (pmcAdd i n s).regs = s.regs := rfl
@[simp] theorem pmcAdd_wide (i n : Nat) (s : State) : (pmcAdd i n s).wide = s.wide := rfl
@[simp] theorem pmcAdd_effOld (i n : Nat) (s : State) : (pmcAdd i n s).effOld = s.effOld := rfl
@[simp] theorem pmcAdd_evtClk (i n : Nat) (s : State) : (pmcAdd i n s).evtClk = s.evtClk := rfl
@[simp] theorem pmcAdd_overlay (i n : Nat) (s : State) : (pmcAdd i n s).overlay = s.overlay := rfl
@[simp] theorem pmcAdd_overlayDig (i n : Nat) (s : State) : (pmcAdd i n s).overlayDig = s.overlayDig := rfl
@[simp] theorem pmcAdd_sheaf (i n : Nat) (s : State) : (pmcAdd i n s).sheaf = s.sheaf := rfl
@[simp] theorem pmcAdd_active (i n : Nat) (s : State) : (pmcAdd i n s).active = s.active := rfl
@[simp] theorem pmcAdd_img (i n : Nat) (s : State) : (pmcAdd i n s).img = s.img := rfl
@[simp] theorem pmcAdd_seq (i n : Nat) (s : State) : (pmcAdd i n s).seq = s.seq := rfl
@[simp] theorem pmcAdd_tbu (i n : Nat) (s : State) : (pmcAdd i n s).tbu = s.tbu := rfl
@[simp] theorem pmcAdd_grn (i n : Nat) (s : State) : (pmcAdd i n s).grn = s.grn := rfl
@[simp] theorem pmcAdd_ses (i n : Nat) (s : State) : (pmcAdd i n s).ses = s.ses := rfl
@[simp] theorem pmcAdd_pwr (i n : Nat) (s : State) : (pmcAdd i n s).pwr = s.pwr := rfl
@[simp] theorem pmcAdd_red (i n : Nat) (s : State) : (pmcAdd i n s).red = s.red := rfl
@[simp] theorem pmcAdd_dio (i n : Nat) (s : State) : (pmcAdd i n s).dio = s.dio := rfl
@[simp] theorem pmcAdd_piu (i n : Nat) (s : State) : (pmcAdd i n s).piu = s.piu := rfl
@[simp] theorem pmcAdd_gmu (i n : Nat) (s : State) : (pmcAdd i n s).gmu = s.gmu := rfl
@[simp] theorem pmcAdd_syn (i n : Nat) (s : State) : (pmcAdd i n s).syn = s.syn := rfl
@[simp] theorem pmcAdd_ach (i n : Nat) (s : State) : (pmcAdd i n s).ach = s.ach := rfl
@[simp] theorem pmcAdd_cle (i n : Nat) (s : State) : (pmcAdd i n s).cle = s.cle := rfl
@[simp] theorem pmcAdd_slv (i n : Nat) (s : State) : (pmcAdd i n s).slv = s.slv := rfl
@[simp] theorem pmcAdd_saf (i n : Nat) (s : State) : (pmcAdd i n s).saf = s.saf := rfl
@[simp] theorem pmcAdd_mbc (i n : Nat) (s : State) : (pmcAdd i n s).mbc = s.mbc := rfl
@[simp] theorem pmcAdd_maps (i n : Nat) (s : State) : (pmcAdd i n s).maps = s.maps := rfl
@[simp] theorem pmcAdd_mbcBad (i n : Nat) (s : State) : (pmcAdd i n s).mbcBad = s.mbcBad := rfl
@[simp] theorem pmcAdd_net (i n : Nat) (s : State) : (pmcAdd i n s).net = s.net := rfl
@[simp] theorem pmcAdd_msl (i n : Nat) (s : State) : (pmcAdd i n s).msl = s.msl := rfl
@[simp] theorem pmcAdd_mslMaps (i n : Nat) (s : State) : (pmcAdd i n s).mslMaps = s.mslMaps := rfl
@[simp] theorem pmcAdd_mgt (i n : Nat) (s : State) : (pmcAdd i n s).mgt = s.mgt := rfl
@[simp] theorem pmcAdd_slu (i n : Nat) (s : State) : (pmcAdd i n s).slu = s.slu := rfl
@[simp] theorem pmcAdd_upd (i n : Nat) (s : State) : (pmcAdd i n s).upd = s.upd := rfl
@[simp] theorem pmcAdd_fpd (i n : Nat) (s : State) : (pmcAdd i n s).fpd = s.fpd := rfl
@[simp] theorem pmcAdd_out (i n : Nat) (s : State) : (pmcAdd i n s).out = s.out := rfl
@[simp] theorem pmcAdd_draws (i n : Nat) (s : State) : (pmcAdd i n s).draws = s.draws := rfl

/-! ### pmcInc -/

@[simp] theorem pmcInc_pending (i : Nat) (s : State) : (pmcInc i s).pending = s.pending := rfl
@[simp] theorem pmcInc_now (i : Nat) (s : State) : (pmcInc i s).now = s.now := rfl
@[simp] theorem pmcInc_regs (i : Nat) (s : State) : (pmcInc i s).regs = s.regs := rfl
@[simp] theorem pmcInc_wide (i : Nat) (s : State) : (pmcInc i s).wide = s.wide := rfl
@[simp] theorem pmcInc_effOld (i : Nat) (s : State) : (pmcInc i s).effOld = s.effOld := rfl
@[simp] theorem pmcInc_evtClk (i : Nat) (s : State) : (pmcInc i s).evtClk = s.evtClk := rfl
@[simp] theorem pmcInc_overlay (i : Nat) (s : State) : (pmcInc i s).overlay = s.overlay := rfl
@[simp] theorem pmcInc_overlayDig (i : Nat) (s : State) : (pmcInc i s).overlayDig = s.overlayDig := rfl
@[simp] theorem pmcInc_sheaf (i : Nat) (s : State) : (pmcInc i s).sheaf = s.sheaf := rfl
@[simp] theorem pmcInc_active (i : Nat) (s : State) : (pmcInc i s).active = s.active := rfl
@[simp] theorem pmcInc_img (i : Nat) (s : State) : (pmcInc i s).img = s.img := rfl
@[simp] theorem pmcInc_seq (i : Nat) (s : State) : (pmcInc i s).seq = s.seq := rfl
@[simp] theorem pmcInc_tbu (i : Nat) (s : State) : (pmcInc i s).tbu = s.tbu := rfl
@[simp] theorem pmcInc_grn (i : Nat) (s : State) : (pmcInc i s).grn = s.grn := rfl
@[simp] theorem pmcInc_ses (i : Nat) (s : State) : (pmcInc i s).ses = s.ses := rfl
@[simp] theorem pmcInc_pwr (i : Nat) (s : State) : (pmcInc i s).pwr = s.pwr := rfl
@[simp] theorem pmcInc_red (i : Nat) (s : State) : (pmcInc i s).red = s.red := rfl
@[simp] theorem pmcInc_dio (i : Nat) (s : State) : (pmcInc i s).dio = s.dio := rfl
@[simp] theorem pmcInc_piu (i : Nat) (s : State) : (pmcInc i s).piu = s.piu := rfl
@[simp] theorem pmcInc_gmu (i : Nat) (s : State) : (pmcInc i s).gmu = s.gmu := rfl
@[simp] theorem pmcInc_syn (i : Nat) (s : State) : (pmcInc i s).syn = s.syn := rfl
@[simp] theorem pmcInc_ach (i : Nat) (s : State) : (pmcInc i s).ach = s.ach := rfl
@[simp] theorem pmcInc_cle (i : Nat) (s : State) : (pmcInc i s).cle = s.cle := rfl
@[simp] theorem pmcInc_slv (i : Nat) (s : State) : (pmcInc i s).slv = s.slv := rfl
@[simp] theorem pmcInc_saf (i : Nat) (s : State) : (pmcInc i s).saf = s.saf := rfl
@[simp] theorem pmcInc_mbc (i : Nat) (s : State) : (pmcInc i s).mbc = s.mbc := rfl
@[simp] theorem pmcInc_maps (i : Nat) (s : State) : (pmcInc i s).maps = s.maps := rfl
@[simp] theorem pmcInc_mbcBad (i : Nat) (s : State) : (pmcInc i s).mbcBad = s.mbcBad := rfl
@[simp] theorem pmcInc_net (i : Nat) (s : State) : (pmcInc i s).net = s.net := rfl
@[simp] theorem pmcInc_msl (i : Nat) (s : State) : (pmcInc i s).msl = s.msl := rfl
@[simp] theorem pmcInc_mslMaps (i : Nat) (s : State) : (pmcInc i s).mslMaps = s.mslMaps := rfl
@[simp] theorem pmcInc_mgt (i : Nat) (s : State) : (pmcInc i s).mgt = s.mgt := rfl
@[simp] theorem pmcInc_slu (i : Nat) (s : State) : (pmcInc i s).slu = s.slu := rfl
@[simp] theorem pmcInc_upd (i : Nat) (s : State) : (pmcInc i s).upd = s.upd := rfl
@[simp] theorem pmcInc_fpd (i : Nat) (s : State) : (pmcInc i s).fpd = s.fpd := rfl
@[simp] theorem pmcInc_out (i : Nat) (s : State) : (pmcInc i s).out = s.out := rfl
@[simp] theorem pmcInc_draws (i : Nat) (s : State) : (pmcInc i s).draws = s.draws := rfl

/-! ### putCell -/

@[simp] theorem putCell_pending (b w : Nat) (c : ICell) (s : State) : (putCell b w c s).pending = s.pending := rfl
@[simp] theorem putCell_now (b w : Nat) (c : ICell) (s : State) : (putCell b w c s).now = s.now := rfl
@[simp] theorem putCell_regs (b w : Nat) (c : ICell) (s : State) : (putCell b w c s).regs = s.regs := rfl
@[simp] theorem putCell_wide (b w : Nat) (c : ICell) (s : State) : (putCell b w c s).wide = s.wide := rfl
@[simp] theorem putCell_effOld (b w : Nat) (c : ICell) (s : State) : (putCell b w c s).effOld = s.effOld := rfl
@[simp] theorem putCell_evtClk (b w : Nat) (c : ICell) (s : State) : (putCell b w c s).evtClk = s.evtClk := rfl
@[simp] theorem putCell_overlay (b w : Nat) (c : ICell) (s : State) : (putCell b w c s).overlay = s.overlay := rfl
@[simp] theorem putCell_overlayDig (b w : Nat) (c : ICell) (s : State) : (putCell b w c s).overlayDig = s.overlayDig := rfl
@[simp] theorem putCell_sheaf (b w : Nat) (c : ICell) (s : State) : (putCell b w c s).sheaf = s.sheaf := rfl
@[simp] theorem putCell_active (b w : Nat) (c : ICell) (s : State) : (putCell b w c s).active = s.active := rfl
@[simp] theorem putCell_seq (b w : Nat) (c : ICell) (s : State) : (putCell b w c s).seq = s.seq := rfl
@[simp] theorem putCell_tbu (b w : Nat) (c : ICell) (s : State) : (putCell b w c s).tbu = s.tbu := rfl
@[simp] theorem putCell_grn (b w : Nat) (c : ICell) (s : State) : (putCell b w c s).grn = s.grn := rfl
@[simp] theorem putCell_pmc (b w : Nat) (c : ICell) (s : State) : (putCell b w c s).pmc = s.pmc := rfl
@[simp] theorem putCell_ses (b w : Nat) (c : ICell) (s : State) : (putCell b w c s).ses = s.ses := rfl
@[simp] theorem putCell_pwr (b w : Nat) (c : ICell) (s : State) : (putCell b w c s).pwr = s.pwr := rfl
@[simp] theorem putCell_red (b w : Nat) (c : ICell) (s : State) : (putCell b w c s).red = s.red := rfl
@[simp] theorem putCell_dio (b w : Nat) (c : ICell) (s : State) : (putCell b w c s).dio = s.dio := rfl
@[simp] theorem putCell_piu (b w : Nat) (c : ICell) (s : State) : (putCell b w c s).piu = s.piu := rfl
@[simp] theorem putCell_gmu (b w : Nat) (c : ICell) (s : State) : (putCell b w c s).gmu = s.gmu := rfl
@[simp] theorem putCell_syn (b w : Nat) (c : ICell) (s : State) : (putCell b w c s).syn = s.syn := rfl
@[simp] theorem putCell_ach (b w : Nat) (c : ICell) (s : State) : (putCell b w c s).ach = s.ach := rfl
@[simp] theorem putCell_cle (b w : Nat) (c : ICell) (s : State) : (putCell b w c s).cle = s.cle := rfl
@[simp] theorem putCell_slv (b w : Nat) (c : ICell) (s : State) : (putCell b w c s).slv = s.slv := rfl
@[simp] theorem putCell_saf (b w : Nat) (c : ICell) (s : State) : (putCell b w c s).saf = s.saf := rfl
@[simp] theorem putCell_mbc (b w : Nat) (c : ICell) (s : State) : (putCell b w c s).mbc = s.mbc := rfl
@[simp] theorem putCell_maps (b w : Nat) (c : ICell) (s : State) : (putCell b w c s).maps = s.maps := rfl
@[simp] theorem putCell_mbcBad (b w : Nat) (c : ICell) (s : State) : (putCell b w c s).mbcBad = s.mbcBad := rfl
@[simp] theorem putCell_net (b w : Nat) (c : ICell) (s : State) : (putCell b w c s).net = s.net := rfl
@[simp] theorem putCell_msl (b w : Nat) (c : ICell) (s : State) : (putCell b w c s).msl = s.msl := rfl
@[simp] theorem putCell_mslMaps (b w : Nat) (c : ICell) (s : State) : (putCell b w c s).mslMaps = s.mslMaps := rfl
@[simp] theorem putCell_mgt (b w : Nat) (c : ICell) (s : State) : (putCell b w c s).mgt = s.mgt := rfl
@[simp] theorem putCell_slu (b w : Nat) (c : ICell) (s : State) : (putCell b w c s).slu = s.slu := rfl
@[simp] theorem putCell_upd (b w : Nat) (c : ICell) (s : State) : (putCell b w c s).upd = s.upd := rfl
@[simp] theorem putCell_fpd (b w : Nat) (c : ICell) (s : State) : (putCell b w c s).fpd = s.fpd := rfl
@[simp] theorem putCell_out (b w : Nat) (c : ICell) (s : State) : (putCell b w c s).out = s.out := rfl
@[simp] theorem putCell_draws (b w : Nat) (c : ICell) (s : State) : (putCell b w c s).draws = s.draws := rfl

/-! ### putLaneCell -/

@[simp] theorem putLaneCell_pending (l b w : Nat) (c : ICell) (s : State) : (putLaneCell l b w c s).pending = s.pending := rfl
@[simp] theorem putLaneCell_now (l b w : Nat) (c : ICell) (s : State) : (putLaneCell l b w c s).now = s.now := rfl
@[simp] theorem putLaneCell_regs (l b w : Nat) (c : ICell) (s : State) : (putLaneCell l b w c s).regs = s.regs := rfl
@[simp] theorem putLaneCell_wide (l b w : Nat) (c : ICell) (s : State) : (putLaneCell l b w c s).wide = s.wide := rfl
@[simp] theorem putLaneCell_effOld (l b w : Nat) (c : ICell) (s : State) : (putLaneCell l b w c s).effOld = s.effOld := rfl
@[simp] theorem putLaneCell_evtClk (l b w : Nat) (c : ICell) (s : State) : (putLaneCell l b w c s).evtClk = s.evtClk := rfl
@[simp] theorem putLaneCell_overlay (l b w : Nat) (c : ICell) (s : State) : (putLaneCell l b w c s).overlay = s.overlay := rfl
@[simp] theorem putLaneCell_overlayDig (l b w : Nat) (c : ICell) (s : State) : (putLaneCell l b w c s).overlayDig = s.overlayDig := rfl
@[simp] theorem putLaneCell_sheaf (l b w : Nat) (c : ICell) (s : State) : (putLaneCell l b w c s).sheaf = s.sheaf := rfl
@[simp] theorem putLaneCell_active (l b w : Nat) (c : ICell) (s : State) : (putLaneCell l b w c s).active = s.active := rfl
@[simp] theorem putLaneCell_seq (l b w : Nat) (c : ICell) (s : State) : (putLaneCell l b w c s).seq = s.seq := rfl
@[simp] theorem putLaneCell_tbu (l b w : Nat) (c : ICell) (s : State) : (putLaneCell l b w c s).tbu = s.tbu := rfl
@[simp] theorem putLaneCell_grn (l b w : Nat) (c : ICell) (s : State) : (putLaneCell l b w c s).grn = s.grn := rfl
@[simp] theorem putLaneCell_pmc (l b w : Nat) (c : ICell) (s : State) : (putLaneCell l b w c s).pmc = s.pmc := rfl
@[simp] theorem putLaneCell_ses (l b w : Nat) (c : ICell) (s : State) : (putLaneCell l b w c s).ses = s.ses := rfl
@[simp] theorem putLaneCell_pwr (l b w : Nat) (c : ICell) (s : State) : (putLaneCell l b w c s).pwr = s.pwr := rfl
@[simp] theorem putLaneCell_red (l b w : Nat) (c : ICell) (s : State) : (putLaneCell l b w c s).red = s.red := rfl
@[simp] theorem putLaneCell_dio (l b w : Nat) (c : ICell) (s : State) : (putLaneCell l b w c s).dio = s.dio := rfl
@[simp] theorem putLaneCell_piu (l b w : Nat) (c : ICell) (s : State) : (putLaneCell l b w c s).piu = s.piu := rfl
@[simp] theorem putLaneCell_gmu (l b w : Nat) (c : ICell) (s : State) : (putLaneCell l b w c s).gmu = s.gmu := rfl
@[simp] theorem putLaneCell_syn (l b w : Nat) (c : ICell) (s : State) : (putLaneCell l b w c s).syn = s.syn := rfl
@[simp] theorem putLaneCell_ach (l b w : Nat) (c : ICell) (s : State) : (putLaneCell l b w c s).ach = s.ach := rfl
@[simp] theorem putLaneCell_cle (l b w : Nat) (c : ICell) (s : State) : (putLaneCell l b w c s).cle = s.cle := rfl
@[simp] theorem putLaneCell_slv (l b w : Nat) (c : ICell) (s : State) : (putLaneCell l b w c s).slv = s.slv := rfl
@[simp] theorem putLaneCell_saf (l b w : Nat) (c : ICell) (s : State) : (putLaneCell l b w c s).saf = s.saf := rfl
@[simp] theorem putLaneCell_mbc (l b w : Nat) (c : ICell) (s : State) : (putLaneCell l b w c s).mbc = s.mbc := rfl
@[simp] theorem putLaneCell_maps (l b w : Nat) (c : ICell) (s : State) : (putLaneCell l b w c s).maps = s.maps := rfl
@[simp] theorem putLaneCell_mbcBad (l b w : Nat) (c : ICell) (s : State) : (putLaneCell l b w c s).mbcBad = s.mbcBad := rfl
@[simp] theorem putLaneCell_net (l b w : Nat) (c : ICell) (s : State) : (putLaneCell l b w c s).net = s.net := rfl
@[simp] theorem putLaneCell_msl (l b w : Nat) (c : ICell) (s : State) : (putLaneCell l b w c s).msl = s.msl := rfl
@[simp] theorem putLaneCell_mslMaps (l b w : Nat) (c : ICell) (s : State) : (putLaneCell l b w c s).mslMaps = s.mslMaps := rfl
@[simp] theorem putLaneCell_mgt (l b w : Nat) (c : ICell) (s : State) : (putLaneCell l b w c s).mgt = s.mgt := rfl
@[simp] theorem putLaneCell_slu (l b w : Nat) (c : ICell) (s : State) : (putLaneCell l b w c s).slu = s.slu := rfl
@[simp] theorem putLaneCell_upd (l b w : Nat) (c : ICell) (s : State) : (putLaneCell l b w c s).upd = s.upd := rfl
@[simp] theorem putLaneCell_fpd (l b w : Nat) (c : ICell) (s : State) : (putLaneCell l b w c s).fpd = s.fpd := rfl
@[simp] theorem putLaneCell_out (l b w : Nat) (c : ICell) (s : State) : (putLaneCell l b w c s).out = s.out := rfl
@[simp] theorem putLaneCell_draws (l b w : Nat) (c : ICell) (s : State) : (putLaneCell l b w c s).draws = s.draws := rfl

/-! ### shipRebase -/

@[simp] theorem shipRebase_pending (s : State) : (shipRebase s).pending = s.pending := rfl
@[simp] theorem shipRebase_now (s : State) : (shipRebase s).now = s.now := rfl
@[simp] theorem shipRebase_regs (s : State) : (shipRebase s).regs = s.regs := rfl
@[simp] theorem shipRebase_wide (s : State) : (shipRebase s).wide = s.wide := rfl
@[simp] theorem shipRebase_effOld (s : State) : (shipRebase s).effOld = s.effOld := rfl
@[simp] theorem shipRebase_evtClk (s : State) : (shipRebase s).evtClk = s.evtClk := rfl
@[simp] theorem shipRebase_overlay (s : State) : (shipRebase s).overlay = s.overlay := rfl
@[simp] theorem shipRebase_overlayDig (s : State) : (shipRebase s).overlayDig = s.overlayDig := rfl
@[simp] theorem shipRebase_sheaf (s : State) : (shipRebase s).sheaf = s.sheaf := rfl
@[simp] theorem shipRebase_active (s : State) : (shipRebase s).active = s.active := rfl
@[simp] theorem shipRebase_img (s : State) : (shipRebase s).img = s.img := rfl
@[simp] theorem shipRebase_seq (s : State) : (shipRebase s).seq = s.seq := rfl
@[simp] theorem shipRebase_grn (s : State) : (shipRebase s).grn = s.grn := rfl
@[simp] theorem shipRebase_pmc (s : State) : (shipRebase s).pmc = s.pmc := rfl
@[simp] theorem shipRebase_ses (s : State) : (shipRebase s).ses = s.ses := rfl
@[simp] theorem shipRebase_pwr (s : State) : (shipRebase s).pwr = s.pwr := rfl
@[simp] theorem shipRebase_red (s : State) : (shipRebase s).red = s.red := rfl
@[simp] theorem shipRebase_dio (s : State) : (shipRebase s).dio = s.dio := rfl
@[simp] theorem shipRebase_piu (s : State) : (shipRebase s).piu = s.piu := rfl
@[simp] theorem shipRebase_gmu (s : State) : (shipRebase s).gmu = s.gmu := rfl
@[simp] theorem shipRebase_syn (s : State) : (shipRebase s).syn = s.syn := rfl
@[simp] theorem shipRebase_ach (s : State) : (shipRebase s).ach = s.ach := rfl
@[simp] theorem shipRebase_cle (s : State) : (shipRebase s).cle = s.cle := rfl
@[simp] theorem shipRebase_slv (s : State) : (shipRebase s).slv = s.slv := rfl
@[simp] theorem shipRebase_saf (s : State) : (shipRebase s).saf = s.saf := rfl
@[simp] theorem shipRebase_mbc (s : State) : (shipRebase s).mbc = s.mbc := rfl
@[simp] theorem shipRebase_maps (s : State) : (shipRebase s).maps = s.maps := rfl
@[simp] theorem shipRebase_mbcBad (s : State) : (shipRebase s).mbcBad = s.mbcBad := rfl
@[simp] theorem shipRebase_net (s : State) : (shipRebase s).net = s.net := rfl
@[simp] theorem shipRebase_msl (s : State) : (shipRebase s).msl = s.msl := rfl
@[simp] theorem shipRebase_mslMaps (s : State) : (shipRebase s).mslMaps = s.mslMaps := rfl
@[simp] theorem shipRebase_mgt (s : State) : (shipRebase s).mgt = s.mgt := rfl
@[simp] theorem shipRebase_slu (s : State) : (shipRebase s).slu = s.slu := rfl
@[simp] theorem shipRebase_upd (s : State) : (shipRebase s).upd = s.upd := rfl
@[simp] theorem shipRebase_fpd (s : State) : (shipRebase s).fpd = s.fpd := rfl
@[simp] theorem shipRebase_out (s : State) : (shipRebase s).out = s.out := rfl
@[simp] theorem shipRebase_draws (s : State) : (shipRebase s).draws = s.draws := rfl

/-! ### entryUpd -/

@[simp] theorem entryUpd_pending (u : Nat) (f : OutEntry → OutEntry) (s : State) : (entryUpd u f s).pending = s.pending := rfl
@[simp] theorem entryUpd_now (u : Nat) (f : OutEntry → OutEntry) (s : State) : (entryUpd u f s).now = s.now := rfl
@[simp] theorem entryUpd_regs (u : Nat) (f : OutEntry → OutEntry) (s : State) : (entryUpd u f s).regs = s.regs := rfl
@[simp] theorem entryUpd_wide (u : Nat) (f : OutEntry → OutEntry) (s : State) : (entryUpd u f s).wide = s.wide := rfl
@[simp] theorem entryUpd_effOld (u : Nat) (f : OutEntry → OutEntry) (s : State) : (entryUpd u f s).effOld = s.effOld := rfl
@[simp] theorem entryUpd_evtClk (u : Nat) (f : OutEntry → OutEntry) (s : State) : (entryUpd u f s).evtClk = s.evtClk := rfl
@[simp] theorem entryUpd_overlay (u : Nat) (f : OutEntry → OutEntry) (s : State) : (entryUpd u f s).overlay = s.overlay := rfl
@[simp] theorem entryUpd_overlayDig (u : Nat) (f : OutEntry → OutEntry) (s : State) : (entryUpd u f s).overlayDig = s.overlayDig := rfl
@[simp] theorem entryUpd_sheaf (u : Nat) (f : OutEntry → OutEntry) (s : State) : (entryUpd u f s).sheaf = s.sheaf := rfl
@[simp] theorem entryUpd_active (u : Nat) (f : OutEntry → OutEntry) (s : State) : (entryUpd u f s).active = s.active := rfl
@[simp] theorem entryUpd_img (u : Nat) (f : OutEntry → OutEntry) (s : State) : (entryUpd u f s).img = s.img := rfl
@[simp] theorem entryUpd_tbu (u : Nat) (f : OutEntry → OutEntry) (s : State) : (entryUpd u f s).tbu = s.tbu := rfl
@[simp] theorem entryUpd_grn (u : Nat) (f : OutEntry → OutEntry) (s : State) : (entryUpd u f s).grn = s.grn := rfl
@[simp] theorem entryUpd_pmc (u : Nat) (f : OutEntry → OutEntry) (s : State) : (entryUpd u f s).pmc = s.pmc := rfl
@[simp] theorem entryUpd_ses (u : Nat) (f : OutEntry → OutEntry) (s : State) : (entryUpd u f s).ses = s.ses := rfl
@[simp] theorem entryUpd_pwr (u : Nat) (f : OutEntry → OutEntry) (s : State) : (entryUpd u f s).pwr = s.pwr := rfl
@[simp] theorem entryUpd_red (u : Nat) (f : OutEntry → OutEntry) (s : State) : (entryUpd u f s).red = s.red := rfl
@[simp] theorem entryUpd_dio (u : Nat) (f : OutEntry → OutEntry) (s : State) : (entryUpd u f s).dio = s.dio := rfl
@[simp] theorem entryUpd_piu (u : Nat) (f : OutEntry → OutEntry) (s : State) : (entryUpd u f s).piu = s.piu := rfl
@[simp] theorem entryUpd_gmu (u : Nat) (f : OutEntry → OutEntry) (s : State) : (entryUpd u f s).gmu = s.gmu := rfl
@[simp] theorem entryUpd_syn (u : Nat) (f : OutEntry → OutEntry) (s : State) : (entryUpd u f s).syn = s.syn := rfl
@[simp] theorem entryUpd_ach (u : Nat) (f : OutEntry → OutEntry) (s : State) : (entryUpd u f s).ach = s.ach := rfl
@[simp] theorem entryUpd_cle (u : Nat) (f : OutEntry → OutEntry) (s : State) : (entryUpd u f s).cle = s.cle := rfl
@[simp] theorem entryUpd_slv (u : Nat) (f : OutEntry → OutEntry) (s : State) : (entryUpd u f s).slv = s.slv := rfl
@[simp] theorem entryUpd_saf (u : Nat) (f : OutEntry → OutEntry) (s : State) : (entryUpd u f s).saf = s.saf := rfl
@[simp] theorem entryUpd_mbc (u : Nat) (f : OutEntry → OutEntry) (s : State) : (entryUpd u f s).mbc = s.mbc := rfl
@[simp] theorem entryUpd_maps (u : Nat) (f : OutEntry → OutEntry) (s : State) : (entryUpd u f s).maps = s.maps := rfl
@[simp] theorem entryUpd_mbcBad (u : Nat) (f : OutEntry → OutEntry) (s : State) : (entryUpd u f s).mbcBad = s.mbcBad := rfl
@[simp] theorem entryUpd_net (u : Nat) (f : OutEntry → OutEntry) (s : State) : (entryUpd u f s).net = s.net := rfl
@[simp] theorem entryUpd_msl (u : Nat) (f : OutEntry → OutEntry) (s : State) : (entryUpd u f s).msl = s.msl := rfl
@[simp] theorem entryUpd_mslMaps (u : Nat) (f : OutEntry → OutEntry) (s : State) : (entryUpd u f s).mslMaps = s.mslMaps := rfl
@[simp] theorem entryUpd_mgt (u : Nat) (f : OutEntry → OutEntry) (s : State) : (entryUpd u f s).mgt = s.mgt := rfl
@[simp] theorem entryUpd_slu (u : Nat) (f : OutEntry → OutEntry) (s : State) : (entryUpd u f s).slu = s.slu := rfl
@[simp] theorem entryUpd_upd (u : Nat) (f : OutEntry → OutEntry) (s : State) : (entryUpd u f s).upd = s.upd := rfl
@[simp] theorem entryUpd_fpd (u : Nat) (f : OutEntry → OutEntry) (s : State) : (entryUpd u f s).fpd = s.fpd := rfl
@[simp] theorem entryUpd_out (u : Nat) (f : OutEntry → OutEntry) (s : State) : (entryUpd u f s).out = s.out := rfl
@[simp] theorem entryUpd_draws (u : Nat) (f : OutEntry → OutEntry) (s : State) : (entryUpd u f s).draws = s.draws := rfl

/-! ### goOn -/

@[simp] theorem goOn_pending (e : Entry) (ws : List Nat) (l : Nat) (td : List (Nat × Act)) (s : State) : (goOn e ws l td s).pending = s.pending := rfl
@[simp] theorem goOn_now (e : Entry) (ws : List Nat) (l : Nat) (td : List (Nat × Act)) (s : State) : (goOn e ws l td s).now = s.now := rfl
@[simp] theorem goOn_regs (e : Entry) (ws : List Nat) (l : Nat) (td : List (Nat × Act)) (s : State) : (goOn e ws l td s).regs = s.regs := rfl
@[simp] theorem goOn_wide (e : Entry) (ws : List Nat) (l : Nat) (td : List (Nat × Act)) (s : State) : (goOn e ws l td s).wide = s.wide := rfl
@[simp] theorem goOn_effOld (e : Entry) (ws : List Nat) (l : Nat) (td : List (Nat × Act)) (s : State) : (goOn e ws l td s).effOld = s.effOld := rfl
@[simp] theorem goOn_evtClk (e : Entry) (ws : List Nat) (l : Nat) (td : List (Nat × Act)) (s : State) : (goOn e ws l td s).evtClk = s.evtClk := rfl
@[simp] theorem goOn_overlay (e : Entry) (ws : List Nat) (l : Nat) (td : List (Nat × Act)) (s : State) : (goOn e ws l td s).overlay = s.overlay := rfl
@[simp] theorem goOn_overlayDig (e : Entry) (ws : List Nat) (l : Nat) (td : List (Nat × Act)) (s : State) : (goOn e ws l td s).overlayDig = s.overlayDig := rfl
@[simp] theorem goOn_sheaf (e : Entry) (ws : List Nat) (l : Nat) (td : List (Nat × Act)) (s : State) : (goOn e ws l td s).sheaf = s.sheaf := rfl
@[simp] theorem goOn_active (e : Entry) (ws : List Nat) (l : Nat) (td : List (Nat × Act)) (s : State) : (goOn e ws l td s).active = s.active := rfl
@[simp] theorem goOn_img (e : Entry) (ws : List Nat) (l : Nat) (td : List (Nat × Act)) (s : State) : (goOn e ws l td s).img = s.img := rfl
@[simp] theorem goOn_tbu (e : Entry) (ws : List Nat) (l : Nat) (td : List (Nat × Act)) (s : State) : (goOn e ws l td s).tbu = s.tbu := rfl
@[simp] theorem goOn_grn (e : Entry) (ws : List Nat) (l : Nat) (td : List (Nat × Act)) (s : State) : (goOn e ws l td s).grn = s.grn := rfl
@[simp] theorem goOn_pmc (e : Entry) (ws : List Nat) (l : Nat) (td : List (Nat × Act)) (s : State) : (goOn e ws l td s).pmc = s.pmc := rfl
@[simp] theorem goOn_ses (e : Entry) (ws : List Nat) (l : Nat) (td : List (Nat × Act)) (s : State) : (goOn e ws l td s).ses = s.ses := rfl
@[simp] theorem goOn_pwr (e : Entry) (ws : List Nat) (l : Nat) (td : List (Nat × Act)) (s : State) : (goOn e ws l td s).pwr = s.pwr := rfl
@[simp] theorem goOn_red (e : Entry) (ws : List Nat) (l : Nat) (td : List (Nat × Act)) (s : State) : (goOn e ws l td s).red = s.red := rfl
@[simp] theorem goOn_dio (e : Entry) (ws : List Nat) (l : Nat) (td : List (Nat × Act)) (s : State) : (goOn e ws l td s).dio = s.dio := rfl
@[simp] theorem goOn_piu (e : Entry) (ws : List Nat) (l : Nat) (td : List (Nat × Act)) (s : State) : (goOn e ws l td s).piu = s.piu := rfl
@[simp] theorem goOn_gmu (e : Entry) (ws : List Nat) (l : Nat) (td : List (Nat × Act)) (s : State) : (goOn e ws l td s).gmu = s.gmu := rfl
@[simp] theorem goOn_syn (e : Entry) (ws : List Nat) (l : Nat) (td : List (Nat × Act)) (s : State) : (goOn e ws l td s).syn = s.syn := rfl
@[simp] theorem goOn_ach (e : Entry) (ws : List Nat) (l : Nat) (td : List (Nat × Act)) (s : State) : (goOn e ws l td s).ach = s.ach := rfl
@[simp] theorem goOn_cle (e : Entry) (ws : List Nat) (l : Nat) (td : List (Nat × Act)) (s : State) : (goOn e ws l td s).cle = s.cle := rfl
@[simp] theorem goOn_slv (e : Entry) (ws : List Nat) (l : Nat) (td : List (Nat × Act)) (s : State) : (goOn e ws l td s).slv = s.slv := rfl
@[simp] theorem goOn_saf (e : Entry) (ws : List Nat) (l : Nat) (td : List (Nat × Act)) (s : State) : (goOn e ws l td s).saf = s.saf := rfl
@[simp] theorem goOn_mbc (e : Entry) (ws : List Nat) (l : Nat) (td : List (Nat × Act)) (s : State) : (goOn e ws l td s).mbc = s.mbc := rfl
@[simp] theorem goOn_maps (e : Entry) (ws : List Nat) (l : Nat) (td : List (Nat × Act)) (s : State) : (goOn e ws l td s).maps = s.maps := rfl
@[simp] theorem goOn_mbcBad (e : Entry) (ws : List Nat) (l : Nat) (td : List (Nat × Act)) (s : State) : (goOn e ws l td s).mbcBad = s.mbcBad := rfl
@[simp] theorem goOn_net (e : Entry) (ws : List Nat) (l : Nat) (td : List (Nat × Act)) (s : State) : (goOn e ws l td s).net = s.net := rfl
@[simp] theorem goOn_msl (e : Entry) (ws : List Nat) (l : Nat) (td : List (Nat × Act)) (s : State) : (goOn e ws l td s).msl = s.msl := rfl
@[simp] theorem goOn_mslMaps (e : Entry) (ws : List Nat) (l : Nat) (td : List (Nat × Act)) (s : State) : (goOn e ws l td s).mslMaps = s.mslMaps := rfl
@[simp] theorem goOn_mgt (e : Entry) (ws : List Nat) (l : Nat) (td : List (Nat × Act)) (s : State) : (goOn e ws l td s).mgt = s.mgt := rfl
@[simp] theorem goOn_slu (e : Entry) (ws : List Nat) (l : Nat) (td : List (Nat × Act)) (s : State) : (goOn e ws l td s).slu = s.slu := rfl
@[simp] theorem goOn_upd (e : Entry) (ws : List Nat) (l : Nat) (td : List (Nat × Act)) (s : State) : (goOn e ws l td s).upd = s.upd := rfl
@[simp] theorem goOn_fpd (e : Entry) (ws : List Nat) (l : Nat) (td : List (Nat × Act)) (s : State) : (goOn e ws l td s).fpd = s.fpd := rfl
@[simp] theorem goOn_out (e : Entry) (ws : List Nat) (l : Nat) (td : List (Nat × Act)) (s : State) : (goOn e ws l td s).out = s.out := rfl
@[simp] theorem goOn_draws (e : Entry) (ws : List Nat) (l : Nat) (td : List (Nat × Act)) (s : State) : (goOn e ws l td s).draws = s.draws := rfl

/-! ### What they change -/

@[simp] theorem wr_regs (a v : Nat) (s : State) : (wr a v s).regs = tabSet resetValue s.regs a (BitVec.ofNat 32 v) := rfl
@[simp] theorem wideSet_wide (a v : Nat) (s : State) : (wideSet a v s).wide = tabSet (fun _ => (0 : Nat)) s.wide a (v % 2 ^ 64) := rfl
@[simp] theorem emit_out (o : Out) (s : State) : (emit o s).out = o :: s.out := rfl
@[simp] theorem drawNext_draws (s : State) : (drawNext s).draws = s.draws + 1 := rfl
@[simp] theorem pmcAdd_thr (i n : Nat) (s : State) : (pmcAdd i n s).pmc.thr = s.pmc.thr := rfl
@[simp] theorem pmcAdd_jnlFill (i n : Nat) (s : State) : (pmcAdd i n s).pmc.jnlFill = s.pmc.jnlFill := rfl
@[simp] theorem pmcAdd_cnt (i n : Nat) (s : State) : (pmcAdd i n s).pmc.cnt =
    tabSet (fun _ => (0 : Nat)) s.pmc.cnt i ((tabGet (fun _ => (0 : Nat)) s.pmc.cnt i + n) % 2 ^ 48) := rfl
@[simp] theorem putCell_words (b w : Nat) (c : ICell) (s : State) :
    (putCell b w c s).img.words = tabSet (fun _ => cellInit) s.img.words (b * imgWords + w) c := rfl
@[simp] theorem putCell_ptr (b w : Nat) (c : ICell) (s : State) : (putCell b w c s).img.ptr = s.img.ptr := rfl
@[simp] theorem putCell_dirty (b w : Nat) (c : ICell) (s : State) : (putCell b w c s).img.dirty = s.img.dirty := rfl
@[simp] theorem putCell_copySet (b w : Nat) (c : ICell) (s : State) : (putCell b w c s).img.copySet = s.img.copySet := rfl
@[simp] theorem putCell_gen (b w : Nat) (c : ICell) (s : State) : (putCell b w c s).img.gen = s.img.gen := rfl
@[simp] theorem putLaneCell_words (l b w : Nat) (c : ICell) (s : State) : (putLaneCell l b w c s).img.words = s.img.words := rfl
@[simp] theorem putLaneCell_ptr (l b w : Nat) (c : ICell) (s : State) : (putLaneCell l b w c s).img.ptr = s.img.ptr := rfl
@[simp] theorem putLaneCell_dirty (l b w : Nat) (c : ICell) (s : State) : (putLaneCell l b w c s).img.dirty = s.img.dirty := rfl

end Sys2Proof.Machine
end

