-- ==== Sys2Proof/Laws/Regs.lean ====
section
/-! SUPPORT. The laws of registers, bit fields and pairs: what a register reads after a write to it or to another, said over states
whose tables are canonical. -/

namespace Sys2Proof.Machine

/-! ### Bit fields -/

/-- Every bit of a number with a field replaced. -/
theorem testBit_putBits (w hi lo v j : Nat) (hl : lo ≤ hi + 1) :
    (putBits w hi lo v).testBit j = if lo ≤ j ∧ j ≤ hi then v.testBit (j - lo) else w.testBit j := by
  obtain ⟨k, hk⟩ : ∃ k, hi + 1 - lo = k := ⟨_, rfl⟩
  have e : putBits w hi lo v = 2 ^ lo * (2 ^ k * (w / 2 ^ lo / 2 ^ k) + v % 2 ^ k) + w % 2 ^ lo := by
    have h1 := Nat.div_add_mod w (2 ^ lo)
    have h2 := Nat.div_add_mod (w / 2 ^ lo) (2 ^ k)
    simp only [putBits, hk, Nat.shiftRight_eq_div_pow, Nat.shiftLeft_eq]
    generalize w / 2 ^ lo / 2 ^ k = q at *
    generalize w / 2 ^ lo % 2 ^ k = f at *
    generalize w % 2 ^ lo = r at *
    generalize v % 2 ^ k = x at *
    rw [← h2] at h1
    generalize 2 ^ lo = a at *
    generalize 2 ^ k = b at *
    rw [Nat.mul_add] at h1 ⊢
    rw [Nat.mul_comm f a, Nat.mul_comm x a]
    omega
  rw [e, Nat.testBit_two_pow_mul_add _ (Nat.mod_lt _ (Nat.two_pow_pos lo))]
  by_cases h1 : j < lo
  · rw [if_pos h1, if_neg (by omega), Nat.testBit_mod_two_pow]
    simp [h1]
  · rw [if_neg h1, Nat.testBit_two_pow_mul_add _ (Nat.mod_lt _ (Nat.two_pow_pos k))]
    by_cases h2 : j - lo < k
    · rw [if_pos h2, if_pos (by omega), Nat.testBit_mod_two_pow]
      simp [h2]
    · rw [if_neg h2, if_neg (by omega), Nat.testBit_div_two_pow, Nat.testBit_div_two_pow]
      congr 1
      omega

/-- Every bit of a field read out of a number. -/
theorem testBit_bitsOf (w hi lo j : Nat) : (bitsOf w hi lo).testBit j = (decide (j < hi + 1 - lo) && w.testBit (lo + j)) := by
  rw [bitsOf, Nat.testBit_mod_two_pow, Nat.testBit_shiftRight]

theorem testBit_b2n (b : Bool) (j : Nat) : (b2n b).testBit j = (decide (j = 0) && b) := by
  cases b
  · simp [b2n]
  · cases j <;> simp [b2n, Nat.testBit_succ]

@[simp] theorem bitOf_putBit_self (w i : Nat) (b : Bool) : bitOf (putBit w i b) i = b := by
  rw [bitOf, putBit, testBit_putBits _ _ _ _ _ (by omega), if_pos ⟨Nat.le_refl _, Nat.le_refl _⟩, testBit_b2n]
  simp

theorem bitOf_putBit_ne (w : Nat) {i j : Nat} (b : Bool) (h : j ≠ i) : bitOf (putBit w i b) j = bitOf w j := by
  rw [bitOf, putBit, testBit_putBits _ _ _ _ _ (by omega), if_neg (by omega), bitOf]

theorem putBits_lt {w hi lo v n : Nat} (hw : w < 2 ^ n) (hl : lo ≤ hi + 1) (hn : hi < n) : putBits w hi lo v < 2 ^ n := by
  apply Nat.lt_pow_two_of_testBit
  intro j hj
  rw [testBit_putBits _ _ _ _ _ hl, if_neg (by omega)]
  exact Nat.testBit_lt_two_pow (Nat.lt_of_lt_of_le hw (Nat.pow_le_pow_right (by decide) hj))

@[simp] theorem bitsOf_putBits_self (w hi lo v : Nat) (h : lo ≤ hi + 1) : bitsOf (putBits w hi lo v) hi lo = v % 2 ^ (hi + 1 - lo) := by
  apply Nat.eq_of_testBit_eq
  intro j
  rw [testBit_bitsOf, testBit_putBits _ _ _ _ _ h, Nat.testBit_mod_two_pow]
  by_cases hj : j < hi + 1 - lo
  · rw [if_pos (by omega)]
    simp [hj]
  · simp [hj]

theorem bitsOf_putBits_ne (w hi lo v a b : Nat) (h : lo ≤ hi + 1) (hd : a < lo ∨ hi < b) :
    bitsOf (putBits w hi lo v) a b = bitsOf w a b := by
  apply Nat.eq_of_testBit_eq
  intro j
  rw [testBit_bitsOf, testBit_bitsOf, testBit_putBits _ _ _ _ _ h]
  by_cases hj : j < a + 1 - b
  · rw [if_neg (by omega)]
  · simp [hj]

/-! ### Registers -/

theorem rd_lt (s : State) (a : Nat) : rd s a < 2 ^ 32 := (tabGet resetValue s.regs a).isLt

/-- A register after a write. -/
theorem rd_wr {s : State} (h : s.tidy) (a v b : Nat) : rd (wr a v s) b = if b = a then v % 2 ^ 32 else rd s b := by
  simp only [rd, wr_regs, tabGet_set resetValue a b _ h.1]
  split
  · rfl
  · rfl

theorem rd_wr_self {s : State} (h : s.tidy) (a v : Nat) : rd (wr a v s) a = v % 2 ^ 32 := by rw [rd_wr h, if_pos rfl]

theorem rd_wr_ne {s : State} (h : s.tidy) {a b : Nat} (v : Nat) (hb : b ≠ a) : rd (wr a v s) b = rd s b := by rw [rd_wr h, if_neg hb]

theorem rd_setFld_ne {s : State} (h : s.tidy) {a b : Nat} (hi lo v : Nat) (hb : b ≠ a) : rd (setFld a hi lo v s) b = rd s b :=
  rd_wr_ne h _ hb

theorem rd_setFlag_ne {s : State} (h : s.tidy) {a b : Nat} (i : Nat) (x : Bool) (hb : b ≠ a) : rd (setFlag a i x s) b = rd s b :=
  rd_wr_ne h _ hb

theorem rd_bump_ne {s : State} (h : s.tidy) {a b : Nat} (n : Nat) (hb : b ≠ a) : rd (bump a n s) b = rd s b := rd_wr_ne h _ hb

/-- A saturating counter after it counted. -/
theorem rd_bump_self {s : State} (h : s.tidy) (a n : Nat) : rd (bump a n s) a = satAdd 0xFFFFFFFF (rd s a) n := by
  rw [bump, rd_wr_self h, Nat.mod_eq_of_lt]
  simp only [satAdd]
  omega

theorem rd_setFld_self {s : State} (h : s.tidy) (a : Nat) {hi lo : Nat} (v : Nat) (hl : lo ≤ hi + 1) (hn : hi < 32) :
    rd (setFld a hi lo v s) a = putBits (rd s a) hi lo v := by
  rw [setFld, rd_wr_self h, Nat.mod_eq_of_lt (putBits_lt (rd_lt s a) hl hn)]

/-- A field after it was written. -/
theorem fld_setFld_self {s : State} (h : s.tidy) (a : Nat) {hi lo : Nat} (v : Nat) (hl : lo ≤ hi + 1) (hn : hi < 32) :
    fld (setFld a hi lo v s) a hi lo = v % 2 ^ (hi + 1 - lo) := by
  rw [fld, rd_setFld_self h a v hl hn, bitsOf_putBits_self _ _ _ _ hl]

/-- A field after another field of its register, or another register, was written. -/
theorem fld_setFld_ne {s : State} (h : s.tidy) {a b hi lo x y : Nat} (v : Nat) (hl : lo ≤ hi + 1) (hn : hi < 32)
    (hd : b ≠ a ∨ x < lo ∨ hi < y) : fld (setFld a hi lo v s) b x y = fld s b x y := by
  by_cases hb : b = a
  · subst hb
    rw [fld, rd_setFld_self h b v hl hn, bitsOf_putBits_ne _ _ _ _ _ _ hl (by omega), fld]
  · rw [fld, rd_setFld_ne h hi lo v hb, fld]

theorem rd_setFlag_self {s : State} (h : s.tidy) (a : Nat) {i : Nat} (x : Bool) (hn : i < 32) :
    rd (setFlag a i x s) a = putBit (rd s a) i x := rd_setFld_self h a _ (by omega) hn

/-- A bit after it was written. -/
theorem flag_setFlag_self {s : State} (h : s.tidy) (a : Nat) {i : Nat} (x : Bool) (hn : i < 32) : flag (setFlag a i x s) a i = x := by
  rw [flag, rd_setFlag_self h a x hn, bitOf_putBit_self]

/-- A bit after another bit was written. -/
theorem flag_setFlag_ne {s : State} (h : s.tidy) {a b i j : Nat} (x : Bool) (hn : i < 32) (hd : b ≠ a ∨ j ≠ i) :
    flag (setFlag a i x s) b j = flag s b j := by
  by_cases hb : b = a
  · subst hb
    rw [flag, rd_setFlag_self h b x hn, bitOf_putBit_ne _ _ (by omega), flag]
  · rw [flag, rd_setFlag_ne h i x hb, flag]

/-! ### Pairs -/

/-- A 64-bit pair after a write to it or to another. -/
theorem wideGet_wideSet {s : State} (h : s.tidy) (a v b : Nat) :
    wideGet (wideSet a v s) b = if b = a then v % 2 ^ 64 else wideGet s b := by
  simp only [wideGet, wideSet_wide, tabGet_set (fun _ => (0 : Nat)) a b _ h.2.1]

/-! ### The station image -/

/-- A word of a physical bank after a write to it or to another. -/
theorem bankCell_putCell {s : State} (h : s.tidy) {b w : Nat} (c : ICell) {b2 w2 : Nat} (hw : w < imgWords) (hw2 : w2 < imgWords) :
    bankCell (putCell b w c s) b2 w2 = if b2 = b ∧ w2 = w then c else bankCell s b2 w2 := by
  simp only [bankCell, putCell_words, tabGet_set (fun _ => cellInit) _ _ _ h.2.2.2.2.2.1]
  by_cases he : b2 * imgWords + w2 = b * imgWords + w
  · have hb : b2 = b ∧ w2 = w := by
      simp only [imgWords] at *
      omega
    rw [if_pos he, if_pos hb]
  · rw [if_neg he, if_neg (by rintro ⟨rfl, rfl⟩; exact he rfl)]

end Sys2Proof.Machine
end

