-- ==== Sys2Proof/Laws/Events.lean ====
section
/-! SUPPORT. What raising an event does to registers: the EVT_RAW bit is set, no EVT_RAW bit falls, and of all other registers
none changes. -/

namespace Sys2Proof.Machine

theorem evtRises_regs (p b : Nat) (s : State) : (evtRises p b s).regs = s.regs :=
  (evtRises_flows rfl (Flows.refl 4 s)).regs.resolve_left (by decide)

theorem noteFault_regs (p b : Nat) (s : State) : (noteFault p b s).regs = s.regs :=
  (noteFault_flows rfl (Flows.refl 4 s)).regs.resolve_left (by decide)

theorem raiseCore_regs (p b : Nat) (s : State) : (raiseCore p b s).regs = (setFlag (Reg.evtRaw p) b true s).regs := by
  simp only [raiseCore]
  split
  · rw [evtRises_regs, noteFault_regs]
    rfl
  · rw [noteFault_regs]
    rfl

theorem rd_eq_of_regs {s t : State} (h : t.regs = s.regs) (a : Nat) : rd t a = rd s a := by rw [rd, rd, h]

/-- Raising an event leaves every register but EVT_RAW of its page and of page 0x16 (DROPPED). -/
theorem rd_raise {s : State} (h : s.tidy) (p b : Nat) {a : Nat} (h1 : a ≠ Reg.evtRaw p) (h2 : a ≠ Reg.evtRaw 0x16) :
    rd (raise_ p b s) a = rd s a := by
  have hc : rd (raiseCore p b s) a = rd s a := by
    rw [rd_eq_of_regs (raiseCore_regs p b s), rd_setFlag_ne h b true h1]
  have ht : (raiseCore p b s).tidy := (raiseCore_flows rfl (Flows.refl 0 s)).tidy h
  simp only [raise_, dropCheck]
  split
  · rw [rd_eq_of_regs (raiseCore_regs 0x16 3 _), rd_setFlag_ne ht 3 true h2, hc]
  · exact hc

theorem flag_raiseCore {s : State} (h : s.tidy) (p b q j : Nat) (hb : b < 16) :
    flag (raiseCore p b s) (Reg.evtRaw q) j = (flag s (Reg.evtRaw q) j || (decide (Reg.evtRaw q = Reg.evtRaw p) && decide (j = b))) := by
  have e : flag (raiseCore p b s) (Reg.evtRaw q) j = flag (setFlag (Reg.evtRaw p) b true s) (Reg.evtRaw q) j := by
    rw [flag, rd_eq_of_regs (raiseCore_regs p b s), flag]
  rw [e]
  by_cases hq : Reg.evtRaw q = Reg.evtRaw p
  · by_cases hj : j = b
    · rw [hq, hj, flag_setFlag_self h _ true (by omega)]
      simp
    · rw [flag_setFlag_ne h true (by omega) (.inr hj)]
      simp [hj]
  · rw [flag_setFlag_ne h true (by omega) (.inl hq), decide_eq_false hq]
    simp

/-- The bit of an event that was raised is set in EVT_RAW. -/
theorem flag_raise_self {s : State} (h : s.tidy) (p b : Nat) (hb : b < 16) : flag (raise_ p b s) (Reg.evtRaw p) b = true := by
  have ht : (raiseCore p b s).tidy := (raiseCore_flows rfl (Flows.refl 0 s)).tidy h
  simp only [raise_, dropCheck]
  split
  · rw [flag_raiseCore ht 0x16 3 p b (by decide), flag_raiseCore h p b p b hb]
    simp
  · rw [flag_raiseCore h p b p b hb]
    simp

/-- Raising an event clears no bit of EVT_RAW. -/
theorem flag_raise_mono {s : State} (h : s.tidy) (p b q j : Nat) (hb : b < 16) (hs : flag s (Reg.evtRaw q) j = true) :
    flag (raise_ p b s) (Reg.evtRaw q) j = true := by
  have ht : (raiseCore p b s).tidy := (raiseCore_flows rfl (Flows.refl 0 s)).tidy h
  simp only [raise_, dropCheck]
  split
  · rw [flag_raiseCore ht 0x16 3 q j (by decide), flag_raiseCore h p b q j hb, hs]
    simp
  · rw [flag_raiseCore h p b q j hb, hs]
    simp

theorem raise_tidy {s : State} (h : s.tidy) (p b : Nat) : (raise_ p b s).tidy := (raise__flows rfl (Flows.refl 0 s)).tidy h

end Sys2Proof.Machine
end

