-- ==== Sys2Proof/Laws/Frames.lean ====
section
/-! SUPPORT. Frames of registers: how they compose, and what the passage of control clocks, which stands in most commands, may
change. -/

namespace Sys2Proof.Machine

theorem OnlyRegs.refl (l : List Nat) (s : State) : OnlyRegs l s s := fun _ _ => rfl

theorem OnlyRegs.trans {l : List Nat} {s t u : State} (h : OnlyRegs l s t) (g : OnlyRegs l t u) : OnlyRegs l s u :=
  fun a ha => (g a ha).trans (h a ha)

theorem OnlyRegs.mono {l m : List Nat} {s t : State} (h : OnlyRegs l s t) (hs : ∀ a, a ∈ l → a ∈ m) : OnlyRegs m s t :=
  fun a ha => h a (fun hl => ha (hs a hl))

/-- A change that keeps the canonical form and no register outside the list. -/
def Within (l : List Nat) (s t : State) : Prop := s.tidy → t.tidy ∧ OnlyRegs l s t

theorem Within.refl (l : List Nat) (s : State) : Within l s s := fun h => ⟨h, OnlyRegs.refl l s⟩

theorem Within.trans {l : List Nat} {s t u : State} (h : Within l s t) (g : Within l t u) : Within l s u :=
  fun ht => ⟨(g (h ht).1).1, (h ht).2.trans (g (h ht).1).2⟩

theorem Within.mono {l m : List Nat} {s t : State} (h : Within l s t) (hs : ∀ a, a ∈ l → a ∈ m) : Within m s t :=
  fun ht => ⟨(h ht).1, (h ht).2.mono hs⟩

/-- A change that leaves the registers alone. -/
theorem within_of_flows {l : List Nat} {s t : State} (h : Flows 4 s t) : Within l s t :=
  fun ht => ⟨h.tidy ht, fun a _ => rd_eq_of_regs (h.regs.resolve_left (by decide)) a⟩

theorem within_wr {l : List Nat} {a : Nat} (h : a ∈ l) (v : Nat) (s : State) : Within l s (wr a v s) :=
  fun ht => ⟨(wr_flows rfl (Flows.refl 0 s)).tidy ht, fun _ hb => rd_wr_ne ht v (fun e => hb (e ▸ h))⟩

theorem within_setFld {l : List Nat} {a : Nat} (h : a ∈ l) (hi lo v : Nat) (s : State) : Within l s (setFld a hi lo v s) :=
  within_wr h _ s

theorem within_setFlag {l : List Nat} {a : Nat} (h : a ∈ l) (i : Nat) (b : Bool) (s : State) : Within l s (setFlag a i b s) :=
  within_wr h _ s

theorem within_bump {l : List Nat} {a : Nat} (h : a ∈ l) (n : Nat) (s : State) : Within l s (bump a n s) := within_wr h _ s

theorem within_raise {l : List Nat} {p : Nat} (h : Reg.evtRaw p ∈ l) (g : Reg.evtRaw 0x16 ∈ l) (b : Nat) (s : State) :
    Within l s (raise_ p b s) :=
  fun ht => ⟨raise_tidy ht p b, fun _ ha => rd_raise ht p b (fun e => ha (e ▸ h)) (fun e => ha (e ▸ g))⟩

theorem within_each {α : Type} {l : List Nat} {f : α → State → State} (h : ∀ x t, Within l t (f x t)) :
    ∀ (L : List α) (s : State), Within l s (each L f s)
  | [], s => Within.refl l s
  | x :: L, s => (h x s).trans (within_each h L (f x s))

/-! ### The passage of control clocks -/

/-- The passage of control clocks changes nothing but what `lapsed` takes over. -/
theorem advanceTo_lapsed (c : Nat) (s : State) : advanceTo c s = lapsed s (advanceTo c s) := by
  have h := advanceTo_flows rfl (Flows.refl 26880775128 s) (c := c)
  generalize advanceTo c s = t at h ⊢
  have hp := h.pending
  have h_wide := h.wide.resolve_left (by decide)
  have h_effOld := h.effOld.resolve_left (by decide)
  have h_overlay := h.overlay.resolve_left (by decide)
  have h_overlayDig := h.overlayDig.resolve_left (by decide)
  have h_sheaf := h.sheaf.resolve_left (by decide)
  have h_active := h.active.resolve_left (by decide)
  have h_tbu := h.tbu.resolve_left (by decide)
  have h_piu := h.piu.resolve_left (by decide)
  have h_gmu := h.gmu.resolve_left (by decide)
  have h_syn := h.syn.resolve_left (by decide)
  have h_saf := h.saf.resolve_left (by decide)
  have h_msl := h.msl.resolve_left (by decide)
  have h_slu := h.slu.resolve_left (by decide)
  have h_upd := h.upd.resolve_left (by decide)
  cases t
  simp only at hp h_wide h_effOld h_overlay h_overlayDig h_sheaf h_active h_tbu h_piu h_gmu h_syn h_saf h_msl h_slu h_upd
  subst hp h_wide h_effOld h_overlay h_overlayDig h_sheaf h_active h_tbu h_piu h_gmu h_syn h_saf h_msl h_slu h_upd
  rfl

theorem advanceTo_tidy {s : State} (h : s.tidy) (c : Nat) : (advanceTo c s).tidy := (advanceTo_flows rfl (Flows.refl 0 s)).tidy h

/-- A command of an entry that is not the one that falls due changes nothing (R140). -/
theorem dispatch_not_due {run : Entry → EntryIo → State → State} {e : Entry} {io : EntryIo} {s : State}
    (h : nextEntry s ≠ some { e with slot := seqSlot s }) : dispatch run e io s = s := by
  simp [dispatch, h]

/-! ### The clock -/

theorem runTo_now (c : Nat) (s : State) : (runTo c s).now = max s.now c := by
  simp only [runTo]
  split
  · omega
  · have h : ∀ t : State, (wrapCheck (netSends c (settle c t))).now = t.now := fun t =>
      (wrapCheck_flows rfl (netSends_flows rfl (settle_flows rfl (Flows.refl 2 t)))).now.resolve_left (by decide)
    rw [h]
    show c = max s.now c
    omega

theorem each_runTo_now (c : Nat) : ∀ (l : List Nat) (s : State), (∀ k, k ∈ l → k ≤ c) → s.now ≤ c →
    s.now ≤ (each l runTo s).now ∧ (each l runTo s).now ≤ c
  | [], s, _, h => ⟨Nat.le_refl _, h⟩
  | k :: l, s, hl, h => by
    have hk := hl k List.mem_cons_self
    have hn := runTo_now k s
    have ih := each_runTo_now c l (runTo k s) (fun j hj => hl j (List.mem_cons_of_mem _ hj)) (by omega)
    exact ⟨by have := ih.1; show s.now ≤ (each l runTo (runTo k s)).now; omega, ih.2⟩

theorem mem_insertClock {k a : Nat} : ∀ {l : List Nat}, a ∈ insertClock k l → a = k ∨ a ∈ l
  | [], h => .inl (List.mem_singleton.1 h)
  | y :: t, h => by
    simp only [insertClock] at h
    split at h
    · exact List.mem_cons.1 h
    · split at h
      · exact .inr h
      · rcases List.mem_cons.1 h with h | h
        · exact .inr (h ▸ List.mem_cons_self)
        · exact (mem_insertClock h).imp id (List.mem_cons_of_mem y)

theorem mem_dueClocks {c k : Nat} {s : State} (h : k ∈ dueClocks c s) : s.now < k ∧ k < c := by
  have go : ∀ (l : List Nat) (p : Nat → Prop), (∀ x, x ∈ l → p x) → ∀ x, x ∈ l.foldr insertClock [] → p x := by
    intro l p
    induction l with
    | nil => exact fun _ x hx => absurd hx List.not_mem_nil
    | cons y l ih =>
      intro hp x hx
      rcases mem_insertClock hx with e | hx
      · exact e ▸ hp y List.mem_cons_self
      · exact ih (fun z hz => hp z (List.mem_cons_of_mem y hz)) x hx
  exact go _ (fun x => s.now < x ∧ x < c) (fun x hx => of_decide_eq_true (List.mem_filter.1 hx).2) k h

/-- The clock runs to c, and never back. -/
theorem advanceTo_now (c : Nat) (s : State) : (advanceTo c s).now = max s.now c := by
  rw [advanceTo, runTo_now]
  by_cases h : s.now ≤ c
  · have := each_runTo_now c (dueClocks c s) s (fun k hk => Nat.le_of_lt (mem_dueClocks hk).2) h
    omega
  · have e : dueClocks c s = [] := List.eq_nil_iff_forall_not_mem.2 (fun k hk => by have := mem_dueClocks hk; omega)
    rw [e]
    rfl

end Sys2Proof.Machine
end

