-- ==== Sys2Proof/WellFormed.lean ====
section
/-! DEFINITION. Well-formed commands: every operand lies where the manual lets it lie (R135-R137, R482, R550). -/

namespace Sys2Proof

open Machine

/-- R165: the position of a scheduled entry in its slot. -/
def posOk (pos : Nat) : Bool := decide (pos < 8)

/-- R135: an image word index. -/
def isWord (w : Nat) : Bool := decide (w < 262144)

/-- R135: an image word index, or none. -/
def wordOrNone (w : Nat) : Bool := isWord w || w == 0xFFFFFFFF

/-- R137: `n` image words from `w` on. -/
def wordsOk (w n : Nat) : Bool := isWord w && decide (w + n ≤ 262144)

/-- R136: a first index and a count within a table of `n`. -/
def rangeIn (first count n : Nat) : Bool := decide (first < n) && decide (count ≤ n) && decide (first + count ≤ n)

/-- R136: the two masks of a discrete entry. -/
def masksOk (m0 m1 : Nat) : Bool := decide (m0 < 2 ^ 32) && decide (m1 < 65536)

/-- A byte. -/
def isByte (b : Nat) : Bool := decide (b < 256)

/-- R311: the nine inputs of the grid unit, 16 bits each. -/
def codesOk (l : List Int) : Bool := l.length == 9 && l.all (fun x => decide (-32768 ≤ x) && decide (x ≤ 32767))

namespace Machine

/-- An upset lies in a bank of the image of a lane. -/
def hitOk (h : EccHit) : Bool := decide (h.lane < 3) && decide (h.bank < 2) && isWord h.word

/-- R206, R246: eight 24-bit codes and a readback of a channel. -/
def AchSample.ok (x : AchSample) : Bool :=
  decide (x.ch < 32) && x.codes.length == 8 && x.codes.all (fun c => decide (-8388608 ≤ c) && decide (c ≤ 8388607))
    && decide (x.rb < 2 ^ 64) && (x.satAny || !x.satAll)

/-- What the converters measured in a slot. -/
def SlotIo.ok (x : SlotIo) : Bool := codesOk x.codes && x.ach.all AchSample.ok

/-- A measurement holds words of their widths. -/
def AchMeas.ok (m : AchMeas) : Bool :=
  decide (m.cj < 2 ^ 64) && decide (m.feTemp < 2 ^ 32) && decide (m.lead < 2 ^ 64)

/-- What an entry takes from outside. -/
def EntryIo.ok (io : EntryIo) : Bool := io.meas.ok

/-- R550: the fields of a QAP message. -/
def QapMsg.ok (m : QapMsg) : Bool :=
  decide (m.port < 3) && decide (m.ip < 2 ^ 32) && decide (m.udp < 65536) && decide (m.slot < 256) && decide (m.seq < 2 ^ 64)
    && decide (m.req < 2 ^ 32) && decide (m.body.length < 65536) && m.body.all isByte && m.tag.all isByte

/-- R482: the fields of a CAN frame. -/
def CanFrame.ok (f : CanFrame) : Bool :=
  decide (f.id < 2 ^ (if f.ide then 29 else 11)) && decide (f.dlc < 16) && f.data.all isByte && decide (f.data.length ≤ 64)

/-- R591: the records of a Sluice frame. -/
def SluBody.ok : SluBody → Bool
  | .heartbeat b => b.all isByte
  | .lines l => l.all (fun e => decide (e.1 < 16384) && e.2.length == 16 && e.2.all (fun c => decide (c.2 < 16)))
  | .engine _ => true
  | .commit n _ frames _ dig _ => decide (n ≤ 16384) && decide (frames < 2 ^ 32) && dig.all isByte
  | .final w => w.all (fun x => decide (x < 2 ^ 32))
  | .safety b => b.all isByte
  | .nak q => decide (q < 2 ^ 32)

/-- R591: a Sluice frame. -/
def SluFrame.ok (f : SluFrame) : Bool := decide (f.seq < 2 ^ 32) && decide (f.gen < 2 ^ 64) && f.body.ok

end Machine

/-- A well-formed command. -/
def Instr.wf : Instr → Bool
  | .supplyValid .. => true
  | .coldHoldRelease .. => true
  | .resetRelease .. => true
  | .laneSelfTestDone .. => true
  | .sheafBankCheck => true
  | .bringupStart .. => true
  | .slotBHeartbeatWaitEnd => true
  | .sessionGateOpen => true
  | .admissionWindow => true
  | .fullService => true
  | .startLate => true
  | .powerFail => true
  | .shutdownStart => true
  | .shutdownBoundary => true
  | .shutdownShed => true
  | .stageLetGoTimeout => true
  | .domainOff .. => true
  | .supplyLow .. => true
  | .surge .. => true
  | .inputPowerHigh .. => true
  | .brownOut => true
  | .moduleReset => true
  | .tamper => true
  | .tamperClr .. => true
  | .buttonRelease => true
  | .buttonStuck => true
  | .buttonStuckClear => true
  | .unprotArmExpire => true
  | .sysReset .. => true
  | .identify .. => true
  | .identifyEnd => true
  | .slotBoundary _ _ _ hits io => hits.all hitOk && io.ok
  | .minorCycleBoundary _ => true
  | .majorCycleBoundary .. => true
  | .configTakeEffect => true
  | .pageCommitArm .. => true
  | .pageCommitApply => true
  | .toothEdge .. => true
  | .indexEdge .. => true
  | .piLineFault .. => true
  | .piStall .. => true
  | .shaftQueueDispatch io => io.ok
  | .standstillListRun io => io.ok
  | .ptpSync .. => true
  | .shipHoldover => true
  | .bankSwap => true
  | .laneStop .. => true
  | .dispatchAfterWait => true
  | .nop pos => posOk pos
  | .achStart pos _ window cmd => posOk pos && decide (window ≤ 64) && isWord cmd
  | .achLatch pos _ dst status meas => posOk pos && isWord dst && wordOrNone status && meas.ok
  | .windowOverrun .. => true
  | .bringupConversion _ conv => decide (conv.1 < 2 ^ 64) && conv.2.ok
  | .miswire .. => true
  | .miswireClear .. => true
  | .recal .. => true
  | .calibrationEnd _ cal => cal.all (fun x => decide (x.1 < 2 ^ 64) && decide (x.2 < 2 ^ 64))
  | .fieldAlarm .. => true
  | .outRestore .. => true
  | .mismatchClearApply .. => true
  | .loopOverload .. => true
  | .overloadRetry .. => true
  | .railFail .. => true
  | .railRecover .. => true
  | .lspPowerHigh .. => true
  | .hartSend .. => true
  | .hartAbort .. => true
  | .hartBusFree .. => true
  | .hartTxDone .. => true
  | .hartFrameReceived _ bytes _ => bytes.all isByte
  | .hartNoResponse .. => true
  | .hartRxLenRead .. => true
  | .dioSample pos mask0 mask1 dst => posOk pos && masksOk mask0 mask1 && wordsOk dst 2
  | .dioDrive pos len mask0 mask1 src => posOk pos && decide (len < 65536) && masksOk mask0 mask1 && wordsOk src 2
  | .diQualify .. => true
  | .fsLow .. => true
  | .fsLowClear .. => true
  | .testPulse .. => true
  | .lineStateChange .. => true
  | .outputShort .. => true
  | .outputRetry .. => true
  | .pulseEnd .. => true
  | .piuLatch pos input dst => posOk pos && decide (input < 4) && wordsOk dst 4
  | .gmuSnap pos mask dst => posOk pos && decide (mask < 65536) && isWord dst
  | .synArm pos set req status => posOk pos && decide (set < 8) && isWord req && isWord status
  | .synSettled => true
  | .closeIssued => true
  | .closeDone => true
  | .synTimeout => true
  | .armStale => true
  | .disarm .. => true
  | .synFeedback => true
  | .imgCopy pos count src dst hits => posOk pos && decide (count ≤ 4096) && wordsOk src count && wordsOk dst count && hits.all hitOk
  | .cleRun pos first count => posOk pos && rangeIn first count 256
  | .cleRunDeferredStart => true
  | .oscAck .. => true
  | .slvStart pos slot d => posOk pos && decide (slot < 8) && decide (d < 64)
  | .solverJobStart => true
  | .solverJobEnd .. => true
  | .slvDeadline pos slot _ => posOk pos && decide (slot < 8)
  | .laneCheckDone .. => true
  | .slvCollect pos slot => posOk pos && decide (slot < 8)
  | .wedged => true
  | .safExport pos dst => posOk pos && wordsOk dst 8
  | .safetyInputChange .. => true
  | .discrepancy .. => true
  | .safetyTestSourcePulse .. => true
  | .resetPressRelease .. => true
  | .resetStuck .. => true
  | .resetStuckClear .. => true
  | .channelCompare .. => true
  | .faultWaitExpire => true
  | .soPulseTest .. => true
  | .brakeReleaseTimeout .. => true
  | .brakeApplyTimeout .. => true
  | .btDue .. => true
  | .btStart .. => true
  | .btConfirmTimeout .. => true
  | .btTimeEnd .. => true
  | .safetyPiEdge .. => true
  | .safetyRecordPeriodic => true
  | .safetyRecordReceived bytes => bytes.all isByte
  | .storeStale => true
  | .safetyTakeover => true
  | .safetyHandover => true
  | .safetySelfTestDone .. => true
  | .safKeyInstall .. => true
  | .safKeyErase .. => true
  | .mbcSend pos _ d => posOk pos && decide (d < 4096)
  | .mbcMap pos _ first count => posOk pos && rangeIn first count 2048
  | .txAttempt .. => true
  | .txAttemptEnd .. => true
  | .canFrameReceived _ f _ => f.ok
  | .busError .. => true
  | .recovered .. => true
  | .recover .. => true
  | .mslMap pos _ first count => posOk pos && rangeIn first count 512
  | .mslSentence _ chars _ _ _ => chars.all isByte
  | .mslSilent .. => true
  | .netPublish pos k => posOk pos && decide (k < 256)
  | .netAccept pos k => posOk pos && decide (k < 512)
  | .pubDatagramRx _ b => b.all isByte
  | .sfpInsert .. => true
  | .linkChange .. => true
  | .pathFault .. => true
  | .supervisionFrame => true
  | .qapOpen m => m.ok
  | .qapProve m => m.ok
  | .lockoutExpire .. => true
  | .provingTimeout .. => true
  | .qapRead m hits => m.ok && hits.all hitOk
  | .qapWrite m => m.ok
  | .qapModify m => m.ok
  | .qapSubscribe m => m.ok
  | .qapFreeze m => m.ok
  | .qapUnfreeze m => m.ok
  | .qapCommit m => m.ok
  | .qapClose m => m.ok
  | .idleTimeout .. => true
  | .evtRawClear .. => true
  | .evtEnWrite .. => true
  | .lockWrite .. => true
  | .tagWindowWrite .. => true
  | .operatorWordWrite .. => true
  | .registerWrite .. => true
  | .sesKeyInstall .. => true
  | .sesKeyErase .. => true
  | .heartbeatRx _ bytes => bytes.all isByte
  | .heartbeatCheck => true
  | .tokenLineChange .. => true
  | .clockStop => true
  | .takeover => true
  | .sluCopy pos => posOk pos
  | .sluiceFrameRx _ f => f.ok
  | .copyLost => true
  | .sluiceLane .. => true
  | .syncDone => true
  | .swap .. => true
  | .plannedSwapBoundary => true
  | .plannedSwapRelease => true
  | .hold .. => true
  | .resume .. => true
  | .clrLatent .. => true
  | .idleHour => true
  | .grnTick pos first count => posOk pos && rangeIn first count 256
  | .recordCommit => true
  | .freezeExpired => true
  | .grnClear .. => true
  | .grnEraseDone => true
  | .pmcSnap .. => true
  | .pmcMark pos k => posOk pos && decide (k < 16)
  | .counterWrap .. => true
  | .progWatchdog .. => true
  | .progMemoryFault .. => true
  | .progRestart .. => true
  | .progStart .. => true
  | .progStop .. => true
  | .progDatagram _ _ ip port far bytes _ => decide (ip < 2 ^ 32) && decide (port < 65536) && decide (far < 65536) && bytes.all isByte
  | .sensorLimit .. => true
  | .updBegin .. => true
  | .stagingWrite .. => true
  | .updCheck .. => true
  | .updCheckDone => true
  | .updProgram .. => true
  | .updProgramDone .. => true
  | .activateAt .. => true
  | .preloadDone .. => true
  | .sheafActivate => true
  | .activateReset .. => true
  | .updAbort .. => true
  | .progActivationFail .. => true
  | .fpdRefresh pos target => posOk pos && decide (target ≤ 4)
  | .lcdAutoCompose => true
  | .lcdFrame => true
  | .fpdUpdate .. => true
  | .fpdClear .. => true
  | .panelFrame .. => true
  | .panelRailFault => true
  | .hartStartCharacter .. => true
  | .ptpDelayResponse .. => true
  | .sluiceLaneUp .. => true
  | .safetySupplyBrownOut => true
  | .soOvercurrent .. => true
  | .soTerminalStuck .. => true
  | .coilCurrentLost .. => true
  | .laneCEngineTest => true
  | .sensorFault .. => true
  | .panelRailUp => true
  | .discreteStageLetGo => true
  | .buttonPress => true

end Sys2Proof
end

