-- ==== Sys2Proof/Tests/Slice0.lean ====
section
/-! SUPPORT. The model's own tests: for every statement with hypotheses a theorem that shows states and operands meeting them, one for
each clause; one-step tests from the spec's own numbers; and a term refused by each check of WellFormed. -/

-- one theorem at a time: each is a computation of its own in the kernel
set_option Elab.async false

namespace Sys2Proof.Tests

open Sys2Proof Sys2Proof.Machine

/-- An entry in progress that writes nothing. -/
def noEntry : OutEntry := { uid := 0, e := ⟨0, 0, 0, 0, 0, 0, 0, 0⟩, last := 0, words := [] }

/-- A module whose run schedule holds one entry, in slot 0. -/
def inTurn (e : Entry) (s : State) : State :=
  { s with
    active := some 0, seq := { s.seq with sched := 2 }
    sheaf := [(40, 0x100), (41, 0x100000), (42, 0x50), (0x40000, 0x20000), (0x40004, 0x301), (0x40005, 4), (0x40006, 1), (0x40007, 16),
      (0x40008, 1), (0x4000C, 0x302), (0x4000D, 16), (0x4000E, 1), (0x4000F, 16), (0x40010, e.arg3), (0x40011, e.arg2),
      (0x40012, e.arg1), (0x40013, e.opcode <<< 24 + e.target <<< 16 + e.arg0)].foldl
        (fun t x => tabSet (fun _ => (0 : Word)) t x.1 (BitVec.ofNat 32 x.2)) s.sheaf }

/-- A module whose bring-up schedule holds one entry, in slot 0. -/
def inBringUp (e : Entry) (s : State) : State :=
  { s with
    active := some 0, seq := { s.seq with sched := 1 }
    sheaf := [(36, 0x100), (37, 0x100000), (38, 0x50), (0x40000, 0x20000), (0x40004, 0x201), (0x40005, 4), (0x40006, 1), (0x40007, 16),
      (0x40008, 1), (0x4000C, 0x202), (0x4000D, 16), (0x4000E, 1), (0x4000F, 16), (0x40010, e.arg3), (0x40011, e.arg2),
      (0x40012, e.arg1), (0x40013, e.opcode <<< 24 + e.target <<< 16 + e.arg0)].foldl
        (fun t x => tabSet (fun _ => (0 : Word)) t x.1 (BitVec.ofNat 32 x.2)) s.sheaf }

/-- A Sheaf bank with a standstill list of one NOP entry from slot 0 on. -/
def standstillSheaf : Tab Word :=
  [(44, 0x100), (45, 0x400), (46, 0x60), (256, 0x20000), (260, 0x401), (261, 16), (262, 1), (263, 16), (268, 0x402), (269, 16),
   (270, 1), (271, 16)]

/-- A module whose sequencer dispatches the schedule `n` (1 bring-up, 2 run), with channel 0 in mode `m`. -/
def chanState (n m : Nat) : State := { wr (Reg.achCfg 0) m State.reset with seq := { State.reset.seq with sched := n } }

/-- A module whose sequencer dispatches the run schedule, with discrete channel 0 of function `f` and low configuration byte
`f + 16` when it is monitored. -/
def discState (f : Nat) : State := { wr (Reg.dioChCfg 0) f (setFld Reg.sysRole 2 0 4 State.reset) with seq := { State.reset.seq with sched := 2 } }

/-- A Sheaf bank with one solver descriptor of type 1 that gathers image word 0. -/
def solverSheaf : Tab Word :=
  [(60, 0x100), (61, 0x400), (62, 0x200), (256, 0x10000), (260, 0x801), (261, 256), (262, 1), (263, 256), (264, 0x10000),
   (272, 0x10201)]

/-- A safety unit in state `u` whose group 0 takes input 0, with brake 0 in state `b` held by group 0. -/
def safetyState (u b : Nat) : State :=
  { wr (Reg.safInCfg 0) 1 (wr (Reg.safInCfg 1) 5 (wr (Reg.safGroupCfg 0) 0x10101 (wr (Reg.safOutCfg 0) 0x101
      (wr (Reg.safOutCfg 6) 0x101 State.reset)))) with
    saf := { State.reset.saf with unit := u, q := 1, brakes := if b = 0 then [] else [(0, { state := b })] } }

/-- A Sheaf bank with one transmit descriptor and one map record of controller 0, one publication of segment 7, one
  subscription, and one field map. -/
def netSheaf : Tab Word :=
  [(48, 0x100), (49, 0x400), (50, 0x30), (64, 0x100), (65, 0x430), (66, 0x60), (68, 0x100), (69, 0x490), (70, 0x50),
    (72, 0x100), (73, 0x4E0), (74, 0x40), (256, 0x10000), (260, 0x502), (261, 0x8), (262, 0x1), (263, 0x10), (264,
    0x10000), (265, 0x7), (268, 0x20000), (272, 0x901), (273, 0x20), (274, 0x1), (275, 0x20), (276, 0x105), (277,
    0x400), (284, 0x902), (285, 0x10), (286, 0x1), (287, 0x10), (288, 0x105), (289, 0x2010000), (290, 0x9), (292,
    0x20000), (296, 0xA01), (297, 0x10), (298, 0x1), (299, 0x10), (300, 0x7), (304, 0xA02), (305, 0x10), (306, 0x1),
    (307, 0x10), (308, 0x70004), (309, 0x10001), (312, 0x10000), (316, 0xB01), (317, 0x20), (318, 0x1), (319, 0x20),
    (320, 0x10100), (321, 0x3F3F3F3F), (322, 0x4023F), (323, 0x9)]

/-- A module that dispatches the run schedule with that Sheaf active. -/
def netState : State := { State.reset with active := some 0, sheaf := netSheaf, seq := { State.reset.seq with sched := 2 } }

/-- A publication datagram of one line of zeros from address 0 or 4, serial number 5. -/
def goodGram (a : Nat) : List Nat :=
  [81, 80, 85, 66, 1, 0, 1, 0] ++ [a] ++ [0, 7, 0, 1, 0, 1, 0, 0, 0, 0, 0, 0, 0, 0, 0, 0, 0, 0, 0, 0, 0, 0, 0, 5, 0,
    0, 0, 0, 0, 0, 0, 0, 0, 0, 0] ++ (if a = 0 then [174, 46, 160, 84] else [110, 94, 196, 255]) ++ List.replicate 72
    0

/-- A module in role `r` whose internal session writes as custodian. -/
def hostState (r : Nat) : State := setFld Reg.sesIntRole 1 0 3 (setFld Reg.sysRole 2 0 r State.reset)

/-- A Sheaf bank whose image words 0 to 15 are operator words. -/
def hostSheaf : Tab Word :=
  [(48, 0x100), (49, 0x400), (50, 0x30), (256, 0x10000), (260, 0x501), (261, 0x8), (262, 0x1), (263, 0x10), (265,
    0x1030010)]

/-- A Sheaf bank of 512 bytes signed by the verification key that is the one byte 1. -/
def keySheaf : Tab Word := [(2, 512), (98, 0x2F12F54B), (99, 0xC5544534)]

/-- A module in slot B of a QPB-4882 base in role `r`, with both Sluice lanes up. -/
def pairState (r : Nat) : State :=
  setFld Reg.redState 17 16 3 (setFld Reg.sysStation 15 13 6 (setFld Reg.sysRole 2 0 r State.reset))

/-- A module with an open session in slot 0 in role code `r`. -/
def sesState (r : Nat) : State :=
  { State.reset with ses := { State.reset.ses with slots := [(0, { state := 2, role := r, key := [1], seqIn := 4 })] } }

/-- Its next request of operation `op`, rightly tagged. -/
def askMsg (op : Nat) (body : List Nat) : QapMsg :=
  let m : QapMsg := { port := 1, ip := 7, udp := 9, slot := 0, seq := 5, body := body }
  { m with tag := qapTag [1] (m.bytes op) }

/-- A Sheaf bank with one loop record: output to word 1, manual value from word 0, no other source, output limits 0
  and 1. -/
def loopSheaf : Tab Word :=
  [(56, 0x100), (57, 0x400), (58, 0x220), (256, 0x10000), (260, 0x701), (261, 0x200), (262, 0x1), (263, 0x200), (265,
    0xFFFFFFFF), (266, 0x1), (267, 0xFFFFFFFF), (268, 0xFFFFFFFF), (269, 0xFFFFFFFF), (270, 0xFFFFFFFF), (272,
    0xFFFFFFFF), (365, 0x3F800000)]

/-- A module that dispatches the run schedule with one loop in MANUAL, whose manual value is 2.0. -/
def loopState : State :=
  { wr (Reg.cleMode 0) 0 State.reset with
    active := some 0, sheaf := loopSheaf, img := { State.reset.img with words := [(0, ⟨0x40000000, .good⟩)] }
    seq := { State.reset.seq with sched := 2 } }

/-- A Sheaf bank with one image-condition trigger. -/
def trigSheaf : Tab Word :=
  [(80, 0x100), (81, 0x400), (82, 0x60), (256, 0x10000), (260, 0xD01), (261, 0x40), (262, 0x1), (263, 0x40), (264,
    0x2)]

theorem witness_powerFailAndReturn :
    (∃ s : State, s.tidy ∧ s.pwr.phase = .running) ∧
    (∃ s : State, s.tidy ∧ (s.pwr.phase = .resetHeld ∨ s.pwr.phase = .coldHold)) ∧
    (∃ s : State, s.tidy ∧ (s.pwr.phase = .keepAlive ∨ s.pwr.phase = .rideThrough ∨ s.pwr.phase = .shutdown ∨
      s.pwr.phase = .shed)) ∧
    (∃ s : State, s.tidy ∧ s.pwr.phase = .rideThrough ∧ s.now ≤ s.pwr.failClk + 4000000) ∧
    (∃ s : State, s.tidy ∧ (s.pwr.phase = .shutdown ∨ s.pwr.phase = .shed ∨ s.pwr.phase = .rideThrough ∧ s.pwr.failClk
      + 4000000 < s.now)) :=
  ⟨⟨{ State.reset with pwr := { State.reset.pwr with phase := .running } }, by decide +kernel⟩,
    ⟨{ State.reset with pwr := { State.reset.pwr with phase := .resetHeld } }, by decide +kernel⟩,
    ⟨{ State.reset with pwr := { State.reset.pwr with phase := .shed } }, by decide +kernel⟩,
    ⟨{ { State.reset with pwr := { State.reset.pwr with phase := .rideThrough, failed := true } } with now := 4000000 }, by decide +kernel⟩,
    ⟨{ { State.reset with pwr := { State.reset.pwr with phase := .rideThrough } } with now := 4000001 }, by decide +kernel⟩⟩

theorem witness_supplyMeasurements :
    (∃ s : State, ∃ (b : Bool) (mv : Nat), s.tidy ∧ mv < 33000 ∧ flag s Reg.pwrCfg (b2n b) = true) ∧
    (∃ s : State, ∃ (b : Bool) (mv : Nat), s.tidy ∧ (33000 ≤ mv ∨ flag s Reg.pwrCfg (b2n b) = false)) ∧
    (∃ s : State, ∃ (mv : Nat), s.tidy ∧ 80000 < mv) ∧
    (∃ s : State, ∃ (mv : Nat), s.tidy ∧ mv ≤ 80000) ∧
    (∃ s : State, ∃ (mw : Nat), s.tidy ∧ 72000 < mw) ∧
    (∃ s : State, ∃ (mw : Nat), s.tidy ∧ mw ≤ 72000) :=
  ⟨⟨wr Reg.pwrCfg 3 State.reset, true, 32999, by decide +kernel⟩,
    ⟨State.reset, false, 33000, by decide +kernel⟩,
    ⟨State.reset, 80001, by decide +kernel⟩,
    ⟨State.reset, 80000, by decide +kernel⟩,
    ⟨State.reset, 72001, by decide +kernel⟩,
    ⟨State.reset, 72000, by decide +kernel⟩⟩

theorem witness_powerOnAndKeepAlive :
    (∃ s : State, ∃ (temp : Int), s.tidy ∧ s.pwr.phase = .keepAlive ∧ s.pwr.keep.crc = keepCrc s.pwr.keep ∧
      s.pwr.keep.tamper = false ∧ coldLimit s ≤ temp) ∧
    (∃ s : State, ∃ (temp : Int), s.tidy ∧ s.pwr.phase = .keepAlive ∧ s.pwr.keep.crc ≠ keepCrc s.pwr.keep ∧ coldLimit
      s ≤ temp) ∧
    (∃ s : State, ∃ (temp : Int), s.tidy ∧ s.pwr.phase = .keepAlive ∧ temp < coldLimit s) ∧
    (∃ s : State, ∃ (temp : Int), s.tidy ∧ s.pwr.phase = .coldHold ∧ coldLimit s ≤ temp) ∧
    (∃ s : State, ∃ (temp : Int), s.tidy ∧ temp < coldLimit s) ∧
    (∃ s : State, s.tidy ∧ s.pwr.phase ≠ .keepAlive) ∧
    (∃ s : State, s.tidy ∧ s.pwr.phase = .keepAlive) ∧
    (∃ s : State, s.tidy ∧ s.pwr.phase = .shed ∧ s.pwr.supplyReturn = false) ∧
    (∃ s : State, ∃ (temp : Int), s.tidy ∧ s.pwr.phase = .shed ∧ s.pwr.supplyReturn = true ∧ coldLimit s ≤ temp) :=
  ⟨⟨State.reset, -100, by decide +kernel⟩,
    ⟨{ State.reset with pwr := {} }, -100, by decide +kernel⟩,
    ⟨State.reset, -251, by decide +kernel⟩,
    ⟨{ State.reset with pwr := { State.reset.pwr with phase := .coldHold } }, -250, by decide +kernel⟩,
    ⟨{ State.reset with pwr := { State.reset.pwr with phase := .coldHold } }, -251, by decide +kernel⟩,
    ⟨{ State.reset with pwr := { State.reset.pwr with phase := .running } }, by decide +kernel⟩,
    ⟨State.reset, by decide +kernel⟩,
    ⟨{ State.reset with pwr := { State.reset.pwr with phase := .shed } }, by decide +kernel⟩,
    ⟨{ State.reset with pwr := { State.reset.pwr with phase := .shed, supplyReturn := true } }, 200, by decide +kernel⟩⟩

theorem witness_resetReleaseAndSelfTest :
    (∃ s : State, s.tidy ∧ s.pwr.phase = .resetHeld) ∧
    (∃ s : State, s.tidy ∧ s.pwr.phase = .running ∧ s.pwr.selfTest = false) ∧
    (∃ s : State, s.tidy ∧ (s.pwr.phase ≠ .running ∨ s.pwr.selfTest = true)) ∧
    (∃ s : State, s.tidy ∧ fld s Reg.rstState 3 0 = 2 ∧ s.active = none) ∧
    (∃ s : State, ∃ (r : Reject) (u : State), s.tidy ∧ fld s Reg.rstState 3 0 = 2 ∧ s.active = none ∧ bankCheck s
      (nextBank s 0) = some (some r) ∧ raise_ 0x02 4 (setFlag Reg.rstCause 4 true (bankReject (nextBank s 0) r s)) =
      u) ∧
    (∃ s : State, s.tidy ∧ fld s Reg.rstState 3 0 = 2 ∧ s.active = none ∧ bankState s 0 0 = 0 ∧ bankState s 0 1 = 0) :=
  ⟨⟨{ State.reset with pwr := { State.reset.pwr with phase := .resetHeld } }, by decide +kernel⟩,
    ⟨{ State.reset with pwr := { State.reset.pwr with phase := .running } }, by decide +kernel⟩,
    ⟨State.reset, by decide +kernel⟩,
    ⟨setFld Reg.rstState 3 0 2 State.reset, by decide +kernel⟩,
    ⟨setBankState 0 0 2 (setFld Reg.rstState 3 0 2 State.reset), (((bankCheck (setBankState 0 0 2 (setFld Reg.rstState 3 0 2 State.reset)) 0).getD none).getD ⟨0, 0, 0⟩), (raise_ 0x02 4 (setFlag Reg.rstCause 4 true (bankReject (nextBank (setBankState 0 0 2 (setFld Reg.rstState 3 0 2 State.reset)) 0) (((bankCheck (setBankState 0 0 2 (setFld Reg.rstState 3 0 2 State.reset)) 0).getD none).getD ⟨0, 0, 0⟩) (setBankState 0 0 2 (setFld Reg.rstState 3 0 2 State.reset))))), by decide +kernel⟩,
    ⟨setFld Reg.rstState 3 0 2 State.reset, by decide +kernel⟩⟩

theorem witness_bringUpAndFullService :
    (∃ s : State, s.tidy ∧ fld s Reg.rstState 3 0 = 2 ∧ s.active.isSome = true) ∧
    (∃ s : State, s.tidy ∧ role s = roleReset ∧ pairBase s = true ∧ slotB s = true ∧ fld s Reg.rstState 3 0 = 3 ∧
      s.red.heard = false ∧ s.red.partner ≠ .present) ∧
    (∃ s : State, s.tidy ∧ fld s Reg.rstState 3 0 = 3 ∧ s.tbu.slot = 0 ∧ startMissing s = 0) ∧
    (∃ s : State, s.tidy ∧ startMissing s ≠ 0) ∧
    (∃ s : State, s.tidy ∧ fld s Reg.rstState 3 0 = 3 ∧ s.tbu.slot = 0 ∧ 400000000 ≤ s.now - s.pwr.bringClk ∧
      startMissing s ≠ 0) ∧
    (∃ s : State, s.tidy ∧ s.now - s.pwr.bringClk < 400000000) :=
  ⟨⟨setFld Reg.rstState 3 0 2 ({ State.reset with active := some 0 }), by decide +kernel⟩,
    ⟨setFld Reg.rstState 3 0 3 (setFld Reg.sysStation 15 13 6 State.reset), by decide +kernel⟩,
    ⟨setFld Reg.rstState 3 0 3 (setFld Reg.tbuBusState 1 0 2 (setFld Reg.sysRole 2 0 4 State.reset)), by decide +kernel⟩,
    ⟨State.reset, by decide +kernel⟩,
    ⟨setFld Reg.rstState 3 0 3 ({ State.reset with now := 400000000 }), by decide +kernel⟩,
    ⟨setFld Reg.rstState 3 0 3 ({ State.reset with now := 399999999 }), by decide +kernel⟩⟩

theorem witness_shutdownPhase :
    (∃ s : State, s.tidy ∧ s.pwr.phase = .rideThrough) ∧
    (∃ s : State, s.tidy ∧ s.pwr.phase ≠ .rideThrough) ∧
    (∃ s : State, s.tidy ∧ s.pwr.phase = .shutdown ∧ s.pwr.copyDone = false) ∧
    (∃ s : State, s.tidy ∧ s.pwr.phase = .shutdown ∧ s.pwr.copyDone = true) ∧
    (∃ s : State, s.tidy ∧ s.pwr.phase = .shed ∧ s.pwr.stagesFree = false ∧ s.red.partner ≠ .present) ∧
    (∃ s : State, s.tidy ∧ s.pwr.phase = .running) ∧
    (∃ s : State, s.tidy ∧ s.pwr.phase ≠ .running) :=
  ⟨⟨{ State.reset with pwr := { State.reset.pwr with phase := .rideThrough } }, by decide +kernel⟩,
    ⟨State.reset, by decide +kernel⟩,
    ⟨{ State.reset with pwr := { State.reset.pwr with phase := .shutdown } }, by decide +kernel⟩,
    ⟨{ State.reset with pwr := { State.reset.pwr with phase := .shutdown, copyDone := true } }, by decide +kernel⟩,
    ⟨{ State.reset with pwr := { State.reset.pwr with phase := .shed } }, by decide +kernel⟩,
    ⟨{ State.reset with pwr := { State.reset.pwr with phase := .running } }, by decide +kernel⟩,
    ⟨State.reset, by decide +kernel⟩⟩

theorem witness_moduleResetAndButton :
    (∃ s : State, ∃ (o : ResetOrder), s.tidy ∧ s.pwr.order = some o ∧ (s.pwr.phase = .running ∨ s.pwr.phase =
      .rideThrough)) ∧
    (∃ s : State, s.tidy ∧ (s.pwr.order = none ∨ s.pwr.phase ≠ .running ∧ s.pwr.phase ≠ .rideThrough)) ∧
    (∃ s : State, s.tidy ∧ s.pwr.phase = .running ∧ flag s Reg.rstButton 0 = false) ∧
    (∃ s : State, ∃ (c : Nat), s.tidy ∧ s.pwr.pressClk = some c ∧ s.now - c < 100000000 ∧ flag s Reg.rstButton 1 =
      false) ∧
    (∃ s : State, ∃ (c : Nat), s.tidy ∧ s.pwr.pressClk = some c ∧ 100000000 ≤ s.now - c ∧ s.now - c ≤ 1000000000 ∧
      flag s Reg.rstButton 1 = false ∧ role s = roleSolo ∧ flag s Reg.rstButton 2 = false) ∧
    (∃ s : State, ∃ (c : Nat), s.tidy ∧ s.pwr.pressClk = some c ∧ 100000000 ≤ s.now - c ∧ s.now - c ≤ 1000000000 ∧
      flag s Reg.rstButton 1 = false ∧ role s = roleSolo ∧ flag s Reg.rstButton 2 = true ∧ s.now ≤ s.pwr.armClk +
      1000000000) ∧
    (∃ s : State, ∃ (c : Nat), s.tidy ∧ s.pwr.pressClk = some c ∧ 100000000 ≤ s.now - c ∧ s.now - c ≤ 1000000000 ∧
      flag s Reg.rstButton 1 = false ∧ role s ≠ roleSolo ∧ role s ≠ roleActive) ∧
    (∃ s : State, ∃ (c : Nat), s.tidy ∧ s.pwr.pressClk = some c ∧ flag s Reg.rstButton 1 = false ∧ flag (advanceTo (c
      + 1000000000) s) Reg.rstButton 2 = false) ∧
    (∃ s : State, s.tidy ∧ flag s Reg.rstButton 0 = false) ∧
    (∃ s : State, s.tidy ∧ flag s Reg.rstButton 2 = true ∧ flag (advanceTo (s.pwr.armClk + 1000000000) s)
      Reg.rstButton 2 = true) ∧
    (∃ s : State, ∃ (c : Nat), s.tidy ∧ s.pwr.identify = some c) :=
  ⟨⟨{ State.reset with pwr := { State.reset.pwr with phase := .running, order := some ⟨3, false, false⟩ } }, ⟨3, false, false⟩, by decide +kernel⟩,
    ⟨State.reset, by decide +kernel⟩,
    ⟨{ State.reset with pwr := { State.reset.pwr with phase := .running } }, by decide +kernel⟩,
    ⟨{ State.reset with pwr := { State.reset.pwr with pressClk := some 0 } }, 0, by decide +kernel⟩,
    ⟨{ setFld Reg.sysRole 2 0 4 State.reset with now := 100000000, pwr := { State.reset.pwr with pressClk := some 0 } }, 0, by decide +kernel⟩,
    ⟨{ setFlag Reg.rstButton 2 true (setFld Reg.sysRole 2 0 4 State.reset) with now := 1000000000, pwr := { State.reset.pwr with pressClk := some 0 } }, 0, by decide +kernel⟩,
    ⟨{ State.reset with now := 1000000000, pwr := { State.reset.pwr with pressClk := some 0 } }, 0, by decide +kernel⟩,
    ⟨{ State.reset with pwr := { State.reset.pwr with pressClk := some 0 } }, 0, by decide +kernel⟩,
    ⟨setFlag Reg.rstButton 1 true State.reset, by decide +kernel⟩,
    ⟨setFlag Reg.rstButton 2 true State.reset, by decide +kernel⟩,
    ⟨{ State.reset with pwr := { State.reset.pwr with identify := some 5 } }, 5, by decide +kernel⟩⟩

theorem witness_slotAndCycleBoundaries :
    (∃ s : State, ∃ (e : Nat), s.tidy ∧ s.tbu.running = true ∧ s.tbu.edge + (s.tbu.len + s.tbu.frac) / 65536 = e) ∧
    (∃ s : State, s.tidy ∧ s.tbu.running = false) ∧
    (∃ s : State, s.tidy ∧ s.tbu.running = true ∧ s.tbu.slot % 512 = 0 ∧ s.tbu.minorDone = false ∧ (s.tbu.slot = 0 →
      s.tbu.majorDone = true)) ∧
    (∃ s : State, s.tidy ∧ (s.tbu.running = false ∨ s.tbu.slot % 512 ≠ 0 ∨ s.tbu.minorDone = true ∨ s.tbu.slot = 0 ∧
      s.tbu.majorDone = false)) ∧
    (∃ s : State, s.tidy ∧ s.tbu.running = true ∧ s.tbu.slot = 0 ∧ s.tbu.majorDone = false) ∧
    (∃ s : State, s.tidy ∧ (s.tbu.running = false ∨ s.tbu.slot ≠ 0 ∨ s.tbu.majorDone = true)) ∧
    (∃ s : State, ∃ (lane : Fin 3), s.tidy ∧ 64 < laneLag s lane.val ∧ s.seq.stopped.getD lane.val false = false ∧
      laneState s lane.val ≠ 0 ∧ laneMode s = 0 ∧ role s ≠ roleStandby) ∧
    (∃ s : State, ∃ (lane : Fin 3), s.tidy ∧ 64 < laneLag s lane.val ∧ s.seq.stopped.getD lane.val false = false) ∧
    (∃ s : State, ∃ (lane : Fin 3), s.tidy ∧ (laneLag s lane.val ≤ 64 ∨ s.seq.stopped.getD lane.val false = true)) :=
  ⟨⟨{ State.reset with tbu := { State.reset.tbu with running := true, len := 5000 * 65536 + 7, frac := 65530 } }, 5001, by decide +kernel⟩,
    ⟨State.reset, by decide +kernel⟩,
    ⟨{ State.reset with tbu := { State.reset.tbu with running := true, slot := 512 } }, by decide +kernel⟩,
    ⟨{ State.reset with tbu := { State.reset.tbu with running := true, slot := 511 } }, by decide +kernel⟩,
    ⟨{ State.reset with tbu := { State.reset.tbu with running := true } }, by decide +kernel⟩,
    ⟨{ State.reset with tbu := { State.reset.tbu with running := true, slot := 1 } }, by decide +kernel⟩,
    ⟨{ wr Reg.redLanes 0x111 State.reset with seq := { State.reset.seq with lags := [65, 0, 0] } }, 0, by decide +kernel⟩,
    ⟨{ State.reset with seq := { State.reset.seq with lags := [65, 0, 0] } }, 0, by decide +kernel⟩,
    ⟨{ State.reset with seq := { State.reset.seq with lags := [64, 0, 0] } }, 0, by decide +kernel⟩⟩

theorem witness_shipTimeAndPtp :
    (∃ s : State, ∃ (p : Fin 2) (slave : Bool), s.tidy ∧ slave = true ∧ delayOk s p.val = true ∧ fld s Reg.netPtpState
      8 8 = p.val ∧ fld s Reg.tbuShipState 1 0 = 0) ∧
    (∃ s : State, ∃ (p : Fin 2) (off : Int) (slave : Bool), s.tidy ∧ slave = true ∧ delayOk s p.val = true ∧ fld s
      Reg.netPtpState 8 8 = p.val ∧ fld s Reg.tbuShipState 1 0 ≠ 0 ∧ 1000000 < off.natAbs) ∧
    (∃ s : State, ∃ (p : Fin 2) (off : Int) (slave : Bool), s.tidy ∧ slave = true ∧ delayOk s p.val = true ∧ fld s
      Reg.netPtpState 8 8 = p.val ∧ fld s Reg.tbuShipState 1 0 ≠ 0 ∧ off.natAbs ≤ 1000000 ∧ shipNow s < 2 ^ 63) ∧
    (∃ s : State, ∃ (p : Fin 2) (slave : Bool), s.tidy ∧ (slave = false ∨ delayOk s p.val = false)) ∧
    (∃ s : State, s.tidy) ∧
    (∃ s : State, s.tidy ∧ fld s Reg.tbuShipState 1 0 = 1 ∧ fld s Reg.tbuShipCfg 7 0 * 200000000 ≤ s.now -
      s.tbu.ptpClk ∧ shipNow s < 2 ^ 63) ∧
    (∃ s : State, s.tidy ∧ s.now - s.tbu.ptpClk < fld s Reg.tbuShipCfg 7 0 * 200000000) :=
  ⟨⟨{ State.reset with net := { State.reset.net with delay := [(0, some 0)] } }, 0, true, by decide +kernel⟩,
    ⟨{ setFld Reg.tbuShipState 1 0 1 State.reset with net := { State.reset.net with delay := [(0, some 0)] } }, 0, 1000001, true, by decide +kernel⟩,
    ⟨{ setFld Reg.tbuShipState 1 0 1 State.reset with net := { State.reset.net with delay := [(0, some 0)] } }, 0, 1000000, true, by decide +kernel⟩,
    ⟨State.reset, 0, true, by decide +kernel⟩,
    ⟨State.reset, by decide +kernel⟩,
    ⟨wr Reg.tbuShipCfg 0 (setFld Reg.tbuShipState 1 0 1 State.reset), by decide +kernel⟩,
    ⟨wr Reg.tbuShipCfg 10 State.reset, by decide +kernel⟩⟩

theorem witness_pulseInputEdges :
    (∃ s : State, ∃ (n : Fin 4) (clk : Nat), s.tidy ∧ piuMode (advanceTo (clk) s) n.val = 0) ∧
    (∃ s : State, ∃ (n : Fin 4) (clk : Nat) (both : Bool), s.tidy ∧ piuMode (advanceTo (clk) s) n.val = 1 ∧ both =
      true) ∧
    (∃ s : State, ∃ (n : Fin 4) (clk : Nat) (both : Bool), s.tidy ∧ piuMode (advanceTo (clk) s) n.val ≠ 0 ∧ (both =
      false ∨ piuMode (advanceTo (clk) s) n.val ≠ 1) ∧ piuTooSoon (advanceTo (clk) s) n.val = true) ∧
    (∃ s : State, ∃ (n : Fin 4) (clk : Nat) (both : Bool), s.tidy ∧ piuMode (advanceTo (clk) s) n.val ≠ 0 ∧ (both =
      false ∨ piuMode (advanceTo (clk) s) n.val ≠ 1) ∧ piuTooSoon (advanceTo (clk) s) n.val = false) ∧
    (∃ s : State, ∃ (n : Fin 4) (clk : Nat), s.tidy ∧ (piuMode (advanceTo (clk) s) n.val = 0 ∨ bitOf (effRd (advanceTo
      (clk) s) (Reg.piuCfg n.val)) 5 = false)) ∧
    (∃ s : State, ∃ (n : Fin 4) (clk : Nat), s.tidy ∧ piuMode (advanceTo (clk) s) n.val ≠ 0 ∧ bitOf (effRd (advanceTo
      (clk) s) (Reg.piuCfg n.val)) 5 = true) ∧
    (∃ s : State, ∃ (n : Fin 4) (stands : Bool), s.tidy ∧ piuMode s n.val ≠ 0 ∧ stands = true ∧ (piu s
      n.val).lineFault = false) ∧
    (∃ s : State, ∃ (n : Fin 4) (stands : Bool), s.tidy ∧ piuMode s n.val ≠ 0 ∧ stands = false) ∧
    (∃ s : State, ∃ (n : Fin 4), s.tidy ∧ piuMode s n.val = 0) ∧
    (∃ s : State, ∃ (n : Fin 4), s.tidy ∧ (piu s n.val).lastClk.getD s.pwr.originClk + 2000000000 ≤ s.now) ∧
    (∃ s : State, ∃ (n : Fin 4), s.tidy ∧ s.now < (piu s n.val).lastClk.getD s.pwr.originClk + 2000000000) :=
  ⟨⟨wr (Reg.piuCfg 0) 0 State.reset, 0, 9, by decide +kernel⟩,
    ⟨wr (Reg.piuCfg 0) 1 State.reset, 0, 9, true, by decide +kernel⟩,
    ⟨{ wr (Reg.piuCfg 0) 0xFF02 State.reset with piu := [(0, { lastClk := some 0 })] }, 0, 9, false, by decide +kernel⟩,
    ⟨wr (Reg.piuCfg 3) 1 State.reset, 3, 9, false, by decide +kernel⟩,
    ⟨wr (Reg.piuCfg 0) 1 State.reset, 0, 9, by decide +kernel⟩,
    ⟨wr (Reg.piuCfg 0) 0x21 State.reset, 0, 9, by decide +kernel⟩,
    ⟨wr (Reg.piuCfg 0) 1 State.reset, 0, true, by decide +kernel⟩,
    ⟨wr (Reg.piuCfg 0) 1 State.reset, 0, false, by decide +kernel⟩,
    ⟨State.reset, 0, by decide +kernel⟩,
    ⟨{ State.reset with now := 2000000000 }, 0, by decide +kernel⟩,
    ⟨State.reset, 0, by decide +kernel⟩⟩

theorem witness_bankSwapAndDeferredWrites :
    (∃ s : State, s.tidy ∧ s.seq.swapDue = true ∧ listening s = false ∧ s.seq.outst = [] ∧ s.img.dirty.length ≤ 8192) ∧
    (∃ s : State, s.tidy ∧ s.seq.swapDue = true ∧ listening s = false ∧ s.seq.outst = [] ∧ 8192 < s.img.dirty.length) ∧
    (∃ s : State, s.tidy ∧ s.seq.swapDue = true ∧ listening s = false ∧ s.seq.outst.any (fun e => e.left != []) =
      true) ∧
    (∃ s : State, s.tidy ∧ s.seq.swapDue = true ∧ listening s = true) ∧
    (∃ s : State, s.tidy ∧ s.seq.swapDue = false) ∧
    (∃ s : State, s.tidy) ∧
    (∃ s : State, s.tidy ∧ s.effOld = []) :=
  ⟨⟨{ State.reset with seq := { State.reset.seq with swapDue := true }, img := { State.reset.img with dirty := [(3, true)] } }, by decide +kernel⟩,
    ⟨{ State.reset with seq := { State.reset.seq with swapDue := true }, img := { State.reset.img with dirty := (List.range 8193).map (fun i => (i, true)) } }, by decide +kernel⟩,
    ⟨{ State.reset with seq := { State.reset.seq with swapDue := true, outst := [{ uid := 0, e := ⟨0, 5, 0, 0, 0, 0, 0, 0⟩, last := 99, words := [7], left := [7], todo := [(99, .put 7 ⟨1, .good⟩)] }] } }, by decide +kernel⟩,
    ⟨{ setFld Reg.sysRole 2 0 2 State.reset with seq := { State.reset.seq with swapDue := true } }, by decide +kernel⟩,
    ⟨State.reset, by decide +kernel⟩,
    ⟨{ State.reset with effOld := [(Reg.tbuShaftCfg, some 1)] }, by decide +kernel⟩,
    ⟨State.reset, by decide +kernel⟩⟩

theorem witness_sequencerDispatch :
    (∃ s : State, ∃ (pos : Nat), s.tidy ∧ Due s ⟨0x00, 0, 0, 0, 0, 0, 0, pos⟩ ∧ (atTurn pos s).seq.held = [] ∧
      (producers (atTurn pos s)).length < 32) ∧
    (∃ s : State, s.tidy ∧ dispatching s = false) ∧
    (∃ s : State, ∃ (pos : Nat) (count : Nat) (src : Nat) (dst : Nat) (hits : List EccHit), s.tidy ∧ Due (each hits
      strike s) ⟨0x10, 0x05, count, src, dst, 0, 0, pos⟩ ∧ (atTurn pos (each hits strike s)).seq.held = [] ∧
      (producers (atTurn pos (each hits strike s))).length < 32 ∧ 0 < count ∧ count < 8192) ∧
    (∃ s : State, ∃ (e : Entry) (io : EntryIo) (r : List (Entry × EntryIo)), s.tidy ∧ s.seq.held = (e, io) :: r ∧
      nextEnd s < neverClk) ∧
    (∃ s : State, s.tidy ∧ s.seq.held = []) ∧
    (∃ s : State, ∃ (k b : Nat), s.tidy ∧ dispatching s = true ∧ s.seq.swapDue = false ∧ s.seq.extraDone = false ∧
      standstillEntry s = some k ∧ s.active = some b ∧ (beginDispatch 8
      { s with seq := { s.seq with standstill := some (k + 1), extraDone := true } }).seq.held = [] ∧ (producers
      (beginDispatch 8 { s with seq := { s.seq with standstill := some (k + 1), extraDone := true } })).length < 32) ∧
    (∃ s : State, s.tidy ∧ (standstillEntry s = none ∨ s.seq.extraDone = true ∨ s.seq.swapDue = true ∨ dispatching s =
      false)) ∧
    (∃ s : State, ∃ (i b : Nat) (r : List Nat), s.tidy ∧ dispatching s = true ∧ s.seq.swapDue = false ∧ s.seq.sched =
      2 ∧ s.seq.extraDone = false ∧ standstillEntry s = none ∧ s.tbu.queue = i :: r ∧ s.active = some b ∧
      (beginDispatch 8 { (showShaft { s with tbu := { s.tbu with queue := r } }) with seq :=
                           { s.seq with extraDone := true } }).seq.held = [] ∧ (producers (beginDispatch 8
      { (showShaft { s with tbu := { s.tbu with queue := r } }) with seq := { s.seq with extraDone := true }
          })).length < 32) ∧
    (∃ s : State, s.tidy ∧ (s.tbu.queue = [] ∨ s.seq.extraDone = true ∨ s.seq.swapDue = true ∨ dispatching s = false)) :=
  ⟨⟨inTurn ⟨0x00, 0, 0, 0, 0, 0, 0, 0⟩ (State.reset), 0, by decide +kernel⟩,
    ⟨State.reset, by decide +kernel⟩,
    ⟨inTurn ⟨0x10, 0x05, 4096, 0, 100, 0, 0, 0⟩ (State.reset), 0, 4096, 0, 100, [], by decide +kernel⟩,
    ⟨{ State.reset with seq := { State.reset.seq with held := [(⟨0, 0, 0, 0, 0, 0, 0, 0⟩, {})] } }, ⟨0, 0, 0, 0, 0, 0, 0, 0⟩, {}, [], by decide +kernel⟩,
    ⟨State.reset, by decide +kernel⟩,
    ⟨{ State.reset with active := some 0, sheaf := standstillSheaf, seq := { State.reset.seq with sched := 1, standstill := some 0 } }, 0, 0, by decide +kernel⟩,
    ⟨State.reset, by decide +kernel⟩,
    ⟨{ State.reset with active := some 0, seq := { State.reset.seq with sched := 2 }, tbu := { State.reset.tbu with queue := [0] } }, 0, 0, [], by decide +kernel⟩,
    ⟨State.reset, by decide +kernel⟩⟩

theorem witness_channelStartAndLatch :
    (∃ s : State, ∃ (pos : Nat) (ch : Fin 32) (window : Nat) (cmd : Nat), s.tidy ∧ Due s ⟨0x01, 0x20 + ch, window,
      cmd, 0, 0, 0, pos⟩ ∧ (atTurn pos s).seq.held = [] ∧ (producers (atTurn pos s)).length < 32 ∧ achMode (atTurn pos
      s) ch.val = 0) ∧
    (∃ s : State, ∃ (pos : Nat) (ch : Fin 32) (window : Nat) (cmd : Nat), s.tidy ∧ Due s ⟨0x01, 0x20 + ch, window,
      cmd, 0, 0, 0, pos⟩ ∧ (atTurn pos s).seq.held = [] ∧ (producers (atTurn pos s)).length < 32 ∧ achMode (atTurn pos
      s) ch.val ≠ 0 ∧ achIsOut (atTurn pos s) ch.val = false ∧ (atTurn pos s).seq.sched ≠ 1) ∧
    (∃ s : State, ∃ (pos : Nat) (ch : Fin 32) (window : Nat) (cmd : Nat), s.tidy ∧ Due s ⟨0x01, 0x20 + ch, window,
      cmd, 0, 0, 0, pos⟩ ∧ (atTurn pos s).seq.held = [] ∧ (producers (atTurn pos s)).length < 32 ∧ achMode (atTurn pos
      s) ch.val ≠ 0 ∧ achIsOut (atTurn pos s) ch.val = false ∧ (atTurn pos s).seq.sched = 1) ∧
    (∃ s : State, ∃ (pos : Nat) (ch : Fin 32) (window : Nat) (cmd : Nat) (w : ICell), s.tidy ∧ Due s ⟨0x01, 0x20 + ch,
      window, cmd, 0, 0, 0, pos⟩ ∧ (atTurn pos s).seq.held = [] ∧ (producers (atTurn pos s)).length < 32 ∧ (atRead pos
      s).img.upsets = [] ∧ (atRead pos s).img.laneDiff = [] ∧ achIsOut (atRead pos s) ch.val = true ∧ (atRead pos
      s).seq.sched ≠ 1 ∧ role (atRead pos s) ≠ roleHold ∧ flag (atRead pos s) (Reg.achRbStat ch.val) 2 = false ∧
      asRead (atRead pos s) cmd = w) ∧
    (∃ s : State, ∃ (pos : Nat) (ch : Fin 32) (dst : Nat) (status : Nat), s.tidy ∧ Due s ⟨0x02, 0x20 + ch, 0, dst,
      status, 0, 0, pos⟩ ∧ (atTurn pos s).seq.held = [] ∧ (producers (atTurn pos s)).length < 32 ∧ achMode (atTurn pos
      s) ch.val = 0) ∧
    (∃ s : State, ∃ (pos : Nat) (ch : Fin 32) (dst : Nat) (status : Nat), s.tidy ∧ Due s ⟨0x02, 0x20 + ch, 0, dst,
      status, 0, 0, pos⟩ ∧ (atTurn pos s).seq.held = [] ∧ (producers (atTurn pos s)).length < 32 ∧ achMode (atTurn pos
      s) ch.val ≠ 0 ∧ ((atTurn pos s).seq.sched ≠ 1 ∨ achIsOut (atTurn pos s) ch.val = true) ∧ (ach (atTurn pos s)
      ch.val).prev = none ∧ (ach (atTurn pos s) ch.val).win = none) ∧
    (∃ s : State, ∃ (pos : Nat) (ch : Fin 32) (dst : Nat) (status : Nat) (w : AchWin), s.tidy ∧ Due s ⟨0x02, 0x20 +
      ch, 0, dst, status, 0, 0, pos⟩ ∧ (atTurn pos s).seq.held = [] ∧ (producers (atTurn pos s)).length < 32 ∧ achMode
      (atTurn pos s) ch.val ≠ 0 ∧ ((atTurn pos s).seq.sched ≠ 1 ∨ achIsOut (atTurn pos s) ch.val = true) ∧ (ach
      (atTurn pos s) ch.val).prev = some w ∧ w.void = false ∧ w.clamp < 4) ∧
    (∃ s : State, ∃ (ch : Fin 32), s.tidy ∧ dispatching s = false ∧ keepsConverting s ch.val = true) ∧
    (∃ s : State, ∃ (ch : Fin 32) (w : AchWin), s.tidy ∧ dispatching s = false ∧ keepsConverting s ch.val = true ∧
      (ach s ch.val).prev = some w ∧ w.void = false ∧ w.clamp < 4) :=
  ⟨⟨inTurn ⟨0x01, 0x20 + 0, 0, 0, 0, 0, 0, 0⟩ (State.reset), 0, 0, 0, 0, by decide +kernel⟩,
    ⟨inTurn ⟨0x01, 0x20 + 0, 64, 0, 0, 0, 0, 0⟩ (wr (Reg.achCfg 0) 1 State.reset), 0, 0, 64, 0, by decide +kernel⟩,
    ⟨inBringUp ⟨0x01, 0x20 + 0, 0, 0, 0, 0, 0, 0⟩ (wr (Reg.achCfg 0) 1 State.reset), 0, 0, 0, 0, by decide +kernel⟩,
    ⟨inTurn ⟨0x01, 0x20 + 0, 0, 7, 0, 0, 0, 0⟩ (wr (Reg.achCfg 0) 4 State.reset), 0, 0, 0, 7, ⟨0, .init⟩, by decide +kernel⟩,
    ⟨inTurn ⟨0x02, 0x20 + 0, 0, 5, 0x40000, 0, 0, 0⟩ (State.reset), 0, 0, 5, 0x40000, by decide +kernel⟩,
    ⟨inTurn ⟨0x02, 0x20 + 0, 0, 5, 6, 0, 0, 0⟩ (wr (Reg.achCfg 0) 1 State.reset), 0, 0, 5, 6, by decide +kernel⟩,
    ⟨inTurn ⟨0x02, 0x20 + 0, 0, 5, 6, 0, 0, 0⟩ ({ wr (Reg.achCfg 0) 1 State.reset with ach := [(0, { prev := some { decl := 512, slots := 512 } })] }), 0, 0, 5, 6, { decl := 512, slots := 512 }, by decide +kernel⟩,
    ⟨wr (Reg.achCfg 0) 1 (setFld Reg.sysRole 2 0 2 State.reset), 0, by decide +kernel⟩,
    ⟨{ wr (Reg.achCfg 0) 1 (setFld Reg.sysRole 2 0 2 State.reset) with ach := [(0, { prev := some { decl := 512, slots := 512 } })] }, 0, { decl := 512, slots := 512 }, by decide +kernel⟩⟩

theorem witness_channelWindowsAndCalibration :
    (∃ s : State, ∃ (ch : Fin 32) (w : AchWin), s.tidy ∧ (ach s ch.val).win = some w ∧ 262656 ≤ w.slots) ∧
    (∃ s : State, ∃ (ch : Fin 32), s.tidy ∧ ((ach s ch.val).win = none ∨ ∃ w : AchWin, (ach s ch.val).win = some w ∧
      w.slots < 262656)) ∧
    (∃ s : State, ∃ (ch : Fin 32), s.tidy ∧ s.seq.sched = 1 ∧ achIsOut s ch.val = false) ∧
    (∃ s : State, ∃ (ch : Fin 32), s.tidy ∧ (s.seq.sched ≠ 1 ∨ achIsOut s ch.val = true)) ∧
    (∃ s : State, ∃ (ch : Fin 32), s.tidy ∧ miswired s ch.val = false) ∧
    (∃ s : State, ∃ (ch : Fin 32), s.tidy ∧ miswired s ch.val = true) ∧
    (∃ s : State, ∃ (ch : Fin 32), s.tidy ∧ miswired s ch.val = true) ∧
    (∃ s : State, ∃ (ch : Fin 32), s.tidy ∧ miswired s ch.val = false) ∧
    (∃ s : State, ∃ (ch : Fin 32), s.tidy ∧ calibrating s ch.val = true) ∧
    (∃ s : State, ∃ (ch : Fin 32), s.tidy ∧ calibrating s ch.val = false) :=
  ⟨⟨{ State.reset with ach := [(0, { win := some { decl := 512, slots := 262656 } })] }, 0, { decl := 512, slots := 262656 }, by decide +kernel⟩,
    ⟨State.reset, 0, by decide +kernel⟩,
    ⟨chanState 1 1, 0, by decide +kernel⟩,
    ⟨State.reset, 0, by decide +kernel⟩,
    ⟨chanState 2 1, 0, by decide +kernel⟩,
    ⟨setFlag (Reg.stat 0x20) 0 true State.reset, 0, by decide +kernel⟩,
    ⟨setFlag (Reg.stat 0x20) 0 true State.reset, 0, by decide +kernel⟩,
    ⟨State.reset, 0, by decide +kernel⟩,
    ⟨setFlag (Reg.stat 0x20) 1 true State.reset, 0, by decide +kernel⟩,
    ⟨State.reset, 0, by decide +kernel⟩⟩

theorem witness_readbackAndLoopSupply :
    (∃ s : State, ∃ (ch : Fin 32), s.tidy ∧ flag s (Reg.achRbStat ch.val) 4 = true ∧ flag s (Reg.achRbStat ch.val) 5 =
      false ∧ fld s (Reg.achCfg ch.val) 23 16 * 200000000 ≤ s.now - (ach s ch.val).complClk) ∧
    (∃ s : State, ∃ (ch : Fin 32), s.tidy ∧ flag s (Reg.achRbStat ch.val) 4 = false) ∧
    (∃ s : State, ∃ (ch : Fin 32), s.tidy ∧ (ach s ch.val).restore = true ∧ flag s (Reg.achRbStat ch.val) 2 = true) ∧
    (∃ s : State, ∃ (ch : Fin 32), s.tidy ∧ (ach s ch.val).restore = false) ∧
    (∃ s : State, ∃ (ch : Fin 32), s.tidy ∧ lspOn s ch.val = true) ∧
    (∃ s : State, ∃ (ch : Fin 32), s.tidy ∧ lspOn s ch.val = false) ∧
    (∃ s : State, ∃ (ch : Fin 32), s.tidy ∧ flag s Reg.lspOverload ch.val = true ∧ (ach s ch.val).offClk + fld s
      Reg.lspOvlCfg 7 0 * 200000000 ≤ s.now) ∧
    (∃ s : State, ∃ (ch : Fin 32), s.tidy ∧ (flag s Reg.lspOverload ch.val = false ∨ s.now < (ach s ch.val).offClk +
      fld s Reg.lspOvlCfg 7 0 * 200000000)) ∧
    (∃ s : State, ∃ (ch : Fin 32), s.tidy ∧ lspOn s ch.val = true ∧ (ach s ch.val).railFail = false) ∧
    (∃ s : State, ∃ (ch : Fin 32), s.tidy ∧ (lspOn s ch.val = false ∨ (ach s ch.val).railFail = true)) ∧
    (∃ s : State, s.tidy) ∧
    (∃ s : State, ∃ (mw : Nat), s.tidy ∧ 20500 < mw) ∧
    (∃ s : State, ∃ (mw : Nat), s.tidy ∧ mw ≤ 20500) :=
  ⟨⟨setFlag (Reg.achRbStat 0) 4 true State.reset, 0, by decide +kernel⟩,
    ⟨State.reset, 0, by decide +kernel⟩,
    ⟨{ setFlag (Reg.achRbStat 0) 2 true State.reset with ach := [(0, { restore := true })] }, 0, by decide +kernel⟩,
    ⟨State.reset, 0, by decide +kernel⟩,
    ⟨wr Reg.lspSupplyEn 1 (setFld Reg.sysRole 2 0 4 (chanState 2 2)), 0, by decide +kernel⟩,
    ⟨State.reset, 0, by decide +kernel⟩,
    ⟨{ setFlag Reg.lspOverload 0 true State.reset with now := 100000000000 }, 0, by decide +kernel⟩,
    ⟨State.reset, 0, by decide +kernel⟩,
    ⟨wr Reg.lspSupplyEn 1 (setFld Reg.sysRole 2 0 4 (chanState 2 2)), 0, by decide +kernel⟩,
    ⟨State.reset, 0, by decide +kernel⟩,
    ⟨State.reset, by decide +kernel⟩,
    ⟨State.reset, 20501, by decide +kernel⟩,
    ⟨State.reset, 20500, by decide +kernel⟩⟩

theorem witness_hartTransaction :
    (∃ s : State, ∃ (ch : Fin 32), s.tidy ∧ hartState s ch.val = 1) ∧
    (∃ s : State, ∃ (ch : Fin 32), s.tidy ∧ hartState s ch.val ≠ 1) ∧
    (∃ s : State, ∃ (ch : Fin 32), s.tidy ∧ hartState s ch.val = 2) ∧
    (∃ s : State, ∃ (ch : Fin 32), s.tidy ∧ hartState s ch.val ≠ 2) ∧
    (∃ s : State, ∃ (ch : Fin 32), s.tidy ∧ hartOn s ch.val = true ∧ hartState s ch.val = 3) ∧
    (∃ s : State, ∃ (ch : Fin 32), s.tidy ∧ hartOn s ch.val = false) ∧
    (∃ s : State, ∃ (ch : Fin 32), s.tidy ∧ hartState s ch.val = 3) ∧
    (∃ s : State, ∃ (ch : Fin 32), s.tidy ∧ hartState s ch.val ≠ 3) ∧
    (∃ s : State, ∃ (ch : Fin 32) (bytes : List Nat) (framing : Bool), s.tidy ∧ hartState s ch.val = 4 ∧ (framing =
      false ∨ bytes.length < 4 ∨ hartCheck bytes.dropLast ≠ bytes.getLastD 0 % 256)) ∧
    (∃ s : State, ∃ (ch : Fin 32) (bytes : List Nat) (framing : Bool), s.tidy ∧ hartState s ch.val = 4 ∧ framing =
      true ∧ 4 ≤ bytes.length ∧ hartCheck bytes.dropLast = bytes.getLastD 0 % 256) ∧
    (∃ s : State, ∃ (ch : Fin 32) (bytes : List Nat) (framing : Bool), s.tidy ∧ hartState s ch.val = 0 ∧ hartOn s
      ch.val = true ∧ flag s (Reg.achHartCfg ch.val) 16 = true ∧ framing = true ∧ 4 ≤ bytes.length ∧ hartCheck
      bytes.dropLast = bytes.getLastD 0 % 256 ∧ hartBurst bytes.dropLast = true) ∧
    (∃ s : State, s.tidy) :=
  ⟨⟨setFld (Reg.achHartStat 0) 2 0 1 State.reset, 0, by decide +kernel⟩,
    ⟨setFld (Reg.achHartStat 0) 2 0 2 State.reset, 0, by decide +kernel⟩,
    ⟨setFld (Reg.achHartStat 0) 2 0 2 State.reset, 0, by decide +kernel⟩,
    ⟨setFld (Reg.achHartStat 0) 2 0 3 State.reset, 0, by decide +kernel⟩,
    ⟨wr (Reg.achHartCfg 0) 0x10001 (wr (Reg.achCfg 0) 4 (setFld (Reg.achHartStat 0) 2 0 3 State.reset)), 0, by decide +kernel⟩,
    ⟨setFld (Reg.achHartStat 0) 2 0 3 State.reset, 0, by decide +kernel⟩,
    ⟨setFld (Reg.achHartStat 0) 2 0 3 State.reset, 0, by decide +kernel⟩,
    ⟨setFld (Reg.achHartStat 0) 2 0 4 State.reset, 0, by decide +kernel⟩,
    ⟨setFld (Reg.achHartStat 0) 2 0 4 State.reset, 0, [1, 2, 3], true, by decide +kernel⟩,
    ⟨setFld (Reg.achHartStat 0) 2 0 4 State.reset, 0, [1, 2, 3, 0], true, by decide +kernel⟩,
    ⟨wr (Reg.achHartCfg 0) 0x10001 (wr (Reg.achCfg 0) 4 (State.reset)), 0, [1, 2, 3, 0], true, by decide +kernel⟩,
    ⟨State.reset, by decide +kernel⟩⟩

theorem witness_discreteInputs :
    (∃ s : State, ∃ (pos : Nat) (mask0 : Nat) (mask1 : Nat) (dst : Nat), s.tidy ∧ Due s ⟨0x03, 0x07, 0, mask0, mask1,
      dst, 0, pos⟩ ∧ (atTurn pos s).seq.held = [] ∧ (producers (atTurn pos s)).length < 32) ∧
    (∃ s : State, ∃ (ch : Fin 48) (us : Nat), s.tidy ∧ dioIsIn s ch.val = true ∧ fld s (Reg.dioChCfg ch.val) 15 8 *
      100 ≤ us) ∧
    (∃ s : State, ∃ (ch : Fin 48) (mv : Int) (us : Nat), s.tidy ∧ dioIsIn s ch.val = true ∧ us < fld s (Reg.dioChCfg
      ch.val) 15 8 * 100 ∧ rawLevel (dioFunc s ch.val) (bitOf s.dio.raw ch.val) mv ≠ bitOf s.dio.raw ch.val) ∧
    (∃ s : State, ∃ (ch : Fin 48), s.tidy ∧ dioIsIn s ch.val = false) ∧
    (∃ s : State, ∃ (mv : Nat), s.tidy ∧ mv < 18000 ∧ fsLow s = false) ∧
    (∃ s : State, ∃ (mv : Nat), s.tidy ∧ (18000 ≤ mv ∨ fsLow s = true)) ∧
    (∃ s : State, ∃ (mv : Nat), s.tidy ∧ 19000 ≤ mv ∧ fsLow s = true) ∧
    (∃ s : State, ∃ (mv : Nat), s.tidy ∧ (mv < 19000 ∨ fsLow s = false)) ∧
    (∃ s : State, ∃ (ch : Fin 48) (c : Nat), s.tidy ∧ dioIsIn s ch.val = true ∧ flag s (Reg.dioChCfg ch.val) 4 = true
      ∧ listening s = false ∧ (tabGet (fun _ => (none : Option Nat)) s.dio.testClk ch.val) = some c ∧ s.now ≤ c +
      30000) ∧
    (∃ s : State, ∃ (ch : Fin 48), s.tidy ∧ (tabGet (fun _ => (none : Option Nat)) s.dio.testClk ch.val) = none) ∧
    (∃ s : State, ∃ (ch : Fin 48) (cond : Fin 4) (holds : Bool), s.tidy ∧ (holds = false ∨ condCan s ch.val cond.val =
      true)) ∧
    (∃ s : State, ∃ (ch : Fin 48) (cond : Fin 4) (holds : Bool), s.tidy ∧ holds = true ∧ condCan s ch.val cond.val =
      false) :=
  ⟨⟨inTurn ⟨0x03, 0x07, 0, 1, 1, 8, 0, 0⟩ (wr (Reg.dioChCfg 0) 1 State.reset), 0, 1, 1, 8, by decide +kernel⟩,
    ⟨wr (Reg.dioChCfg 0) 0x101 State.reset, 0, 100, by decide +kernel⟩,
    ⟨wr (Reg.dioChCfg 0) 0x101 State.reset, 0, 15000, 99, by decide +kernel⟩,
    ⟨State.reset, 0, by decide +kernel⟩,
    ⟨State.reset, 17999, by decide +kernel⟩,
    ⟨State.reset, 18000, by decide +kernel⟩,
    ⟨setFlag (Reg.stat 0x07) 1 true State.reset, 19000, by decide +kernel⟩,
    ⟨State.reset, 18999, by decide +kernel⟩,
    ⟨{ wr (Reg.dioChCfg 0) 17 (setFld Reg.sysRole 2 0 4 State.reset) with dio := { State.reset.dio with testClk := [(0, some 0)] } }, 0, 0, by decide +kernel⟩,
    ⟨State.reset, 0, by decide +kernel⟩,
    ⟨wr (Reg.dioChCfg 0) 17 (setFld Reg.sysRole 2 0 4 State.reset), 0, 0, true, by decide +kernel⟩,
    ⟨State.reset, 0, 3, true, by decide +kernel⟩⟩

theorem witness_discreteOutputs :
    (∃ s : State, ∃ (pos : Nat) (len : Nat) (mask0 : Nat) (mask1 : Nat) (src : Nat) (w0 w1 : ICell), s.tidy ∧ Due s
      ⟨0x04, 0x07, len, mask0, mask1, src, 0, pos⟩ ∧ (atTurn pos s).seq.held = [] ∧ (producers (atTurn pos s)).length
      < 32 ∧ (atRead pos s).img.upsets = [] ∧ (atRead pos s).img.laneDiff = [] ∧ (atRead pos s).seq.sched ≠ 1 ∧ role
      (atRead pos s) ≠ roleHold ∧ asRead (atRead pos s) src = w0 ∧ asRead (atRead pos s) (src + 1) = w1 ∧ w0.tag ≠
      .bad ∧ w0.tag ≠ .init ∧ w1.tag ≠ .bad ∧ w1.tag ≠ .init) ∧
    (∃ s : State, ∃ (pos : Nat) (len : Nat) (mask0 : Nat) (mask1 : Nat) (src : Nat), s.tidy ∧ Due s ⟨0x04, 0x07, len,
      mask0, mask1, src, 0, pos⟩ ∧ (atTurn pos s).seq.held = [] ∧ (producers (atTurn pos s)).length < 32 ∧ (atRead pos
      s).img.upsets = [] ∧ (atRead pos s).img.laneDiff = [] ∧ ((asRead (atRead pos s) src).tag = .bad ∨ (asRead
      (atRead pos s) src).tag = .init)) ∧
    (∃ s : State, ∃ (ch : Fin 48), s.tidy ∧ dioIsOut s ch.val = true ∧ listening s = false) ∧
    (∃ s : State, ∃ (ch : Fin 48), s.tidy ∧ (dioIsOut s ch.val = false ∨ listening s = true)) ∧
    (∃ s : State, ∃ (ch : Fin 48), s.tidy ∧ bitOf s.dio.prot ch.val = true ∧ tabGet (fun _ => 0) s.dio.offClk ch.val +
      fld s Reg.dioOutRetry 7 0 * 200000000 ≤ s.now) ∧
    (∃ s : State, ∃ (ch : Fin 48), s.tidy ∧ (bitOf s.dio.prot ch.val = false ∨ s.now < tabGet (fun _ => 0)
      s.dio.offClk ch.val + fld s Reg.dioOutRetry 7 0 * 200000000)) ∧
    (∃ s : State, ∃ (ch : Fin 48), s.tidy ∧ dioPulse s ch.val = some 0) ∧
    (∃ s : State, ∃ (ch : Fin 48), s.tidy ∧ dioPulse s ch.val ≠ some 0) ∧
    (∃ s : State, s.tidy ∧ s.red.own ≠ .present ∧ s.red.partner = .present) ∧
    (∃ s : State, s.tidy ∧ (s.red.own = .present ∨ s.red.partner ≠ .present)) :=
  ⟨⟨inTurn ⟨0x04, 0x07, 0, 1, 0, 0, 0, 0⟩ ({ wr (Reg.dioChCfg 0) 3 (setFld Reg.sysRole 2 0 4 State.reset) with img := { State.reset.img with words := [(0, ⟨1, .good⟩), (1, ⟨0, .good⟩)] } }), 0, 0, 1, 0, 0, ⟨1, .good⟩, ⟨0, .good⟩, by decide +kernel⟩,
    ⟨inTurn ⟨0x04, 0x07, 0, 1, 0, 0, 0, 0⟩ (wr (Reg.dioChCfg 0) 3 State.reset), 0, 0, 1, 0, 0, by decide +kernel⟩,
    ⟨discState 3, 0, by decide +kernel⟩,
    ⟨discState 1, 0, by decide +kernel⟩,
    ⟨{ State.reset with now := 100000000000, dio := { State.reset.dio with prot := 1 } }, 0, by decide +kernel⟩,
    ⟨State.reset, 0, by decide +kernel⟩,
    ⟨{ State.reset with dio := { State.reset.dio with pulse := [(0, some 0)], cmd := 1 } }, 0, by decide +kernel⟩,
    ⟨State.reset, 0, by decide +kernel⟩,
    ⟨{ State.reset with red := { State.reset.red with partner := .present } }, by decide +kernel⟩,
    ⟨State.reset, by decide +kernel⟩⟩

theorem witness_latchesOfPulseAndGrid :
    (∃ s : State, ∃ (pos : Nat) (input : Nat) (dst : Nat), s.tidy ∧ Due s ⟨0x05, 0x08, input, dst, 0, 0, 0, pos⟩ ∧
      (atTurn pos s).seq.held = [] ∧ (producers (atTurn pos s)).length < 32) ∧
    (∃ s : State, ∃ (pos : Nat) (mask : Nat) (dst : Nat) (k : Nat), s.tidy ∧ Due s ⟨0x06, 0x09, mask, dst, 0, 0, 0,
      pos⟩ ∧ (atTurn pos s).seq.held = [] ∧ (producers (atTurn pos s)).length < 32 ∧ (snapCells (atTurn pos s)
      mask).length = k ∧ 0 < k ∧ k ≤ 496) ∧
    (∃ s : State, ∃ (pos : Nat) (mask : Nat) (dst : Nat), s.tidy ∧ Due s ⟨0x06, 0x09, mask, dst, 0, 0, 0, pos⟩ ∧
      (atTurn pos s).seq.held = [] ∧ (producers (atTurn pos s)).length < 32 ∧ snapCells (atTurn pos s) mask = []) :=
  ⟨⟨inTurn ⟨0x05, 0x08, 3, 9, 0, 0, 0, 0⟩ (State.reset), 0, 3, 9, by decide +kernel⟩,
    ⟨inTurn ⟨0x06, 0x09, 1, 9, 0, 0, 0, 0⟩ (State.reset), 0, 1, 9, gmuGroupLen 0, by decide +kernel⟩,
    ⟨inTurn ⟨0x06, 0x09, 0, 9, 0, 0, 0, 0⟩ (State.reset), 0, 0, 9, by decide +kernel⟩⟩

theorem witness_breakerSets :
    (∃ s : State, ∃ (pos : Nat) (set : Nat) (req : Nat) (status : Nat), s.tidy ∧ Due s ⟨0x07, 0x0A, set, req, status,
      0, 0, pos⟩ ∧ (atTurn pos s).seq.held = [] ∧ (producers (atTurn pos s)).length < 32 ∧ (atRead pos s).img.upsets =
      [] ∧ (atRead pos s).img.laneDiff = [] ∧ (asRead (atRead pos s) req).val ≠ 0 ∧ (asRead (atRead pos s) req).tag =
      .good ∧ synArmed (atRead pos s) = none ∧ synState (atRead pos s) (bitsOf set 2 0) = 0) ∧
    (∃ s : State, ∃ (pos : Nat) (set : Nat) (req : Nat) (status : Nat), s.tidy ∧ Due s ⟨0x07, 0x0A, set, req, status,
      0, 0, pos⟩ ∧ (atTurn pos s).seq.held = [] ∧ (producers (atTurn pos s)).length < 32 ∧ (atRead pos s).img.upsets =
      [] ∧ (atRead pos s).img.laneDiff = [] ∧ (asRead (atRead pos s) req).val = 0 ∧ (synState (atRead pos s) (bitsOf
      set 2 0) = 1 ∨ synState (atRead pos s) (bitsOf set 2 0) = 2 ∨ synState (atRead pos s) (bitsOf set 2 0) = 3)) ∧
    (∃ s : State, ∃ (pos : Nat) (set : Nat) (req : Nat) (status : Nat) (a : Nat), s.tidy ∧ Due s ⟨0x07, 0x0A, set,
      req, status, 0, 0, pos⟩ ∧ (atTurn pos s).seq.held = [] ∧ (producers (atTurn pos s)).length < 32 ∧ (atRead pos
      s).img.upsets = [] ∧ (atRead pos s).img.laneDiff = [] ∧ (asRead (atRead pos s) req).val ≠ 0 ∧ (asRead (atRead
      pos s) req).tag = .good ∧ synArmed (atRead pos s) = some a ∧ a ≠ (bitsOf set 2 0) ∧ synState (atRead pos s)
      (bitsOf set 2 0) = 0) ∧
    (∃ s : State, ∃ (n : Nat), s.tidy ∧ synArmed s = some n ∧ synState s n = 1 ∧ 10 ≤ s.syn.settle) ∧
    (∃ s : State, ∃ (n : Nat), s.tidy ∧ synArmed s = some n ∧ synState s n = 3 ∧ fld s Reg.synPlanSlot 11 0 =
      s.tbu.slot) ∧
    (∃ s : State, s.tidy ∧ synArmed s = none) ∧
    (∃ s : State, ∃ (n : Nat), s.tidy ∧ synArmed s = some n ∧ synState s n = 4 ∧ (dioPulse s (bitsOf (synCfg s 0) 21
      16)).getD 0 = 0) ∧
    (∃ s : State, ∃ (n : Nat), s.tidy ∧ synArmed s = some n ∧ synState s n ≠ 4 ∧ bitsOf (synCfg s 1) 23 16 * 200000000
      ≤ s.now - s.syn.armClk) ∧
    (∃ s : State, ∃ (n : Nat), s.tidy ∧ synArmed s = some n ∧ synState s n ≠ 4 ∧ 4096 ≤ s.syn.idleSlots) ∧
    (∃ s : State, s.tidy ∧ s.syn.idleSlots < 4096) ∧
    (∃ s : State, ∃ (n ch tcb k : Nat), s.tidy ∧ s.syn.timing = some (n, ch, tcb, k) ∧ s.now - k ≤ 200000000 ∧ bitOf
      s.dio.qual ch = true) ∧
    (∃ s : State, s.tidy ∧ s.syn.timing = none) :=
  ⟨⟨inTurn ⟨0x07, 0x0A, 1, 0, 7, 0, 0, 0⟩ ({ State.reset with img := { State.reset.img with words := [(0, ⟨1, .good⟩)] } }), 0, 1, 0, 7, by decide +kernel⟩,
    ⟨inTurn ⟨0x07, 0x0A, 0, 0, 7, 0, 0, 0⟩ (setFld Reg.synSetState 3 0 1 (wr Reg.synArmed 8 (State.reset))), 0, 0, 0, 7, by decide +kernel⟩,
    ⟨inTurn ⟨0x07, 0x0A, 1, 0, 7, 0, 0, 0⟩ ({ setFld Reg.synSetState 3 0 1 (wr Reg.synArmed 8 (State.reset)) with img := { State.reset.img with words := [(0, ⟨1, .good⟩)] } }), 0, 1, 0, 7, 0, by decide +kernel⟩,
    ⟨{ setFld Reg.synSetState 3 0 1 (wr Reg.synArmed 8 (State.reset)) with syn := { State.reset.syn with settle := 10 } }, 0, by decide +kernel⟩,
    ⟨{ setFld Reg.synSetState 3 0 3 (wr Reg.synArmed 8 (State.reset)) with syn := { State.reset.syn with cfg := [5] } }, 0, by decide +kernel⟩,
    ⟨State.reset, by decide +kernel⟩,
    ⟨{ setFld Reg.synSetState 3 0 4 (wr Reg.synArmed 8 (State.reset)) with dio := { State.reset.dio with pulse := [(0, some 0)] } }, 0, by decide +kernel⟩,
    ⟨setFld Reg.synSetState 3 0 1 (wr Reg.synArmed 8 (State.reset)), 0, by decide +kernel⟩,
    ⟨{ setFld Reg.synSetState 3 0 1 (wr Reg.synArmed 8 (State.reset)) with syn := { State.reset.syn with idleSlots := 4096 } }, 0, by decide +kernel⟩,
    ⟨{ setFld Reg.synSetState 3 0 1 (wr Reg.synArmed 8 (State.reset)) with syn := { State.reset.syn with idleSlots := 4095 } }, by decide +kernel⟩,
    ⟨{ State.reset with syn := { State.reset.syn with timing := some (0, 0, 10, 0) }, dio := { State.reset.dio with qual := 1 } }, 0, 0, 10, 0, by decide +kernel⟩,
    ⟨State.reset, by decide +kernel⟩⟩

theorem witness_solverJobs :
    (∃ s : State, ∃ (pos : Nat) (slot : Nat) (d : Nat) (n : Nat), s.tidy ∧ Due s ⟨0x12, 0x0C, slot, d, 0, 0, 0, pos⟩ ∧
      (atTurn pos s).seq.held = [] ∧ (producers (atTurn pos s)).length < 32 ∧ slvWedged (atTurn pos s) = false ∧
      (atTurn pos s).slv.running = none ∧ (gatherWords (atTurn pos s) (bitsOf d 5 0)).length = n) ∧
    (∃ s : State, ∃ (pos : Nat) (slot : Nat) (d : Nat), s.tidy ∧ Due s ⟨0x12, 0x0C, slot, d, 0, 0, 0, pos⟩ ∧ (atTurn
      pos s).seq.held = [] ∧ (producers (atTurn pos s)).length < 32 ∧ slvWedged (atTurn pos s) = true) ∧
    (∃ s : State, ∃ (j : Nat) (r : List Nat), s.tidy ∧ s.slv.queue.head? = some j ∧ (advanceTo (max (gatherEnd s j)
      s.slv.freeClk) s).slv.queue = j :: r ∧ (advanceTo (max (gatherEnd s j) s.slv.freeClk) s).slv.running = none ∧
      slvWedged (advanceTo (max (gatherEnd s j) s.slv.freeClk) s) = false ∧ (jobSlot (advanceTo (max (gatherEnd s j)
      s.slv.freeClk) s) j).ready = true) ∧
    (∃ s : State, s.tidy ∧ s.slv.queue = []) ∧
    (∃ s : State, ∃ (j : Nat), s.tidy ∧ s.slv.running = some j ∧ j < 8) ∧
    (∃ s : State, s.tidy ∧ s.slv.running = none) ∧
    (∃ s : State, ∃ (pos : Nat) (slot : Nat), s.tidy ∧ Due s ⟨0x13, 0x0C, slot, 0, 0, 0, 0, pos⟩ ∧ (atTurn pos
      s).seq.held = [] ∧ (producers (atTurn pos s)).length < 32 ∧ (atTurn pos s).slv.running ≠ some (bitsOf slot 2 0)
      ∧ (atTurn pos s).slv.queue.contains (bitsOf slot 2 0) = true) ∧
    (∃ s : State, ∃ (pos : Nat) (slot : Nat), s.tidy ∧ Due s ⟨0x13, 0x0C, slot, 0, 0, 0, 0, pos⟩ ∧ (atTurn pos
      s).seq.held = [] ∧ (producers (atTurn pos s)).length < 32 ∧ (atTurn pos s).slv.running = some (bitsOf slot 2 0)) ∧
    (∃ s : State, ∃ (pos : Nat) (slot : Nat), s.tidy ∧ Due s ⟨0x13, 0x0C, slot, 0, 0, 0, 0, pos⟩ ∧ (atTurn pos
      s).seq.held = [] ∧ (producers (atTurn pos s)).length < 32 ∧ (atTurn pos s).slv.running ≠ some (bitsOf slot 2 0)
      ∧ (atTurn pos s).slv.queue.contains (bitsOf slot 2 0) = false) ∧
    (∃ s : State, ∃ (slot : Fin 8) (clocks : Nat) (it : JobIter), s.tidy ∧ (jobSlot s slot.val).checkDue = true ∧
      (jobSlot (advanceTo ((jobSlot s slot.val).endClk + min clocks (checkBound (jobOf s (jobSlot s slot.val)))) s)
      slot.val).checkDue = true ∧ (jobSlot (advanceTo ((jobSlot s slot.val).endClk + min clocks (checkBound (jobOf s
      (jobSlot s slot.val)))) s) slot.val).iter = some it) ∧
    (∃ s : State, ∃ (slot : Fin 8), s.tidy ∧ (jobSlot s slot.val).checkDue = false) ∧
    (∃ s : State, ∃ (pos : Nat) (slot : Nat) (ws : List Nat), s.tidy ∧ Due s ⟨0x14, 0x0C, slot, 0, 0, 0, 0, pos⟩ ∧
      (atTurn pos s).seq.held = [] ∧ (producers (atTurn pos s)).length < 32 ∧ (jobSlot (atTurn pos s) (bitsOf slot 2
      0)).checkDue = false ∧ (resultWords (atTurn pos s) (bitsOf slot 2 0) ++ (if desc (atTurn pos s) (jobSlot (atTurn
      pos s) (bitsOf slot 2 0)).desc 0xE0 4 < imgWords then [desc (atTurn pos s) (jobSlot (atTurn pos s) (bitsOf slot
      2 0)).desc 0xE0 4] else []) = ws)) ∧
    (∃ s : State, ∃ (pos : Nat) (slot : Nat), s.tidy ∧ Due s ⟨0x14, 0x0C, slot, 0, 0, 0, 0, pos⟩ ∧ (atTurn pos
      s).seq.held = [] ∧ (producers (atTurn pos s)).length < 32 ∧ (jobSlot (atTurn pos s) (bitsOf slot 2 0)).checkDue
      = true) ∧
    (∃ s : State, ∃ (k : Nat), s.tidy ∧ s.slv.abandonClk = some k) ∧
    (∃ s : State, s.tidy ∧ s.slv.abandonClk = none) :=
  ⟨⟨inTurn ⟨0x12, 0x0C, 3, 0, 0, 0, 0, 0⟩ (State.reset), 0, 3, 0, 0, by decide +kernel⟩,
    ⟨inTurn ⟨0x12, 0x0C, 3, 0, 0, 0, 0, 0⟩ (setFlag (Reg.stat 0x0C) 5 true State.reset), 0, 3, 0, by decide +kernel⟩,
    ⟨{ State.reset with slv := { State.reset.slv with queue := [2], slots := [(2, { ready := true })] } }, 2, [], by decide +kernel⟩,
    ⟨State.reset, by decide +kernel⟩,
    ⟨{ State.reset with slv := { State.reset.slv with running := some 2 } }, 2, by decide +kernel⟩,
    ⟨State.reset, by decide +kernel⟩,
    ⟨inTurn ⟨0x13, 0x0C, 2, 0, 0, 0, 0, 0⟩ ({ State.reset with slv := { State.reset.slv with queue := [2] } }), 0, 2, by decide +kernel⟩,
    ⟨inTurn ⟨0x13, 0x0C, 2, 0, 0, 0, 0, 0⟩ ({ State.reset with slv := { State.reset.slv with running := some 2 } }), 0, 2, by decide +kernel⟩,
    ⟨inTurn ⟨0x13, 0x0C, 2, 0, 0, 0, 0, 0⟩ (State.reset), 0, 2, by decide +kernel⟩,
    ⟨{ State.reset with slv := { State.reset.slv with slots := [(0, { checkDue := true, iter := some {} })] } }, 0, 0, {}, by decide +kernel⟩,
    ⟨State.reset, 0, by decide +kernel⟩,
    ⟨inTurn ⟨0x14, 0x0C, 1, 0, 0, 0, 0, 0⟩ (setFld (Reg.slvSlotState 1) 27 24 5 State.reset), 0, 1, [0], by decide +kernel⟩,
    ⟨inTurn ⟨0x14, 0x0C, 1, 0, 0, 0, 0, 0⟩ ({ State.reset with slv := { State.reset.slv with slots := [(1, { checkDue := true, iter := some {} })] } }), 0, 1, by decide +kernel⟩,
    ⟨{ State.reset with slv := { State.reset.slv with abandonClk := some 5 } }, 5, by decide +kernel⟩,
    ⟨State.reset, by decide +kernel⟩⟩

theorem witness_entriesInProgress :
    (∃ s : State, ∃ (uid w : Nat) (x : ICell) (o : OutEntry), s.tidy ∧ s.img.upsets = [] ∧ s.img.laneDiff = [] ∧
      entryOf s uid = some o ∧ o.left.contains w = true ∧ w < imgWords) ∧
    (∃ s : State, ∃ (uid w : Nat) (g : Tag) (b : Bool) (o : OutEntry), s.tidy ∧ s.img.upsets = [] ∧ s.img.laneDiff =
      [] ∧ entryOf s uid = some o ∧ o.left.contains w = true ∧ w < imgWords) ∧
    (∃ s : State, ∃ (uid w k : Nat) (o : OutEntry), s.tidy ∧ s.img.upsets = [] ∧ s.img.laneDiff = [] ∧ entryOf s uid =
      some o ∧ o.left.contains w = true ∧ w < imgWords) ∧
    (∃ s : State, ∃ (uid : Nat) (o : OutEntry), s.tidy ∧ entryOf s uid = some o ∧ cfgNat s 0x0801 (jobSlot s (bitsOf
      o.e.arg0 2 0)).desc 2 2 ≠ 0 ∧ o.got.all usableF = true) ∧
    (∃ s : State, ∃ (uid : Nat) (o : OutEntry), s.tidy ∧ entryOf s uid = some o ∧ cfgNat s 0x0801 (jobSlot s (bitsOf
      o.e.arg0 2 0)).desc 2 2 = 0) ∧
    (∃ s : State, ∃ (uid : Nat) (o : OutEntry), s.tidy ∧ entryOf s uid = some o ∧ cfgNat s 0x0801 (jobSlot s (bitsOf
      o.e.arg0 2 0)).desc 2 2 ≠ 0 ∧ o.got.all usableF = false) ∧
    (∃ s : State, ∃ (uid : Nat) (o : OutEntry) (j : Nat), s.tidy ∧ entryOf s uid = some o ∧ bitsOf o.e.arg0 2 0 = j ∧
      (jobSlot s j).checkDue = false ∧ bitOf (effRd s Reg.slvForceFb) j = false ∧ fld s (Reg.slvSlotState j) 27 24 =
      5) ∧
    (∃ s : State, ∃ (uid : Nat) (o : OutEntry) (j : Nat), s.tidy ∧ entryOf s uid = some o ∧ bitsOf o.e.arg0 2 0 = j ∧
      (jobSlot s j).checkDue = false ∧ bitOf (effRd s Reg.slvForceFb) j = true) ∧
    (∃ s : State, ∃ (uid : Nat) (o : OutEntry) (j : Nat) (it : JobIter) (vs : List Word), s.tidy ∧ entryOf s uid =
      some o ∧ bitsOf o.e.arg0 2 0 = j ∧ (jobSlot s j).checkDue = false ∧ bitOf (effRd s Reg.slvForceFb) j = false ∧
      fld s (Reg.slvSlotState j) 27 24 = 1 ∧ flag s (Reg.slvSlotState j) 18 = false ∧ (jobSlot s j).iter = some it ∧
      fLe (b64 (jobSlot s j).rho) (jobTol s (jobSlot s j).desc) = true ∧ to32 (polarForm (desc s (jobSlot s j).desc
      0x0B 1) (it.x.map b64)) = some vs) :=
  ⟨⟨{ State.reset with seq := { State.reset.seq with nextUid := 1, outst := [{ uid := 0, e := ⟨0x10, 5, 1, 0, 7, 0, 0, 0⟩, last := 99, words := [7], left := [7], todo := [(5, .put 7 ⟨1, .good⟩)] }] } }, 0, 7, ⟨1, .good⟩, (({ State.reset with seq := { State.reset.seq with nextUid := 1, outst := [{ uid := 0, e := ⟨0x10, 5, 1, 0, 7, 0, 0, 0⟩, last := 99, words := [7], left := [7], todo := [(5, .put 7 ⟨1, .good⟩)] }] } }).seq.outst.headD noEntry), by decide +kernel⟩,
    ⟨{ State.reset with seq := { State.reset.seq with nextUid := 1, outst := [{ uid := 0, e := ⟨0x10, 5, 1, 0, 7, 0, 0, 0⟩, last := 99, words := [7], left := [7], todo := [(5, .keep 7 .held false)] }] } }, 0, 7, .held, false, (({ State.reset with seq := { State.reset.seq with nextUid := 1, outst := [{ uid := 0, e := ⟨0x10, 5, 1, 0, 7, 0, 0, 0⟩, last := 99, words := [7], left := [7], todo := [(5, .keep 7 .held false)] }] } }).seq.outst.headD noEntry), by decide +kernel⟩,
    ⟨{ State.reset with seq := { State.reset.seq with nextUid := 1, outst := [{ uid := 0, e := ⟨0x10, 5, 1, 0, 7, 0, 0, 0⟩, last := 99, words := [7], left := [7], todo := [(5, .copy 0 7)] }] } }, 0, 7, 0, (({ State.reset with seq := { State.reset.seq with nextUid := 1, outst := [{ uid := 0, e := ⟨0x10, 5, 1, 0, 7, 0, 0, 0⟩, last := 99, words := [7], left := [7], todo := [(5, .copy 0 7)] }] } }).seq.outst.headD noEntry), by decide +kernel⟩,
    ⟨{ State.reset with seq := { State.reset.seq with nextUid := 1, outst := [{ uid := 0, e := ⟨0x12, 0x0C, 3, 0, 0, 0, 0, 0⟩, last := 99, words := [], left := [], todo := [(5, .gathered)] }] }, active := some 0, sheaf := solverSheaf }, 0, (({ State.reset with seq := { State.reset.seq with nextUid := 1, outst := [{ uid := 0, e := ⟨0x12, 0x0C, 3, 0, 0, 0, 0, 0⟩, last := 99, words := [], left := [], todo := [(5, .gathered)] }] }, active := some 0, sheaf := solverSheaf }).seq.outst.headD noEntry), by decide +kernel⟩,
    ⟨{ State.reset with seq := { State.reset.seq with nextUid := 1, outst := [{ uid := 0, e := ⟨0x12, 0x0C, 3, 0, 0, 0, 0, 0⟩, last := 99, words := [], left := [], todo := [(5, .gathered)] }] } }, 0, (({ State.reset with seq := { State.reset.seq with nextUid := 1, outst := [{ uid := 0, e := ⟨0x12, 0x0C, 3, 0, 0, 0, 0, 0⟩, last := 99, words := [], left := [], todo := [(5, .gathered)] }] } }).seq.outst.headD noEntry), by decide +kernel⟩,
    ⟨{ State.reset with seq := { State.reset.seq with nextUid := 1, outst := [{ uid := 0, e := ⟨0x12, 0x0C, 3, 0, 0, 0, 0, 0⟩, last := 99, words := [], left := [], got := [⟨0, .bad⟩], todo := [(5, .gathered)] }] }, active := some 0, sheaf := solverSheaf }, 0, (({ State.reset with seq := { State.reset.seq with nextUid := 1, outst := [{ uid := 0, e := ⟨0x12, 0x0C, 3, 0, 0, 0, 0, 0⟩, last := 99, words := [], left := [], got := [⟨0, .bad⟩], todo := [(5, .gathered)] }] }, active := some 0, sheaf := solverSheaf }).seq.outst.headD noEntry), by decide +kernel⟩,
    ⟨setFld (Reg.slvSlotState 1) 27 24 5 ({ State.reset with seq := { State.reset.seq with nextUid := 1, outst := [{ uid := 0, e := ⟨0x14, 0x0C, 1, 0, 0, 0, 0, 0⟩, last := 99, words := [], left := [], todo := [(5, .collect)] }] } }), 0, ((setFld (Reg.slvSlotState 1) 27 24 5 ({ State.reset with seq := { State.reset.seq with nextUid := 1, outst := [{ uid := 0, e := ⟨0x14, 0x0C, 1, 0, 0, 0, 0, 0⟩, last := 99, words := [], left := [], todo := [(5, .collect)] }] } })).seq.outst.headD noEntry), 1, by decide +kernel⟩,
    ⟨wr Reg.slvForceFb 2 ({ State.reset with seq := { State.reset.seq with nextUid := 1, outst := [{ uid := 0, e := ⟨0x14, 0x0C, 1, 0, 0, 0, 0, 0⟩, last := 99, words := [], left := [], todo := [(5, .collect)] }] } }), 0, ((wr Reg.slvForceFb 2 ({ State.reset with seq := { State.reset.seq with nextUid := 1, outst := [{ uid := 0, e := ⟨0x14, 0x0C, 1, 0, 0, 0, 0, 0⟩, last := 99, words := [], left := [], todo := [(5, .collect)] }] } })).seq.outst.headD noEntry), 1, by decide +kernel⟩,
    ⟨setFld (Reg.slvSlotState 1) 27 24 1 ({ State.reset with seq := { State.reset.seq with nextUid := 1, outst := [{ uid := 0, e := ⟨0x14, 0x0C, 1, 0, 0, 0, 0, 0⟩, last := 99, words := [], left := [], todo := [(5, .collect)] }] }, slv := { State.reset.slv with slots := [(1, { iter := some { x := [0] } })] } }), 0, ((setFld (Reg.slvSlotState 1) 27 24 1 ({ State.reset with seq := { State.reset.seq with nextUid := 1, outst := [{ uid := 0, e := ⟨0x14, 0x0C, 1, 0, 0, 0, 0, 0⟩, last := 99, words := [], left := [], todo := [(5, .collect)] }] }, slv := { State.reset.slv with slots := [(1, { iter := some { x := [0] } })] } })).seq.outst.headD noEntry), 1, { x := [0] }, [0], by decide +kernel⟩⟩

theorem witness_safetyInputs :
    (∃ s : State, ∃ (n : Fin 16) (clk : Nat), s.tidy ∧ blanked (advanceTo (clk) s) n.val = true) ∧
    (∃ s : State, ∃ (n : Fin 16) (run : VoltRun) (clk : Nat), s.tidy ∧ blanked (advanceTo (clk) s) n.val = false ∧
      (fld (advanceTo (clk) s) (Reg.safInCfg n.val) 24 16 * 100 ≤ min 50000 ((if siRawLevel (bitOf (advanceTo (clk)
      s).saf.raw n.val) run.mv = bitOf (advanceTo (clk) s).saf.raw n.val then tabGet (fun _ => (0 : Nat)) (advanceTo
      (clk) s).saf.rawUs n.val else 0) + run.us))) ∧
    (∃ s : State, ∃ (n : Fin 16) (run : VoltRun) (clk : Nat), s.tidy ∧ blanked (advanceTo (clk) s) n.val = false ∧
      (fld (advanceTo (clk) s) (Reg.safInCfg n.val) 24 16 * 100 ≤ min 50000 ((if siRawLevel (bitOf (advanceTo (clk)
      s).saf.raw n.val) run.mv = bitOf (advanceTo (clk) s).saf.raw n.val then tabGet (fun _ => (0 : Nat)) (advanceTo
      (clk) s).saf.rawUs n.val else 0) + run.us)) ∧ bitOf (advanceTo (clk) s).saf.q n.val ≠ siRawLevel (bitOf
      (advanceTo (clk) s).saf.raw n.val) run.mv) ∧
    (∃ s : State, ∃ (n : Fin 16) (run : VoltRun) (clk : Nat), s.tidy ∧ blanked (advanceTo (clk) s) n.val = false ∧
      (min 50000 ((if siRawLevel (bitOf (advanceTo (clk) s).saf.raw n.val) run.mv = bitOf (advanceTo (clk) s).saf.raw
      n.val then tabGet (fun _ => (0 : Nat)) (advanceTo (clk) s).saf.rawUs n.val else 0) + run.us) < fld (advanceTo
      (clk) s) (Reg.safInCfg n.val) 24 16 * 100 ∨ (bitOf (advanceTo (clk) s).saf.q n.val = siRawLevel (bitOf
      (advanceTo (clk) s).saf.raw n.val) run.mv ∧ safDrives (advanceTo (clk) s) = false))) ∧
    (∃ s : State, ∃ (n : Fin 16) (clk : Nat) (k : Nat), s.tidy ∧ siKind s n.val = 5 ∧ siKind (advanceTo (clk) s) n.val
      = 5 ∧ bitOf (advanceTo (clk) s).saf.q n.val = true ∧ (advanceTo (clk) s).saf.unit = 2 ∧ tabGet (fun _ => (none :
      Option Nat)) (advanceTo (clk) s).saf.press n.val = some k ∧ bitOf (advanceTo (clk) s).saf.stuck n.val = false ∧
      (advanceTo (clk) s).now - k < 20000000) ∧
    (∃ s : State, ∃ (n : Fin 16) (clk : Nat) (k : Nat), s.tidy ∧ siKind s n.val = 5 ∧ siKind (advanceTo (clk) s) n.val
      = 5 ∧ bitOf (advanceTo (clk) s).saf.q n.val = true ∧ (advanceTo (clk) s).saf.unit = 2 ∧ tabGet (fun _ => (none :
      Option Nat)) (advanceTo (clk) s).saf.press n.val = some k ∧ bitOf (advanceTo (clk) s).saf.stuck n.val = false ∧
      20000000 ≤ (advanceTo (clk) s).now - k ∧ (advanceTo (clk) s).now - k ≤ 600000000) ∧
    (∃ s : State, ∃ (n : Fin 16), s.tidy ∧ siKind s n.val ≠ 5) ∧
    (∃ s : State, ∃ (n : Fin 16) (k : Nat), s.tidy ∧ siKind s n.val = 5 ∧ bitOf s.saf.q n.val = true ∧ tabGet (fun _
      => (none : Option Nat)) s.saf.press n.val = some k ∧ bitOf (advanceTo (k + 600000000) s).saf.stuck n.val =
      false) ∧
    (∃ s : State, ∃ (n : Fin 16), s.tidy ∧ (tabGet (fun _ => (none : Option Nat)) s.saf.press n.val = none ∨ siKind s
      n.val ≠ 5 ∨ bitOf s.saf.q n.val = false)) ∧
    (∃ s : State, ∃ (n : Fin 16), s.tidy ∧ bitOf s.saf.stuck n.val = true ∧ bitOf s.saf.q n.val = false) ∧
    (∃ s : State, ∃ (n : Fin 16), s.tidy ∧ (bitOf s.saf.stuck n.val = false ∨ bitOf s.saf.q n.val = true)) :=
  ⟨⟨{ safetyState 2 0 with saf := { (safetyState 2 0).saf with pulseClk := some 0 } }, 0, 9, by decide +kernel⟩,
    ⟨safetyState 2 0, 0, ⟨4000, 0⟩, 9, by decide +kernel⟩,
    ⟨safetyState 2 0, 0, ⟨4000, 0⟩, 9, by decide +kernel⟩,
    ⟨wr (Reg.safInCfg 0) 0x10001 (safetyState 2 0), 0, ⟨6000, 99⟩, 9, by decide +kernel⟩,
    ⟨{ safetyState 2 0 with saf := { (safetyState 2 0).saf with q := 3, press := [(1, some 5)] } }, 1, 9, 5, by decide +kernel⟩,
    ⟨{ safetyState 2 0 with saf := { (safetyState 2 0).saf with q := 3, press := [(1, some 5)], latch := 1 } }, 1, 20000005, 5, by decide +kernel⟩,
    ⟨State.reset, 1, by decide +kernel⟩,
    ⟨{ safetyState 2 0 with saf := { (safetyState 2 0).saf with q := 3, press := [(1, some 5)] } }, 1, 5, by decide +kernel⟩,
    ⟨safetyState 2 0, 1, by decide +kernel⟩,
    ⟨{ safetyState 2 0 with saf := { (safetyState 2 0).saf with stuck := 2 } }, 1, by decide +kernel⟩,
    ⟨safetyState 2 0, 0, by decide +kernel⟩⟩

theorem witness_safetyDiagnostics :
    (∃ s : State, ∃ (k : Fin 8) (m : Nat), s.tidy ∧ tabGet (fun _ => (none : Option Nat)) s.saf.pairSince k.val = some
      m ∧ siPair s (2 * k.val) = true ∧ bitOf s.saf.disc k.val = false ∧ 2 ≤ s.saf.unit) ∧
    (∃ s : State, ∃ (k : Fin 8), s.tidy ∧ (tabGet (fun _ => (none : Option Nat)) s.saf.pairSince k.val = none ∨ siPair
      s (2 * k.val) = false ∨ bitOf s.saf.disc k.val = true ∨ s.saf.unit < 2)) ∧
    (∃ s : State, s.tidy ∧ safDrives s = true ∧ s.saf.pulseClk = none) ∧
    (∃ s : State, ∃ (k : Nat), s.tidy ∧ safDrives s = true ∧ s.saf.pulseClk = some k) ∧
    (∃ s : State, s.tidy ∧ safDrives s = false) ∧
    (∃ s : State, ∃ (inUs : Nat) (outUs : Nat), s.tidy ∧ ((inUs ≤ 1000 ∧ outUs ≤ 30) ∨ s.saf.chFault = true)) ∧
    (∃ s : State, ∃ (inUs : Nat) (outUs : Nat), s.tidy ∧ (1000 < inUs ∨ 30 < outUs) ∧ s.saf.chFault = false ∧
      s.saf.unit ≠ 0 ∧ (role s ≠ roleActive ∨ s.saf.unit ≠ 2 ∨ fld s Reg.redPartner 2 0 ≠ roleStandby ∨ flag s
      Reg.redPartner 4 = true)) ∧
    (∃ s : State, ∃ (inUs : Nat) (outUs : Nat), s.tidy ∧ (1000 < inUs ∨ 30 < outUs) ∧ s.saf.chFault = false ∧
      s.saf.unit = 0) ∧
    (∃ s : State, ∃ (inUs : Nat) (outUs : Nat), s.tidy ∧ (1000 < inUs ∨ 30 < outUs) ∧ s.saf.chFault = false ∧
      s.saf.unit = 2 ∧ role s = roleActive ∧ fld s Reg.redPartner 2 0 = roleStandby ∧ flag s Reg.redPartner 4 = false) ∧
    (∃ s : State, s.tidy ∧ s.saf.unit = 3) ∧
    (∃ s : State, s.tidy ∧ s.saf.unit ≠ 3) :=
  ⟨⟨{ wr (Reg.safInCfg 2) 3 (safetyState 2 0) with saf := { State.reset.saf with unit := 2, q := 5, pairSince := [(1, some 7)] } }, 1, 7, by decide +kernel⟩,
    ⟨safetyState 2 0, 0, by decide +kernel⟩,
    ⟨safetyState 2 0, by decide +kernel⟩,
    ⟨{ safetyState 2 0 with saf := { (safetyState 2 0).saf with pulseClk := some 0, cross := 1 } }, 0, by decide +kernel⟩,
    ⟨safetyState 1 0, by decide +kernel⟩,
    ⟨safetyState 2 0, 1000, 30, by decide +kernel⟩,
    ⟨safetyState 2 0, 1001, 0, by decide +kernel⟩,
    ⟨State.reset, 1001, 0, by decide +kernel⟩,
    ⟨setFld Reg.redPartner 2 0 roleStandby (setFld Reg.sysRole 2 0 roleActive (safetyState 2 0)), 0, 31, by decide +kernel⟩,
    ⟨safetyState 3 0, by decide +kernel⟩,
    ⟨safetyState 2 0, by decide +kernel⟩⟩

theorem witness_safetyOutputs :
    (∃ s : State, ∃ (o : Fin 6), s.tidy ∧ (safDrives s = false ∨ flag s (Reg.safOutCfg o.val) 0 = false)) ∧
    (∃ s : State, ∃ (o : Fin 6) (cut : Bool) (k : Nat), s.tidy ∧ flag s (Reg.safOutCfg o.val) 0 = true ∧ safDrives s =
      true ∧ tabGet (fun _ => (none : Option Nat)) s.saf.soClk o.val = some k ∧ (cut = true ∨ soOn (advanceTo (gridClk
      s (k + 100000000) 100000000) s) o.val = false)) ∧
    (∃ s : State, ∃ (o : Fin 6) (cut : Bool) (k : Nat), s.tidy ∧ flag s (Reg.safOutCfg o.val) 0 = true ∧ safDrives s =
      true ∧ tabGet (fun _ => (none : Option Nat)) s.saf.soClk o.val = some k ∧ cut = false ∧ soOn (advanceTo (gridClk
      s (k + 100000000) 100000000) s) o.val = true) ∧
    (∃ s : State, ∃ (o : Fin 6) (cut : Bool), s.tidy ∧ flag s (Reg.safOutCfg o.val) 0 = true ∧ safDrives s = true ∧
      tabGet (fun _ => (none : Option Nat)) s.saf.soClk o.val = none ∧ (cut = true ∨ soOn s o.val = false)) ∧
    (∃ s : State, ∃ (o : Fin 6) (cut : Bool), s.tidy ∧ flag s (Reg.safOutCfg o.val) 0 = true ∧ safDrives s = true ∧
      tabGet (fun _ => (none : Option Nat)) s.saf.soClk o.val = none ∧ cut = false ∧ soOn s o.val = true) ∧
    (∃ s : State, ∃ (o : Fin 6), s.tidy ∧ soOn s o.val = true) ∧
    (∃ s : State, ∃ (o : Fin 6), s.tidy ∧ soOn s o.val = false) ∧
    (∃ s : State, ∃ (o : Fin 6), s.tidy ∧ safDrives s = true ∧ soOn s o.val = false ∧ bitOf s.saf.outFault o.val =
      false) ∧
    (∃ s : State, ∃ (o : Fin 6), s.tidy ∧ safDrives s = true ∧ soOn s o.val = false ∧ bitOf s.saf.outFault o.val =
      true) ∧
    (∃ s : State, ∃ (o : Fin 6), s.tidy ∧ (safDrives s = false ∨ soOn s o.val = true)) ∧
    (∃ s : State, ∃ (pos : Nat) (dst : Nat), s.tidy ∧ Due s ⟨0x30, 0x0D, 0, dst, 0, 0, 0, pos⟩ ∧ (atTurn pos
      s).seq.held = [] ∧ (producers (atTurn pos s)).length < 32) ∧
    (∃ s : State, s.tidy ∧ dispatching s = false) :=
  ⟨⟨safetyState 1 0, 0, by decide +kernel⟩,
    ⟨{ safetyState 2 0 with saf := { (safetyState 2 0).saf with soClk := [(0, some 0)] } }, 0, true, 0, by decide +kernel⟩,
    ⟨{ safetyState 2 0 with saf := { (safetyState 2 0).saf with soClk := [(0, some 0)] } }, 0, false, 0, by decide +kernel⟩,
    ⟨safetyState 2 0, 0, true, by decide +kernel⟩,
    ⟨safetyState 2 0, 0, false, by decide +kernel⟩,
    ⟨safetyState 2 0, 0, by decide +kernel⟩,
    ⟨safetyState 1 0, 0, by decide +kernel⟩,
    ⟨{ safetyState 2 0 with saf := { (safetyState 2 0).saf with latch := 1 } }, 0, by decide +kernel⟩,
    ⟨{ safetyState 2 0 with saf := { (safetyState 2 0).saf with latch := 1, outFault := 1, overcur := 1 } }, 0, by decide +kernel⟩,
    ⟨safetyState 1 0, 0, by decide +kernel⟩,
    ⟨inTurn ⟨0x30, 0x0D, 0, 16, 0, 0, 0, 0⟩ (State.reset), 0, 16, by decide +kernel⟩,
    ⟨State.reset, by decide +kernel⟩⟩

theorem witness_brakeTimers :
    (∃ s : State, ∃ (n : Fin 2) (ma : Nat), s.tidy ∧ (brake s n.val).state = 1 ∧ (coilOk (advanceTo ((brake s
      n.val).opClk + 2000000 * bkCoil s n.val 15 8) s) n.val ma = false ∨ (bkIo (advanceTo ((brake s n.val).opClk +
      2000000 * bkCoil s n.val 15 8) s) n.val 12 12 ≠ 0 ∧ bkFb (advanceTo ((brake s n.val).opClk + 2000000 * bkCoil s
      n.val 15 8) s) n.val = false))) ∧
    (∃ s : State, ∃ (n : Fin 2) (ma : Nat), s.tidy ∧ (brake s n.val).state = 1 ∧ coilOk (advanceTo ((brake s
      n.val).opClk + 2000000 * bkCoil s n.val 15 8) s) n.val ma = true ∧ (bkIo (advanceTo ((brake s n.val).opClk +
      2000000 * bkCoil s n.val 15 8) s) n.val 12 12 = 0 ∨ bkFb (advanceTo ((brake s n.val).opClk + 2000000 * bkCoil s
      n.val 15 8) s) n.val = true)) ∧
    (∃ s : State, ∃ (n : Fin 2), s.tidy ∧ (brake s n.val).state ≠ 1) ∧
    (∃ s : State, ∃ (n : Fin 2) (ma : Nat), s.tidy ∧ (brake s n.val).state = 2 ∧ coilOk s n.val ma = false) ∧
    (∃ s : State, ∃ (n : Fin 2) (ma : Nat), s.tidy ∧ ((brake s n.val).state ≠ 2 ∨ coilOk s n.val ma = true)) ∧
    (∃ s : State, ∃ (n : Fin 2) (ma : Nat) (first : Bool), s.tidy ∧ (brake s n.val).applying = true ∧ ma < 50 ∧ (bkIo
      (advanceTo ((brake s n.val).opClk + 2000000 * bkCoil s n.val 7 0) s) n.val 12 12 = 0 ∨ bkFb (advanceTo ((brake s
      n.val).opClk + 2000000 * bkCoil s n.val 7 0) s) n.val = false) ∧ first = false) ∧
    (∃ s : State, ∃ (n : Fin 2) (ma : Nat), s.tidy ∧ (brake s n.val).applying = true ∧ (50 ≤ ma ∨ (bkIo (advanceTo
      ((brake s n.val).opClk + 2000000 * bkCoil s n.val 7 0) s) n.val 12 12 = 1 ∧ bkFb (advanceTo ((brake s
      n.val).opClk + 2000000 * bkCoil s n.val 7 0) s) n.val = true))) ∧
    (∃ s : State, ∃ (n : Fin 2), s.tidy ∧ (brake s n.val).applying = false) :=
  ⟨⟨safetyState 2 1, 0, 1, by decide +kernel⟩,
    ⟨safetyState 2 1, 0, 0, by decide +kernel⟩,
    ⟨safetyState 2 0, 0, by decide +kernel⟩,
    ⟨safetyState 2 2, 0, 1, by decide +kernel⟩,
    ⟨safetyState 2 0, 0, 0, by decide +kernel⟩,
    ⟨{ safetyState 2 0 with saf := { (safetyState 2 0).saf with brakes := [(0, { applying := true })] } }, 0, 49, false, by decide +kernel⟩,
    ⟨{ safetyState 2 0 with saf := { (safetyState 2 0).saf with brakes := [(0, { applying := true })] } }, 0, 50, by decide +kernel⟩,
    ⟨safetyState 2 0, 0, by decide +kernel⟩⟩

theorem witness_brakeTests :
    (∃ s : State, ∃ (n : Fin 2) (k : Nat), s.tidy ∧ (brake s n.val).since = some k) ∧
    (∃ s : State, ∃ (n : Fin 2), s.tidy ∧ (brake s n.val).since = none) ∧
    (∃ s : State, ∃ (n : Fin 2), s.tidy ∧ (brake s n.val).state = 3) ∧
    (∃ s : State, ∃ (n : Fin 2), s.tidy ∧ (brake s n.val).state ≠ 3) ∧
    (∃ s : State, ∃ (n : Fin 2), s.tidy ∧ (brake s n.val).state = 4) ∧
    (∃ s : State, ∃ (n : Fin 2), s.tidy ∧ (brake s n.val).state ≠ 4) ∧
    (∃ s : State, ∃ (pi : Fin 4), s.tidy ∧ (List.range 2).filter (fun k => (brake s k).state == 4 && bkIo s k 17 16 ==
      pi.val) = []) ∧
    (∃ s : State, ∃ (pi : Fin 4) (aLeads : Bool) (n : Nat), s.tidy ∧ (List.range 2).filter (fun k => (brake s k).state
      == 4 && bkIo s k 17 16 == pi.val) = [n] ∧ (min 0xFFFF (max (brake s n).move ((brake s n).dist + (if aLeads then
      1 else -1)).natAbs) < bkTest s n 23 16)) ∧
    (∃ s : State, ∃ (pi : Fin 4) (aLeads : Bool) (n : Nat), s.tidy ∧ (List.range 2).filter (fun k => (brake s k).state
      == 4 && bkIo s k 17 16 == pi.val) = [n] ∧ (bkTest s n 23 16 ≤ min 0xFFFF (max (brake s n).move ((brake s n).dist
      + (if aLeads then 1 else -1)).natAbs))) :=
  ⟨⟨{ safetyState 2 0 with saf := { (safetyState 2 0).saf with brakes := [(0, { since := some 5, left := 7 })] } }, 0, 5, by decide +kernel⟩,
    ⟨safetyState 2 0, 0, by decide +kernel⟩,
    ⟨safetyState 2 3, 0, by decide +kernel⟩,
    ⟨safetyState 2 0, 0, by decide +kernel⟩,
    ⟨safetyState 2 4, 0, by decide +kernel⟩,
    ⟨safetyState 2 0, 0, by decide +kernel⟩,
    ⟨safetyState 2 0, 0, by decide +kernel⟩,
    ⟨wr (Reg.safBkTest 0) 0xFFFFFFFF (safetyState 2 4), 0, false, 0, by decide +kernel⟩,
    ⟨safetyState 2 4, 0, false, 0, by decide +kernel⟩⟩

theorem witness_safetyStore :
    (∃ s : State, s.tidy ∧ safDrives s = true) ∧
    (∃ s : State, s.tidy ∧ safDrives s = false) ∧
    (∃ s : State, ∃ (bytes : List Nat), s.tidy ∧ recordOk s bytes = true) ∧
    (∃ s : State, ∃ (bytes : List Nat), s.tidy ∧ recordOk s bytes = false) ∧
    (∃ s : State, s.tidy ∧ s.saf.current = true ∧ (advanceTo (s.saf.recClk + 1000000) s).saf.unit ≠ 1) ∧
    (∃ s : State, s.tidy ∧ s.saf.current = true ∧ (advanceTo (s.saf.recClk + 1000000) s).saf.unit = 1) ∧
    (∃ s : State, s.tidy ∧ s.saf.current = false) ∧
    (∃ s : State, s.tidy ∧ s.saf.unit = 1 ∧ s.red.own = .present ∧ s.red.partner ≠ .present) ∧
    (∃ s : State, s.tidy ∧ (s.saf.unit ≠ 1 ∨ s.red.own ≠ .present ∨ s.red.partner = .present)) ∧
    (∃ s : State, s.tidy ∧ safDrives s = true ∧ s.red.partner = .present) ∧
    (∃ s : State, s.tidy ∧ (safDrives s = false ∨ s.red.partner ≠ .present)) ∧
    (∃ s : State, s.tidy ∧ s.saf.tested = false ∧ s.saf.accepted = true ∧ s.saf.unit = 0 ∧ s.saf.chFault = false) ∧
    (∃ s : State, s.tidy ∧ s.saf.tested = true) ∧
    (∃ s : State, s.tidy) :=
  ⟨⟨safetyState 2 0, by decide +kernel⟩,
    ⟨safetyState 1 0, by decide +kernel⟩,
    ⟨{ State.reset with saf := { State.reset.saf with accepted := true, dig := List.replicate 32 0 } }, safRecord { State.reset with saf := { State.reset.saf with dig := List.replicate 32 0 } } 1, by decide +kernel⟩,
    ⟨safetyState 2 0, [], by decide +kernel⟩,
    ⟨{ safetyState 2 0 with saf := { (safetyState 2 0).saf with current := true } }, by decide +kernel⟩,
    ⟨{ safetyState 1 0 with saf := { (safetyState 1 0).saf with current := true } }, by decide +kernel⟩,
    ⟨safetyState 1 0, by decide +kernel⟩,
    ⟨{ safetyState 1 0 with red := { State.reset.red with own := .present } }, by decide +kernel⟩,
    ⟨safetyState 2 0, by decide +kernel⟩,
    ⟨{ safetyState 2 0 with red := { State.reset.red with partner := .present } }, by decide +kernel⟩,
    ⟨safetyState 1 0, by decide +kernel⟩,
    ⟨{ safetyState 0 0 with saf := { (safetyState 0 0).saf with accepted := true } }, by decide +kernel⟩,
    ⟨{ safetyState 0 0 with saf := { (safetyState 0 0).saf with tested := true } }, by decide +kernel⟩,
    ⟨safetyState 2 0, by decide +kernel⟩⟩

theorem witness_messageBusTransmission :
    (∃ s : State, ∃ (pos : Nat) (n : Fin 4) (d : Nat), s.tidy ∧ Due s ⟨0x20, 0x0E + n, d, 0, 0, 0, 0, pos⟩ ∧ (atTurn
      pos s).seq.held = [] ∧ (producers (atTurn pos s)).length < 32) ∧
    (∃ s : State, ∃ (uid : Nat) (o : OutEntry) (d : Nat), s.tidy ∧ entryOf s uid = some o ∧ bitsOf o.e.arg0 11 0 = d ∧
      o.got.all (fun c => usableTag c.tag) = true ∧ (mbc s (txdCtl s d)).queue.any (fun i => i.desc == d) = false ∧
      (mbc s (mbcPair (txdCtl s d))).queue.any (fun i => i.desc == d) = false) ∧
    (∃ s : State, ∃ (uid : Nat) (o : OutEntry) (d : Nat), s.tidy ∧ entryOf s uid = some o ∧ bitsOf o.e.arg0 11 0 = d ∧
      o.got.all (fun c => usableTag c.tag) = true ∧ (mbc s (txdCtl s d)).queue.any (fun i => i.desc == d) = true) ∧
    (∃ s : State, ∃ (uid : Nat) (o : OutEntry) (d : Nat), s.tidy ∧ entryOf s uid = some o ∧ bitsOf o.e.arg0 11 0 = d ∧
      o.got.all (fun c => usableTag c.tag) = false ∧ s.mbcBad.contains d = false) ∧
    (∃ s : State, ∃ (uid : Nat) (o : OutEntry) (d : Nat), s.tidy ∧ entryOf s uid = some o ∧ bitsOf o.e.arg0 11 0 = d ∧
      o.got.all (fun c => usableTag c.tag) = false ∧ s.mbcBad.contains d = true) ∧
    (∃ s : State, ∃ (n : Fin 4) (i : TxInst), s.tidy ∧ mbcMayTx s n.val = true ∧ firstTx ((mbc s n.val).queue.filter
      (fun i => i.ready ≤ s.now)) = some i) ∧
    (∃ s : State, ∃ (n : Fin 4), s.tidy ∧ (mbcMayTx s n.val = false ∨ firstTx ((mbc s n.val).queue.filter (fun i =>
      i.ready ≤ s.now)) = none)) ∧
    (∃ s : State, ∃ (n : Fin 4) (e : TxEnd) (i : TxInst) (k : SofStamp), s.tidy ∧ (mbc s n.val).att = some (i, k) ∧ (e
      = .ok ∨ (mbc s n.val).mode = 2)) ∧
    (∃ s : State, ∃ (n : Fin 4) (e : TxEnd) (i : TxInst) (k : SofStamp), s.tidy ∧ (mbc s n.val).att = some (i, k) ∧ e
      = .arbLost ∧ (mbc s n.val).mode ≠ 2 ∧ (mbc s n.val).timingDue = false) ∧
    (∃ s : State, ∃ (n : Fin 4) (e : TxEnd) (i : TxInst) (k : SofStamp), s.tidy ∧ (mbc s n.val).att = some (i, k) ∧ e
      = .aborted ∧ (mbc s n.val).mode ≠ 2) ∧
    (∃ s : State, ∃ (n : Fin 4) (e : TxEnd) (i : TxInst) (k : SofStamp), s.tidy ∧ (mbc s n.val).att = some (i, k) ∧ (e
      = .bit ∨ e = .stuff ∨ e = .form ∨ e = .ack false ∨ e = .ack true) ∧ (mbc s n.val).mode ≠ 2) ∧
    (∃ s : State, ∃ (n : Fin 4), s.tidy ∧ (mbc s n.val).att = none) :=
  ⟨⟨inTurn ⟨0x20, 0x0E + 0, 0, 0, 0, 0, 0, 0⟩ (netState), 0, 0, 0, by decide +kernel⟩,
    ⟨{ State.reset with active := some 0, sheaf := netSheaf, seq := { State.reset.seq with nextUid := 1, outst := [{ uid := 0, e := ⟨0x20, 0x0E, 0, 0, 0, 0, 0, 0⟩, last := 99, got := [⟨1, .good⟩], todo := [(5, .send)] }] } }, 0, (({ State.reset with active := some 0, sheaf := netSheaf, seq := { State.reset.seq with nextUid := 1, outst := [{ uid := 0, e := ⟨0x20, 0x0E, 0, 0, 0, 0, 0, 0⟩, last := 99, got := [⟨1, .good⟩], todo := [(5, .send)] }] } }).seq.outst.headD noEntry), 0, by decide +kernel⟩,
    ⟨{ State.reset with active := some 0, sheaf := netSheaf, seq := { State.reset.seq with nextUid := 1, outst := [{ uid := 0, e := ⟨0x20, 0x0E, 0, 0, 0, 0, 0, 0⟩, last := 99, got := [⟨1, .good⟩], todo := [(5, .send)] }] }, mbc := [(0, { queue := [⟨0, 0, 0, { ide := false, id := 5 }⟩] })] }, 0, (({ State.reset with active := some 0, sheaf := netSheaf, seq := { State.reset.seq with nextUid := 1, outst := [{ uid := 0, e := ⟨0x20, 0x0E, 0, 0, 0, 0, 0, 0⟩, last := 99, got := [⟨1, .good⟩], todo := [(5, .send)] }] }, mbc := [(0, { queue := [⟨0, 0, 0, { ide := false, id := 5 }⟩] })] }).seq.outst.headD noEntry), 0, by decide +kernel⟩,
    ⟨{ State.reset with active := some 0, sheaf := netSheaf, seq := { State.reset.seq with nextUid := 1, outst := [{ uid := 0, e := ⟨0x20, 0x0E, 0, 0, 0, 0, 0, 0⟩, last := 99, got := [⟨1, .bad⟩], todo := [(5, .send)] }] } }, 0, (({ State.reset with active := some 0, sheaf := netSheaf, seq := { State.reset.seq with nextUid := 1, outst := [{ uid := 0, e := ⟨0x20, 0x0E, 0, 0, 0, 0, 0, 0⟩, last := 99, got := [⟨1, .bad⟩], todo := [(5, .send)] }] } }).seq.outst.headD noEntry), 0, by decide +kernel⟩,
    ⟨{ State.reset with active := some 0, sheaf := netSheaf, seq := { State.reset.seq with nextUid := 1, outst := [{ uid := 0, e := ⟨0x20, 0x0E, 0, 0, 0, 0, 0, 0⟩, last := 99, got := [⟨1, .bad⟩], todo := [(5, .send)] }] }, mbcBad := [0] }, 0, (({ State.reset with active := some 0, sheaf := netSheaf, seq := { State.reset.seq with nextUid := 1, outst := [{ uid := 0, e := ⟨0x20, 0x0E, 0, 0, 0, 0, 0, 0⟩, last := 99, got := [⟨1, .bad⟩], todo := [(5, .send)] }] }, mbcBad := [0] }).seq.outst.headD noEntry), 0, by decide +kernel⟩,
    ⟨{ netState with mbc := [(0, { mode := 0, queue := [⟨0, 0, 0, { ide := false, id := 5 }⟩] })] }, 0, ⟨0, 0, 0, { ide := false, id := 5 }⟩, by decide +kernel⟩,
    ⟨netState, 0, by decide +kernel⟩,
    ⟨{ netState with mbc := [(0, { mode := 0, queue := [⟨0, 0, 0, { ide := false, id := 5 }⟩], att := some (⟨0, 0, 0, { ide := false, id := 5 }⟩, ⟨0, 0, 0⟩) })] }, 0, .ok, ⟨0, 0, 0, { ide := false, id := 5 }⟩, ⟨0, 0, 0⟩, by decide +kernel⟩,
    ⟨{ netState with mbc := [(0, { mode := 0, queue := [⟨0, 0, 0, { ide := false, id := 5 }⟩], att := some (⟨0, 0, 0, { ide := false, id := 5 }⟩, ⟨0, 0, 0⟩) })] }, 0, .arbLost, ⟨0, 0, 0, { ide := false, id := 5 }⟩, ⟨0, 0, 0⟩, by decide +kernel⟩,
    ⟨{ netState with mbc := [(0, { mode := 0, queue := [⟨0, 0, 0, { ide := false, id := 5 }⟩], att := some (⟨0, 0, 0, { ide := false, id := 5 }⟩, ⟨0, 0, 0⟩) })] }, 0, .aborted, ⟨0, 0, 0, { ide := false, id := 5 }⟩, ⟨0, 0, 0⟩, by decide +kernel⟩,
    ⟨{ netState with mbc := [(0, { mode := 0, queue := [⟨0, 0, 0, { ide := false, id := 5 }⟩], att := some (⟨0, 0, 0, { ide := false, id := 5 }⟩, ⟨0, 0, 0⟩) })] }, 0, .bit, ⟨0, 0, 0, { ide := false, id := 5 }⟩, ⟨0, 0, 0⟩, by decide +kernel⟩,
    ⟨netState, 0, by decide +kernel⟩⟩

theorem witness_messageBusReception :
    (∃ s : State, ∃ (n : Fin 4), s.tidy ∧ (mbc s n.val).err ≠ 2 ∧ (mbc s n.val).mode ≠ 2) ∧
    (∃ s : State, ∃ (n : Fin 4), s.tidy ∧ ((mbc s n.val).err = 2 ∨ (mbc s n.val).mode = 2)) ∧
    (∃ s : State, ∃ (n : Fin 4), s.tidy ∧ (mbc s n.val).err ≠ 2 ∧ (mbc s n.val).mode ≠ 2) ∧
    (∃ s : State, ∃ (n : Fin 4), s.tidy ∧ ((mbc s n.val).err = 2 ∨ (mbc s n.val).mode = 2)) ∧
    (∃ s : State, ∃ (n : Fin 4), s.tidy ∧ (mbc s n.val).err = 2 ∧ (mbc s n.val).recovering = true) ∧
    (∃ s : State, ∃ (n : Fin 4), s.tidy ∧ ((mbc s n.val).err ≠ 2 ∨ (mbc s n.val).recovering = false)) ∧
    (∃ s : State, ∃ (pos : Nat) (n : Fin 4) (first : Nat) (count : Nat), s.tidy ∧ Due s ⟨0x21, 0x0E + n, 0, first,
      count, 0, 0, pos⟩ ∧ (atTurn pos s).seq.held = [] ∧ (producers (atTurn pos s)).length < 32 ∧ bitsOf count 11 0 =
      1) ∧
    (∃ s : State, ∃ (pos : Nat) (n : Fin 4) (first : Nat) (count : Nat), s.tidy ∧ Due s ⟨0x21, 0x0E + n, 0, first,
      count, 0, 0, pos⟩ ∧ (atTurn pos s).seq.held = [] ∧ (producers (atTurn pos s)).length < 32 ∧ bitsOf count 11 0 =
      0) ∧
    (∃ s : State, ∃ (k : Nat) (p : List Nat), s.tidy ∧ (mapSt s k).fresh = true ∧ (mapSt s k).data = some p ∧ mapRec s
      k 5 1 + 4 * mapRec s k 6 1 ≤ p.length) ∧
    (∃ s : State, ∃ (k : Nat) (p : List Nat), s.tidy ∧ (mapSt s k).fresh = true ∧ (mapSt s k).data = some p ∧ p.length
      < mapRec s k 5 1 + 4 * mapRec s k 6 1) ∧
    (∃ s : State, ∃ (k : Nat), s.tidy ∧ (mapSt s k).fresh = false ∧ (mapSt s k).age ≤ mapRec s k 7 1) ∧
    (∃ s : State, ∃ (k : Nat), s.tidy ∧ (mapSt s k).fresh = false ∧ mapRec s k 7 1 < (mapSt s k).age) :=
  ⟨⟨{ netState with mbc := [(0, { mode := 0 })] }, 0, by decide +kernel⟩,
    ⟨{ netState with mbc := [(0, { err := 2 })] }, 0, by decide +kernel⟩,
    ⟨{ netState with mbc := [(0, { mode := 0 })] }, 0, by decide +kernel⟩,
    ⟨{ netState with mbc := [(0, { mode := 2 })] }, 0, by decide +kernel⟩,
    ⟨{ netState with mbc := [(0, { mode := 0, err := 2, recovering := true, tec := 256 })] }, 0, by decide +kernel⟩,
    ⟨netState, 0, by decide +kernel⟩,
    ⟨inTurn ⟨0x21, 0x0E + 0, 0, 0, 1, 0, 0, 0⟩ (netState), 0, 0, 0, 1, by decide +kernel⟩,
    ⟨inTurn ⟨0x21, 0x0E + 0, 0, 0, 0, 0, 0, 0⟩ (netState), 0, 0, 0, 0, by decide +kernel⟩,
    ⟨{ netState with maps := [(0, { data := some [1, 2, 3, 4], fresh := true, age := 0 })] }, 0, [1, 2, 3, 4], by decide +kernel⟩,
    ⟨{ netState with maps := [(0, { data := some [1, 2, 3], fresh := true, age := 0 })] }, 0, [1, 2, 3], by decide +kernel⟩,
    ⟨{ netState with maps := [(0, { fresh := false, age := 2 })] }, 0, by decide +kernel⟩,
    ⟨{ netState with maps := [(0, { fresh := false, age := 4 })] }, 0, by decide +kernel⟩⟩

theorem witness_plantNetwork :
    (∃ s : State, ∃ (kind : Fin 4) (mw : Nat), s.tidy ∧ (kind.val = 0 ∨ 1500 < mw)) ∧
    (∃ s : State, ∃ (kind : Fin 4) (mw : Nat), s.tidy ∧ kind.val ≠ 0 ∧ mw ≤ 1500) ∧
    (∃ s : State, s.tidy) ∧
    (∃ s : State, ∃ (p : Fin 2), s.tidy ∧ linkBit s p.val 4 = false) ∧
    (∃ s : State, ∃ (p : Fin 2), s.tidy ∧ linkBit s p.val 4 = true) ∧
    (∃ s : State, s.tidy) ∧
    (∃ s : State, ∃ (pos : Nat) (k : Nat) (g : Nat), s.tidy ∧ Due s ⟨0x23, 0x13, k, 0, 0, 0, 0, pos⟩ ∧ (atTurn pos
      s).seq.held = [] ∧ (producers (atTurn pos s)).length < 32 ∧ (atTurn pos s).img.upsets = [] ∧ (atTurn pos
      s).img.laneDiff = [] ∧ segOf (atTurn pos s) (cfgNat (atTurn pos s) 0x0A01 (bitsOf k 7 0) 0 2) = some g ∧
      (pairBase (atTurn pos s) = false ∨ driving (atTurn pos s) = true)) ∧
    (∃ s : State, ∃ (pos : Nat) (k : Nat), s.tidy ∧ Due s ⟨0x23, 0x13, k, 0, 0, 0, 0, pos⟩ ∧ (atTurn pos s).seq.held =
      [] ∧ (producers (atTurn pos s)).length < 32 ∧ (segOf (atTurn pos s) (cfgNat (atTurn pos s) 0x0A01 (bitsOf k 7 0)
      0 2) = none ∨ (pairBase (atTurn pos s) = true ∧ driving (atTurn pos s) = false))) ∧
    (∃ s : State, ∃ (b : List Nat), s.tidy ∧ gramOk b = false) ∧
    (∃ s : State, ∃ (b : List Nat), s.tidy ∧ gramOk b = true ∧ (gramNat b 8 2 % 2048 = fld s Reg.sysStation 10 0 ∨
      gramNat b 8 2 % 2048 = pubAddr s) ∧ gramNat b 0x20 8 ≠ serialNo s ∧ s.red.serial ≠ some (gramNat b 0x20 8)) ∧
    (∃ s : State, ∃ (b : List Nat) (k : Nat), s.tidy ∧ gramOk b = true ∧ (¬ (gramNat b 8 2 % 2048 = fld s
      Reg.sysStation 10 0 ∨ gramNat b 8 2 % 2048 = pubAddr s)) ∧ gramNat b 6 1 = 1 ∧ (List.range (cfgCount s
      0x0A02)).filter (fun k => cfgNat s 0x0A02 k 0 2 % 2048 == gramNat b 8 2 % 2048 && cfgNat s 0x0A02 k 2 2 ==
      gramNat b 0x0A 2) = [k] ∧ (subSt s k).asm = none) ∧
    (∃ s : State, ∃ (pos : Nat) (k : Nat), s.tidy ∧ Due s ⟨0x24, 0x13, k, 0, 0, 0, 0, pos⟩ ∧ (atTurn pos s).seq.held =
      [] ∧ (producers (atTurn pos s)).length < 32 ∧ (subSt (atTurn pos s) (bitsOf k 8 0)).ready = false ∧ (2 ≤ (subSt
      (atTurn pos s) (bitsOf k 8 0)).age ∨ (subSt (atTurn pos s) (bitsOf k 8 0)).accepted = none) ∧ (subSt (atTurn pos
      s) (bitsOf k 8 0)).staleBad = false) ∧
    (∃ s : State, ∃ (pos : Nat) (k : Nat), s.tidy ∧ Due s ⟨0x24, 0x13, k, 0, 0, 0, 0, pos⟩ ∧ (atTurn pos s).seq.held =
      [] ∧ (producers (atTurn pos s)).length < 32 ∧ (subSt (atTurn pos s) (bitsOf k 8 0)).ready = false ∧ (subSt
      (atTurn pos s) (bitsOf k 8 0)).age < 2 ∧ (subSt (atTurn pos s) (bitsOf k 8 0)).accepted ≠ none) ∧
    (∃ s : State, ∃ (pos : Nat) (k : Nat) (i : SubInst), s.tidy ∧ Due s ⟨0x24, 0x13, k, 0, 0, 0, 0, pos⟩ ∧ (atTurn pos
      s).seq.held = [] ∧ (producers (atTurn pos s)).length < 32 ∧ (subSt (atTurn pos s) (bitsOf k 8 0)).ready = true ∧
      (subSt (atTurn pos s) (bitsOf k 8 0)).stored = some i ∧ newerInst i.epoch i.gen (subSt (atTurn pos s) (bitsOf k
      8 0)).accepted = true ∧ i.lines = cfgNat (atTurn pos s) 0x0A02 (bitsOf k 8 0) 6 2) :=
  ⟨⟨wr Reg.netLink 1 State.reset, 1, 1501, by decide +kernel⟩,
    ⟨wr Reg.netLink 8 State.reset, 2, 1500, by decide +kernel⟩,
    ⟨State.reset, by decide +kernel⟩,
    ⟨State.reset, 0, by decide +kernel⟩,
    ⟨wr Reg.netLink 16 State.reset, 0, by decide +kernel⟩,
    ⟨State.reset, by decide +kernel⟩,
    ⟨inTurn ⟨0x23, 0x13, 0, 0, 0, 0, 0, 0⟩ (netState), 0, 0, 0, by decide +kernel⟩,
    ⟨inTurn ⟨0x23, 0x13, 0, 0, 0, 0, 0, 0⟩ (wr Reg.sysStation 0x4000 netState), 0, 0, by decide +kernel⟩,
    ⟨netState, [], by decide +kernel⟩,
    ⟨State.reset, goodGram 0, by decide +kernel⟩,
    ⟨netState, goodGram 4, 0, by decide +kernel⟩,
    ⟨inTurn ⟨0x24, 0x13, 0, 0, 0, 0, 0, 0⟩ (netState), 0, 0, by decide +kernel⟩,
    ⟨inTurn ⟨0x24, 0x13, 0, 0, 0, 0, 0, 0⟩ ({ netState with net := { netState.net with subs := [(0, { accepted := some (1, 2) })] } }), 0, 0, by decide +kernel⟩,
    ⟨inTurn ⟨0x24, 0x13, 0, 0, 0, 0, 0, 0⟩ ({ netState with net := { netState.net with subs := [(0, { ready := true, stored := some ⟨1, 2, 1, [List.replicate 72 3]⟩ })] } }), 0, 0, ⟨1, 2, 1, [List.replicate 72 3]⟩, by decide +kernel⟩⟩

theorem witness_marineSerialLines :
    (∃ s : State, ∃ (n : Fin 2) (chars : List Nat) (framing : Bool), s.tidy ∧ bitOf (effRd s (Reg.mslCfg n.val)) 0 =
      true ∧ mslCode (mslPart chars) framing = 0) ∧
    (∃ s : State, ∃ (n : Fin 2) (chars : List Nat) (framing : Bool), s.tidy ∧ bitOf (effRd s (Reg.mslCfg n.val)) 0 =
      true ∧ mslCode (mslPart chars) framing ≠ 0) ∧
    (∃ s : State, ∃ (n : Fin 2), s.tidy ∧ bitOf (effRd s (Reg.mslCfg n.val)) 0 = false) ∧
    (∃ s : State, ∃ (n : Fin 2), s.tidy ∧ bitOf (effRd s (Reg.mslCfg n.val)) 0 = true) ∧
    (∃ s : State, ∃ (n : Fin 2), s.tidy ∧ bitOf (effRd s (Reg.mslCfg n.val)) 0 = false) ∧
    (∃ s : State, ∃ (pos : Nat) (n : Fin 2) (first : Nat) (count : Nat), s.tidy ∧ Due s ⟨0x22, 0x12, n, first, count,
      0, 0, pos⟩ ∧ (atTurn pos s).seq.held = [] ∧ (producers (atTurn pos s)).length < 32 ∧ bitsOf count 9 0 ≠ 0) ∧
    (∃ s : State, ∃ (pos : Nat) (n : Fin 2) (first : Nat) (count : Nat), s.tidy ∧ Due s ⟨0x22, 0x12, n, first, count,
      0, 0, pos⟩ ∧ (atTurn pos s).seq.held = [] ∧ (producers (atTurn pos s)).length < 32 ∧ bitsOf count 9 0 = 0) ∧
    (∃ s : State, ∃ (k : Nat) (v : Nat), s.tidy ∧ (mslMap s k).fresh = true ∧ (mslMap s k).data.bind (mslConvert s k)
      = some v) ∧
    (∃ s : State, ∃ (k : Nat), s.tidy ∧ (mslMap s k).fresh = true ∧ (mslMap s k).data.bind (mslConvert s k) = none) ∧
    (∃ s : State, ∃ (k : Nat) (v : Nat), s.tidy ∧ (mslMap s k).fresh = false ∧ (mslMap s k).age ≤ fmap s k 9 1 ∧
      (mslMap s k).data.bind (mslConvert s k) = some v) ∧
    (∃ s : State, ∃ (k : Nat), s.tidy ∧ (mslMap s k).fresh = false ∧ fmap s k 9 1 < (mslMap s k).age ∧ (mslMap s
      k).age ≤ fmap s k 0x0A 1) ∧
    (∃ s : State, ∃ (k : Nat), s.tidy ∧ (mslMap s k).fresh = false ∧ fmap s k 9 1 < (mslMap s k).age ∧ fmap s k 0x0A 1
      < (mslMap s k).age) :=
  ⟨⟨wr (Reg.mslCfg 0) 1 netState, 0, [36, 65, 42, 52, 49, 13, 10], false, by decide +kernel⟩,
    ⟨wr (Reg.mslCfg 0) 1 netState, 0, [36, 65, 42, 52, 48, 13, 10], false, by decide +kernel⟩,
    ⟨netState, 0, by decide +kernel⟩,
    ⟨wr (Reg.mslCfg 0) 1 netState, 0, by decide +kernel⟩,
    ⟨netState, 0, by decide +kernel⟩,
    ⟨inTurn ⟨0x22, 0x12, 0, 0, 1, 0, 0, 0⟩ (netState), 0, 0, 0, 1, by decide +kernel⟩,
    ⟨inTurn ⟨0x22, 0x12, 0, 0, 0, 0, 0, 0⟩ (netState), 0, 0, 0, 0, by decide +kernel⟩,
    ⟨{ netState with mslMaps := [(0, { data := some [36, 65, 44, 49, 46, 53, 42, 48, 48], fresh := true, age := 0 })] }, 0, 0, by decide +kernel⟩,
    ⟨{ netState with mslMaps := [(0, { data := some [36, 65], fresh := true, age := 0 })] }, 0, by decide +kernel⟩,
    ⟨{ netState with mslMaps := [(0, { data := some [36, 65, 44, 49, 46, 53, 42, 48, 48], fresh := false, age := 1 })] }, 0, 0, by decide +kernel⟩,
    ⟨{ netState with mslMaps := [(0, { fresh := false, age := 3 })] }, 0, by decide +kernel⟩,
    ⟨{ netState with mslMaps := [(0, { fresh := false, age := 9 })] }, 0, by decide +kernel⟩⟩

theorem witness_registerWrites :
    (∃ s : State, ∃ (sess : Fin 17) (page : Fin 64) (word : Fin 1024) (v : Word), s.tidy ∧ Accepts s sess.val (regAddr
      page.val (4 * word.val)) (v.toNat) ∧ isOrder (regAddr page.val (4 * word.val)) = false ∧ blockOf page.val ≠ some
      .dio ∧ blockOf page.val ≠ some .mbc) ∧
    (∃ s : State, ∃ (sess : Fin 17) (page : Fin 64) (word : Fin 1024) (v : Word), s.tidy ∧ Accepts s sess.val (regAddr
      page.val (4 * word.val)) (v.toNat) ∧ isOrder (regAddr page.val (4 * word.val)) = false ∧ blockOf page.val = some
      .mbc) ∧
    (∃ s : State, ∃ (sess : Fin 17) (page : Fin 64) (word : Fin 1024) (v : Word), s.tidy ∧ Accepts s sess.val (regAddr
      page.val (4 * word.val)) (v.toNat) ∧ isOrder (regAddr page.val (4 * word.val)) = false ∧ blockOf page.val = some
      .dio) ∧
    (∃ s : State, ∃ (sess : Fin 17) (page : Fin 64) (v : Word), s.tidy ∧ Accepts s sess.val (Reg.evtRaw page.val)
      (v.toNat) ∧ (∀ b : Nat, b < 16 → tabGet (fun _ => (0 : Nat)) s.evtClk (16 * page.val + b) ≤ 2 * s.now + 1)) ∧
    (∃ s : State, ∃ (sess : Fin 17) (page : Fin 64) (v : Word) (b : Nat), s.tidy ∧ Accepts s sess.val (Reg.evtRaw
      page.val) (v.toNat) ∧ b < 16 ∧ bitOf v.toNat b = true ∧ flag s (Reg.evtRaw page.val) b = true ∧ tabGet (fun _ =>
      (0 : Nat)) s.evtClk (16 * page.val + b) = 2 * s.now + 3) ∧
    (∃ s : State, ∃ (sess : Fin 17) (page : Fin 64) (v : Word), s.tidy ∧ Accepts s sess.val (Reg.evtEn page.val)
      (v.toNat)) ∧
    (∃ s : State, ∃ (sess : Fin 17) (page : Fin 64) (v : Word), s.tidy ∧ Accepts s sess.val (Reg.lock page.val)
      (v.toNat)) ∧
    (∃ s : State, ∃ (sess : Fin 17) (k : Fin 512) (v : Word), s.tidy ∧ Accepts s sess.val (regAddr 0x05 (0x800 + 4 *
      k.val)) (v.toNat) ∧ s.img.upsets = [] ∧ s.img.laneDiff = []) ∧
    (∃ s : State, ∃ (sess : Fin 17) (w : Fin 262144) (v : Word), s.tidy ∧ Accepts s sess.val (0x1000000 + 4 * w.val)
      (v.toNat) ∧ s.img.upsets = [] ∧ s.img.laneDiff = []) :=
  ⟨⟨hostState 4, 16, 8, 9, 0, by decide +kernel⟩,
    ⟨hostState 4, 16, 0x0E, 64, 0x10000, by decide +kernel⟩,
    ⟨hostState 4, 16, 7, 128, 0, by decide +kernel⟩,
    ⟨wr (Reg.evtRaw 0) 6 (hostState 4), 16, 0, 2, by decide +kernel⟩,
    ⟨{ wr (Reg.evtRaw 0) 6 (hostState 4) with evtClk := [(1, 3)] }, 16, 0, 2, 1, by decide +kernel⟩,
    ⟨hostState 4, 16, 0, 3, by decide +kernel⟩,
    ⟨hostState 4, 16, 0, 1, by decide +kernel⟩,
    ⟨{ hostState 4 with active := some 0, sheaf := hostSheaf }, 16, 0, 0x11, by decide +kernel⟩,
    ⟨{ hostState 4 with active := some 0, sheaf := hostSheaf }, 16, 3, 7, by decide +kernel⟩⟩

theorem witness_keyCommands :
    (∃ s : State, ∃ (sess : Fin 17) (sheaf : Bool) (slot : Fin 4), s.tidy ∧ Accepts s sess.val (Reg.sesKeyCtrl)
      ((slot.val <<< 8 + b2n sheaf <<< 4 + 1)) ∧ role s ≠ roleHold) ∧
    (∃ s : State, ∃ (sess : Fin 17) (sheaf : Bool) (slot : Fin 4) (q : Nat), s.tidy ∧ Accepts s sess.val
      (Reg.sesKeyCtrl) ((slot.val <<< 8 + b2n sheaf <<< 4 + 1)) ∧ role s = roleHold ∧ sheaf = false ∧ stageSeq s
      sess.val = some q) ∧
    (∃ s : State, ∃ (sess : Fin 17) (sheaf : Bool) (slot : Fin 4), s.tidy ∧ Accepts s sess.val (Reg.sesKeyCtrl)
      ((slot.val <<< 8 + b2n sheaf <<< 4 + 1)) ∧ role s = roleHold ∧ stageSeq s sess.val = none) ∧
    (∃ s : State, ∃ (sess : Fin 17) (sheaf : Bool) (slot : Fin 4) (q : Nat), s.tidy ∧ Accepts s sess.val
      (Reg.sesKeyCtrl) ((slot.val <<< 8 + b2n sheaf <<< 4 + 1)) ∧ role s = roleHold ∧ sheaf = true ∧ stageSeq s
      sess.val = some q) ∧
    (∃ s : State, ∃ (sess : Fin 17) (sheaf : Bool) (slot : Fin 4), s.tidy ∧ Accepts s sess.val (Reg.sesKeyCtrl)
      ((slot.val <<< 8 + b2n sheaf <<< 4 + 2)) ∧ role s = roleHold ∧ sheaf = false ∧ slot.val ≠ 3) ∧
    (∃ s : State, ∃ (sess : Fin 17) (sheaf : Bool) (slot : Fin 4), s.tidy ∧ Accepts s sess.val (Reg.sesKeyCtrl)
      ((slot.val <<< 8 + b2n sheaf <<< 4 + 2)) ∧ role s = roleHold ∧ sheaf = true ∧ sheafKeyUsed s slot.val = true) ∧
    (∃ s : State, ∃ (sess : Fin 17) (sheaf : Bool) (slot : Fin 4), s.tidy ∧ Accepts s sess.val (Reg.sesKeyCtrl)
      ((slot.val <<< 8 + b2n sheaf <<< 4 + 2)) ∧ role s ≠ roleHold) ∧
    (∃ s : State, ∃ (sess : Fin 17) (slot : Fin 2), s.tidy ∧ Accepts s sess.val (Reg.safKeyCtrl) (slot.val <<< 8 + 1)
      ∧ role s = roleHold) ∧
    (∃ s : State, ∃ (sess : Fin 17) (slot : Fin 2), s.tidy ∧ Accepts s sess.val (Reg.safKeyCtrl) (slot.val <<< 8 + 1)
      ∧ role s ≠ roleHold) ∧
    (∃ s : State, ∃ (sess : Fin 17) (slot : Fin 2), s.tidy ∧ Accepts s sess.val (Reg.safKeyCtrl) (slot.val <<< 8 + 2)
      ∧ role s = roleHold) ∧
    (∃ s : State, ∃ (sess : Fin 17) (slot : Fin 2), s.tidy ∧ Accepts s sess.val (Reg.safKeyCtrl) (slot.val <<< 8 + 2)
      ∧ role s ≠ roleHold) :=
  ⟨⟨hostState 4, 16, false, 0, by decide +kernel⟩,
    ⟨{ hostState roleHold with ses := { stage := (List.range 8).map (fun i => (i, 17, 3, 0)) } }, 16, false, 0, 3, by decide +kernel⟩,
    ⟨hostState roleHold, 16, false, 0, by decide +kernel⟩,
    ⟨{ hostState roleHold with ses := { stage := (List.range 8).map (fun i => (i, 17, 3, 0)) } }, 16, true, 0, 3, by decide +kernel⟩,
    ⟨hostState roleHold, 16, false, 1, by decide +kernel⟩,
    ⟨{ hostState roleHold with active := some 0, sheaf := keySheaf, ses := { sheafKeys := [(0, [1])] } }, 16, true, 0, by decide +kernel⟩,
    ⟨hostState 4, 16, false, 0, by decide +kernel⟩,
    ⟨hostState roleHold, 16, 0, by decide +kernel⟩,
    ⟨hostState 4, 16, 0, by decide +kernel⟩,
    ⟨hostState roleHold, 16, 0, by decide +kernel⟩,
    ⟨hostState 4, 16, 0, by decide +kernel⟩⟩

theorem witness_channelOrders :
    (∃ s : State, ∃ (sess : Fin 17) (ch : Fin 32), s.tidy ∧ Accepts s sess.val (Reg.ctrl (0x20 + ch.val)) (1)) ∧
    (∃ s : State, ∃ (sess : Fin 17) (ch : Fin 32), s.tidy ∧ Accepts s sess.val (Reg.achOutRestore ch.val) (1) ∧ flag s
      (Reg.achRbStat ch.val) 2 = true) ∧
    (∃ s : State, ∃ (sess : Fin 17) (ch : Fin 32), s.tidy ∧ Accepts s sess.val (Reg.achOutRestore ch.val) (1) ∧ flag s
      (Reg.achRbStat ch.val) 2 = false) ∧
    (∃ s : State, ∃ (sess : Fin 17) (ch : Fin 32), s.tidy ∧ Accepts s sess.val (Reg.achHartCtrl ch.val) (1) ∧ fld s
      (Reg.achHartTxLen ch.val) 8 0 ≠ 0 ∧ hartOn s ch.val = true) ∧
    (∃ s : State, ∃ (sess : Fin 17) (ch : Fin 32), s.tidy ∧ Accepts s sess.val (Reg.achHartCtrl ch.val) (1) ∧ fld s
      (Reg.achHartTxLen ch.val) 8 0 = 0) ∧
    (∃ s : State, ∃ (sess : Fin 17) (ch : Fin 32), s.tidy ∧ Accepts s sess.val (Reg.achHartCtrl ch.val) (2) ∧
      hartState s ch.val ≠ 0) ∧
    (∃ s : State, ∃ (sess : Fin 17) (ch : Fin 32), s.tidy ∧ Accepts s sess.val (Reg.achHartCtrl ch.val) (2) ∧
      hartState s ch.val = 0) ∧
    (∃ s : State, ∃ (sess : Fin 17) (n : Nat), s.tidy ∧ Accepts s sess.val (Reg.ctrl 0x0A) (1) ∧ synArmed s = some n ∧
      synState s n ≠ 4) ∧
    (∃ s : State, ∃ (sess : Fin 17), s.tidy ∧ Accepts s sess.val (Reg.ctrl 0x0A) (1) ∧ synArmed s = none) ∧
    (∃ s : State, ∃ (sess : Fin 17) (loop : Fin 256), s.tidy ∧ Accepts s sess.val (Reg.cleOscAck) (0x100 + loop.val) ∧
      (loopSt s loop.val).osc = true) ∧
    (∃ s : State, ∃ (sess : Fin 17) (loop : Fin 256), s.tidy ∧ Accepts s sess.val (Reg.cleOscAck) (0x100 + loop.val) ∧
      (loopSt s loop.val).osc = false) ∧
    (∃ s : State, ∃ (sess : Fin 17) (n : Fin 4), s.tidy ∧ Accepts s sess.val (Reg.ctrl (0x0E + n.val)) (1) ∧ (mbc s
      n.val).err = 2) ∧
    (∃ s : State, ∃ (sess : Fin 17) (n : Fin 4), s.tidy ∧ Accepts s sess.val (Reg.ctrl (0x0E + n.val)) (1) ∧ (mbc s
      n.val).err ≠ 2) ∧
    (∃ s : State, ∃ (sess : Fin 17), s.tidy ∧ Accepts s sess.val (Reg.ctrl 0x0B) (2 ^ 31)) :=
  ⟨⟨hostState roleHold, 16, 0, by decide +kernel⟩,
    ⟨setFlag (Reg.achRbStat 0) 2 true (hostState 4), 16, 0, by decide +kernel⟩,
    ⟨hostState 4, 16, 0, by decide +kernel⟩,
    ⟨wr (Reg.achHartTxLen 0) 4 (wr (Reg.achHartCfg 0) 1 (wr (Reg.achCfg 0) 2 (hostState 4))), 16, 0, by decide +kernel⟩,
    ⟨hostState 4, 16, 0, by decide +kernel⟩,
    ⟨setFld (Reg.achHartStat 0) 2 0 3 (hostState 4), 16, 0, by decide +kernel⟩,
    ⟨hostState 4, 16, 0, by decide +kernel⟩,
    ⟨setFld Reg.synSetState 3 0 1 (wr Reg.synArmed 8 (hostState 4)), 16, 0, by decide +kernel⟩,
    ⟨hostState 4, 16, by decide +kernel⟩,
    ⟨{ hostState 4 with cle := { loops := [(0, { osc := true })] } }, 16, 0, by decide +kernel⟩,
    ⟨hostState 4, 16, 0, by decide +kernel⟩,
    ⟨{ hostState 4 with mbc := [(0, { err := 2 })] }, 16, 0, by decide +kernel⟩,
    ⟨hostState 4, 16, 0, by decide +kernel⟩,
    ⟨hostState 4, 16, by decide +kernel⟩⟩

theorem witness_systemOrders :
    (∃ s : State, ∃ (sess : Fin 17) (key : Fin 65536) (unprotected : Bool), s.tidy ∧ Accepts s sess.val (Reg.ctrl
      0x00) (key.val <<< 8 + b2n unprotected <<< 2 + 1) ∧ role s = roleActive ∧ availableStandby s = true ∧ s.red.swap
      = none ∧ swapPartnerOk s .reset = true) ∧
    (∃ s : State, ∃ (sess : Fin 17) (key : Fin 65536) (unprotected : Bool), s.tidy ∧ Accepts s sess.val (Reg.ctrl
      0x00) (key.val <<< 8 + b2n unprotected <<< 2 + 1) ∧ (role s ≠ roleActive ∨ availableStandby s = false)) ∧
    (∃ s : State, ∃ (sess : Fin 17), s.tidy ∧ Accepts s sess.val (Reg.ctrl 0x00) (2)) ∧
    (∃ s : State, ∃ (sess : Fin 17), s.tidy ∧ Accepts s sess.val (Reg.pwrKeepCtrl) (1)) ∧
    (∃ s : State, ∃ (sess : Fin 17), s.tidy ∧ Accepts s sess.val (Reg.ctrl 0x15) (1)) ∧
    (∃ s : State, ∃ (sess : Fin 17) (unprotected : Bool), s.tidy ∧ Accepts s sess.val (Reg.ctrl 0x15) (b2n unprotected
      <<< 3 + 2) ∧ (role s ≠ roleActive ∨ availableStandby s = false)) ∧
    (∃ s : State, ∃ (sess : Fin 17) (unprotected : Bool), s.tidy ∧ Accepts s sess.val (Reg.ctrl 0x15) (b2n unprotected
      <<< 3 + 2) ∧ role s = roleActive ∧ availableStandby s = true) ∧
    (∃ s : State, ∃ (sess : Fin 17), s.tidy ∧ Accepts s sess.val (Reg.ctrl 0x15) (4) ∧ flag s Reg.redState 13 = false) ∧
    (∃ s : State, ∃ (sess : Fin 17), s.tidy ∧ Accepts s sess.val (Reg.ctrl 0x15) (16)) ∧
    (∃ s : State, ∃ (sess : Fin 17) (n : Fin 2), s.tidy ∧ Accepts s sess.val (Reg.ctrl 0x0D) (2 ^ n.val) ∧ (bkGroups s
      n.val = 0 ∨ safDrives s = false ∨ (brake s n.val).state ≠ 0)) ∧
    (∃ s : State, ∃ (sess : Fin 17) (n : Fin 2), s.tidy ∧ Accepts s sess.val (Reg.ctrl 0x0D) (2 ^ n.val) ∧ bkGroups s
      n.val ≠ 0 ∧ safDrives s = true ∧ (brake s n.val).state = 0 ∧ grpsPermit s (bkGroups s n.val) = true ∧ bkReq s
      n.val = false) :=
  ⟨⟨wr Reg.redPartner (roleStandby + 0x100) (hostState roleActive), 16, 0xA5C3, true, by decide +kernel⟩,
    ⟨hostState 4, 16, 0xA5C3, true, by decide +kernel⟩,
    ⟨hostState 4, 16, by decide +kernel⟩,
    ⟨{ hostState 4 with pwr := { keep := { tamper := true } } }, 16, by decide +kernel⟩,
    ⟨wr Reg.redPartner (roleStandby + 0x100) (hostState roleActive), 16, by decide +kernel⟩,
    ⟨hostState 4, 16, true, by decide +kernel⟩,
    ⟨wr Reg.redPartner (roleStandby + 0x100) (hostState roleActive), 16, false, by decide +kernel⟩,
    ⟨hostState roleHold, 16, by decide +kernel⟩,
    ⟨wr Reg.redLatent 3 (hostState 4), 16, by decide +kernel⟩,
    ⟨hostState 4, 16, 0, by decide +kernel⟩,
    ⟨{ wr (Reg.safBkIo 0) 2 (wr (Reg.safGroupCfg 0) 0x10001 (wr (Reg.safInCfg 0) 1 (wr (Reg.safOutCfg 6) 0x101 (hostState 4)))) with saf := { unit := 2, q := 1 } }, 16, 0, by decide +kernel⟩⟩

theorem witness_updateOrders :
    (∃ s : State, ∃ (sess : Fin 17) (mask : Fin 16), s.tidy ∧ Accepts s sess.val (Reg.ctrl 0x18) (mask.val <<< 4) ∧ (∀
      p : Nat, p < 4 → bitOf mask.val p = true → progState s p = 2 ∨ progState s p = 3)) ∧
    (∃ s : State, ∃ (sess : Fin 17) (mask : Fin 16), s.tidy ∧ Accepts s sess.val (Reg.ctrl 0x18) (mask.val) ∧ (∀ p :
      Nat, p < 4 → bitOf mask.val p = true → progState s p = 0 ∨ progState s p = 2)) ∧
    (∃ s : State, ∃ (sess : Fin 17) (mask : Fin 16) (p : Nat), s.tidy ∧ Accepts s sess.val (Reg.ctrl 0x18) (mask.val)
      ∧ bitOf mask.val p = true ∧ p < 4 ∧ (progState s p = 1 ∨ progState s p = 3 ∨ progState s p = 4) ∧ progMayRun s p
      = false) ∧
    (∃ s : State, ∃ (sess : Fin 17) (mask : Fin 16) (p : Nat), s.tidy ∧ Accepts s sess.val (Reg.ctrl 0x18) (mask.val)
      ∧ mask.val = 2 ^ p ∧ p < 4 ∧ (progState s p = 1 ∨ progState s p = 3 ∨ progState s p = 4) ∧ progMayRun s p = true
      ∧ ramInUse s + progField s p 0x0C 4 ≤ 57344) ∧
    (∃ s : State, ∃ (sess : Fin 17) (target : Fin 16), s.tidy ∧ Accepts s sess.val (Reg.ctrl 0x19) (target.val <<< 8 +
      1)) ∧
    (∃ s : State, ∃ (sess : Fin 17) (w : Fin 2097152) (v : Word), s.tidy ∧ Accepts s sess.val (0x2000000 + 4 * w.val)
      (v.toNat)) ∧
    (∃ s : State, ∃ (sess : Fin 17), s.tidy ∧ Accepts s sess.val (Reg.ctrl 0x19) (2)) ∧
    (∃ s : State, ∃ (sess : Fin 17), s.tidy ∧ Accepts s sess.val (Reg.ctrl 0x19) (3)) ∧
    (∃ s : State, ∃ (sess : Fin 17), s.tidy ∧ Accepts s sess.val (Reg.ctrl 0x19) (4) ∧ s.active ≠ none ∧ (updTarget s
      ≠ 0 ∨ s.active.map (safDigest s) = some (safDigest s (updBank s)))) ∧
    (∃ s : State, ∃ (sess : Fin 17), s.tidy ∧ Accepts s sess.val (Reg.ctrl 0x19) (4) ∧ (s.active = none ∨ (updTarget s
      = 0 ∧ s.active.map (safDigest s) ≠ some (safDigest s (updBank s))))) ∧
    (∃ s : State, ∃ (sess : Fin 17), s.tidy ∧ Accepts s sess.val (Reg.ctrl 0x19) (5)) ∧
    (∃ s : State, ∃ (sess : Fin 17), s.tidy ∧ Accepts s sess.val (Reg.ctrl 0x19) (6)) ∧
    (∃ s : State, ∃ (sess : Fin 17), s.tidy ∧ Accepts s sess.val (Reg.ctrl 0x1A) (0x100) ∧ s.fpd.railFault = false) ∧
    (∃ s : State, ∃ (sess : Fin 17), s.tidy ∧ Accepts s sess.val (Reg.ctrl 0x1A) (0x100) ∧ s.fpd.railFault = true) ∧
    (∃ s : State, ∃ (sess : Fin 17) (mask : Fin 16) (r : Nat), s.tidy ∧ Accepts s sess.val (Reg.ctrl 0x1A) (mask.val)
      ∧ s.fpd.railFault = false ∧ mask.val = 2 ^ r ∧ r < 4 ∧ (regionRect s r).2.2.1 ≠ 0 ∧ (regionRect s r).2.2.2 ≠ 0 ∧
      pendOf s r ≠ 2) ∧
    (∃ s : State, ∃ (sess : Fin 17) (mask : Fin 16), s.tidy ∧ Accepts s sess.val (Reg.ctrl 0x1A) (mask.val) ∧
      (s.fpd.railFault = true ∨ mask.val = 0)) :=
  ⟨⟨wr (Reg.mgtProgState 1) 2 (hostState 4), 16, 2, by decide +kernel⟩,
    ⟨hostState 4, 16, 2, by decide +kernel⟩,
    ⟨wr (Reg.mgtProgState 1) 1 (hostState 2), 16, 2, 1, by decide +kernel⟩,
    ⟨wr (Reg.mgtProgState 1) 1 (hostState 4), 16, 2, 1, by decide +kernel⟩,
    ⟨hostState 4, 16, 0, by decide +kernel⟩,
    ⟨wr Reg.updState 0x100001 (hostState 4), 16, 5, 9, by decide +kernel⟩,
    ⟨wr Reg.updState 0x100001 (hostState 4), 16, by decide +kernel⟩,
    ⟨wr Reg.updState 0x100003 (hostState 4), 16, by decide +kernel⟩,
    ⟨{ wr Reg.updState 0x100105 (hostState 4) with active := some 0 }, 16, by decide +kernel⟩,
    ⟨wr Reg.updState 0x101105 (hostState 4), 16, by decide +kernel⟩,
    ⟨wr Reg.updState 0x101105 (hostState 4), 16, by decide +kernel⟩,
    ⟨wr Reg.updState 0x100001 (hostState 4), 16, by decide +kernel⟩,
    ⟨hostState 4, 16, by decide +kernel⟩,
    ⟨{ hostState 4 with fpd := { State.reset.fpd with railFault := true } }, 16, by decide +kernel⟩,
    ⟨wr (Reg.fpdRegionRect 1) 0x1010 (hostState 4), 16, 2, 1, by decide +kernel⟩,
    ⟨hostState 4, 16, 0, by decide +kernel⟩⟩

theorem witness_heartbeatsAndTokenLines :
    (∃ s : State, ∃ (bytes : List Nat), s.tidy ∧ pairBase s = true ∧ heartbeatOk s bytes = true) ∧
    (∃ s : State, ∃ (bytes : List Nat), s.tidy ∧ (pairBase s = false ∨ heartbeatOk s bytes = false)) ∧
    (∃ s : State, s.tidy ∧ pairBase s = true ∧ s.tbu.running = true ∧ s.tbu.slot % 512 = 256 ∧ s.red.checked = false) ∧
    (∃ s : State, s.tidy ∧ (pairBase s = false ∨ s.tbu.running = false ∨ s.tbu.slot % 512 ≠ 256 ∨ s.red.checked =
      true)) ∧
    (∃ s : State, s.tidy ∧ driving s = true) ∧
    (∃ s : State, s.tidy ∧ driving s = false ∧ fld s Reg.redIdle 20 16 < 23) ∧
    (∃ s : State, s.tidy ∧ driving s = false ∧ 23 ≤ fld s Reg.redIdle 20 16) ∧
    (∃ s : State, ∃ (mine : Bool), s.tidy ∧ pairBase s = true ∧ mine = true) ∧
    (∃ s : State, ∃ (mine : Bool) (l : Line), s.tidy ∧ pairBase s = true ∧ mine = false ∧ l = .present ∧ s.red.own =
      .present ∧ slotB s = true) ∧
    (∃ s : State, ∃ (mine : Bool) (l : Line), s.tidy ∧ pairBase s = true ∧ mine = false ∧ l = .absent) ∧
    (∃ s : State, s.tidy ∧ pairBase s = false) ∧
    (∃ s : State, s.tidy) :=
  ⟨⟨pairState roleSolo, heartbeatBody (setFld Reg.sysRole 2 0 roleStandby (wr Reg.sysSerialLo 5 State.reset)) false, by decide +kernel⟩,
    ⟨pairState roleSolo, [], by decide +kernel⟩,
    ⟨{ pairState roleSolo with tbu := { State.reset.tbu with running := true, slot := 256 } }, by decide +kernel⟩,
    ⟨State.reset, by decide +kernel⟩,
    ⟨pairState roleSolo, by decide +kernel⟩,
    ⟨pairState roleStandby, by decide +kernel⟩,
    ⟨wr Reg.redIdle 0x170005 (pairState roleStandby), by decide +kernel⟩,
    ⟨pairState roleSolo, true, by decide +kernel⟩,
    ⟨{ pairState roleActive with red := { State.reset.red with own := .present } }, false, .present, by decide +kernel⟩,
    ⟨pairState roleStandby, false, .absent, by decide +kernel⟩,
    ⟨State.reset, by decide +kernel⟩,
    ⟨{ pairState roleActive with red := { State.reset.red with own := .present } }, by decide +kernel⟩⟩

theorem witness_sluiceFrames :
    (∃ s : State, ∃ (pos : Nat), s.tidy ∧ Due s ⟨0x31, 0x15, 0, 0, 0, 0, 0, pos⟩ ∧ (atTurn pos s).seq.held = [] ∧
      (producers (atTurn pos s)).length < 32 ∧ copyTaken (atTurn pos s) = true ∧ (atTurn pos s).red.copyStarted =
      false) ∧
    (∃ s : State, ∃ (pos : Nat), s.tidy ∧ Due s ⟨0x31, 0x15, 0, 0, 0, 0, 0, pos⟩ ∧ (atTurn pos s).seq.held = [] ∧
      (producers (atTurn pos s)).length < 32 ∧ (copyTaken (atTurn pos s) = false ∨ (atTurn pos s).red.copyStarted =
      true)) ∧
    (∃ s : State, ∃ (lane : Fin 2) (f : SluFrame) (w : List Nat), s.tidy ∧ pairBase s = true ∧ flag s Reg.redState (16
      + lane.val) = true ∧ f.crcOk = true ∧ f.body = .final w ∧ listening s = true) ∧
    (∃ s : State, ∃ (lane : Fin 2) (f : SluFrame) (x : List (Nat × List (Word × Nat))), s.tidy ∧ pairBase s = true ∧
      flag s Reg.redState (16 + lane.val) = true ∧ f.crcOk = true ∧ f.body = .lines x ∧ listening s = true) ∧
    (∃ s : State, ∃ (lane : Fin 2) (f : SluFrame), s.tidy ∧ pairBase s = true ∧ flag s Reg.redState (16 + lane.val) =
      true ∧ f.crcOk = false ∧ s.slu.nak.contains f.seq = false) ∧
    (∃ s : State, ∃ (lane : Fin 2) (f : SluFrame) (nl ne nf nx : Nat) (dig : List Nat) (clk : Nat), s.tidy ∧ pairBase
      s = true ∧ flag s Reg.redState (16 + lane.val) = true ∧ f.crcOk = true ∧ f.body = .commit nl ne nf nx dig clk ∧
      listening s = true ∧ (s.slu.failed = true ∨ s.slu.frames + 1 ≠ nf)) ∧
    (∃ s : State, ∃ (lane : Fin 2) (f : SluFrame) (nl ne nf nx : Nat) (dig : List Nat) (clk : Nat), s.tidy ∧ pairBase
      s = true ∧ flag s Reg.redState (16 + lane.val) = true ∧ f.crcOk = true ∧ f.body = .commit nl ne nf nx dig clk ∧
      listening s = true ∧ s.slu.failed = false ∧ s.slu.frames + 1 = nf ∧ s.slu.lines.length = nl ∧
      s.slu.engines.length = ne) ∧
    (∃ s : State, ∃ (lane : Fin 2), s.tidy ∧ (pairBase s = false ∨ flag s Reg.redState (16 + lane.val) = false)) ∧
    (∃ s : State, s.tidy ∧ listening s = true ∧ s.red.copyCame = false ∧ s.tbu.slot % 512 = 0 ∧ s.tbu.minorDone =
      false) ∧
    (∃ s : State, s.tidy ∧ (listening s = false ∨ s.red.copyCame = true ∨ s.tbu.slot % 512 ≠ 0 ∨ s.tbu.minorDone =
      true)) ∧
    (∃ s : State, ∃ (lane : Fin 2), s.tidy ∧ flag s Reg.redState (16 + lane.val) = true) ∧
    (∃ s : State, ∃ (lane : Fin 2), s.tidy ∧ flag s Reg.redState (16 + lane.val) = false) ∧
    (∃ s : State, s.tidy ∧ pairBase s = true) ∧
    (∃ s : State, s.tidy ∧ pairBase s = false) :=
  ⟨⟨inTurn ⟨0x31, 0x15, 0, 0, 0, 0, 0, 0⟩ (wr Reg.redPartner (roleStandby + 0x100) (pairState roleActive)), 0, by decide +kernel⟩,
    ⟨inTurn ⟨0x31, 0x15, 0, 0, 0, 0, 0, 0⟩ (pairState roleActive), 0, by decide +kernel⟩,
    ⟨pairState roleStandby, 0, { body := .final [1] }, [1], by decide +kernel⟩,
    ⟨pairState roleStandby, 0, { body := .lines [] }, [], by decide +kernel⟩,
    ⟨pairState roleStandby, 0, { crcOk := false, body := .final [] }, by decide +kernel⟩,
    ⟨pairState roleStandby, 0, { body := .commit 0 0 3 0 [] 0 }, 0, 0, 3, 0, [], 0, by decide +kernel⟩,
    ⟨pairState roleStandby, 0, { gen := 7, body := .commit 0 0 1 0 [] 0 }, 0, 0, 1, 0, [], 0, by decide +kernel⟩,
    ⟨State.reset, 0, by decide +kernel⟩,
    ⟨pairState roleStandby, by decide +kernel⟩,
    ⟨pairState roleActive, by decide +kernel⟩,
    ⟨pairState roleStandby, 0, by decide +kernel⟩,
    ⟨State.reset, 0, by decide +kernel⟩,
    ⟨pairState roleStandby, by decide +kernel⟩,
    ⟨State.reset, by decide +kernel⟩⟩

theorem witness_takeoverAndSwap :
    (∃ s : State, s.tidy ∧ takesOver s = true) ∧
    (∃ s : State, s.tidy ∧ takesOver s = false) ∧
    (∃ s : State, s.tidy ∧ atMinor s = true ∧ role s = roleSyncing ∧ s.red.passDone = true ∧ s.saf.current = true ∧ 2
      ≤ (lanesIn s).length ∧ s.red.barred = false) ∧
    (∃ s : State, s.tidy ∧ (atMinor s = false ∨ role s ≠ roleSyncing ∨ s.red.passDone = false ∨ s.saf.current = false
      ∨ (lanesIn s).length < 2 ∨ s.red.barred = true)) ∧
    (∃ s : State, ∃ (w : SwapWhy), s.tidy ∧ atMinor s = true ∧ s.red.swap = some ⟨w, 0⟩ ∧ (role s ≠ roleActive ∨
      swapPartnerOk s w = false)) ∧
    (∃ s : State, ∃ (w : SwapWhy), s.tidy ∧ atMinor s = true ∧ s.red.swap = some ⟨w, 0⟩ ∧ role s = roleActive ∧
      swapPartnerOk s w = true) ∧
    (∃ s : State, s.tidy ∧ (atMinor s = false ∨ s.red.swap = none)) ∧
    (∃ s : State, s.tidy ∧ s.red.swap = some ⟨.swap, 1⟩ ∧ (advanceTo (s.red.sendEnd) s).red.own = .present) ∧
    (∃ s : State, s.tidy ∧ s.red.swap = none) ∧
    (∃ s : State, s.tidy ∧ laneState s 2 ≠ 2) ∧
    (∃ s : State, s.tidy ∧ laneState s 2 = 2 ∧ laneMode s = 1) :=
  ⟨⟨{ wr Reg.redLanes 0x111 (pairState roleStandby) with red := { State.reset.red with partner := .released } }, by decide +kernel⟩,
    ⟨pairState roleActive, by decide +kernel⟩,
    ⟨{ wr Reg.redLanes 0x111 (pairState roleSyncing) with red := { State.reset.red with passDone := true }, saf := { State.reset.saf with current := true } }, by decide +kernel⟩,
    ⟨pairState roleSyncing, by decide +kernel⟩,
    ⟨{ pairState roleActive with red := { State.reset.red with swap := some ⟨.swap, 0⟩ } }, .swap, by decide +kernel⟩,
    ⟨{ wr Reg.redPartner (roleStandby + 0x100) (pairState roleActive) with red := { State.reset.red with swap := some ⟨.swap, 0⟩ } }, .swap, by decide +kernel⟩,
    ⟨State.reset, by decide +kernel⟩,
    ⟨{ pairState roleActive with red := { State.reset.red with own := .present, swap := some ⟨.swap, 1⟩, sendEnd := 9 } }, by decide +kernel⟩,
    ⟨State.reset, by decide +kernel⟩,
    ⟨State.reset, by decide +kernel⟩,
    ⟨wr Reg.redLanes 0x211 (wr Reg.redPartner (roleStandby + 0x100) (pairState roleActive)), by decide +kernel⟩⟩

theorem witness_sessionGateAndProof :
    (∃ s : State, s.tidy ∧ s.ses.gateOpen = false) ∧
    (∃ s : State, s.tidy ∧ s.ses.gateOpen = true) ∧
    (∃ s : State, s.tidy ∧ s.ses.gateOpen = true) ∧
    (∃ s : State, s.tidy ∧ s.ses.gateOpen = false) ∧
    (∃ s : State, ∃ (m : QapMsg), s.tidy ∧ m.wrongLen = true) ∧
    (∃ s : State, ∃ (m : QapMsg), s.tidy ∧ m.wrongLen = false ∧ (s.ses.gateOpen = false ∨ 4 ≤ s.ses.handled)) ∧
    (∃ s : State, ∃ (m : QapMsg) (k : Nat), s.tidy ∧ m.wrongLen = false ∧ s.ses.gateOpen = true ∧ s.ses.handled < 4 ∧
      m.body.length = 20 ∧ m.body.headD 0 ≤ 3 ∧ freeSlot s = some k ∧ roleLocked s (m.body.headD 0) = none ∧
      (s.ses.factory = false ∨ m.body.headD 0 = 3)) ∧
    (∃ s : State, ∃ (m : QapMsg), s.tidy ∧ m.wrongLen = false ∧ m.slot < 16 ∧ (session s m.slot).state = 1 ∧
      m.body.length = 32 ∧ proofOk s (session s m.slot) m.body = true) ∧
    (∃ s : State, ∃ (m : QapMsg), s.tidy ∧ m.wrongLen = false ∧ m.slot < 16 ∧ (session s m.slot).state = 1 ∧
      m.body.length = 32 ∧ proofOk s (session s m.slot) m.body = false) ∧
    (∃ s : State, ∃ (r : Fin 4) (k : Nat), s.tidy ∧ tabGet (fun _ => (none : Option Nat)) s.ses.locked r.val = some k) ∧
    (∃ s : State, ∃ (r : Fin 4), s.tidy ∧ tabGet (fun _ => (none : Option Nat)) s.ses.locked r.val = none) ∧
    (∃ s : State, ∃ (k : Fin 16), s.tidy ∧ (session s k.val).state = 1) ∧
    (∃ s : State, ∃ (k : Fin 16), s.tidy ∧ (session s k.val).state ≠ 1) ∧
    (∃ s : State, ∃ (k : Fin 16), s.tidy ∧ (session s k.val).state = 2) ∧
    (∃ s : State, ∃ (k : Fin 16), s.tidy ∧ (session s k.val).state ≠ 2) :=
  ⟨⟨State.reset, by decide +kernel⟩,
    ⟨{ State.reset with ses := { State.reset.ses with gateOpen := true } }, by decide +kernel⟩,
    ⟨{ State.reset with ses := { State.reset.ses with gateOpen := true, handled := 3 } }, by decide +kernel⟩,
    ⟨State.reset, by decide +kernel⟩,
    ⟨State.reset, { wrongLen := true }, by decide +kernel⟩,
    ⟨State.reset, {}, by decide +kernel⟩,
    ⟨{ State.reset with ses := { State.reset.ses with gateOpen := true } }, { body := 3 :: List.replicate 19 0 }, 0, by decide +kernel⟩,
    ⟨{ State.reset with ses := { State.reset.ses with slots := [(0, { state := 1, role := 3 })] } }, { body := hmac256 (instKey State.reset) (proofData State.reset "QAP-PROVE" { state := 1, role := 3 }) }, by decide +kernel⟩,
    ⟨{ State.reset with ses := { State.reset.ses with slots := [(0, { state := 1, role := 3 })] } }, { body := List.replicate 32 0 }, by decide +kernel⟩,
    ⟨{ State.reset with ses := { State.reset.ses with locked := [(2, some 5)] } }, 2, 5, by decide +kernel⟩,
    ⟨State.reset, 0, by decide +kernel⟩,
    ⟨{ State.reset with ses := { State.reset.ses with slots := [(0, { state := 1 })] } }, 0, by decide +kernel⟩,
    ⟨State.reset, 0, by decide +kernel⟩,
    ⟨sesState 2, 0, by decide +kernel⟩,
    ⟨State.reset, 0, by decide +kernel⟩⟩

theorem witness_requestGate :
    (∃ s : State, ∃ (m : QapMsg), s.tidy ∧ m.wrongLen = false ∧ (16 ≤ m.slot ∨ (session s m.slot).state ≠ 2)) ∧
    (∃ s : State, ∃ (m : QapMsg), s.tidy ∧ m.wrongLen = false ∧ m.slot < 16 ∧ (session s m.slot).state = 2 ∧ qapTag
      (session s m.slot).key (m.bytes 3) ≠ m.tag) ∧
    (∃ s : State, ∃ (m : QapMsg), s.tidy ∧ m.wrongLen = false ∧ (16 ≤ m.slot ∨ (session s m.slot).state ≠ 2)) ∧
    (∃ s : State, ∃ (m : QapMsg), s.tidy ∧ m.wrongLen = false ∧ m.slot < 16 ∧ (session s m.slot).state = 2 ∧ qapTag
      (session s m.slot).key (m.bytes 4) ≠ m.tag) ∧
    (∃ s : State, ∃ (m : QapMsg), s.tidy ∧ m.wrongLen = false ∧ (16 ≤ m.slot ∨ (session s m.slot).state ≠ 2)) ∧
    (∃ s : State, ∃ (m : QapMsg), s.tidy ∧ m.wrongLen = false ∧ m.slot < 16 ∧ (session s m.slot).state = 2 ∧ qapTag
      (session s m.slot).key (m.bytes 5) ≠ m.tag) ∧
    (∃ s : State, ∃ (m : QapMsg), s.tidy ∧ m.wrongLen = false ∧ (16 ≤ m.slot ∨ (session s m.slot).state ≠ 2)) ∧
    (∃ s : State, ∃ (m : QapMsg), s.tidy ∧ m.wrongLen = false ∧ m.slot < 16 ∧ (session s m.slot).state = 2 ∧ qapTag
      (session s m.slot).key (m.bytes 6) ≠ m.tag) ∧
    (∃ s : State, ∃ (m : QapMsg), s.tidy ∧ m.wrongLen = false ∧ (16 ≤ m.slot ∨ (session s m.slot).state ≠ 2)) ∧
    (∃ s : State, ∃ (m : QapMsg), s.tidy ∧ m.wrongLen = false ∧ m.slot < 16 ∧ (session s m.slot).state = 2 ∧ qapTag
      (session s m.slot).key (m.bytes 7) ≠ m.tag) ∧
    (∃ s : State, ∃ (m : QapMsg), s.tidy ∧ m.wrongLen = false ∧ (16 ≤ m.slot ∨ (session s m.slot).state ≠ 2)) ∧
    (∃ s : State, ∃ (m : QapMsg), s.tidy ∧ m.wrongLen = false ∧ m.slot < 16 ∧ (session s m.slot).state = 2 ∧ qapTag
      (session s m.slot).key (m.bytes 8) ≠ m.tag) ∧
    (∃ s : State, ∃ (m : QapMsg), s.tidy ∧ m.wrongLen = false ∧ (16 ≤ m.slot ∨ (session s m.slot).state ≠ 2)) ∧
    (∃ s : State, ∃ (m : QapMsg), s.tidy ∧ m.wrongLen = false ∧ m.slot < 16 ∧ (session s m.slot).state = 2 ∧ qapTag
      (session s m.slot).key (m.bytes 9) ≠ m.tag) ∧
    (∃ s : State, ∃ (m : QapMsg), s.tidy ∧ m.wrongLen = false ∧ (16 ≤ m.slot ∨ (session s m.slot).state ≠ 2)) ∧
    (∃ s : State, ∃ (m : QapMsg), s.tidy ∧ m.wrongLen = false ∧ m.slot < 16 ∧ (session s m.slot).state = 2 ∧ qapTag
      (session s m.slot).key (m.bytes 10) ≠ m.tag) ∧
    (∃ s : State, ∃ (m : QapMsg), s.tidy ∧ m.wrongLen = false ∧ (16 ≤ m.slot ∨ ((session s m.slot).state ≠ 2 ∧
      (session s m.slot).state ≠ 1))) ∧
    (∃ s : State, ∃ (m : QapMsg), s.tidy ∧ m.wrongLen = false ∧ m.slot < 16 ∧ (session s m.slot).state = 1 ∧
      m.body.length ≠ 32) :=
  ⟨⟨State.reset, { slot := 3 }, by decide +kernel⟩,
    ⟨sesState 2, { slot := 0, seq := 5 }, by decide +kernel⟩,
    ⟨State.reset, { slot := 3 }, by decide +kernel⟩,
    ⟨sesState 2, { slot := 0, seq := 5 }, by decide +kernel⟩,
    ⟨State.reset, { slot := 3 }, by decide +kernel⟩,
    ⟨sesState 2, { slot := 0, seq := 5 }, by decide +kernel⟩,
    ⟨State.reset, { slot := 3 }, by decide +kernel⟩,
    ⟨sesState 2, { slot := 0, seq := 5 }, by decide +kernel⟩,
    ⟨State.reset, { slot := 3 }, by decide +kernel⟩,
    ⟨sesState 2, { slot := 0, seq := 5 }, by decide +kernel⟩,
    ⟨State.reset, { slot := 3 }, by decide +kernel⟩,
    ⟨sesState 2, { slot := 0, seq := 5 }, by decide +kernel⟩,
    ⟨State.reset, { slot := 3 }, by decide +kernel⟩,
    ⟨sesState 2, { slot := 0, seq := 5 }, by decide +kernel⟩,
    ⟨State.reset, { slot := 3 }, by decide +kernel⟩,
    ⟨sesState 2, { slot := 0, seq := 5 }, by decide +kernel⟩,
    ⟨State.reset, { slot := 3 }, by decide +kernel⟩,
    ⟨{ State.reset with ses := { State.reset.ses with slots := [(0, { state := 1, role := 3 })] } }, { slot := 0 }, by decide +kernel⟩⟩

theorem witness_readAndWriteRequests :
    (∃ s : State, ∃ (m : QapMsg), s.tidy ∧ Asks s 3 m ∧ m.body.length = 8 ∧ reqCount m ≤ 256 ∧ mapped (reqAddr m)
      (reqCount m) = true) ∧
    (∃ s : State, ∃ (m : QapMsg) (hits : List EccHit), s.tidy ∧ Asks s 3 m ∧ m.body.length = 8 ∧ reqCount m ≤ 256 ∧
      mapped (reqAddr m) (reqCount m) = true ∧ hits = [] ∧ s.img.upsets = []) ∧
    (∃ s : State, ∃ (m : QapMsg), s.tidy ∧ Asks s 3 m ∧ m.body.length = 8 ∧ reqCount m ≤ 256 ∧ mapped (reqAddr m)
      (reqCount m) = false) ∧
    (∃ s : State, ∃ (m : QapMsg), s.tidy ∧ Asks s 4 m ∧ reqCount m ≤ 256 ∧ m.body.length = 8 + 4 * reqCount m ∧ mapped
      (reqAddr m) (reqCount m) = false) ∧
    (∃ s : State, ∃ (m : QapMsg), s.tidy ∧ Asks s 4 m ∧ reqCount m ≤ 256 ∧ m.body.length = 8 + 4 * reqCount m ∧ mapped
      (reqAddr m) (reqCount m) = true ∧ standbyRefuses (taken s m) (writeReqs m) = false ∧ wordFails (taken s m)
      m.slot (writeReqs m) = [] ∧ (writeReqs m).all (fun w => mapRow w.a == some 0 && !isOrder w.a) = true) ∧
    (∃ s : State, ∃ (m : QapMsg) (f : WordFail) (r : List WordFail), s.tidy ∧ Asks s 4 m ∧ reqCount m ≤ 256 ∧
      m.body.length = 8 + 4 * reqCount m ∧ mapped (reqAddr m) (reqCount m) = true ∧ standbyRefuses (taken s m)
      (writeReqs m) = false ∧ wordFails (taken s m) m.slot (writeReqs m) = f :: r) ∧
    (∃ s : State, ∃ (m : QapMsg), s.tidy ∧ Asks s 5 m ∧ reqCount m ≤ 256 ∧ m.body.length = 8 + 8 * reqCount m ∧ mapped
      (reqAddr m) (reqCount m) = false) ∧
    (∃ s : State, ∃ (m : QapMsg), s.tidy ∧ Asks s 5 m ∧ reqCount m ≤ 256 ∧ m.body.length = 8 + 8 * reqCount m ∧ mapped
      (reqAddr m) (reqCount m) = true ∧ standbyRefuses (taken s m) (modifyReqs m) = false ∧ wordFails (taken s m)
      m.slot (modifyReqs m) = [] ∧ (modifyReqs m).all (fun w => mapRow w.a == some 0 && !isOrder w.a) = true) ∧
    (∃ s : State, ∃ (m : QapMsg) (f : WordFail) (r : List WordFail), s.tidy ∧ Asks s 5 m ∧ reqCount m ≤ 256 ∧
      m.body.length = 8 + 8 * reqCount m ∧ mapped (reqAddr m) (reqCount m) = true ∧ standbyRefuses (taken s m)
      (modifyReqs m) = false ∧ wordFails (taken s m) m.slot (modifyReqs m) = f :: r) :=
  ⟨⟨sesState 2, askMsg 3 [0, 0, 0x10, 0, 1, 0, 0, 0], by decide +kernel⟩,
    ⟨sesState 2, askMsg 3 [0, 0, 0x10, 0, 1, 0, 0, 0], [], by decide +kernel⟩,
    ⟨sesState 2, askMsg 3 [1, 0, 0x10, 0, 1, 0, 0, 0], by decide +kernel⟩,
    ⟨sesState 2, askMsg 4 [1, 0, 0, 0, 1, 0, 0, 0, 0, 0, 0, 0], by decide +kernel⟩,
    ⟨sesState 2, askMsg 4 [0x1C, 1, 0x10, 0, 1, 0, 0, 0, 3, 0, 0, 0], by decide +kernel⟩,
    ⟨sesState 2, askMsg 4 [0, 0, 0x10, 0, 1, 0, 0, 0, 3, 0, 0, 0], ⟨0, 0, 1⟩, [], by decide +kernel⟩,
    ⟨sesState 2, askMsg 5 [1, 0, 0, 0, 1, 0, 0, 0, 0, 0, 0, 0, 0, 0, 0, 0], by decide +kernel⟩,
    ⟨sesState 2, askMsg 5 [0x1C, 1, 0x10, 0, 1, 0, 0, 0, 3, 0, 0, 0, 3, 0, 0, 0], by decide +kernel⟩,
    ⟨sesState 2, askMsg 5 [0, 0, 0x10, 0, 1, 0, 0, 0, 3, 0, 0, 0, 3, 0, 0, 0], ⟨0, 0, 1⟩, [], by decide +kernel⟩⟩

theorem witness_sessionRequests :
    (∃ s : State, ∃ (m : QapMsg), s.tidy ∧ Asks s 6 m ∧ m.body.length = 8) ∧
    (∃ s : State, ∃ (m : QapMsg), s.tidy ∧ Asks s 6 m ∧ m.body.length ≠ 8) ∧
    (∃ s : State, ∃ (m : QapMsg), s.tidy ∧ Asks s 7 m ∧ m.body = [] ∧ s.grn.freeze = none) ∧
    (∃ s : State, ∃ (m : QapMsg) (k : Nat), s.tidy ∧ Asks s 7 m ∧ m.body = [] ∧ s.grn.freeze = some k) ∧
    (∃ s : State, ∃ (m : QapMsg), s.tidy ∧ Asks s 8 m ∧ m.body = [] ∧ s.grn.freeze = some m.slot) ∧
    (∃ s : State, ∃ (m : QapMsg), s.tidy ∧ Asks s 8 m ∧ m.body = [] ∧ s.grn.freeze ≠ some m.slot) ∧
    (∃ s : State, ∃ (m : QapMsg), s.tidy ∧ Asks s 9 m ∧ m.body = [] ∧ (session s m.slot).role < 2) ∧
    (∃ s : State, ∃ (m : QapMsg), s.tidy ∧ Asks s 9 m ∧ m.body = [] ∧ 2 ≤ (session s m.slot).role) ∧
    (∃ s : State, ∃ (m : QapMsg), s.tidy ∧ Asks s 10 m ∧ m.body = []) ∧
    (∃ s : State, ∃ (m : QapMsg), s.tidy ∧ Asks s 10 m ∧ m.body ≠ []) :=
  ⟨⟨sesState 2, askMsg 6 [1, 0, 0, 0, 0, 0, 0, 0], by decide +kernel⟩,
    ⟨sesState 2, askMsg 6 [], by decide +kernel⟩,
    ⟨sesState 2, askMsg 7 [], by decide +kernel⟩,
    ⟨{ sesState 2 with grn := { State.reset.grn with freeze := some 3 } }, askMsg 7 [], 3, by decide +kernel⟩,
    ⟨{ sesState 2 with grn := { State.reset.grn with freeze := some 0 } }, askMsg 8 [], by decide +kernel⟩,
    ⟨sesState 2, askMsg 8 [], by decide +kernel⟩,
    ⟨sesState 1, askMsg 9 [], by decide +kernel⟩,
    ⟨sesState 2, askMsg 9 [], by decide +kernel⟩,
    ⟨sesState 2, askMsg 10 [], by decide +kernel⟩,
    ⟨sesState 2, askMsg 10 [1], by decide +kernel⟩⟩

theorem witness_controlLoops :
    (∃ s : State, ∃ (pos : Nat) (first : Nat) (count : Nat), s.tidy ∧ Due s ⟨0x11, 0x0B, first, count, 0, 0, 0, pos⟩ ∧
      (atTurn pos s).seq.held = [] ∧ (producers (atTurn pos s)).length < 32 ∧ bitsOf count 8 0 = 0) ∧
    (∃ s : State, ∃ (pos : Nat) (first : Nat) (count : Nat), s.tidy ∧ Due s ⟨0x11, 0x0B, first, count, 0, 0, 0, pos⟩ ∧
      (atTurn pos s).seq.held = [] ∧ (producers (atTurn pos s)).length < 32 ∧ bitsOf count 8 0 ≠ 0 ∧ ((atTurn pos
      s).cle.busy < (atTurn pos s).now ∨ (atTurn pos s).cle.busy = 0) ∧ cleWaiting (atTurn pos s) = none) ∧
    (∃ s : State, ∃ (pos : Nat) (first : Nat) (count : Nat), s.tidy ∧ Due s ⟨0x11, 0x0B, first, count, 0, 0, 0, pos⟩ ∧
      (atTurn pos s).seq.held = [] ∧ (producers (atTurn pos s)).length < 32 ∧ bitsOf count 8 0 ≠ 0 ∧ (((atTurn pos
      s).now ≤ (atTurn pos s).cle.busy ∧ (atTurn pos s).cle.busy ≠ 0) ∨ (cleWaiting (atTurn pos s)).isSome = true)) ∧
    (∃ s : State, ∃ (w o : OutEntry), s.tidy ∧ cleWaiting s = some w ∧ entryOf (advanceTo (s.cle.busy + 1) s) w.uid =
      some o) ∧
    (∃ s : State, s.tidy ∧ cleWaiting s = none) ∧
    (∃ s : State, ∃ (uid k : Nat) (o : OutEntry), s.tidy ∧ s.img.upsets = [] ∧ s.img.laneDiff = [] ∧ s.cle.laneLoops =
      [] ∧ entryOf s uid = some o) ∧
    (∃ s : State, ∃ (uid k : Nat) (o : OutEntry), s.tidy ∧ s.img.upsets = [] ∧ s.img.laneDiff = [] ∧ s.cle.laneLoops =
      [] ∧ entryOf s uid = some o ∧ fld s (Reg.cleMode (k / 8)) (4 * (k % 8) + 3) (4 * (k % 8)) = 0) ∧
    (∃ s : State, s.tidy ∧ s.cle.armed = true ∧ (List.range (cfgCount s 0x0701)).filterMap (fun k => (commitCond s
      k).map (fun d => (k, d))) = []) ∧
    (∃ s : State, ∃ (k d : Nat) (r : List (Nat × Nat)), s.tidy ∧ s.cle.armed = true ∧ (List.range (cfgCount s
      0x0701)).filterMap (fun k => (commitCond s k).map (fun d => (k, d))) = (k, d) :: r) ∧
    (∃ s : State, s.tidy ∧ s.cle.armed = false) :=
  ⟨⟨inTurn ⟨0x11, 0x0B, 0, 0, 0, 0, 0, 0⟩ (State.reset), 0, 0, 0, by decide +kernel⟩,
    ⟨inTurn ⟨0x11, 0x0B, 0, 1, 0, 0, 0, 0⟩ (loopState), 0, 0, 1, by decide +kernel⟩,
    ⟨inTurn ⟨0x11, 0x0B, 0, 1, 0, 0, 0, 0⟩ ({ loopState with cle := { loopState.cle with busy := 100 } }), 0, 0, 1, by decide +kernel⟩,
    ⟨{ loopState with cle := { loopState.cle with busy := 100 }, seq := { loopState.seq with nextUid := 1, outst := [{ uid := 0, e := ⟨0x11, 0x0B, 0, 1, 0, 0, 0, 0⟩, last := neverClk, words := [1], left := [1] }] } }, { uid := 0, e := ⟨0x11, 0x0B, 0, 1, 0, 0, 0, 0⟩, last := neverClk, words := [1], left := [1] }, { uid := 0, e := ⟨0x11, 0x0B, 0, 1, 0, 0, 0, 0⟩, last := neverClk, words := [1], left := [1] }, by decide +kernel⟩,
    ⟨State.reset, by decide +kernel⟩,
    ⟨{ loopState with cle := { loopState.cle with busy := 32 }, seq := { loopState.seq with nextUid := 1, outst := [{ uid := 0, e := ⟨0x11, 0x0B, 0, 1, 0, 0, 0, 0⟩, last := 99, words := [1], left := [1], todo := [(5, .loop 0)] }] } }, 0, 0, { uid := 0, e := ⟨0x11, 0x0B, 0, 1, 0, 0, 0, 0⟩, last := 99, words := [1], left := [1], todo := [(5, .loop 0)] }, by decide +kernel⟩,
    ⟨{ loopState with cle := { loopState.cle with busy := 32 }, seq := { loopState.seq with nextUid := 1, outst := [{ uid := 0, e := ⟨0x11, 0x0B, 0, 1, 0, 0, 0, 0⟩, last := 99, words := [1], left := [1], todo := [(5, .loop 0)] }] } }, 0, 0, { uid := 0, e := ⟨0x11, 0x0B, 0, 1, 0, 0, 0, 0⟩, last := 99, words := [1], left := [1], todo := [(5, .loop 0)] }, by decide +kernel⟩,
    ⟨{ State.reset with cle := { State.reset.cle with armed := true, shd := [(5, some 7)] } }, by decide +kernel⟩,
    ⟨{ loopState with cle := { loopState.cle with armed := true, shd := [(99, some 0x3F800000)] } }, 0, 1, [], by decide +kernel⟩,
    ⟨State.reset, by decide +kernel⟩⟩

theorem witness_granaryAndCounters :
    (∃ s : State, s.tidy ∧ s.grn.queue = []) ∧
    (∃ s : State, ∃ (x : GRec) (q : List GRec), s.tidy ∧ s.grn.queue = x :: q ∧ s.grn.freeze = none) ∧
    (∃ s : State, ∃ (x : GRec) (q : List GRec) (k : Nat), s.tidy ∧ s.grn.queue = x :: q ∧ s.grn.freeze = some k) ∧
    (∃ s : State, ∃ (k : Nat), s.tidy ∧ s.grn.freeze = some k) ∧
    (∃ s : State, s.tidy ∧ s.grn.freeze = none) ∧
    (∃ s : State, s.tidy) ∧
    (∃ s : State, ∃ (pos : Nat) (first : Nat) (count : Nat), s.tidy ∧ Due s ⟨0x32, 0x16, first, count, 0, 0, 0, pos⟩ ∧
      (atTurn pos s).seq.held = [] ∧ (producers (atTurn pos s)).length < 32 ∧ count % 512 = 1 ∧ cfgNat (atTurn pos s)
      0x0D01 (first % 256) 0 1 ≠ 2) ∧
    (∃ s : State, ∃ (pos : Nat) (first : Nat) (count : Nat), s.tidy ∧ Due s ⟨0x32, 0x16, first, count, 0, 0, 0, pos⟩ ∧
      (atTurn pos s).seq.held = [] ∧ (producers (atTurn pos s)).length < 32 ∧ count % 512 = 1 ∧ cfgNat (atTurn pos s)
      0x0D01 (first % 256) 0 1 = 2 ∧ flag (atTurn pos s) (Reg.grnTrigCfg (first % 256)) 31 = false) ∧
    (∃ s : State, ∃ (pos : Nat) (first : Nat) (count : Nat), s.tidy ∧ Due s ⟨0x32, 0x16, first, count, 0, 0, 0, pos⟩ ∧
      (atTurn pos s).seq.held = [] ∧ (producers (atTurn pos s)).length < 32 ∧ count % 512 = 0) ∧
    (∃ s : State, ∃ (pos : Nat) (k : Nat), s.tidy ∧ Due s ⟨0x34, 0x17, k, 0, 0, 0, 0, pos⟩ ∧ (atTurn pos s).seq.held =
      [] ∧ (producers (atTurn pos s)).length < 32) ∧
    (∃ s : State, ∃ (k : Fin 240), s.tidy ∧ k.val < 224 ∧ tabGet (fun _ => (0 : Nat)) s.pmc.cnt k.val = 2 ^ 48 - 1) ∧
    (∃ s : State, ∃ (k : Fin 240), s.tidy ∧ 224 ≤ k.val ∧ tabGet (fun _ => (0 : Nat)) s.pmc.thr (k.val - 224) = 2 ^ 48
      - 1) ∧
    (∃ s : State, ∃ (k : Fin 240), s.tidy ∧ k.val < 224 ∧ tabGet (fun _ => (0 : Nat)) s.pmc.cnt k.val ≠ 2 ^ 48 - 1) ∧
    (∃ s : State, ∃ (sess : Fin 17) (count : Fin 131072), s.tidy ∧ Accepts s sess.val (Reg.grnClearConfirm)
      (count.val)) ∧
    (∃ s : State, ∃ (sess : Fin 17), s.tidy ∧ Accepts s sess.val (Reg.ctrl 0x17) (1)) :=
  ⟨⟨State.reset, by decide +kernel⟩,
    ⟨{ State.reset with grn := { State.reset.grn with queue := [⟨0, 0, 0, 0, 0, 0, 0, 0, 0, 0, [], 0, 0, 0, 0, []⟩] } }, ⟨0, 0, 0, 0, 0, 0, 0, 0, 0, 0, [], 0, 0, 0, 0, []⟩, [], by decide +kernel⟩,
    ⟨{ State.reset with grn := { State.reset.grn with queue := [⟨0, 0, 0, 0, 0, 0, 0, 0, 0, 0, [], 0, 0, 0, 0, []⟩], freeze := some 2 } }, ⟨0, 0, 0, 0, 0, 0, 0, 0, 0, 0, [], 0, 0, 0, 0, []⟩, [], 2, by decide +kernel⟩,
    ⟨{ State.reset with grn := { State.reset.grn with freeze := some 2 } }, 2, by decide +kernel⟩,
    ⟨State.reset, by decide +kernel⟩,
    ⟨setFlag (Reg.stat 0x16) 2 true State.reset, by decide +kernel⟩,
    ⟨inTurn ⟨0x32, 0x16, 0, 1, 0, 0, 0, 0⟩ (State.reset), 0, 0, 1, by decide +kernel⟩,
    ⟨inTurn ⟨0x32, 0x16, 0, 1, 0, 0, 0, 0⟩ ({ State.reset with active := some 0, sheaf := trigSheaf }), 0, 0, 1, by decide +kernel⟩,
    ⟨inTurn ⟨0x32, 0x16, 0, 0, 0, 0, 0, 0⟩ (State.reset), 0, 0, 0, by decide +kernel⟩,
    ⟨inTurn ⟨0x34, 0x17, 3, 0, 0, 0, 0, 0⟩ (State.reset), 0, 3, by decide +kernel⟩,
    ⟨{ State.reset with pmc := { State.reset.pmc with cnt := [(0, 281474976710655)] } }, 0, by decide +kernel⟩,
    ⟨{ State.reset with pmc := { State.reset.pmc with thr := [(0, 281474976710655)] } }, 224, by decide +kernel⟩,
    ⟨State.reset, 0, by decide +kernel⟩,
    ⟨hostState 4, 16, 0, by decide +kernel⟩,
    ⟨{ hostState 4 with pmc := { cnt := [(3, 5)] } }, 16, by decide +kernel⟩⟩

theorem witness_programsAndSensors :
    (∃ s : State, ∃ (p : Fin 4), s.tidy ∧ progState s p.val = 2 ∧ (progStops s p.val).length < 2) ∧
    (∃ s : State, ∃ (p : Fin 4), s.tidy ∧ progState s p.val = 2 ∧ 2 ≤ (progStops s p.val).length) ∧
    (∃ s : State, ∃ (p : Fin 4), s.tidy ∧ progState s p.val ≠ 2) ∧
    (∃ s : State, ∃ (p : Fin 4), s.tidy ∧ progState s p.val = 2) ∧
    (∃ s : State, ∃ (p : Fin 4), s.tidy ∧ progState s p.val ≠ 2) ∧
    (∃ s : State, ∃ (p : Fin 4) (k : Nat), s.tidy ∧ (prog s p.val).restartAt = some k) ∧
    (∃ s : State, ∃ (p : Fin 4), s.tidy ∧ (prog s p.val).restartAt = none) ∧
    (∃ s : State, ∃ (p : Fin 4) (port : Nat) (bytes : List Nat), s.tidy ∧ progState s p.val = 2 ∧ 6000 ≤ port ∧ port ≤
      6063 ∧ bytes.length ≤ 1472) ∧
    (∃ s : State, ∃ (p : Fin 4) (port : Nat), s.tidy ∧ (progState s p.val ≠ 2 ∨ port < 6000 ∨ 6063 < port)) ∧
    (∃ s : State, ∃ (k : Fin 11), s.tidy ∧ k.val < 6) ∧
    (∃ s : State, ∃ (k : Fin 11), s.tidy ∧ k.val = 10) ∧
    (∃ s : State, ∃ (k : Fin 9), s.tidy ∧ k.val < 6) ∧
    (∃ s : State, ∃ (k : Fin 9), s.tidy ∧ k.val = 6) :=
  ⟨⟨wr (Reg.mgtProgState 0) 2 State.reset, 0, by decide +kernel⟩,
    ⟨{ wr (Reg.mgtProgState 0) 2 State.reset with mgt := { State.reset.mgt with progs := [(0, { stops := [0, 0] })] } }, 0, by decide +kernel⟩,
    ⟨State.reset, 0, by decide +kernel⟩,
    ⟨wr (Reg.mgtProgState 0) 2 State.reset, 0, by decide +kernel⟩,
    ⟨State.reset, 0, by decide +kernel⟩,
    ⟨{ wr (Reg.mgtProgState 0) 1 State.reset with mgt := { State.reset.mgt with progs := [(0, { restartAt := some 7 })] } }, 0, 7, by decide +kernel⟩,
    ⟨State.reset, 0, by decide +kernel⟩,
    ⟨wr (Reg.mgtProgState 0) 2 State.reset, 0, 6000, [1], by decide +kernel⟩,
    ⟨State.reset, 0, 0, by decide +kernel⟩,
    ⟨State.reset, 0, by decide +kernel⟩,
    ⟨State.reset, 10, by decide +kernel⟩,
    ⟨wr (Reg.mgtTemp 0) 5 State.reset, 0, by decide +kernel⟩,
    ⟨State.reset, 6, by decide +kernel⟩⟩

theorem witness_updatePath :
    (∃ s : State, s.tidy ∧ updPhase s = 2) ∧
    (∃ s : State, s.tidy ∧ updPhase s ≠ 2) ∧
    (∃ s : State, ∃ (ok : Bool), s.tidy ∧ updPhase s = 4 ∧ ok = true) ∧
    (∃ s : State, ∃ (ok : Bool), s.tidy ∧ updPhase s = 4 ∧ ok = false) ∧
    (∃ s : State, s.tidy ∧ updPhase s ≠ 4) ∧
    (∃ s : State, ∃ (ok : Bool), s.tidy ∧ updPhase s = 6 ∧ ok = true) ∧
    (∃ s : State, ∃ (ok : Bool), s.tidy ∧ updPhase s = 6 ∧ ok = false) ∧
    (∃ s : State, s.tidy ∧ updPhase s ≠ 6) ∧
    (∃ s : State, s.tidy ∧ updPhase s = 6 ∧ flag s Reg.updState 4 = true ∧ s.tbu.slot = 0 ∧ updAtGen s ≤ s.tbu.gen) ∧
    (∃ s : State, s.tidy ∧ (updPhase s ≠ 6 ∨ flag s Reg.updState 4 = false ∨ s.tbu.slot ≠ 0 ∨ s.tbu.gen < updAtGen s)) ∧
    (∃ s : State, ∃ (p : Fin 4) (load : Bool), s.tidy ∧ (prog s p.val).newImage = true ∧ (load = true ∨ (progState s
      p.val = 4 ∧ ∃ k, (prog s p.val).fresh = some k ∧ s.now - k ≤ 12000000000))) ∧
    (∃ s : State, ∃ (p : Fin 4), s.tidy ∧ (prog s p.val).newImage = false) :=
  ⟨⟨wr Reg.updState 2 State.reset, by decide +kernel⟩,
    ⟨State.reset, by decide +kernel⟩,
    ⟨wr Reg.updState 4 State.reset, true, by decide +kernel⟩,
    ⟨wr Reg.updState 4 State.reset, false, by decide +kernel⟩,
    ⟨State.reset, by decide +kernel⟩,
    ⟨wr Reg.updState 6 State.reset, true, by decide +kernel⟩,
    ⟨wr Reg.updState 6 State.reset, false, by decide +kernel⟩,
    ⟨State.reset, by decide +kernel⟩,
    ⟨wr Reg.updState 0x116 State.reset, by decide +kernel⟩,
    ⟨State.reset, by decide +kernel⟩,
    ⟨{ State.reset with mgt := { State.reset.mgt with progs := [(0, { newImage := true })] } }, 0, true, by decide +kernel⟩,
    ⟨State.reset, 0, by decide +kernel⟩⟩

theorem witness_faceplateCommands :
    (∃ s : State, ∃ (pos : Nat) (target : Nat), s.tidy ∧ Due s ⟨0x33, 0x1A, target % 8, 0, 0, 0, 0, pos⟩ ∧ (atTurn pos
      s).seq.held = [] ∧ (producers (atTurn pos s)).length < 32 ∧ target % 8 = 0) ∧
    (∃ s : State, ∃ (pos : Nat) (target : Nat), s.tidy ∧ Due s ⟨0x33, 0x1A, target % 8, 0, 0, 0, 0, pos⟩ ∧ (atTurn pos
      s).seq.held = [] ∧ (producers (atTurn pos s)).length < 32 ∧ target % 8 ≠ 0 ∧ target % 8 ≤ 4 ∧ (atTurn pos
      s).fpd.railFault = false ∧ (regionRect (atTurn pos s) (target % 8 - 1)).2.2.1 ≠ 0 ∧ (regionRect (atTurn pos s)
      (target % 8 - 1)).2.2.2 ≠ 0 ∧ pendOf (atTurn pos s) (target % 8 - 1) ≠ 2) ∧
    (∃ s : State, ∃ (pos : Nat) (target : Nat), s.tidy ∧ Due s ⟨0x33, 0x1A, target % 8, 0, 0, 0, 0, pos⟩ ∧ (atTurn pos
      s).seq.held = [] ∧ (producers (atTurn pos s)).length < 32 ∧ 5 ≤ target % 8) ∧
    (∃ s : State, s.tidy) ∧
    (∃ s : State, s.tidy) ∧
    (∃ s : State, s.tidy ∧ s.fpd.rail < 5) ∧
    (∃ s : State, ∃ (n : Nat), s.tidy ∧ s.fpd.rail = 5 ∧ s.fpd.clearing = some n ∧ 1 < n ∧ s.fpd.updates = [] ∧
      s.fpd.marker = 0 ∧ s.pwr.phase ≠ .shed) ∧
    (∃ s : State, s.tidy ∧ 1 ≤ s.fpd.rail ∧ s.fpd.rail ≤ 3) ∧
    (∃ s : State, s.tidy ∧ s.fpd.rail = 4) ∧
    (∃ s : State, s.tidy ∧ (s.fpd.rail = 0 ∨ 4 < s.fpd.rail)) ∧
    (∃ s : State, s.tidy ∧ 1 ≤ s.fpd.rail ∧ s.fpd.rail ≤ 4) ∧
    (∃ s : State, s.tidy ∧ (s.fpd.rail = 0 ∨ 4 < s.fpd.rail)) :=
  ⟨⟨inTurn ⟨0x33, 0x1A, 0 % 8, 0, 0, 0, 0, 0⟩ (State.reset), 0, 0, by decide +kernel⟩,
    ⟨inTurn ⟨0x33, 0x1A, 2 % 8, 0, 0, 0, 0, 0⟩ (wr (Reg.fpdRegionRect 1) 0x1010 State.reset), 0, 2, by decide +kernel⟩,
    ⟨inTurn ⟨0x33, 0x1A, 5 % 8, 0, 0, 0, 0, 0⟩ (State.reset), 0, 5, by decide +kernel⟩,
    ⟨State.reset, by decide +kernel⟩,
    ⟨State.reset, by decide +kernel⟩,
    ⟨State.reset, by decide +kernel⟩,
    ⟨{ State.reset with fpd := { State.reset.fpd with rail := 5, clearing := some 3 } }, 3, by decide +kernel⟩,
    ⟨{ State.reset with fpd := { State.reset.fpd with rail := 1 } }, by decide +kernel⟩,
    ⟨{ State.reset with fpd := { State.reset.fpd with rail := 4 } }, by decide +kernel⟩,
    ⟨State.reset, by decide +kernel⟩,
    ⟨{ State.reset with fpd := { State.reset.fpd with rail := 2 } }, by decide +kernel⟩,
    ⟨State.reset, by decide +kernel⟩⟩

theorem witness_entriesHeldBack :
    (∃ s : State, ∃ (pos : Nat), s.tidy ∧ ¬ Due s ⟨0x00, 0, 0, 0, 0, 0, 0, pos⟩) ∧
    (∃ s : State, ∃ (pos : Nat), s.tidy ∧ Due s ⟨0x00, 0, 0, 0, 0, 0, 0, pos⟩ ∧ ((atTurn pos s).seq.held ≠ [] ∨ 32 ≤
      (producers (atTurn pos s)).length)) ∧
    (∃ s : State, ∃ (pos : Nat) (ch : Fin 32) (window : Nat) (cmd : Nat), s.tidy ∧ ¬ Due s ⟨0x01, 0x20 + ch, window,
      cmd, 0, 0, 0, pos⟩ ∧ (dispatching s = true ∨ keepsConverting s ch.val = false)) ∧
    (∃ s : State, ∃ (pos : Nat) (ch : Fin 32) (window : Nat) (cmd : Nat), s.tidy ∧ Due s ⟨0x01, 0x20 + ch, window,
      cmd, 0, 0, 0, pos⟩ ∧ ((atTurn pos s).seq.held ≠ [] ∨ 32 ≤ (producers (atTurn pos s)).length)) ∧
    (∃ s : State, ∃ (pos : Nat) (ch : Fin 32) (dst : Nat) (status : Nat), s.tidy ∧ ¬ Due s ⟨0x02, 0x20 + ch, 0, dst,
      status, 0, 0, pos⟩ ∧ (dispatching s = true ∨ keepsConverting s ch.val = false)) ∧
    (∃ s : State, ∃ (pos : Nat) (ch : Fin 32) (dst : Nat) (status : Nat), s.tidy ∧ Due s ⟨0x02, 0x20 + ch, 0, dst,
      status, 0, 0, pos⟩ ∧ ((atTurn pos s).seq.held ≠ [] ∨ 32 ≤ (producers (atTurn pos s)).length)) ∧
    (∃ s : State, ∃ (pos : Nat) (mask0 : Nat) (mask1 : Nat) (dst : Nat), s.tidy ∧ ¬ Due s ⟨0x03, 0x07, 0, mask0,
      mask1, dst, 0, pos⟩) ∧
    (∃ s : State, ∃ (pos : Nat) (mask0 : Nat) (mask1 : Nat) (dst : Nat), s.tidy ∧ Due s ⟨0x03, 0x07, 0, mask0, mask1,
      dst, 0, pos⟩ ∧ ((atTurn pos s).seq.held ≠ [] ∨ 32 ≤ (producers (atTurn pos s)).length)) ∧
    (∃ s : State, ∃ (pos : Nat) (len : Nat) (mask0 : Nat) (mask1 : Nat) (src : Nat), s.tidy ∧ ¬ Due s ⟨0x04, 0x07,
      len, mask0, mask1, src, 0, pos⟩) ∧
    (∃ s : State, ∃ (pos : Nat) (len : Nat) (mask0 : Nat) (mask1 : Nat) (src : Nat), s.tidy ∧ Due s ⟨0x04, 0x07, len,
      mask0, mask1, src, 0, pos⟩ ∧ ((atTurn pos s).seq.held ≠ [] ∨ 32 ≤ (producers (atTurn pos s)).length)) ∧
    (∃ s : State, ∃ (pos : Nat) (input : Nat) (dst : Nat), s.tidy ∧ ¬ Due s ⟨0x05, 0x08, input, dst, 0, 0, 0, pos⟩) ∧
    (∃ s : State, ∃ (pos : Nat) (input : Nat) (dst : Nat), s.tidy ∧ Due s ⟨0x05, 0x08, input, dst, 0, 0, 0, pos⟩ ∧
      ((atTurn pos s).seq.held ≠ [] ∨ 32 ≤ (producers (atTurn pos s)).length)) ∧
    (∃ s : State, ∃ (pos : Nat) (mask : Nat) (dst : Nat), s.tidy ∧ ¬ Due s ⟨0x06, 0x09, mask, dst, 0, 0, 0, pos⟩) ∧
    (∃ s : State, ∃ (pos : Nat) (mask : Nat) (dst : Nat), s.tidy ∧ Due s ⟨0x06, 0x09, mask, dst, 0, 0, 0, pos⟩ ∧
      ((atTurn pos s).seq.held ≠ [] ∨ 32 ≤ (producers (atTurn pos s)).length)) ∧
    (∃ s : State, ∃ (pos : Nat) (set : Nat) (req : Nat) (status : Nat), s.tidy ∧ ¬ Due s ⟨0x07, 0x0A, set, req,
      status, 0, 0, pos⟩) ∧
    (∃ s : State, ∃ (pos : Nat) (set : Nat) (req : Nat) (status : Nat), s.tidy ∧ Due s ⟨0x07, 0x0A, set, req, status,
      0, 0, pos⟩ ∧ ((atTurn pos s).seq.held ≠ [] ∨ 32 ≤ (producers (atTurn pos s)).length)) ∧
    (∃ s : State, ∃ (pos : Nat) (count : Nat) (src : Nat) (dst : Nat), s.tidy ∧ ¬ Due s ⟨0x10, 0x05, count, src, dst,
      0, 0, pos⟩) ∧
    (∃ s : State, ∃ (pos : Nat) (count : Nat) (src : Nat) (dst : Nat), s.tidy ∧ Due s ⟨0x10, 0x05, count, src, dst, 0,
      0, pos⟩ ∧ ((atTurn pos s).seq.held ≠ [] ∨ 32 ≤ (producers (atTurn pos s)).length)) ∧
    (∃ s : State, ∃ (pos : Nat) (first : Nat) (count : Nat), s.tidy ∧ ¬ Due s ⟨0x11, 0x0B, first, count, 0, 0, 0,
      pos⟩) ∧
    (∃ s : State, ∃ (pos : Nat) (first : Nat) (count : Nat), s.tidy ∧ Due s ⟨0x11, 0x0B, first, count, 0, 0, 0, pos⟩ ∧
      ((atTurn pos s).seq.held ≠ [] ∨ 32 ≤ (producers (atTurn pos s)).length)) ∧
    (∃ s : State, ∃ (pos : Nat) (slot : Nat) (d : Nat), s.tidy ∧ ¬ Due s ⟨0x12, 0x0C, slot, d, 0, 0, 0, pos⟩) ∧
    (∃ s : State, ∃ (pos : Nat) (slot : Nat) (d : Nat), s.tidy ∧ Due s ⟨0x12, 0x0C, slot, d, 0, 0, 0, pos⟩ ∧ ((atTurn
      pos s).seq.held ≠ [] ∨ 32 ≤ (producers (atTurn pos s)).length)) ∧
    (∃ s : State, ∃ (pos : Nat) (slot : Nat), s.tidy ∧ ¬ Due s ⟨0x13, 0x0C, slot, 0, 0, 0, 0, pos⟩) ∧
    (∃ s : State, ∃ (pos : Nat) (slot : Nat), s.tidy ∧ Due s ⟨0x13, 0x0C, slot, 0, 0, 0, 0, pos⟩ ∧ ((atTurn pos
      s).seq.held ≠ [] ∨ 32 ≤ (producers (atTurn pos s)).length)) ∧
    (∃ s : State, ∃ (pos : Nat) (slot : Nat), s.tidy ∧ ¬ Due s ⟨0x14, 0x0C, slot, 0, 0, 0, 0, pos⟩) ∧
    (∃ s : State, ∃ (pos : Nat) (slot : Nat), s.tidy ∧ Due s ⟨0x14, 0x0C, slot, 0, 0, 0, 0, pos⟩ ∧ ((atTurn pos
      s).seq.held ≠ [] ∨ 32 ≤ (producers (atTurn pos s)).length)) ∧
    (∃ s : State, ∃ (pos : Nat) (n : Fin 4) (d : Nat), s.tidy ∧ ¬ Due s ⟨0x20, 0x0E + n, d, 0, 0, 0, 0, pos⟩) ∧
    (∃ s : State, ∃ (pos : Nat) (n : Fin 4) (d : Nat), s.tidy ∧ Due s ⟨0x20, 0x0E + n, d, 0, 0, 0, 0, pos⟩ ∧ ((atTurn
      pos s).seq.held ≠ [] ∨ 32 ≤ (producers (atTurn pos s)).length)) ∧
    (∃ s : State, ∃ (pos : Nat) (n : Fin 4) (first : Nat) (count : Nat), s.tidy ∧ ¬ Due s ⟨0x21, 0x0E + n, 0, first,
      count, 0, 0, pos⟩) ∧
    (∃ s : State, ∃ (pos : Nat) (n : Fin 4) (first : Nat) (count : Nat), s.tidy ∧ Due s ⟨0x21, 0x0E + n, 0, first,
      count, 0, 0, pos⟩ ∧ ((atTurn pos s).seq.held ≠ [] ∨ 32 ≤ (producers (atTurn pos s)).length)) ∧
    (∃ s : State, ∃ (pos : Nat) (n : Fin 2) (first : Nat) (count : Nat), s.tidy ∧ ¬ Due s ⟨0x22, 0x12, n, first,
      count, 0, 0, pos⟩) ∧
    (∃ s : State, ∃ (pos : Nat) (n : Fin 2) (first : Nat) (count : Nat), s.tidy ∧ Due s ⟨0x22, 0x12, n, first, count,
      0, 0, pos⟩ ∧ ((atTurn pos s).seq.held ≠ [] ∨ 32 ≤ (producers (atTurn pos s)).length)) ∧
    (∃ s : State, ∃ (pos : Nat) (k : Nat), s.tidy ∧ ¬ Due s ⟨0x23, 0x13, k, 0, 0, 0, 0, pos⟩) ∧
    (∃ s : State, ∃ (pos : Nat) (k : Nat), s.tidy ∧ Due s ⟨0x23, 0x13, k, 0, 0, 0, 0, pos⟩ ∧ ((atTurn pos s).seq.held
      ≠ [] ∨ 32 ≤ (producers (atTurn pos s)).length)) ∧
    (∃ s : State, ∃ (pos : Nat) (k : Nat), s.tidy ∧ ¬ Due s ⟨0x24, 0x13, k, 0, 0, 0, 0, pos⟩) ∧
    (∃ s : State, ∃ (pos : Nat) (k : Nat), s.tidy ∧ Due s ⟨0x24, 0x13, k, 0, 0, 0, 0, pos⟩ ∧ ((atTurn pos s).seq.held
      ≠ [] ∨ 32 ≤ (producers (atTurn pos s)).length)) ∧
    (∃ s : State, ∃ (pos : Nat) (dst : Nat), s.tidy ∧ ¬ Due s ⟨0x30, 0x0D, 0, dst, 0, 0, 0, pos⟩) ∧
    (∃ s : State, ∃ (pos : Nat) (dst : Nat), s.tidy ∧ Due s ⟨0x30, 0x0D, 0, dst, 0, 0, 0, pos⟩ ∧ ((atTurn pos
      s).seq.held ≠ [] ∨ 32 ≤ (producers (atTurn pos s)).length)) ∧
    (∃ s : State, ∃ (pos : Nat), s.tidy ∧ ¬ Due s ⟨0x31, 0x15, 0, 0, 0, 0, 0, pos⟩) ∧
    (∃ s : State, ∃ (pos : Nat), s.tidy ∧ Due s ⟨0x31, 0x15, 0, 0, 0, 0, 0, pos⟩ ∧ ((atTurn pos s).seq.held ≠ [] ∨ 32
      ≤ (producers (atTurn pos s)).length)) ∧
    (∃ s : State, ∃ (pos : Nat) (first : Nat) (count : Nat), s.tidy ∧ ¬ Due s ⟨0x32, 0x16, first, count, 0, 0, 0,
      pos⟩) ∧
    (∃ s : State, ∃ (pos : Nat) (first : Nat) (count : Nat), s.tidy ∧ Due s ⟨0x32, 0x16, first, count, 0, 0, 0, pos⟩ ∧
      ((atTurn pos s).seq.held ≠ [] ∨ 32 ≤ (producers (atTurn pos s)).length)) ∧
    (∃ s : State, ∃ (pos : Nat) (target : Nat), s.tidy ∧ ¬ Due s ⟨0x33, 0x1A, target % 8, 0, 0, 0, 0, pos⟩) ∧
    (∃ s : State, ∃ (pos : Nat) (target : Nat), s.tidy ∧ Due s ⟨0x33, 0x1A, target % 8, 0, 0, 0, 0, pos⟩ ∧ ((atTurn
      pos s).seq.held ≠ [] ∨ 32 ≤ (producers (atTurn pos s)).length)) ∧
    (∃ s : State, ∃ (pos : Nat) (k : Nat), s.tidy ∧ ¬ Due s ⟨0x34, 0x17, k, 0, 0, 0, 0, pos⟩) ∧
    (∃ s : State, ∃ (pos : Nat) (k : Nat), s.tidy ∧ Due s ⟨0x34, 0x17, k, 0, 0, 0, 0, pos⟩ ∧ ((atTurn pos s).seq.held
      ≠ [] ∨ 32 ≤ (producers (atTurn pos s)).length)) :=
  ⟨⟨State.reset, 0, by decide +kernel⟩,
    ⟨inTurn ⟨0x00, 0, 0, 0, 0, 0, 0, 0⟩ ({ State.reset with seq := { State.reset.seq with held := [(⟨0, 0, 0, 0, 0, 0, 0, 0⟩, {})] } }), 0, by decide +kernel⟩,
    ⟨State.reset, 0, 0, 0, 0, by decide +kernel⟩,
    ⟨inTurn ⟨0x01, 0x20 + 0, 0, 0, 0, 0, 0, 0⟩ ({ State.reset with seq := { State.reset.seq with held := [(⟨0, 0, 0, 0, 0, 0, 0, 0⟩, {})] } }), 0, 0, 0, 0, by decide +kernel⟩,
    ⟨State.reset, 0, 0, 0, 0, by decide +kernel⟩,
    ⟨inTurn ⟨0x02, 0x20 + 0, 0, 0, 0, 0, 0, 0⟩ ({ State.reset with seq := { State.reset.seq with held := [(⟨0, 0, 0, 0, 0, 0, 0, 0⟩, {})] } }), 0, 0, 0, 0, by decide +kernel⟩,
    ⟨State.reset, 0, 0, 0, 0, by decide +kernel⟩,
    ⟨inTurn ⟨0x03, 0x07, 0, 0, 0, 0, 0, 0⟩ ({ State.reset with seq := { State.reset.seq with held := [(⟨0, 0, 0, 0, 0, 0, 0, 0⟩, {})] } }), 0, 0, 0, 0, by decide +kernel⟩,
    ⟨State.reset, 0, 0, 0, 0, 0, by decide +kernel⟩,
    ⟨inTurn ⟨0x04, 0x07, 0, 0, 0, 0, 0, 0⟩ ({ State.reset with seq := { State.reset.seq with held := [(⟨0, 0, 0, 0, 0, 0, 0, 0⟩, {})] } }), 0, 0, 0, 0, 0, by decide +kernel⟩,
    ⟨State.reset, 0, 0, 0, by decide +kernel⟩,
    ⟨inTurn ⟨0x05, 0x08, 0, 0, 0, 0, 0, 0⟩ ({ State.reset with seq := { State.reset.seq with held := [(⟨0, 0, 0, 0, 0, 0, 0, 0⟩, {})] } }), 0, 0, 0, by decide +kernel⟩,
    ⟨State.reset, 0, 0, 0, by decide +kernel⟩,
    ⟨inTurn ⟨0x06, 0x09, 0, 0, 0, 0, 0, 0⟩ ({ State.reset with seq := { State.reset.seq with held := [(⟨0, 0, 0, 0, 0, 0, 0, 0⟩, {})] } }), 0, 0, 0, by decide +kernel⟩,
    ⟨State.reset, 0, 0, 0, 0, by decide +kernel⟩,
    ⟨inTurn ⟨0x07, 0x0A, 0, 0, 0, 0, 0, 0⟩ ({ State.reset with seq := { State.reset.seq with held := [(⟨0, 0, 0, 0, 0, 0, 0, 0⟩, {})] } }), 0, 0, 0, 0, by decide +kernel⟩,
    ⟨State.reset, 0, 0, 0, 0, by decide +kernel⟩,
    ⟨inTurn ⟨0x10, 0x05, 0, 0, 0, 0, 0, 0⟩ ({ State.reset with seq := { State.reset.seq with held := [(⟨0, 0, 0, 0, 0, 0, 0, 0⟩, {})] } }), 0, 0, 0, 0, by decide +kernel⟩,
    ⟨State.reset, 0, 0, 0, by decide +kernel⟩,
    ⟨inTurn ⟨0x11, 0x0B, 0, 0, 0, 0, 0, 0⟩ ({ State.reset with seq := { State.reset.seq with held := [(⟨0, 0, 0, 0, 0, 0, 0, 0⟩, {})] } }), 0, 0, 0, by decide +kernel⟩,
    ⟨State.reset, 0, 0, 0, by decide +kernel⟩,
    ⟨inTurn ⟨0x12, 0x0C, 0, 0, 0, 0, 0, 0⟩ ({ State.reset with seq := { State.reset.seq with held := [(⟨0, 0, 0, 0, 0, 0, 0, 0⟩, {})] } }), 0, 0, 0, by decide +kernel⟩,
    ⟨State.reset, 0, 0, by decide +kernel⟩,
    ⟨inTurn ⟨0x13, 0x0C, 0, 0, 0, 0, 0, 0⟩ ({ State.reset with seq := { State.reset.seq with held := [(⟨0, 0, 0, 0, 0, 0, 0, 0⟩, {})] } }), 0, 0, by decide +kernel⟩,
    ⟨State.reset, 0, 0, by decide +kernel⟩,
    ⟨inTurn ⟨0x14, 0x0C, 0, 0, 0, 0, 0, 0⟩ ({ State.reset with seq := { State.reset.seq with held := [(⟨0, 0, 0, 0, 0, 0, 0, 0⟩, {})] } }), 0, 0, by decide +kernel⟩,
    ⟨State.reset, 0, 0, 0, by decide +kernel⟩,
    ⟨inTurn ⟨0x20, 0x0E + 0, 0, 0, 0, 0, 0, 0⟩ ({ State.reset with seq := { State.reset.seq with held := [(⟨0, 0, 0, 0, 0, 0, 0, 0⟩, {})] } }), 0, 0, 0, by decide +kernel⟩,
    ⟨State.reset, 0, 0, 0, 0, by decide +kernel⟩,
    ⟨inTurn ⟨0x21, 0x0E + 0, 0, 0, 0, 0, 0, 0⟩ ({ State.reset with seq := { State.reset.seq with held := [(⟨0, 0, 0, 0, 0, 0, 0, 0⟩, {})] } }), 0, 0, 0, 0, by decide +kernel⟩,
    ⟨State.reset, 0, 0, 0, 0, by decide +kernel⟩,
    ⟨inTurn ⟨0x22, 0x12, 0, 0, 0, 0, 0, 0⟩ ({ State.reset with seq := { State.reset.seq with held := [(⟨0, 0, 0, 0, 0, 0, 0, 0⟩, {})] } }), 0, 0, 0, 0, by decide +kernel⟩,
    ⟨State.reset, 0, 0, by decide +kernel⟩,
    ⟨inTurn ⟨0x23, 0x13, 0, 0, 0, 0, 0, 0⟩ ({ State.reset with seq := { State.reset.seq with held := [(⟨0, 0, 0, 0, 0, 0, 0, 0⟩, {})] } }), 0, 0, by decide +kernel⟩,
    ⟨State.reset, 0, 0, by decide +kernel⟩,
    ⟨inTurn ⟨0x24, 0x13, 0, 0, 0, 0, 0, 0⟩ ({ State.reset with seq := { State.reset.seq with held := [(⟨0, 0, 0, 0, 0, 0, 0, 0⟩, {})] } }), 0, 0, by decide +kernel⟩,
    ⟨State.reset, 0, 0, by decide +kernel⟩,
    ⟨inTurn ⟨0x30, 0x0D, 0, 0, 0, 0, 0, 0⟩ ({ State.reset with seq := { State.reset.seq with held := [(⟨0, 0, 0, 0, 0, 0, 0, 0⟩, {})] } }), 0, 0, by decide +kernel⟩,
    ⟨State.reset, 0, by decide +kernel⟩,
    ⟨inTurn ⟨0x31, 0x15, 0, 0, 0, 0, 0, 0⟩ ({ State.reset with seq := { State.reset.seq with held := [(⟨0, 0, 0, 0, 0, 0, 0, 0⟩, {})] } }), 0, by decide +kernel⟩,
    ⟨State.reset, 0, 0, 0, by decide +kernel⟩,
    ⟨inTurn ⟨0x32, 0x16, 0, 0, 0, 0, 0, 0⟩ ({ State.reset with seq := { State.reset.seq with held := [(⟨0, 0, 0, 0, 0, 0, 0, 0⟩, {})] } }), 0, 0, 0, by decide +kernel⟩,
    ⟨State.reset, 0, 0, by decide +kernel⟩,
    ⟨inTurn ⟨0x33, 0x1A, 0 % 8, 0, 0, 0, 0, 0⟩ ({ State.reset with seq := { State.reset.seq with held := [(⟨0, 0, 0, 0, 0, 0, 0, 0⟩, {})] } }), 0, 0, by decide +kernel⟩,
    ⟨State.reset, 0, 0, by decide +kernel⟩,
    ⟨inTurn ⟨0x34, 0x17, 0, 0, 0, 0, 0, 0⟩ ({ State.reset with seq := { State.reset.seq with held := [(⟨0, 0, 0, 0, 0, 0, 0, 0⟩, {})] } }), 0, 0, by decide +kernel⟩⟩

theorem witness_reservedRegisters :
    (∃ s : State, ∃ (sess : Fin 17) (page : Fin 64), s.tidy ∧ sessOpen s sess.val = true ∧ listening s = false ∧ 0x1B
      ≤ page.val ∧ page.val ≤ 0x1F) ∧
    (∃ s : State, ∃ (sess : Fin 17) (page : Fin 64) (word : Fin 1024), s.tidy ∧ sessOpen s sess.val = true ∧ listening
      s = false ∧ (blockOf page.val).isSome = true ∧ findRow page.val (4 * word.val) = none) :=
  ⟨⟨hostState 4, 16, 0x1C, by decide +kernel⟩,
    ⟨hostState 4, 16, 1, 10, by decide +kernel⟩⟩

theorem witness_nonHostWordsIgnoreHosts :
    (∃ s : State, ∃ (sess : Fin 17) (w : Fin 262144), s.tidy ∧ sessOpen s sess.val = true ∧ listening s = false ∧
      operatorRole s w.val = none) :=
  ⟨hostState 4, 16, 3, by decide +kernel⟩

theorem witness_modifyComputes :
    (∃ s : State, ∃ (m : QapMsg) (w : ReqWord), s.tidy ∧ Asks s 5 m ∧ reqCount m ≤ 256 ∧ m.body.length = 8 + 8 *
      reqCount m ∧ mapped (reqAddr m) (reqCount m) = true ∧ standbyRefuses (taken s m) (modifyReqs m) = false ∧
      wordFails (taken s m) m.slot (modifyReqs m) = [] ∧ modifyReqs m = [w] ∧ mapRow w.a = some 0 ∧ isOrder w.a =
      false ∧ accOf w.a ≠ some .w1c ∧ accOf w.a ≠ some .wo) ∧
    (∃ s : State, ∃ (m : QapMsg) (w : ReqWord) (p : Nat), s.tidy ∧ Asks s 5 m ∧ reqCount m ≤ 256 ∧ m.body.length = 8 +
      8 * reqCount m ∧ mapped (reqAddr m) (reqCount m) = true ∧ standbyRefuses (taken s m) (modifyReqs m) = false ∧
      wordFails (taken s m) m.slot (modifyReqs m) = [] ∧ modifyReqs m = [w] ∧ mapRow w.a = some 0 ∧ p < 64 ∧ w.a =
      Reg.evtRaw p ∧ (∀ b : Nat, b < 16 → tabGet (fun _ => (0 : Nat)) s.evtClk (16 * p + b) ≤ 2 * s.now + 1)) :=
  ⟨⟨sesState 2, askMsg 5 [0x1C, 1, 0x10, 0, 1, 0, 0, 0, 3, 0, 0, 0, 3, 0, 0, 0], ⟨0x10011C, 3, 3⟩, by decide +kernel⟩,
    ⟨wr (Reg.evtRaw 0) 7 (sesState 3), askMsg 5 [0x10, 0, 0x10, 0, 1, 0, 0, 0, 3, 0, 0, 0, 2, 0, 0, 0], ⟨0x100010, 3, 2⟩, 0, by decide +kernel⟩⟩

/-! ### Statements without clauses of their own -/

theorem witness_stepRunsFrontCommand : ∃ (c : Instr) (r : List Instr) (s : State), s.pending = c :: r :=
  ⟨.brownOut, [.shutdownBoundary], { State.reset with pending := [.brownOut, .shutdownBoundary] }, rfl⟩

theorem witness_idleStepPassesOneClock : ∃ s : State, s.tidy ∧ s.pending = [] := ⟨State.reset, by decide +kernel⟩

theorem witness_canonicalFormIsKept : ∃ s t : State, s.tidy ∧ step s = .next t :=
  ⟨State.reset, _, by decide +kernel, rfl⟩

/-- A LIVE safety unit in which the demand of group 0 stands and is latched. -/
def trippedUnit : State := { safetyState 2 0 with saf := { (safetyState 2 0).saf with q := 0, latch := 1 } }

theorem witness_safetyDemandsLatch : ∃ (i : Instr) (s t : State), s.tidy ∧ 2 ≤ s.saf.unit ∧ grpDemand s 0 = true ∧
    (∀ g : Nat, g < 8 → grpOn s g = true → grpDemand s g = true → bitOf s.saf.latch g = true) ∧
    (∃ n run clk mid, i = .safetyInputChange n run clk mid) ∧ exec i s = .next t ∧ 2 ≤ t.saf.unit ∧ grpDemand t 0 = true :=
  ⟨.safetyInputChange 5 ⟨12000, 0⟩ 7 0, trippedUnit, _, by decide +kernel, by decide +kernel, by decide +kernel,
    by decide +kernel, ⟨5, ⟨12000, 0⟩, 7, 0, rfl⟩, rfl, by decide +kernel, by decide +kernel⟩

/-! ### One step, with expected values from the spec -/

/-- The state after a command. -/
def after (i : Instr) (s : State) : State :=
  match exec i s with
  | .next t => t
  | _ => s

/-- A timebase at 50 Hz: slots of 976.5625 clocks. -/
def slots50 (frac : Nat) : State := { State.reset with tbu := { State.reset.tbu with running := true, len := 0x03D09000, frac := frac } }

/-- "Angle timebases": at 50 Hz the carried fraction makes the slots run 976, 977, … -/
theorem test_slot_of_976_clocks : (after (.slotBoundary 0 0 0 [] {}) (slots50 0)).now = 976 := by decide +kernel

theorem test_slot_carries_its_fraction : (after (.slotBoundary 0 0 0 [] {}) (slots50 0x9000)).now = 977 := by decide +kernel

/-- R82: the slot number is modulo 4,096. -/
theorem test_slot_number_wraps :
    (after (.slotBoundary 0 0 0 [] {}) { slots50 0 with tbu := { (slots50 0).tbu with slot := 4095 } }).tbu.slot = 0 := by decide +kernel

/-- "Solver engine": one iteration of a QP with n = 48, p = 6 and m = 128 is bounded by 25,397 cycles. -/
theorem test_qp_bound : boundT1 54 = 5641 ∧ (128 * 48 ^ 2 + 15) / 16 + boundT1 (48 + 6) + 8 * 128 + 300 = 25397 := by decide +kernel

/-- "Marine serial lines": the XOR of the characters of HEHDT,274.53,T is 0x18. -/
theorem test_sentence_checksum : [72, 69, 72, 68, 84, 44, 50, 55, 52, 46, 53, 51, 44, 84].foldl (· ^^^ ·) 0 = 0x18 := by decide +kernel

/-- "Marine serial lines": field 1 of that sentence is 274.53, the word 0x4389_43D7. -/
theorem test_sentence_field : ((mslFields [72, 69, 72, 68, 84, 44, 50, 55, 52, 46, 53, 51, 44, 84, 42]).getD 1 []) = [50, 55, 52, 46, 53, 51] ∧
    fToBits f32 (fOfRat f32 27453 100) = 0x438943D7 := by decide +kernel

/-- FIPS 180-4: the digest of abc, which the proofs of R554 rest on, begins BA 78 16 BF. -/
theorem test_sha256_abc : (sha256 [97, 98, 99]).take 4 = [0xBA, 0x78, 0x16, 0xBF] := by decide +kernel

/-- R19: the codes of the tags. -/
theorem test_reserved_tag_is_bad : tagOf 0x6 = .bad ∧ tagOf 0xE = .bad ∧ tagCode .init = 0x5 := by decide +kernel

/-- R615: POWER_FAIL in a running module begins a ride-through. -/
theorem test_power_fail_rides_through :
    (after .powerFail { State.reset with pwr := { State.reset.pwr with phase := .running } }).pwr.phase = .rideThrough := by decide +kernel

/-- R75: an occurrence in the clock of the write that clears the bit wins. -/
theorem test_event_of_this_clock_stays :
    flag (after (.evtRawClear 16 0 2) { wr (Reg.evtRaw 0) 2 (hostState 4) with evtClk := [(1, 3)] }) (Reg.evtRaw 0) 1 = true := by
  decide +kernel

/-- R450, R452: SI00 no longer permits, and group 0 is latched in the same clock. -/
theorem test_demand_latches : bitOf (after (.safetyInputChange 0 ⟨4000, 0⟩ 7 0) (safetyState 2 0)).saf.latch 0 = true ∧
    bitOf (safetyState 2 0).saf.latch 0 = false := by decide +kernel

/-- The queue: a step takes the front command and leaves the rest. -/
theorem test_step_takes_the_front :
    (match step { State.reset with pending := [.brownOut, .shutdownBoundary] } with | .next t => t.pending | _ => []) =
      [.shutdownBoundary] := by decide +kernel

/-! ### WellFormed: one ill-formed term for each check -/

theorem test_wf_accepts : (Instr.imgCopy 0 4 0 100 []).wf = true ∧ (Instr.achLatch 7 31 5 0xFFFFFFFF {}).wf = true := by decide +kernel
theorem test_wf_position : (Instr.nop 8).wf = false := by decide +kernel
theorem test_wf_word : (Instr.gmuSnap 0 1 262144).wf = false := by decide +kernel
theorem test_wf_word_or_none : (Instr.achLatch 0 0 0 0xFFFFFFFE {}).wf = false := by decide +kernel
theorem test_wf_words : (Instr.piuLatch 0 0 262141).wf = false := by decide +kernel
theorem test_wf_input : (Instr.piuLatch 0 4 0).wf = false := by decide +kernel
theorem test_wf_window : (Instr.achStart 0 0 65 0).wf = false := by decide +kernel
theorem test_wf_masks : (Instr.dioSample 0 0 65536 0).wf = false := by decide +kernel
theorem test_wf_drive_length : (Instr.dioDrive 0 65536 0 0 0).wf = false := by decide +kernel
theorem test_wf_copy_count : (Instr.imgCopy 0 4097 0 0 []).wf = false := by decide +kernel
theorem test_wf_hits : (Instr.imgCopy 0 1 0 0 [⟨3, 0, 0, false⟩]).wf = false := by decide +kernel
theorem test_wf_codes : (Instr.slotBoundary 0 0 0 [] { codes := [0] }).wf = false := by decide +kernel
theorem test_wf_samples : (Instr.slotBoundary 0 0 0 [] { ach := [{ ch := 32 }] }).wf = false := by decide +kernel
theorem test_wf_measurement : (Instr.bringupConversion 0 (2 ^ 64, {})).wf = false := by decide +kernel
theorem test_wf_loops : (Instr.cleRun 0 250 7).wf = false := by decide +kernel
theorem test_wf_job_slot : (Instr.slvStart 0 8 0).wf = false := by decide +kernel
theorem test_wf_descriptor : (Instr.mbcSend 0 0 4096).wf = false := by decide +kernel
theorem test_wf_bytes : (Instr.safetyRecordReceived [256]).wf = false := by decide +kernel
theorem test_wf_frame : (Instr.sluiceFrameRx 0 { seq := 2 ^ 32, body := .nak 0 }).wf = false := by decide +kernel
theorem test_wf_can_id : (Instr.canFrameReceived 0 { ide := false, id := 2048 } ⟨0, 0, 0⟩).wf = false := by decide +kernel
theorem test_wf_message : (Instr.qapOpen { port := 3 }).wf = false := by decide +kernel
theorem test_wf_publication : (Instr.netPublish 0 256).wf = false := by decide +kernel
theorem test_wf_target : (Instr.fpdRefresh 0 5).wf = false := by decide +kernel
theorem test_wf_remaining_arms : (Instr.synArm 0 8 0 0).wf = false ∧ (Instr.slvStart 0 0 64).wf = false ∧ (Instr.slvCollect 0 8).wf = false ∧
    (Instr.safExport 0 262137).wf = false ∧ (Instr.mbcMap 0 0 2048 1).wf = false ∧ (Instr.mslMap 0 0 512 1).wf = false ∧
    (Instr.netAccept 0 512).wf = false ∧ (Instr.grnTick 0 256 1).wf = false ∧ (Instr.pmcMark 0 16).wf = false ∧
    (Instr.dioDrive 0 0 0 0 262143).wf = false := by decide +kernel

end Sys2Proof.Tests
end

/-! ## The laws that the statements of spec/00_scope.md rest on: sparse tables that keep some keys, the raising of events -/
section
namespace Sys2Proof.Machine

/-- Dropping the keys that do not satisfy `p` leaves what every other key reads as. -/
theorem tabGet_tabKeep {α : Type} [DecidableEq α] (d : Nat → α) {p : Nat → Bool} {k : Nat} (hk : p k = true) :
    ∀ {t : Tab α}, tabWf d t = true → tabGet d (tabKeep p t) k = tabGet d t k
  | [], _ => rfl
  | (j, v) :: t, hw => by
    obtain ⟨-, ha, ht⟩ := (tabWf_cons d j v t).1 hw
    have ih := tabGet_tabKeep d hk ht
    by_cases hj : p j = true
    · have e : tabKeep p ((j, v) :: t) = (j, v) :: tabKeep p t := List.filter_cons_of_pos hj
      simp only [e, tabGet, ih]
    · have e : tabKeep p ((j, v) :: t) = tabKeep p t := List.filter_cons_of_neg hj
      have hne : j ≠ k := fun h => hj (h ▸ hk)
      rw [e, ih, tabGet, if_neg hne]
      split
      · next hlt => exact tabGet_above d (Nat.le_of_lt hlt) ha
      · rfl

/-- Raising an event changes nothing but what `evented` takes over. -/
theorem raise_eq_evented (p b : Nat) (s : State) : raise_ p b s = evented s (raise_ p b s) := by
  have h := raise__flows rfl (Flows.refl 240518111194 s) (x1 := p) (x2 := b)
  generalize raise_ p b s = t at h ⊢
  obtain ⟨-, hpend, -, -, -, hnow, -, hwide, heff, -, hovl, hovd, hshf, hact, himg, hseq, htbu, -, -, -, hpwr, hred, hdio, hpiu,
    hgmu, hsyn, hach, hcle, hslv, hsaf, hmbc, hmaps, hbad, hnet, hmsl, hmslm, hmgt, hslu, hupd, -, hout, hdr⟩ := h
  cases t
  simp only [Kept] at *
  simp_all [evented]

end Sys2Proof.Machine
end

/-! ## The keep-alive domain and the power-on (R4, R625-R629) -/
section
namespace Sys2Proof.Machine

/-! ### Raising an event, under a condition -/

@[simp] theorem raise_pwr (p b : Nat) (s : State) : (raise_ p b s).pwr = s.pwr := by rw [raise_eq_evented]; rfl
@[simp] theorem raise_tbu (p b : Nat) (s : State) : (raise_ p b s).tbu = s.tbu := by rw [raise_eq_evented]; rfl
@[simp] theorem raise_wide (p b : Nat) (s : State) : (raise_ p b s).wide = s.wide := by rw [raise_eq_evented]; rfl

/-- A field that a change leaves alone is left alone when the change is made under a condition. -/
theorem when_same {α : Type} {g : State → α} {f : State → State} (hf : ∀ t, g (f t) = g t) (b : Bool) (s : State) :
    g (when_ b f s) = g s := by
  rw [when_]
  split
  · exact hf s
  · rfl

theorem within_when {l : List Nat} {f : State → State} (hf : ∀ t, Within l t (f t)) (b : Bool) (s : State) :
    Within l s (when_ b f s) := by
  rw [when_]
  split
  · exact hf s
  · exact Within.refl l s

theorem within_pwrUpd (l : List Nat) (f : PwrSt → PwrSt) (s : State) : Within l s (pwrUpd f s) := fun h => ⟨h, fun _ _ => rfl⟩

/-! ### The keep-alive domain (R625, R626) -/

/-- The domain as a write stores it: under a fresh CRC. -/
def sealedKeep (k : KeepSt) : KeepSt := { k with crc := keepCrc k }

/-- The domain as the check at power-on leaves it (R626). -/
def checkedKeep (k : KeepSt) : KeepSt :=
  if k.crc = keepCrc k then { k with cycles := (k.cycles + 1) % 2 ^ 64, shut := 0 } else { cycles := 1, shut := 0, tamper := true }

/-- The cell voltage and CELL_LOW as KEEP_STATE shows them. -/
def cellWord (cellMv : Nat) : Nat := min 65535 cellMv <<< 16 + b2n (decide (cellMv < 2600)) <<< 1

theorem sealedKeep_crc (k : KeepSt) : (sealedKeep k).crc = keepCrc (sealedKeep k) := rfl

theorem checkedKeep_of_crc {k : KeepSt} (h : k.crc = keepCrc k) :
    checkedKeep k = { k with cycles := (k.cycles + 1) % 2 ^ 64, shut := 0 } := if_pos h

theorem checkedKeep_of_bad_crc {k : KeepSt} (h : k.crc ≠ keepCrc k) :
    checkedKeep k = { cycles := 1, shut := 0, tamper := true } := if_neg h

theorem within_keepPut (l : List Nat) (k : KeepSt) (s : State) : Within l s (keepPut k s) :=
  within_of_flows (keepPut_flows rfl (Flows.refl 4 s))

/-! ### The check of the domain at power-on (R626, R628) -/

/-- The check of a domain whose CRC is right, before CELL_LOW is raised. -/
def keepIntact (cellMv : Nat) (s : State) : State :=
  let k := s.pwr.keep
  let t := s |> keepPut (checkedKeep k) |> wideSet Reg.pwrKeepShutLo k.shut
    |> wr Reg.pwrKeepState (cellWord cellMv + b2n (k.shut == 0) <<< 3 + b2n k.tamper)
    |> pwrUpd (fun p => { p with shutMissing := k.shut == 0 })
  { t with tbu := { t.tbu with ship := k.shut } }

/-- The check of a domain whose CRC is wrong, before KEEP_CRC and CELL_LOW are raised. -/
def keepBroken (cellMv : Nat) (s : State) : State :=
  s |> keepPut (checkedKeep s.pwr.keep) |> wideSet Reg.pwrKeepShutLo 0 |> wr Reg.pwrKeepState (cellWord cellMv + 4 + 1)

theorem keepCheck_of_crc {s : State} (h : s.pwr.keep.crc = keepCrc s.pwr.keep) (cellMv : Nat) :
    keepCheck cellMv s = when_ (decide (cellMv < 2600)) (raise_ 0x01 6) (keepIntact cellMv s) := by
  simp only [keepCheck, if_pos h, keepIntact, checkedKeep_of_crc h, cellWord]

theorem keepCheck_of_bad_crc {s : State} (h : s.pwr.keep.crc ≠ keepCrc s.pwr.keep) (cellMv : Nat) :
    keepCheck cellMv s = when_ (decide (cellMv < 2600)) (raise_ 0x01 6) (raise_ 0x01 7 (keepBroken cellMv s)) := by
  simp only [keepCheck, if_neg h, keepBroken, checkedKeep_of_bad_crc h, cellWord]

theorem within_keepIntact (cellMv : Nat) (s : State) : Within [Reg.pwrKeepState] s (keepIntact cellMv s) :=
  (within_keepPut _ _ s).trans <| (within_of_flows (wideSet_flows rfl (Flows.refl 4 _))).trans <|
    (within_wr (by simp) _ _).trans (fun h => ⟨h, fun _ _ => rfl⟩)

theorem within_keepBroken (cellMv : Nat) (s : State) : Within [Reg.pwrKeepState] s (keepBroken cellMv s) :=
  (within_keepPut _ _ s).trans <| (within_of_flows (wideSet_flows rfl (Flows.refl 4 _))).trans (within_wr (by simp) _ _)

/-- The registers that the check of the domain may change: KEEP_STATE and the events of its outcome. -/
def keepCheckRegs : List Nat := [Reg.pwrKeepState, Reg.evtRaw 0x01, Reg.evtRaw 0x16]

theorem within_keepCheck (cellMv : Nat) (s : State) : Within keepCheckRegs s (keepCheck cellMv s) := by
  have hlow (t : State) : Within keepCheckRegs t (when_ (decide (cellMv < 2600)) (raise_ 0x01 6) t) :=
    within_when (within_raise (by decide) (by decide) 6) _ t
  by_cases h : s.pwr.keep.crc = keepCrc s.pwr.keep
  · rw [keepCheck_of_crc h]
    exact ((within_keepIntact cellMv s).mono (by decide)).trans (hlow _)
  · rw [keepCheck_of_bad_crc h]
    exact (((within_keepBroken cellMv s).mono (by decide)).trans (within_raise (by decide) (by decide) 7 _)).trans (hlow _)

theorem keepCheck_pwr_of_crc {s : State} (h : s.pwr.keep.crc = keepCrc s.pwr.keep) (cellMv : Nat) :
    (keepCheck cellMv s).pwr =
      { s.pwr with keep := sealedKeep (checkedKeep s.pwr.keep), shutMissing := s.pwr.keep.shut == 0 } := by
  rw [keepCheck_of_crc h, when_same (g := State.pwr) (raise_pwr 0x01 6)]
  rfl

theorem keepCheck_pwr_of_bad_crc {s : State} (h : s.pwr.keep.crc ≠ keepCrc s.pwr.keep) (cellMv : Nat) :
    (keepCheck cellMv s).pwr = { s.pwr with keep := sealedKeep (checkedKeep s.pwr.keep) } := by
  rw [keepCheck_of_bad_crc h, when_same (g := State.pwr) (raise_pwr 0x01 6), raise_pwr]
  rfl

/-- The check changes nothing of the power state but the domain and the missing shutdown time. -/
theorem keepCheck_pwr (cellMv : Nat) (s : State) : ∃ b : Bool,
    (keepCheck cellMv s).pwr = { s.pwr with keep := sealedKeep (checkedKeep s.pwr.keep), shutMissing := b } := by
  by_cases h : s.pwr.keep.crc = keepCrc s.pwr.keep
  · exact ⟨_, keepCheck_pwr_of_crc h cellMv⟩
  · exact ⟨s.pwr.shutMissing, keepCheck_pwr_of_bad_crc h cellMv⟩

theorem keepCheck_ship_of_crc {s : State} (h : s.pwr.keep.crc = keepCrc s.pwr.keep) (cellMv : Nat) :
    (keepCheck cellMv s).tbu.ship = s.pwr.keep.shut := by
  rw [keepCheck_of_crc h, when_same (g := State.tbu) (raise_tbu 0x01 6)]
  rfl

theorem cellWord_lt (cellMv : Nat) : cellWord cellMv + 16 < 2 ^ 32 := by
  have hb : b2n (decide (cellMv < 2600)) ≤ 1 := by
    rw [b2n]
    split <;> omega
  simp only [cellWord, Nat.shiftLeft_eq]
  omega

/-- CELL_LOW leaves every register of the check but its event alone. -/
theorem rd_cellLow {s : State} (h : s.tidy) (b : Bool) {a : Nat} (h1 : a ≠ Reg.evtRaw 0x01) (h2 : a ≠ Reg.evtRaw 0x16) :
    rd (when_ b (raise_ 0x01 6) s) a = rd s a := by
  rw [when_]
  split
  · exact rd_raise h 0x01 6 h1 h2
  · rfl

theorem rd_keepCheck_of_crc {s : State} (ht : s.tidy) (h : s.pwr.keep.crc = keepCrc s.pwr.keep) (cellMv : Nat) :
    rd (keepCheck cellMv s) Reg.pwrKeepState =
      cellWord cellMv + b2n (s.pwr.keep.shut == 0) <<< 3 + b2n s.pwr.keep.tamper := by
  have hb : b2n (s.pwr.keep.shut == 0) <<< 3 + b2n s.pwr.keep.tamper < 16 := by
    cases s.pwr.keep.shut == 0 <;> cases s.pwr.keep.tamper <;> decide
  have hl := cellWord_lt cellMv
  rw [keepCheck_of_crc h, rd_cellLow (within_keepIntact cellMv s ht).1 _ (by decide) (by decide)]
  have hs : (wideSet Reg.pwrKeepShutLo s.pwr.keep.shut (keepPut (checkedKeep s.pwr.keep) s)).tidy :=
    (wideSet_flows rfl (keepPut_flows rfl (Flows.refl 0 s))).tidy ht
  exact (rd_wr_self hs _ _).trans (Nat.mod_eq_of_lt (by omega))

theorem rd_keepCheck_of_bad_crc {s : State} (ht : s.tidy) (h : s.pwr.keep.crc ≠ keepCrc s.pwr.keep) (cellMv : Nat) :
    rd (keepCheck cellMv s) Reg.pwrKeepState = cellWord cellMv + 5 := by
  have hl := cellWord_lt cellMv
  have hk := (within_keepBroken cellMv s ht).1
  rw [keepCheck_of_bad_crc h, rd_cellLow (raise_tidy hk 0x01 7) _ (by decide) (by decide),
    rd_raise hk 0x01 7 (by decide) (by decide)]
  have hs : (wideSet Reg.pwrKeepShutLo 0 (keepPut (checkedKeep s.pwr.keep) s)).tidy :=
    (wideSet_flows rfl (keepPut_flows rfl (Flows.refl 0 s))).tidy ht
  exact (rd_wr_self hs _ _).trans (Nat.mod_eq_of_lt (by omega))

/-- A cell below 2.6 V raises CELL_LOW. -/
theorem flag_keepCheck_cellLow {s : State} (ht : s.tidy) {cellMv : Nat} (hc : cellMv < 2600) :
    flag (keepCheck cellMv s) (Reg.evtRaw 0x01) 6 = true := by
  by_cases h : s.pwr.keep.crc = keepCrc s.pwr.keep
  · rw [keepCheck_of_crc h, decide_eq_true hc]
    exact flag_raise_self (within_keepIntact cellMv s ht).1 0x01 6 (by decide)
  · rw [keepCheck_of_bad_crc h, decide_eq_true hc]
    exact flag_raise_self (raise_tidy (within_keepBroken cellMv s ht).1 0x01 7) 0x01 6 (by decide)

/-- A wrong CRC raises KEEP_CRC. -/
theorem flag_keepCheck_keepCrc {s : State} (ht : s.tidy) (h : s.pwr.keep.crc ≠ keepCrc s.pwr.keep) (cellMv : Nat) :
    flag (keepCheck cellMv s) (Reg.evtRaw 0x01) 7 = true := by
  have hk := (within_keepBroken cellMv s ht).1
  have h7 := flag_raise_self hk 0x01 7 (by decide)
  rw [keepCheck_of_bad_crc h, when_]
  split
  · exact flag_raise_mono (raise_tidy hk 0x01 7) 0x01 6 0x01 7 (by decide) h7
  · exact h7

/-! ### The tamper latch found at a start (R78, R79) -/

theorem tamperFound_of_clear {s : State} (h : s.pwr.keep.tamper = false) : tamperFound s = s := by
  simp [tamperFound, h]

theorem tamperFound_of_set {s : State} (h : s.pwr.keep.tamper = true) :
    tamperFound s = raise_ 0x00 4 (setFlag (Reg.stat 0) 5 true s) := by
  simp [tamperFound, h]

@[simp] theorem tamperFound_pwr (s : State) : (tamperFound s).pwr = s.pwr := by
  cases h : s.pwr.keep.tamper
  · rw [tamperFound_of_clear h]
  · rw [tamperFound_of_set h, raise_pwr, setFlag_pwr]

@[simp] theorem tamperFound_tbu (s : State) : (tamperFound s).tbu = s.tbu :=
  (tamperFound_flows rfl (Flows.refl 240518111194 s)).tbu.resolve_left (by decide)

theorem within_tamperFound (s : State) : Within [Reg.stat 0, Reg.evtRaw 0x00, Reg.evtRaw 0x16] s (tamperFound s) := by
  cases h : s.pwr.keep.tamper
  · rw [tamperFound_of_clear h]
    exact Within.refl _ s
  · rw [tamperFound_of_set h]
    exact (within_setFlag (by decide) _ _ s).trans (within_raise (by decide) (by decide) 4 _)

/-! ### The fresh state of a start (R642, R643) -/

theorem freshState_tidy {s : State} (h : s.tidy) (b : Bool) : (freshState b s).tidy :=
  (freshState_flows rfl (Flows.refl 0 s)).tidy h

/-- A register that a start keeps. -/
theorem rd_freshState {s : State} (h : s.tidy) (b : Bool) {a : Nat} (ha : startKeeps a = true) : rd (freshState b s) a = rd s a := by
  have e : (freshState b s).regs = tabKeep startKeeps s.regs := by cases b <;> rfl
  rw [rd, e, tabGet_tabKeep resetValue ha h.1, rd]

/-! ### Power-on (R629 step 1) -/

/-- The state in which a power-on checks the keep-alive domain: fresh, and the supplies measured. -/
def supplied (source aMv bMv : Nat) (s : State) : State :=
  supplyRead true bMv 0 (supplyRead false aMv 0 (pwrUpd (fun p => { p with source := source }) (freshState true s)))

/-- The module after power-on with the domain checked, before its temperature is judged. -/
def poweredOn (source aMv bMv cellMv : Nat) (s : State) : State :=
  tamperFound (keepCheck cellMv (supplied source aMv bMv s))

theorem supplied_pwr (source aMv bMv : Nat) (s : State) : (supplied source aMv bMv s).pwr =
    { phase := .resetHeld, keep := s.pwr.keep, originClk := s.now, powerOn := true, source := source,
      slotPins := s.pwr.slotPins } := rfl

theorem within_supplyRead (b : Bool) (mv ma : Nat) (s : State) :
    Within [Reg.pwrSupplyA, Reg.pwrSupplyB, Reg.stat 0x01] s (supplyRead b mv ma s) :=
  (within_wr (by cases b <;> decide) _ _).trans (within_setFlag (by decide) _ _ _)

theorem within_supplied (source aMv bMv : Nat) (s : State) :
    Within [Reg.pwrSupplyA, Reg.pwrSupplyB, Reg.stat 0x01] (freshState true s) (supplied source aMv bMv s) :=
  (within_pwrUpd _ _ _).trans ((within_supplyRead false aMv 0 _).trans (within_supplyRead true bMv 0 _))

theorem supplied_tidy {s : State} (h : s.tidy) (source aMv bMv : Nat) : (supplied source aMv bMv s).tidy :=
  (within_supplied source aMv bMv s (freshState_tidy h true)).1

theorem startKeeps_variant : startKeeps Reg.sysVariant = true := by decide

theorem rd_poweredOn_variant {s : State} (h : s.tidy) (source aMv bMv cellMv : Nat) :
    rd (poweredOn source aMv bMv cellMv s) Reg.sysVariant = rd s Reg.sysVariant := by
  have hk := within_keepCheck cellMv (supplied source aMv bMv s) (supplied_tidy h source aMv bMv)
  calc rd (poweredOn source aMv bMv cellMv s) Reg.sysVariant
      = rd (keepCheck cellMv (supplied source aMv bMv s)) Reg.sysVariant := (within_tamperFound _ hk.1).2 _ (by decide)
    _ = rd (supplied source aMv bMv s) Reg.sysVariant := hk.2 _ (by decide)
    _ = rd (freshState true s) Reg.sysVariant := (within_supplied source aMv bMv s (freshState_tidy h true)).2 _ (by decide)
    _ = rd s Reg.sysVariant := rd_freshState h true startKeeps_variant

theorem coldLimit_poweredOn {s : State} (h : s.tidy) (source aMv bMv cellMv : Nat) :
    coldLimit (poweredOn source aMv bMv cellMv s) = coldLimit s := by
  rw [coldLimit, fld, rd_poweredOn_variant h, coldLimit, fld]

/-- At its cold-start limit or above, the module waits for its reset release. -/
theorem powerOn_of_warm {s : State} (h : s.tidy) (source aMv bMv cellMv : Nat) {temp : Int} (hc : coldLimit s ≤ temp) :
    powerOn source aMv bMv cellMv temp s = poweredOn source aMv bMv cellMv s :=
  if_neg (by rw [← coldLimit_poweredOn h source aMv bMv cellMv] at hc; exact Int.not_lt.2 hc)

/-- Below its cold-start limit the module is held (R4). -/
theorem powerOn_of_cold {s : State} (h : s.tidy) (source aMv bMv cellMv : Nat) {temp : Int} (hc : temp < coldLimit s) :
    powerOn source aMv bMv cellMv temp s =
      pwrUpd (fun p => { p with phase := .coldHold, coldHeld := true }) (poweredOn source aMv bMv cellMv s) :=
  if_pos (by rw [← coldLimit_poweredOn h source aMv bMv cellMv] at hc; exact hc)

theorem poweredOn_pwr (source aMv bMv cellMv : Nat) (s : State) : ∃ b : Bool, (poweredOn source aMv bMv cellMv s).pwr =
    { phase := .resetHeld, keep := sealedKeep (checkedKeep s.pwr.keep), originClk := s.now, powerOn := true, source := source,
      shutMissing := b, slotPins := s.pwr.slotPins } := by
  obtain ⟨b, hb⟩ := keepCheck_pwr cellMv (supplied source aMv bMv s)
  exact ⟨b, by rw [poweredOn, tamperFound_pwr, hb, supplied_pwr]⟩

end Sys2Proof.Machine
end

/-! ## What power-on, tampering and the end of the shutdown leave (R4, R622, R625-R629) -/
section
namespace Sys2Proof.Machine

/-! ### A power-on, at the cold-start limit or above -/

/-- From the measured supplies on, a power-on leaves outputs, clock, overlay, sequencer and image alone. -/
theorem poweredOn_flows (source aMv bMv cellMv : Nat) (s : State) :
    Flows 240518041554 (supplied source aMv bMv s) (poweredOn source aMv bMv cellMv s) :=
  tamperFound_flows rfl (keepCheck_flows rfl (Flows.refl 240518041554 _))

theorem poweredOn_seq (source aMv bMv cellMv : Nat) (s : State) : (poweredOn source aMv bMv cellMv s).seq = {} :=
  (poweredOn_flows source aMv bMv cellMv s).seq.resolve_left (by decide)

theorem poweredOn_img (source aMv bMv cellMv : Nat) (s : State) : (poweredOn source aMv bMv cellMv s).img = {} :=
  (poweredOn_flows source aMv bMv cellMv s).img.resolve_left (by decide)

theorem poweredOn_out (source aMv bMv cellMv : Nat) (s : State) : (poweredOn source aMv bMv cellMv s).out = s.out :=
  (poweredOn_flows source aMv bMv cellMv s).out.resolve_left (by decide)

theorem poweredOn_now (source aMv bMv cellMv : Nat) (s : State) : (poweredOn source aMv bMv cellMv s).now = s.now :=
  (poweredOn_flows source aMv bMv cellMv s).now.resolve_left (by decide)

theorem poweredOn_overlay (source aMv bMv cellMv : Nat) (s : State) :
    (poweredOn source aMv bMv cellMv s).overlay = s.overlay :=
  (poweredOn_flows source aMv bMv cellMv s).overlay.resolve_left (by decide)

/-- The power state after a power-on with a right CRC. -/
theorem poweredOn_pwr_of_crc {s : State} (h : s.pwr.keep.crc = keepCrc s.pwr.keep) (source aMv bMv cellMv : Nat) :
    (poweredOn source aMv bMv cellMv s).pwr =
      { phase := .resetHeld, originClk := s.now, powerOn := true, source := source, slotPins := s.pwr.slotPins,
        keep := sealedKeep { s.pwr.keep with cycles := (s.pwr.keep.cycles + 1) % 2 ^ 64, shut := 0 },
        shutMissing := s.pwr.keep.shut == 0 } := by
  rw [poweredOn, tamperFound_pwr, keepCheck_pwr_of_crc (s := supplied source aMv bMv s) h, supplied_pwr, checkedKeep_of_crc h]

/-- The power state after a power-on with a wrong CRC. -/
theorem poweredOn_pwr_of_bad_crc {s : State} (h : s.pwr.keep.crc ≠ keepCrc s.pwr.keep) (source aMv bMv cellMv : Nat) :
    (poweredOn source aMv bMv cellMv s).pwr =
      { phase := .resetHeld, originClk := s.now, powerOn := true, source := source, slotPins := s.pwr.slotPins,
        keep := sealedKeep { cycles := 1, shut := 0, tamper := true } } := by
  rw [poweredOn, tamperFound_pwr, keepCheck_pwr_of_bad_crc (s := supplied source aMv bMv s) h, supplied_pwr,
    checkedKeep_of_bad_crc h]

theorem poweredOn_ship_of_crc {s : State} (h : s.pwr.keep.crc = keepCrc s.pwr.keep) (source aMv bMv cellMv : Nat) :
    (poweredOn source aMv bMv cellMv s).tbu.ship = s.pwr.keep.shut := by
  rw [poweredOn, tamperFound_tbu, keepCheck_ship_of_crc (s := supplied source aMv bMv s) h, supplied_pwr]

/-- A register that a tamper latch found set does not touch stands as the check of the domain left it. -/
theorem rd_poweredOn {s : State} (ht : s.tidy) (source aMv bMv cellMv : Nat) {a : Nat}
    (ha : a ∉ [Reg.stat 0, Reg.evtRaw 0x00, Reg.evtRaw 0x16]) :
    rd (poweredOn source aMv bMv cellMv s) a = rd (keepCheck cellMv (supplied source aMv bMv s)) a :=
  (within_tamperFound _ (within_keepCheck cellMv _ (supplied_tidy ht source aMv bMv)).1).2 a ha

theorem rd_poweredOn_keepState_of_crc {s : State} (ht : s.tidy) (h : s.pwr.keep.crc = keepCrc s.pwr.keep)
    (source aMv bMv cellMv : Nat) : rd (poweredOn source aMv bMv cellMv s) Reg.pwrKeepState =
      cellWord cellMv + b2n (s.pwr.keep.shut == 0) <<< 3 + b2n s.pwr.keep.tamper := by
  rw [rd_poweredOn ht _ _ _ _ (by decide), rd_keepCheck_of_crc (supplied_tidy ht source aMv bMv) h, supplied_pwr]

theorem rd_poweredOn_keepState_of_bad_crc {s : State} (ht : s.tidy) (h : s.pwr.keep.crc ≠ keepCrc s.pwr.keep)
    (source aMv bMv cellMv : Nat) : rd (poweredOn source aMv bMv cellMv s) Reg.pwrKeepState = cellWord cellMv + 5 := by
  rw [rd_poweredOn ht _ _ _ _ (by decide), rd_keepCheck_of_bad_crc (supplied_tidy ht source aMv bMv) h]

/-- After a wrong CRC KEEP_STATE shows CRC_FAIL and TAMPER, and no missing shutdown time (log entry 55). -/
theorem bitOf_cellWord_add_five (cellMv : Nat) : bitOf (cellWord cellMv + 5) 2 = true ∧ bitOf (cellWord cellMv + 5) 0 = true ∧
    bitOf (cellWord cellMv + 5) 3 = false := by
  generalize hm : min 65535 cellMv = m
  simp only [bitOf, Nat.testBit_eq_decide_div_mod_eq, cellWord, hm, Nat.shiftLeft_eq]
  cases decide (cellMv < 2600) <;> simp [b2n] <;> omega

theorem flag_poweredOn_cellLow {s : State} (ht : s.tidy) (source aMv bMv : Nat) {cellMv : Nat} (hc : cellMv < 2600) :
    flag (poweredOn source aMv bMv cellMv s) (Reg.evtRaw 0x01) 6 = true := by
  rw [flag, rd_poweredOn ht _ _ _ _ (by decide)]
  exact flag_keepCheck_cellLow (supplied_tidy ht source aMv bMv) hc

theorem flag_poweredOn_keepCrc {s : State} (ht : s.tidy) (h : s.pwr.keep.crc ≠ keepCrc s.pwr.keep)
    (source aMv bMv cellMv : Nat) : flag (poweredOn source aMv bMv cellMv s) (Reg.evtRaw 0x01) 7 = true := by
  rw [flag, rd_poweredOn ht _ _ _ _ (by decide)]
  exact flag_keepCheck_keepCrc (supplied_tidy ht source aMv bMv) h cellMv

/-- A wrong CRC sets the tamper latch, which the start then finds: TAMPER is raised. -/
theorem flag_poweredOn_tamper {s : State} (ht : s.tidy) (h : s.pwr.keep.crc ≠ keepCrc s.pwr.keep)
    (source aMv bMv cellMv : Nat) : flag (poweredOn source aMv bMv cellMv s) (Reg.evtRaw 0x00) 4 = true := by
  have hk := (within_keepCheck cellMv _ (supplied_tidy ht source aMv bMv)).1
  have hset : (keepCheck cellMv (supplied source aMv bMv s)).pwr.keep.tamper = true := by
    rw [← tamperFound_pwr, ← poweredOn, poweredOn_pwr_of_bad_crc h, sealedKeep]
  rw [poweredOn, tamperFound_of_set hset]
  exact flag_raise_self (within_setFlag (List.mem_singleton_self (Reg.stat 0)) 5 true _ hk).1 0x00 4 (by decide)

/-! ### Tampering (R625) -/

/-- Where only the domain runs, TAMPER sets the latch alone. -/
theorem tamperSet_of_keepAlive {s : State} (h : s.pwr.phase = .keepAlive) :
    tamperSet s = keepPut { s.pwr.keep with tamper := true } s := if_pos h

/-- The latch set and shown, before TAMPER is raised. -/
def tamperShown (s : State) : State :=
  setFlag (Reg.stat 0) 5 true (setFlag Reg.pwrKeepState 0 true (keepPut { s.pwr.keep with tamper := true } s))

theorem tamperSet_of_supplied {s : State} (h : s.pwr.phase ≠ .keepAlive) : tamperSet s = raise_ 0x00 4 (tamperShown s) := if_neg h

theorem tamperShown_pwr (s : State) :
    (tamperShown s).pwr = { s.pwr with keep := sealedKeep { s.pwr.keep with tamper := true } } := rfl

theorem within_tamperShown (s : State) : Within [Reg.pwrKeepState, Reg.stat 0] s (tamperShown s) :=
  (within_keepPut _ _ s).trans ((within_setFlag (by decide) 0 true _).trans (within_setFlag (by decide) 5 true _))

/-- KEEP_STATE and STAT of SYS show the latch. -/
theorem flag_tamperShown {s : State} (h : s.tidy) :
    flag (tamperShown s) Reg.pwrKeepState 0 = true ∧ flag (tamperShown s) (Reg.stat 0) 5 = true := by
  have hk := (within_keepPut [] { s.pwr.keep with tamper := true } s h).1
  have hf := (within_setFlag (List.mem_singleton_self Reg.pwrKeepState) 0 true _ hk).1
  refine ⟨?_, flag_setFlag_self hf _ true (by decide)⟩
  rw [tamperShown, flag_setFlag_ne hf true (by decide) (.inl (by decide)), flag_setFlag_self hk _ true (by decide)]

/-- A bit of a register that raising an event leaves alone. -/
theorem flag_raise_ne {s : State} (h : s.tidy) (p b : Nat) {a : Nat} (i : Nat) (h1 : a ≠ Reg.evtRaw p) (h2 : a ≠ Reg.evtRaw 0x16) :
    flag (raise_ p b s) a i = flag s a i := by
  rw [flag, rd_raise h p b h1 h2, flag]

/-- TAMPER changes, besides what raising its event may change, the domain and its shown counter only. -/
theorem raise_tamperShown_eq (s : State) : raise_ 0x00 4 (tamperShown s) =
    { evented s (raise_ 0x00 4 (tamperShown s)) with
        wide := (raise_ 0x00 4 (tamperShown s)).wide, pwr := (raise_ 0x00 4 (tamperShown s)).pwr } := by
  rw [raise_wide, raise_pwr]
  exact raise_eq_evented 0x00 4 (tamperShown s)

theorem exec_tamper_of_supplied {s : State} (h : s.pwr.phase ≠ .keepAlive) :
    exec .tamper s = .next (raise_ 0x00 4 (tamperShown s)) := by
  rw [← tamperSet_of_supplied h, exec, execTamper]

theorem exec_tamper_of_keepAlive {s : State} (h : s.pwr.phase = .keepAlive) :
    exec .tamper s = .next (keepPut { s.pwr.keep with tamper := true } s) := by
  rw [← tamperSet_of_keepAlive h, exec, execTamper]

/-! ### Supply valid, and the release of a cold hold -/

theorem exec_supplyValid_of_keepAlive {s : State} (h : s.pwr.phase = .keepAlive) (aMv bMv cellMv : Nat) (temp : Int) :
    exec (.supplyValid aMv bMv cellMv temp) s = .next (powerOn 1 aMv bMv cellMv temp s) := by
  simp only [exec, execSupplyValid, h]

theorem exec_supplyValid_of_warm {s : State} (ht : s.tidy) (h : s.pwr.phase = .keepAlive) (aMv bMv cellMv : Nat) {temp : Int}
    (hw : coldLimit s ≤ temp) : exec (.supplyValid aMv bMv cellMv temp) s = .next (poweredOn 1 aMv bMv cellMv s) := by
  rw [exec_supplyValid_of_keepAlive h, powerOn_of_warm ht _ _ _ _ hw]

theorem exec_supplyValid_of_cold {s : State} (ht : s.tidy) (h : s.pwr.phase = .keepAlive) (aMv bMv cellMv : Nat) {temp : Int}
    (hc : temp < coldLimit s) : exec (.supplyValid aMv bMv cellMv temp) s =
      .next (pwrUpd (fun p => { p with phase := .coldHold, coldHeld := true }) (poweredOn 1 aMv bMv cellMv s)) := by
  rw [exec_supplyValid_of_keepAlive h, powerOn_of_cold ht _ _ _ _ hc]

/-- R4: a module held for its temperature waits for its reset release once the limit is reached. -/
theorem exec_coldHoldRelease_of_warm {s : State} (h : s.pwr.phase = .coldHold) {temp : Int} (hw : coldLimit s ≤ temp) :
    exec (.coldHoldRelease temp) s = .next (pwrUpd (fun p => { p with phase := .resetHeld }) s) :=
  congrArg Host.Outcome.next (if_pos ⟨h, hw⟩)

theorem exec_coldHoldRelease_of_cold {s : State} {temp : Int} (hc : temp < coldLimit s) :
    exec (.coldHoldRelease temp) s = .next s :=
  congrArg Host.Outcome.next (if_neg (fun h => Int.not_lt.2 h.2 hc))

/-! ### The end of the shutdown phase (R619 step 7, R622) -/

/-- What DOMAIN_OFF leaves where no supply has returned: only the keep-alive domain runs. -/
def domainOnly (s : State) : State :=
  pwrUpd (fun p => { p with phase := .keepAlive }) (freshState true { s with red := { s.red with barred := false } })

theorem exec_domainOff_of_shed {s : State} (h : s.pwr.phase = .shed) (aMv bMv cellMv : Nat) (temp : Int) :
    exec (.domainOff aMv bMv cellMv temp) s =
      .next (if s.pwr.supplyReturn then powerOn 2 aMv bMv cellMv temp (domainOnly s) else domainOnly s) := by
  simp only [exec, execDomainOff, if_pos h, domainOnly]

theorem domainOnly_tidy {s : State} (h : s.tidy) : (domainOnly s).tidy :=
  freshState_tidy (s := { s with red := { s.red with barred := false } }) h true

theorem coldLimit_domainOnly {s : State} (h : s.tidy) : coldLimit (domainOnly s) = coldLimit s := by
  have e : rd (domainOnly s) Reg.sysVariant = rd s Reg.sysVariant :=
    rd_freshState (s := { s with red := { s.red with barred := false } }) h true startKeeps_variant
  rw [coldLimit, fld, e, coldLimit, fld]

/-- A returned supply starts the module as a power-on does (R622). -/
theorem exec_domainOff_of_returned {s : State} (ht : s.tidy) (h : s.pwr.phase = .shed) (hr : s.pwr.supplyReturn = true)
    (aMv bMv cellMv : Nat) {temp : Int} (hw : coldLimit s ≤ temp) :
    exec (.domainOff aMv bMv cellMv temp) s = .next (poweredOn 2 aMv bMv cellMv (domainOnly s)) := by
  rw [exec_domainOff_of_shed h, if_pos hr, powerOn_of_warm (domainOnly_tidy ht) _ _ _ _ (by rwa [coldLimit_domainOnly ht])]

end Sys2Proof.Machine
end

/-! ## The statements of spec/00_scope.md -/
section
namespace Sys2Proof.Machine

/-- R20: every code from 6 on that a word can carry, reserved or 0xF, counts as BAD. -/
theorem tagOf_of_six_le {c : Nat} (h : 6 ≤ c) : tagOf c = .bad := by
  obtain ⟨k, rfl⟩ := Nat.exists_eq_add_of_le' h
  rfl

/-- Settles O54, by the seven tags, and for the reserved codes by what a code from 6 on counts as. -/
theorem tagCodes : Obligations.TagCodes := by
  unfold Obligations.TagCodes
  refine ⟨by decide, fun g => ?_, fun g => ?_, fun c hl hu => ?_⟩
  · cases g <;> decide
  · cases g <;> rfl
  · exact tagOf_of_six_le hl

/-- Settles O3: a power-on with a right and with a wrong CRC, the cold hold and its release, TAMPER with and without a supply,
and DOMAIN_OFF with and without a returned supply. -/
theorem powerOnAndKeepAlive : Obligations.PowerOnAndKeepAlive := by
  unfold Obligations.PowerOnAndKeepAlive
  intro s ht
  refine ⟨?rightCrc, ?wrongCrc, ?cold, ?coldRelease, ?stillCold, ?tamper, ?tamperDomain, ?domainOff, ?returned⟩
  case rightCrc =>
    intro aMv bMv cellMv temp hp hcrc htam hw
    have hpwr := poweredOn_pwr_of_crc hcrc 1 aMv bMv cellMv
    have hrd := rd_poweredOn_keepState_of_crc ht hcrc 1 aMv bMv cellMv
    rw [htam, show b2n false = 0 from rfl, Nat.add_zero, cellWord] at hrd
    refine ⟨poweredOn 1 aMv bMv cellMv s, exec_supplyValid_of_warm ht hp aMv bMv cellMv hw, ?_⟩
    rw [hpwr]
    exact ⟨rfl, rfl, rfl, rfl, rfl, poweredOn_ship_of_crc hcrc .., rfl, rfl, hrd, flag_poweredOn_cellLow ht 1 aMv bMv,
      poweredOn_seq .., poweredOn_img .., poweredOn_out .., poweredOn_now .., poweredOn_overlay ..⟩
  case wrongCrc =>
    intro aMv bMv cellMv temp hp hcrc hw
    have hpwr := poweredOn_pwr_of_bad_crc hcrc 1 aMv bMv cellMv
    obtain ⟨hfail, htam, hmiss⟩ := bitOf_cellWord_add_five cellMv
    rw [← rd_poweredOn_keepState_of_bad_crc ht hcrc 1 aMv bMv cellMv] at hfail htam hmiss
    refine ⟨poweredOn 1 aMv bMv cellMv s, exec_supplyValid_of_warm ht hp aMv bMv cellMv hw, ?_⟩
    rw [hpwr]
    exact ⟨rfl, rfl, rfl, rfl, hfail, htam, hmiss, flag_poweredOn_keepCrc ht hcrc .., flag_poweredOn_tamper ht hcrc ..⟩
  case cold =>
    intro aMv bMv cellMv temp hp hc
    exact ⟨_, exec_supplyValid_of_cold ht hp aMv bMv cellMv hc, rfl, rfl⟩
  case coldRelease =>
    intro temp hp hw
    exact ⟨_, exec_coldHoldRelease_of_warm hp hw, rfl⟩
  case stillCold =>
    intro temp hc
    exact ⟨s, exec_coldHoldRelease_of_cold hc, rfl⟩
  case tamper =>
    intro hp
    have hs := (within_tamperShown s).mono (m := [Reg.pwrKeepState, Reg.stat 0, Reg.evtRaw 0x00, Reg.evtRaw 0x16]) (by decide)
    have htidy := (hs ht).1
    obtain ⟨hkeep, hstat⟩ := flag_tamperShown ht
    have honly := (hs.trans (within_raise (p := 0x00) (by decide) (by decide) 4 (tamperShown s)) ht).2
    refine ⟨_, exec_tamper_of_supplied hp, flag_raise_self htidy 0x00 4 (by decide), ?_⟩
    rw [flag_raise_ne htidy 0x00 4 0 (by decide) (by decide), flag_raise_ne htidy 0x00 4 5 (by decide) (by decide)]
    refine ⟨?_, hkeep, hstat, ?_, ?_, ?_, honly, raise_tamperShown_eq s⟩ <;> rw [raise_pwr, tamperShown_pwr] <;> rfl
  case tamperDomain =>
    intro hp
    exact ⟨_, exec_tamper_of_keepAlive hp, rfl, sealedKeep_crc _, rfl⟩
  case domainOff =>
    intro aMv bMv cellMv temp hp hr
    exact ⟨domainOnly s, by rw [exec_domainOff_of_shed hp, hr]; rfl, rfl, rfl, rfl, rfl, rfl, rfl, rfl, rfl⟩
  case returned =>
    intro aMv bMv cellMv temp hp hr hw
    obtain ⟨b, hpwr⟩ := poweredOn_pwr 2 aMv bMv cellMv (domainOnly s)
    refine ⟨_, exec_domainOff_of_returned ht hp hr aMv bMv cellMv hw, ?_⟩
    rw [hpwr]
    exact ⟨rfl, rfl, rfl⟩

end Sys2Proof.Machine
end

/-! ## Writes of one word that a register or an image word rejects (R31, R34, R49, R60, R61) -/
section
namespace Sys2Proof.Machine

/-! ### The active Sheaf, read by two states that hold the same banks -/

theorem bankNat_congr {s t : State} (h : t.sheaf = s.sheaf) : bankNat t = bankNat s := by
  funext bank off n
  simp only [bankNat, bankWord, h]

theorem findPart_congr {s t : State} (h : t.sheaf = s.sheaf) (bank id : Nat) :
    ∀ n off, findPart t bank id n off = findPart s bank id n off
  | 0, _ => rfl
  | n + 1, off => by simp only [findPart, partAt, bankNat_congr h, findPart_congr h bank id n]

theorem dirEntry_congr {s t : State} (h : t.sheaf = s.sheaf) : dirEntry t = dirEntry s := by
  funext bank k
  simp only [dirEntry, bankByte, bankWord, h, bankNat_congr h]

theorem bankPart_congr {s t : State} (h : t.sheaf = s.sheaf) (bank id : Nat) : bankPart t bank id = bankPart s bank id := by
  simp only [bankPart, dirEntry_congr h, bankNat_congr h, findPart_congr h]

theorem cfgPart_congr {s t : State} (h : t.sheaf = s.sheaf) (ha : t.active = s.active) (id : Nat) : cfgPart t id = cfgPart s id := by
  simp only [cfgPart, ha, bankPart_congr h]

theorem cfgCount_congr {s t : State} (h : t.sheaf = s.sheaf) (ha : t.active = s.active) : cfgCount t = cfgCount s := by
  funext id
  simp only [cfgCount, cfgPart_congr h ha]

theorem cfgNat_congr {s t : State} (h : t.sheaf = s.sheaf) (ha : t.active = s.active) : cfgNat t = cfgNat s := by
  funext id i off n
  simp only [cfgNat, ha, cfgPart_congr h ha, bankNat_congr h]

theorem operatorRole_congr {s t : State} (h : t.sheaf = s.sheaf) (ha : t.active = s.active) (w : Nat) :
    operatorRole t w = operatorRole s w := by
  simp only [operatorRole, producerOf, cfgCount_congr h ha, cfgNat_congr h ha]

/-! ### The address map -/

theorem mapRow_of_pageRange {a : Nat} (hl : 0x100000 ≤ a) (hu : a < 0x140000) : mapRow a = some 0 := by
  simp [mapRow, mapRows, List.range_succ, hl, hu]

theorem mapRow_of_imageWindow {a : Nat} (hl : 0x1000000 ≤ a) (hu : a < 0x1100000) : mapRow a = some 1 := by
  have hp : ¬ a < 0x140000 := by omega
  simp [mapRow, mapRows, List.range_succ, hl, hu, hp]

theorem mapRow_regAddr {p off : Nat} (hp : p < 64) (ho : off < 0x1000) : mapRow (regAddr p off) = some 0 :=
  mapRow_of_pageRange (by rw [regAddr]; omega) (by rw [regAddr]; omega)

theorem pageOf_regAddr (p : Nat) {off : Nat} (ho : off < 0x1000) : pageOf (regAddr p off) = p := by
  rw [pageOf, regAddr]
  omega

theorem offOf_regAddr (p : Nat) {off : Nat} (ho : off < 0x1000) : offOf (regAddr p off) = off := by
  rw [offOf, regAddr]
  omega

theorem mapRow_imageWord {w : Nat} (hw : w < 262144) : mapRow (0x1000000 + 4 * w) = some 1 :=
  mapRow_of_imageWindow (by omega) (by omega)

theorem imgIndex_imageWord (w : Nat) : imgIndex (0x1000000 + 4 * w) = w := by
  rw [imgIndex]
  omega

/-- R34: pages 0x1B to 0x1F have no block. -/
theorem blockOf_of_reservedPage {p : Nat} (hl : 0x1B ≤ p) (hu : p ≤ 0x1F) : blockOf p = none := by
  have h : ∀ q : Fin 0x20, 0x1B ≤ q.val → blockOf q.val = none := by decide
  exact h ⟨p, by omega⟩ hl

theorem findRow_of_no_block {p : Nat} (h : blockOf p = none) (off : Nat) : findRow p off = none := by
  rw [findRow, h]

theorem rejectPage_regAddr {p off : Nat} (hp : p < 64) (ho : off < 0x1000) :
    rejectPage (regAddr p off) = if (blockOf p).isSome then p else 0 := by
  simp only [rejectPage, mapRow_regAddr hp ho, pageOf_regAddr p ho]

theorem rejectPage_imageWord {w : Nat} (hw : w < 262144) : rejectPage (0x1000000 + 4 * w) = 5 := by
  simp only [rejectPage, mapRow_imageWord hw]

/-- R34, R49: a reserved offset reads as 0. -/
theorem readWord_of_no_row (s : State) {p off : Nat} (hp : p < 64) (ho : off < 0x1000) (h : findRow p off = none) :
    readWord s (regAddr p off) = 0 := by
  rw [readWord, mapRow_regAddr hp ho, pageOf_regAddr p ho, offOf_regAddr p ho, h]
  rfl

/-! ### The cause -/

/-- R60: the cause with which the one-word request of a session to write `v` to `a` is refused, 0 for none. -/
def askedCause (s : State) (sess a v : Nat) : Nat :=
  wordCause (asked s) (reqCtx (asked s) [⟨a, v % 2 ^ 32, 0xFFFFFFFF⟩]) sess ⟨a, v % 2 ^ 32, 0xFFFFFFFF⟩

/-- R49: the cause of a reserved offset, of whatever page, is RESERVED. -/
theorem askedCause_of_no_row (s : State) (sess v : Nat) {p off : Nat} (hp : p < 64) (ho : off < 0x1000)
    (h : findRow p off = none) : askedCause s sess (regAddr p off) v = 6 := by
  have hr : isReserved (regAddr p off) = true := by
    rw [isReserved, pageOf_regAddr p ho, offOf_regAddr p ho, h]
    rfl
  simp only [askedCause, wordCause, mapRow_regAddr hp ho, regCause, hr, if_true]

/-- R31, R56: an image word whose producer is not the host refuses a VIEWER for its role, and any other session for the producer. -/
theorem askedCause_of_no_operator {s : State} (sess v : Nat) {w : Nat} (hw : w < 262144) (h : operatorRole s w = none) :
    askedCause s sess (0x1000000 + 4 * w) v = if sessRole s sess = 0 then 2 else 5 := by
  have hr : sessRole (asked s) sess = sessRole s sess := rfl
  have hsh : (asked s).sheaf = s.sheaf := rfl
  have ha : (asked s).active = s.active := rfl
  simp only [askedCause, wordCause, mapRow_imageWord hw, imgIndex_imageWord, imgCause, operatorRole_congr hsh ha, h, hr]

/-! ### The rejection -/

/-- R61: a session's write of one word that fails a check, for a cause other than VALUE, is counted by the page of the word and does
nothing else. -/
theorem writeReg_of_cause {s : State} {sess a v c : Nat} (ho : sessOpen s sess = true) (hl : listening s = false)
    (hc : askedCause s sess a v = c) (h0 : c ≠ 0) (h7 : c ≠ 7) :
    writeReg sess a v s = countReject sess (rejectPage a) c (asked s) := by
  have hs : standbyRefuses (asked s) [⟨a, v % 2 ^ 32, 0xFFFFFFFF⟩] = false := by
    rw [standbyRefuses, show listening (asked s) = listening s from rfl, hl, Bool.false_and]
  have hf : wordFails (asked s) sess [⟨a, v % 2 ^ 32, 0xFFFFFFFF⟩] = [⟨0, rejectPage a, c⟩] := by
    rw [askedCause] at hc
    simp only [wordFails, List.length_singleton, List.range_one, List.filterMap_cons, List.filterMap_nil, List.getD_cons_zero,
      hc, h0, if_false]
  have hw : writeReg sess a v s = writeWords sess [⟨a, v % 2 ^ 32, 0xFFFFFFFF⟩] (asked s) := if_pos ho
  rw [hw, writeWords, hs, hf]
  simp [rejectWords, each, h7]

/-- R62: WRITE_REJ after a rejection: the cause, the session, and the count. -/
theorem rd_countReject {s : State} (h : s.tidy) {sess p c : Nat} (hs : sess < 256) (hc : c < 16) :
    rd (countReject sess p c s) (Reg.writeRej p) = c <<< 28 + sess <<< 20 + satAdd 0xFFFFF (fld s (Reg.writeRej p) 19 0) 1 := by
  rw [countReject, rd_raise ((wr_flows rfl (Flows.refl 0 s)).tidy h) p 15 (by simp only [Reg.writeRej, Reg.evtRaw]; omega)
    (by simp only [Reg.writeRej, Reg.evtRaw]; omega), rd_wr_self h]
  simp only [satAdd, Nat.shiftLeft_eq]
  omega

theorem fld_countReject_count {s : State} (h : s.tidy) {sess p c : Nat} (hs : sess < 256) (hc : c < 16) :
    fld (countReject sess p c s) (Reg.writeRej p) 19 0 = satAdd 0xFFFFF (fld s (Reg.writeRej p) 19 0) 1 := by
  rw [fld, rd_countReject h hs hc]
  simp only [bitsOf, satAdd, Nat.shiftLeft_eq, Nat.shiftRight_eq_div_pow]
  omega

theorem fld_countReject_cause {s : State} (h : s.tidy) {sess p c : Nat} (hs : sess < 256) (hc : c < 16) :
    fld (countReject sess p c s) (Reg.writeRej p) 31 28 = c := by
  rw [fld, rd_countReject h hs hc]
  simp only [bitsOf, satAdd, Nat.shiftLeft_eq, Nat.shiftRight_eq_div_pow]
  omega

theorem within_countReject (sess p c : Nat) (s : State) :
    Within [Reg.writeRej p, Reg.evtRaw p, Reg.evtRaw 0x16] s (countReject sess p c s) :=
  (within_wr (by simp) _ s).trans (within_raise (by simp) (by simp) 15 _)

theorem flag_countReject {s : State} (h : s.tidy) (sess p c : Nat) :
    flag (countReject sess p c s) (Reg.evtRaw p) 15 = true :=
  flag_raise_self ((wr_flows rfl (Flows.refl 0 s)).tidy h) p 15 (by decide)

theorem countReject_eq_evented (sess p c : Nat) (s : State) :
    countReject sess p c s = evented s (countReject sess p c s) :=
  raise_eq_evented p 15 _

/-- What a rejected word of a page leaves: the count, the cause, the event, and everything else as it was. -/
theorem rejected_outcome {s : State} (h : s.tidy) (sess : Fin 17) (p : Nat) {c : Nat} (hc : c < 16) :
    fld (countReject sess p c (asked s)) (Reg.writeRej p) 19 0 = satAdd 0xFFFFF (fld s (Reg.writeRej p) 19 0) 1 ∧
      fld (countReject sess p c (asked s)) (Reg.writeRej p) 31 28 = c ∧
      flag (countReject sess p c (asked s)) (Reg.evtRaw p) 15 = true ∧
      OnlyRegs [Reg.writeRej p, Reg.evtRaw p, Reg.evtRaw 0x16] s (countReject sess p c (asked s)) ∧
      countReject sess p c (asked s) = evented s (countReject sess p c (asked s)) := by
  have ha : (asked s).tidy := h
  have hs : sess.val < 256 := by omega
  exact ⟨fld_countReject_count ha hs hc, fld_countReject_cause ha hs hc, flag_countReject ha sess p c,
    (within_countReject sess p c (asked s) ha).2, countReject_eq_evented sess p c (asked s)⟩

end Sys2Proof.Machine
end

/-! ## Reserved registers, and image words of other producers -/
section
namespace Sys2Proof.Machine

/-- R49, R61: a session's write to a reserved offset is rejected with cause RESERVED. -/
theorem exec_registerWrite_of_no_row {s : State} {sess : Fin 17} {page : Fin 64} {word : Fin 1024} (v : Word)
    (ho : sessOpen s sess.val = true) (hl : listening s = false) (hr : findRow page.val (4 * word.val) = none) :
    exec (.registerWrite sess page word v) s =
      .next (countReject sess (if (blockOf page.val).isSome then page.val else 0) 6 (asked s)) := by
  have hw : 4 * word.val < 0x1000 := by omega
  rw [exec, execRegisterWrite, writeReg_of_cause ho hl (askedCause_of_no_row s _ _ page.isLt hw hr) (by decide) (by decide),
    rejectPage_regAddr page.isLt hw]

/-- Settles O51: a page without a block holds no row, and a word without a row is refused as RESERVED. -/
theorem reservedRegisters : Obligations.ReservedRegisters := by
  unfold Obligations.ReservedRegisters
  intro s ht
  refine ⟨?reservedPage, ?reservedOffset⟩
  case reservedPage =>
    intro sess page word v ho hl hlo hhi
    have hb := blockOf_of_reservedPage hlo hhi
    have hr := findRow_of_no_block hb (4 * word.val)
    have he := exec_registerWrite_of_no_row v ho hl hr
    rw [hb] at he
    exact ⟨_, he, readWord_of_no_row s page.isLt (by omega) hr, rejected_outcome ht sess 0 (by decide)⟩
  case reservedOffset =>
    intro sess page word v ho hl hb hr
    have he := exec_registerWrite_of_no_row v ho hl hr
    rw [if_pos hb] at he
    exact ⟨_, he, readWord_of_no_row s page.isLt (by omega) hr, rejected_outcome ht sess page.val (by decide)⟩

/-- Settles O52: the word is refused for its producer, or before that for the role of the session, and counted by the IMG page. -/
theorem nonHostWordsIgnoreHosts : Obligations.NonHostWordsIgnoreHosts := by
  unfold Obligations.NonHostWordsIgnoreHosts
  intro s ht sess w v ho hl hop
  obtain ⟨c, hc, h0, h7, h16⟩ : ∃ c, askedCause s sess (0x1000000 + 4 * w.val) v.toNat = c ∧ c ≠ 0 ∧ c ≠ 7 ∧ c < 16 := by
    rw [askedCause_of_no_operator _ _ w.isLt hop]
    split <;> exact ⟨_, rfl, by decide⟩
  have he : exec (.operatorWordWrite sess w v) s = .next (countReject sess 5 c (asked s)) := by
    rw [exec, execOperatorWordWrite, writeReg_of_cause ho hl hc h0 h7, rejectPage_imageWord w.isLt]
  obtain ⟨hcount, -, hflag, honly, hev⟩ := rejected_outcome ht sess 5 h16
  exact ⟨_, he, by rw [hev]; rfl, hcount, hflag, honly, hev⟩

end Sys2Proof.Machine
end

/-! ## Entries held back: the upsets of an IMG_COPY that is not due (R37, R136, R140, R190) -/
section
namespace Sys2Proof.Machine

/-- An IMG_COPY that the schedule does not give next leaves the upsets that stand in its command, which strike the image first. -/
theorem exec_imgCopy_of_not_due {s : State} {hits : List EccHit} (h : dispatching (each hits strike s) = false)
    (pos count src dst : Nat) : exec (.imgCopy pos count src dst hits) s = .next (each hits strike s) := by
  rw [exec, execImgCopy, dispatch, if_neg (by simp [h])]

/-- A single-bit upset of word 0 of bank 0, as lane A stores it. -/
def upsetWordZero : EccHit := ⟨0, 0, 0, false⟩

/-- Refutes O50: at reset no schedule is in force and no entry is due, yet the IMG_COPY of count 0 whose one operand `hits` is an
upset of word 0 leaves that upset in the image. -/
theorem not_entriesHeldBack : ¬ Obligations.EntriesHeldBack := by
  unfold Obligations.EntriesHeldBack
  intro h
  obtain ⟨-, -, -, -, -, -, -, -, -, -, -, -, -, -, -, -, hcopy, -⟩ := h State.reset (by decide)
  obtain ⟨t, ht, hs⟩ := hcopy 0 0 0 0 [upsetWordZero] (by decide)
  rw [exec_imgCopy_of_not_due (by decide), hs, Host.Outcome.next.injEq] at ht
  have hu : (each [upsetWordZero] strike State.reset).img.upsets = [(0, 1)] := by decide
  rw [ht] at hu
  exact absurd hu (by decide)

end Sys2Proof.Machine
end

/-! ## The dispatch of an entry in its turn (R165), and the destination words that it leaves (R166) -/
section
namespace Sys2Proof.Machine

/-! ### A due entry acts -/

/-- R176: lanes that go on to pending slots change nothing but the sequencer, and no outstanding entry. -/
theorem catchUp_eq_seq (c : Nat) : ∀ (n : Nat) (s : State),
    ∃ q : SeqSt, catchUp c n s = { s with seq := q } ∧ q.outst = s.seq.outst
  | 0, s => ⟨s.seq, rfl, rfl⟩
  | n + 1, s => by
    rw [catchUp]
    split
    · obtain ⟨q, he, ho⟩ := catchUp_eq_seq c n (beginSlot c s)
      exact ⟨q, he, ho⟩
    · exact ⟨s.seq, rfl, rfl⟩

/-- R165, R173: an entry that falls due while none waits and fewer than 32 producer entries are outstanding acts at its clock; after
that only the position of the sequencer goes on. -/
theorem dispatch_of_due {s u : State} {e : Entry} (run : Entry → EntryIo → State → State) (io : EntryIo)
    (hu : u = atTurn e.pos s) (hd : Due s e) (hh : u.seq.held = []) (hp : (producers u).length < 32) :
    ∃ q : SeqSt, dispatch run e io s = { run { e with slot := seqSlot s } io u with seq := q } ∧
      q.outst = (run { e with slot := seqSlot s } io u).seq.outst := by
  subst hu
  have he : dispatch run e io s =
      dispatchEntry run { e with slot := seqSlot s } io { s with seq := { s.seq with pos := s.seq.pos + 1 } } := if_pos hd
  have hw : ¬ ((atTurn e.pos s).seq.held ≠ [] ∨ 32 ≤ (producers (atTurn e.pos s)).length) := by
    rintro (h | h)
    · exact h hh
    · omega
  rw [he]
  change ∃ q : SeqSt, (catchUp _ _ (if (atTurn e.pos s).seq.held ≠ [] ∨ 32 ≤ (producers (atTurn e.pos s)).length then _
    else run { e with slot := seqSlot s } io (atTurn e.pos s))) = _ ∧ _
  rw [if_neg hw]
  exact catchUp_eq_seq _ _ _

theorem atTurn_tidy {s : State} (h : s.tidy) (pos : Nat) : (atTurn pos s).tidy :=
  (beginDispatch_flows rfl (Flows.refl 0 _)).tidy h

/-! ### What is left to the clocks that follow -/

/-- Leaving words to their clocks changes nothing but the sequencer. -/
theorem addActs_eq_seq (e : Entry) (ws : List (Nat × Nat × Act)) (s : State) :
    addActs e ws s = { s with seq := (addActs e ws s).seq } := by
  by_cases h : ws = []
  · rw [addActs, if_pos h]
  · rw [addActs, if_neg h]
    rfl

/-- The outstanding entries after one that leaves words: those of before, and the entry with its words and its last clock. -/
theorem addActs_outst (e : Entry) {ws : List (Nat × Nat × Act)} (s : State) (h : ws ≠ []) :
    ∃ o : OutEntry, (addActs e ws s).seq.outst = s.seq.outst ++ [o] ∧ o.e = e ∧ o.words = ws.map (fun x => x.2.1) ∧
      o.todo = ws.map (fun x => (x.1, x.2.2)) ∧ o.last = lastClk (ws.map (fun x => (x.1, x.2.2))) := by
  rw [addActs, if_neg h]
  exact ⟨_, rfl, rfl, rfl, rfl, rfl⟩

theorem foldl_max_le_iff {l : List (Nat × Act)} {k c : Nat} :
    l.foldl (fun m a => max m a.1) k ≤ c ↔ k ≤ c ∧ ∀ a ∈ l, a.1 ≤ c := by
  induction l generalizing k with
  | nil => simp
  | cons x l ih =>
    rw [List.foldl_cons, ih, List.forall_mem_cons, Nat.max_le, and_assoc]

/-- The last clock of a list of actions is the one that no other exceeds. -/
theorem lastClk_eq {l : List (Nat × Act)} {c : Nat} (hle : ∀ a ∈ l, a.1 ≤ c) (hmem : ∃ a ∈ l, a.1 = c) : lastClk l = c := by
  obtain ⟨a, ha, rfl⟩ := hmem
  exact Nat.le_antisymm (foldl_max_le_iff.2 ⟨Nat.zero_le _, hle⟩) ((foldl_max_le_iff.1 (Nat.le_refl _)).2 a ha)

/-- R534: words written line by line, one line of 16 words per four control clocks, end with the last line. -/
theorem lastClk_of_lines {n : Nat} (hn : 0 < n) (c : Nat) (f : Nat → Act) :
    lastClk ((List.range (16 * n)).map (fun j => (c + 4 * (j / 16 + 1), f j))) = c + 4 * n := by
  refine lastClk_eq ?le ?mem
  case le =>
    intro a ha
    obtain ⟨j, hj, rfl⟩ := List.mem_map.1 ha
    have hj := List.mem_range.1 hj
    show c + 4 * (j / 16 + 1) ≤ c + 4 * n
    omega
  case mem =>
    refine ⟨_, List.mem_map_of_mem (List.mem_range.2 (show 16 * n - 1 < 16 * n by omega)), ?_⟩
    show c + 4 * ((16 * n - 1) / 16 + 1) = c + 4 * n
    omega

/-! ### What the lanes hand over where they agree (R608) -/

theorem voteOf_of_same {α : Type} [DecidableEq α] (c : α) (l : List Nat) :
    (voteOf (l.map (fun i => (i, c)))).1.getD c = c ∧ (voteOf (l.map (fun i => (i, c)))).2 = [] := by
  cases l with
  | nil => exact ⟨rfl, rfl⟩
  | cons i l =>
    have hm : (voteOf ((i :: l).map (fun i => (i, c)))).1 = some c := by
      simp only [voteOf]
      split
      · next p hp =>
        obtain ⟨j, -, rfl⟩ := List.mem_map.1 (List.mem_of_find?_eq_some hp)
        rfl
      · rfl
    have hd : (voteOf ((i :: l).map (fun i => (i, c)))).2 =
        (((i :: l).map (fun i => (i, c))).filter (fun p => some p.2 ≠ (voteOf ((i :: l).map (fun i => (i, c)))).1)).map (fun p => p.1) :=
      rfl
    refine ⟨by rw [hm]; rfl, ?_⟩
    rw [hd, hm, List.map_eq_nil_iff, List.filter_eq_nil_iff]
    intro p hp
    obtain ⟨j, -, rfl⟩ := List.mem_map.1 hp
    simp

/-- Where every lane has the same, it leaves and no lane is at fault. -/
theorem handOver_of_same {α : Type} [DecidableEq α] {f : Nat → α} (h : ∀ l, f l = f 0) (k : α → State → State) (s : State) :
    handOver f k s = k (f 0) s := by
  have hf : (fun l => (l, f l)) = (fun l : Nat => (l, f 0)) := funext (fun l => by rw [h l])
  obtain ⟨h1, h2⟩ := voteOf_of_same (f 0) (lanesIn s)
  simp only [handOver, hf, h1, h2, each, List.foldl_nil, true_or, if_true]

end Sys2Proof.Machine
end

/-! ## What a change of the events, the network and the sequencer leaves alone -/
section
namespace Sys2Proof.Machine

/-- A change of what the raising of events may change, of the plant network and of the sequencer. -/
theorem eq_evented_seq_net {s t : State} (h : Flows 239981238234 s t) : t = { evented s t with seq := t.seq, net := t.net } := by
  obtain ⟨-, hpend, -, -, -, hnow, -, hwide, heff, -, hovl, hovd, hshf, hact, himg, -, htbu, -, -, -, hpwr, hred, hdio, hpiu,
    hgmu, hsyn, hach, hcle, hslv, hsaf, hmbc, hmaps, hbad, -, hmsl, hmslm, hmgt, hslu, hupd, -, hout, hdr⟩ := h
  cases t
  simp only [Kept] at *
  simp_all [evented]

theorem eq_evented_net {s t : State} (h : Flows 239981240282 s t) : t = { evented s t with net := t.net } := by
  have hs : t.seq = s.seq := h.seq.resolve_left (by decide)
  have he := eq_evented_seq_net ((Flows.refl 239981238234 s).comp (T := 34896666660) (by decide) h)
  rwa [hs] at he

theorem eq_evented {s t : State} (h : Flows 240518111194 s t) : t = evented s t := by
  have hn : t.net = s.net := h.net.resolve_left (by decide)
  have he := eq_evented_net ((Flows.refl 239981240282 s).comp (T := 34359795748) (by decide) h)
  rwa [hn] at he

end Sys2Proof.Machine
end

/-! ## Ports of the plant network (R518, R519, R545) -/
section
namespace Sys2Proof.Machine

/-! ### Bits of a register whose field is written -/

theorem bitOf_putBits_ne {w hi lo v j : Nat} (h : lo ≤ hi + 1) (hd : j < lo ∨ hi < j) : bitOf (putBits w hi lo v) j = bitOf w j := by
  rw [bitOf, testBit_putBits _ _ _ _ _ h, if_neg (by omega), bitOf]

/-- A bit outside the field of its register that was written. -/
theorem flag_setFld_ne {s : State} (h : s.tidy) {a hi lo j : Nat} (v : Nat) (hl : lo ≤ hi + 1) (hn : hi < 32)
    (hd : j < lo ∨ hi < j) : flag (setFld a hi lo v s) a j = flag s a j := by
  rw [flag, rd_setFld_self h a v hl hn, bitOf_putBits_ne hl hd, flag]

theorem setFlag_tidy {s : State} (h : s.tidy) (a i : Nat) (b : Bool) : (setFlag a i b s).tidy :=
  (setFlag_flows rfl (Flows.refl 0 s)).tidy h

theorem setFld_tidy {s : State} (h : s.tidy) (a hi lo v : Nat) : (setFld a hi lo v s).tidy :=
  (setFld_flows rfl (Flows.refl 0 s)).tidy h

theorem linkBit_setFlag_self {s : State} (h : s.tidy) (p : Fin 2) {i : Nat} (hi : i < 8) (b : Bool) :
    linkBit (setFlag Reg.netLink (8 * p.val + i) b s) p.val i = b :=
  flag_setFlag_self h _ b (by omega)

theorem linkBit_setFlag_ne {s : State} (h : s.tidy) (p : Fin 2) {i j : Nat} (hi : i < 8) (b : Bool) (hj : j ≠ i) :
    linkBit (setFlag Reg.netLink (8 * p.val + i) b s) p.val j = linkBit s p.val j :=
  flag_setFlag_ne h b (by omega) (.inr (by omega))

theorem linkBit_setFld_ne {s : State} (h : s.tidy) (p : Fin 2) (v : Nat) {j : Nat} (hj : j = 0 ∨ 3 ≤ j) :
    linkBit (setFld Reg.netLink (8 * p.val + 2) (8 * p.val + 1) v s) p.val j = linkBit s p.val j :=
  flag_setFld_ne h v (by omega) (by omega) (by omega)

/-- Raising an event leaves the links as they are shown. -/
theorem linkBit_raise {s : State} (h : s.tidy) (p b q j : Nat) : linkBit (raise_ p b s) q j = linkBit s q j :=
  flag_raise_ne h p b _ (by simp only [Reg.netLink, Reg.evtRaw]; omega) (by decide)

/-! ### UP of a port -/

/-- The registers that a change of a link may change: what shows it, and its event. -/
def linkRegs : List Nat := [Reg.netLink, Reg.evtRaw 0x13, Reg.evtRaw 0x16]

theorem within_setUp (p : Nat) (up : Bool) (s : State) : Within linkRegs s (setUp p up s) := by
  rw [setUp]
  split
  · exact Within.refl _ s
  · exact (within_setFlag (by decide) _ _ s).trans (within_raise (by decide) (by decide) p _)

theorem linkBit_setUp_self {s : State} (h : s.tidy) (p : Fin 2) (up : Bool) : linkBit (setUp p up s) p.val 0 = up := by
  rw [setUp]
  split
  · next he => exact he
  · have ht := setFlag_tidy h Reg.netLink (8 * p.val) up
    have hf : linkBit (setFlag Reg.netLink (8 * p.val) up s) p.val 0 = up := linkBit_setFlag_self (i := 0) h p (by decide) up
    exact (linkBit_raise ht 0x13 p.val p.val 0).trans hf

/-- R545: a link that changes is raised. -/
theorem flag_setUp_of_change {s : State} (h : s.tidy) (p : Fin 2) {up : Bool} (hc : linkBit s p.val 0 ≠ up) :
    flag (setUp p up s) (Reg.evtRaw 0x13) p.val = true := by
  rw [setUp, if_neg hc]
  exact flag_raise_self (setFlag_tidy h Reg.netLink (8 * p.val) up) 0x13 p.val (by omega)

/-! ### A module is fitted (R518) -/

/-- A refused module, before it is raised: the port is down, the module is shown as refused, of no kind. -/
def sfpRefused (p : Fin 2) (s : State) : State :=
  setFld Reg.netLink (8 * p + 2) (8 * p + 1) 0 (setFlag Reg.netLink (8 * p + 3) true (setUp p false s))

theorem exec_sfpInsert_refused {p : Fin 2} {kind : Fin 4} {mw : Nat} (h : kind.val = 0 ∨ 1500 < mw) (s : State) :
    exec (.sfpInsert p kind mw) s = .next (raise_ 0x13 3 (sfpRefused p s)) :=
  congrArg Host.Outcome.next (if_pos h)

theorem exec_sfpInsert_accepted {p : Fin 2} {kind : Fin 4} {mw : Nat} (hk : kind.val ≠ 0) (hm : mw ≤ 1500) (s : State) :
    exec (.sfpInsert p kind mw) s =
      .next (setFld Reg.netLink (8 * p + 2) (8 * p + 1) kind (setFlag Reg.netLink (8 * p + 3) false s)) :=
  congrArg Host.Outcome.next (if_neg (by omega))

theorem within_sfpRefused (p : Fin 2) (s : State) : Within linkRegs s (sfpRefused p s) :=
  (within_setUp p false s).trans <| (within_setFlag (by decide) _ true _).trans (within_setFld (by decide) _ _ 0 _)

theorem link_sfpRefused {s : State} (h : s.tidy) (p : Fin 2) : linkBit (sfpRefused p s) p.val 0 = false ∧
    linkBit (sfpRefused p s) p.val 3 = true ∧ fld (sfpRefused p s) Reg.netLink (8 * p.val + 2) (8 * p.val + 1) = 0 := by
  have hu := (within_setUp p false s h).1
  have hf := setFlag_tidy hu Reg.netLink (8 * p.val + 3) true
  refine ⟨?_, ?_, ?_⟩
  · rw [sfpRefused, linkBit_setFld_ne hf p 0 (.inl rfl), linkBit_setFlag_ne hu p (by decide) true (by decide),
      linkBit_setUp_self h p false]
  · rw [sfpRefused, linkBit_setFld_ne hf p 0 (.inr (Nat.le_refl 3)), linkBit_setFlag_self hu p (by decide) true]
  · rw [sfpRefused, fld_setFld_self hf _ 0 (by omega) (by omega), Nat.zero_mod]

/-- A port that was up is raised as it goes down, and stays raised. -/
theorem flag_sfpRefused_of_up {s : State} (h : s.tidy) (p : Fin 2) (hup : linkBit s p.val 0 = true) :
    flag (sfpRefused p s) (Reg.evtRaw 0x13) p.val = true := by
  have hu := (within_setUp p false s h).1
  rw [sfpRefused, flag, rd_setFld_ne (setFlag_tidy hu Reg.netLink (8 * p.val + 3) true) _ _ _ (by decide), rd_setFlag_ne hu _ _ (by decide)]
  exact flag_setUp_of_change h p (by rw [hup]; decide)

/-! ### A link changes -/

/-- R545: UP that a link change gives port `p`: none for a refused module, and none without a Sheaf. -/
def linkUp (p : Fin 2) (up : Bool) (s : State) : Bool := up && !linkBit s p 3 && !noSheaf s

theorem exec_linkChange_up (p : Fin 2) (s : State) : exec (.linkChange p true) s = .next (setUp p (linkUp p true s) s) := by
  simp [exec, execLinkChange, linkUp]

/-- A link that goes down ends the port's PTP state. -/
theorem exec_linkChange_down (p : Fin 2) (s : State) : ∃ c : Option Nat, exec (.linkChange p false) s =
    .next (setFlag Reg.netPtpState p.val false
      { setUp p (linkUp p false s) s with net := { (setUp p (linkUp p false s) s).net with p1Since := c } }) := by
  match p with
  | 0 => exact ⟨_, rfl⟩
  | 1 => exact ⟨_, rfl⟩

/-- The registers that LINK_CHANGE may change. -/
def linkChangeRegs : List Nat := [Reg.netLink, Reg.netPtpState, Reg.evtRaw 0x13, Reg.evtRaw 0x16]

/-- What a link change leaves of registers: those of UP, and of a link that goes down the PTP state of its port. -/
theorem exec_linkChange_regs {s : State} (h : s.tidy) (p : Fin 2) (up : Bool) : ∃ t, exec (.linkChange p up) s = .next t ∧
    OnlyRegs linkChangeRegs s t ∧ (up = false → flag t Reg.netPtpState p.val = false) ∧
    ∀ a, a ≠ Reg.netPtpState → rd t a = rd (setUp p (linkUp p up s) s) a := by
  obtain ⟨hu, ho⟩ := (within_setUp p (linkUp p up s) s).mono (m := linkChangeRegs) (by decide) h
  cases up with
  | true => exact ⟨_, exec_linkChange_up p s, ho, by simp, fun _ _ => rfl⟩
  | false =>
    obtain ⟨c, he⟩ := exec_linkChange_down p s
    have hn : ({ setUp p (linkUp p false s) s with net := { (setUp p (linkUp p false s) s).net with p1Since := c } } : State).tidy := hu
    exact ⟨_, he, ho.trans (within_setFlag (by decide) p.val false _ hn).2, fun _ => flag_setFlag_self hn _ false (by omega),
      fun a ha => rd_setFlag_ne hn _ false ha⟩

/-! ### A path fault -/

theorem exec_pathFault_of_shown {p : Fin 2} {s : State} (h : linkBit s p.val 4 = true) : exec (.pathFault p) s = .next s :=
  congrArg Host.Outcome.next (if_pos h)

theorem exec_pathFault_of_new {p : Fin 2} {s : State} (h : linkBit s p.val 4 = false) :
    exec (.pathFault p) s = .next (raise_ 0x13 2 (setFlag Reg.netLink (8 * p + 4) true s)) :=
  congrArg Host.Outcome.next (if_neg (by rw [h]; decide))

end Sys2Proof.Machine
end

/-! ## Publications and subscriptions (R526-R534) -/
section
namespace Sys2Proof.Machine

/-! ### NET_PUBLISH (R526-R528) -/

/-- R527: the VLAN tag of publication record `k`, 0 for none. -/
def pubVlan (k : Nat) (u : State) : Nat :=
  if bitOf (effRd u Reg.netCfg) 8 then
    2 ^ 16 + bitsOf (cfgNat u 0x0A01 k 2 1) 2 0 <<< 13 + bitsOf (effRd u Reg.netCfg) 27 16
  else 0

/-- The publication that the lanes hand over as a copy into the transmit buffer: the segment record `g`, at one line per four control
clocks after earlier copies. -/
def pubJob (k g : Nat) (u : State) : PubJob :=
  ⟨groupOf (pubAddr u), pubVlan k u, u.net.pubs.foldl (fun m p => max m p.done) u.now + 4 * cfgNat u 0x0502 g 2 2,
    (List.range ((cfgNat u 0x0502 g 2 2 + 18) / 19)).map (pubGram u (cfgNat u 0x0A01 k 0 2) (cfgNat u 0x0502 g 2 2)
      ((List.range (16 * cfgNat u 0x0502 g 2 2)).map (fun i => laneDone u 0 (16 * cfgNat u 0x0502 g 0 2 + i))))⟩

/-- Without a word that differs in one lane, every lane holds the same completed copy. -/
theorem laneDone_of_no_diff {u : State} (h : u.img.laneDiff = []) (l w : Nat) : laneDone u l w = laneDone u 0 w := by
  simp only [laneDone, laneCell, h, tabGet]

/-- R526: where no word is upset and all lanes store the same, a NET_PUBLISH adds one copy, and nothing else. -/
theorem runNetPublish_of_segment {e : Entry} {u : State} {g : Nat} (hu : u.img.upsets = []) (hd : u.img.laneDiff = [])
    (hg : segOf u (cfgNat u 0x0A01 (bitsOf e.arg0 7 0) 0 2) = some g) (hp : pairBase u = false ∨ driving u = true) :
    runNetPublish e u = { u with net := { u.net with pubs := u.net.pubs ++ [pubJob (bitsOf e.arg0 7 0) g u] } } := by
  have hb : (pairBase u && !driving u) = false := by
    rcases hp with h | h <;> simp [h]
  have ht : touchLines (cfgNat u 0x0502 g 0 2) (cfgNat u 0x0502 g 2 2) u = u := if_pos hu
  simp only [runNetPublish, hb, hg, ht, Bool.false_eq_true, if_false]
  rw [handOver_of_same (fun l => List.map_congr_left (fun i _ => laneDone_of_no_diff hd l (16 * cfgNat u 0x0502 g 0 2 + i)))]
  rfl

/-- R27, R526: without its segment, or on the module of a pair that does not drive, a NET_PUBLISH does nothing. -/
theorem runNetPublish_of_none {e : Entry} {u : State}
    (h : segOf u (cfgNat u 0x0A01 (bitsOf e.arg0 7 0) 0 2) = none ∨ (pairBase u = true ∧ driving u = false)) :
    runNetPublish e u = u := by
  rcases h with h | ⟨hp, hd⟩
  · simp only [runNetPublish, h, ite_self]
  · simp only [runNetPublish, hp, hd, Bool.not_false, Bool.and_self, if_true]

/-! ### Publication datagrams as they arrive (R519, R531) -/

/-- A register that a change leaves alone is left alone when the change is made for every element of a list. -/
theorem rd_each {α : Type} {f : α → State → State} {a : Nat} (hf : ∀ x t, t.tidy → (f x t).tidy ∧ rd (f x t) a = rd t a) :
    ∀ (L : List α) {s : State}, s.tidy → rd (each L f s) a = rd s a
  | [], _, _ => rfl
  | x :: L, s, h => (rd_each hf L (hf x s h).1).trans (hf x s h).2

/-- A field that a change leaves alone is left alone when the change is made for every element of a list. -/
theorem each_same {α β : Type} {g : State → β} {f : α → State → State} (hf : ∀ x t, g (f x t) = g t) :
    ∀ (L : List α) (s : State), g (each L f s) = g s
  | [], _ => rfl
  | x :: L, s => (each_same hf L (f x s)).trans (hf x s)

theorem pmcInc_tidy {s : State} (h : s.tidy) (i : Nat) : (pmcInc i s).tidy := h

theorem bump_tidy {s : State} (h : s.tidy) (a n : Nat) : (bump a n s).tidy := (bump_flows rfl (Flows.refl 0 s)).tidy h

/-- R519: a frame ends the path fault of every port that it came from. -/
def pathsHealed (ports : Nat) (s : State) : State :=
  s |> when_ (bitOf ports 0) (setFlag Reg.netLink 4 false) |> when_ (bitOf ports 1) (setFlag Reg.netLink 12 false)

/-- R519: what a frame does to the counters, by the ports that it came from. -/
theorem rxPorts_cases (ports : Nat) (s : State) :
    (ports = 1 ∧ rxPorts ports s = pmcInc 141 (bump Reg.netCntOnlyP1 1 (pathsHealed ports s))) ∨
      (ports = 2 ∧ rxPorts ports s = pmcInc 142 (bump Reg.netCntOnlyP2 1 (pathsHealed ports s))) ∨
      (ports ≠ 1 ∧ ports ≠ 2 ∧ rxPorts ports s = pmcInc 143 (pathsHealed ports s)) := by
  by_cases h1 : ports = 1
  · subst h1
    exact .inl ⟨rfl, rfl⟩
  · by_cases h2 : ports = 2
    · subst h2
      exact .inr (.inl ⟨rfl, rfl⟩)
    · refine .inr (.inr ⟨h1, h2, ?_⟩)
      simp only [rxPorts, pathsHealed]

theorem within_pathsHealed (ports : Nat) (s : State) : Within [Reg.netLink] s (pathsHealed ports s) :=
  (within_when (fun t => within_setFlag (by simp) 4 false t) _ s).trans
    (within_when (fun t => within_setFlag (by simp) 12 false t) _ _)

/-- After a frame from a port, the port shows no path fault. -/
theorem linkBit_pathsHealed {s : State} (h : s.tidy) (ports : Nat) :
    (bitOf ports 0 = true → linkBit (pathsHealed ports s) 0 4 = false) ∧
      (bitOf ports 1 = true → linkBit (pathsHealed ports s) 1 4 = false) := by
  have h1 := (within_when (l := [Reg.netLink]) (fun t => within_setFlag (List.mem_singleton_self _) 4 false t) (bitOf ports 0) s h).1
  refine ⟨fun hb => ?_, fun hb => ?_⟩
  · simp only [pathsHealed, hb, when_, if_true]
    split
    · exact (flag_setFlag_ne (setFlag_tidy h Reg.netLink 4 false) false (by decide) (.inr (by decide))).trans
        (flag_setFlag_self h _ false (by decide))
    · exact flag_setFlag_self h _ false (by decide)
  · rw [pathsHealed, hb]
    exact flag_setFlag_self h1 _ false (by decide)

/-- The counters of frames from one port alone, and the links, as a frame leaves them. -/
theorem rxPorts_outcome {s : State} (h : s.tidy) (ports : Nat) :
    (ports ≠ 1 → ports ≠ 2 → rd (rxPorts ports s) Reg.netCntOnlyP1 = rd s Reg.netCntOnlyP1 ∧
      rd (rxPorts ports s) Reg.netCntOnlyP2 = rd s Reg.netCntOnlyP2) ∧
    (ports = 1 → Counted Reg.netCntOnlyP1 s (rxPorts ports s)) ∧
    (ports = 2 → Counted Reg.netCntOnlyP2 s (rxPorts ports s)) ∧
    (∀ p i, linkBit (rxPorts ports s) p i = linkBit (pathsHealed ports s) p i) ∧
    ∀ a, a ∉ [Reg.netLink, Reg.netCntOnlyP1, Reg.netCntOnlyP2] → rd (rxPorts ports s) a = rd s a := by
  obtain ⟨ht, ho⟩ := within_pathsHealed ports s h
  have hcnt {a b : Nat} (ha : a ≠ Reg.netLink) (hb : b ≠ a) : rd (bump b 1 (pathsHealed ports s)) a = rd s a := by
    rw [rd_bump_ne ht 1 hb.symm, ho a (by simpa using ha)]
  have hself {a : Nat} (ha : a ≠ Reg.netLink) : Counted a s (bump a 1 (pathsHealed ports s)) := by
    rw [Counted, rd_bump_self ht, ho a (by simpa using ha)]
  have hlink {b : Nat} (hb : Reg.netLink ≠ b) (p i : Nat) :
      linkBit (bump b 1 (pathsHealed ports s)) p i = linkBit (pathsHealed ports s) p i := by
    rw [linkBit, flag, rd_bump_ne ht 1 hb, linkBit, flag]
  rcases rxPorts_cases ports s with ⟨hp, he⟩ | ⟨hp, he⟩ | ⟨h1, h2, he⟩ <;> rw [he]
  · refine ⟨fun h => absurd hp h, fun _ => hself (by decide), fun h => by omega, hlink (by decide), fun a ha => ?_⟩
    simp only [List.mem_cons, List.not_mem_nil, or_false, not_or] at ha
    exact hcnt ha.1 (Ne.symm ha.2.1)
  · refine ⟨fun _ h => absurd hp h, fun h => by omega, fun _ => hself (by decide), hlink (by decide), fun a ha => ?_⟩
    simp only [List.mem_cons, List.not_mem_nil, or_false, not_or] at ha
    exact hcnt ha.1 (Ne.symm ha.2.2)
  · exact ⟨fun _ _ => ⟨ho _ (by decide), ho _ (by decide)⟩, fun h => absurd h h1, fun h => absurd h h2, fun _ _ => rfl,
      fun a ha => ho a (fun hm => ha (List.mem_cons.2 (.inl (List.mem_singleton.1 hm))))⟩

/-- R519: a frame leaves the plant network's own state alone. -/
theorem rxPorts_net (ports : Nat) (s : State) : (rxPorts ports s).net = s.net :=
  (rxPorts_flows rfl (Flows.refl 536870912 s)).net.resolve_left (by decide)

theorem rxPorts_tidy {s : State} (h : s.tidy) (ports : Nat) : (rxPorts ports s).tidy :=
  (rxPorts_flows rfl (Flows.refl 0 s)).tidy h

/-! ### A malformed datagram, and a strange module under the own address (R27, R531, R535) -/

theorem exec_pubDatagramRx_malformed {b : List Nat} (h : gramOk b = false) (ports : Fin 4) (s : State) :
    exec (.pubDatagramRx ports b) s =
      .next (pmcInc 131 (bump Reg.netCntRxDrop 1 (pmcInc 130 (rxPorts ports s)))) :=
  congrArg Host.Outcome.next (if_pos h)

/-- What a malformed datagram leaves of registers: its count, and what every frame leaves. -/
theorem malformed_regs {s : State} (h : s.tidy) (ports : Nat) :
    Counted Reg.netCntRxDrop s (pmcInc 131 (bump Reg.netCntRxDrop 1 (pmcInc 130 (rxPorts ports s)))) ∧
      ∀ a, a ≠ Reg.netCntRxDrop →
        rd (pmcInc 131 (bump Reg.netCntRxDrop 1 (pmcInc 130 (rxPorts ports s)))) a = rd (rxPorts ports s) a := by
  have hr := rxPorts_tidy h ports
  refine ⟨?_, fun a ha => rd_bump_ne hr 1 ha⟩
  obtain ⟨-, -, -, -, ho⟩ := rxPorts_outcome h ports
  exact (rd_bump_self hr Reg.netCntRxDrop 1).trans (by rw [ho _ (by decide)])

/-- A datagram under the own address, or the pair's, of a module that is neither this one nor its partner. -/
def strangeGram (s : State) (b : List Nat) : Prop :=
  (gramNat b 8 2 % 2048 = fld s Reg.sysStation 10 0 ∨ gramNat b 8 2 % 2048 = pubAddr s) ∧
    gramNat b 0x20 8 ≠ serialNo s ∧ s.red.serial ≠ some (gramNat b 0x20 8)

theorem exec_pubDatagramRx_strange {s : State} {b : List Nat} (h : gramOk b = true) (hc : strangeGram s b) (ports : Fin 4) :
    exec (.pubDatagramRx ports b) s = .next (raise_ 0x13 6 (peerLog 2 (gramNat b 8 2 % 2048) (gramNat b 0x0A 2) (gramNat b 0x10 8)
      (gramNat b 0x20 8) (bump Reg.netCntClash 1 (pmcInc 130 (rxPorts ports s))))) := by
  simp only [strangeGram] at hc
  simp only [exec, execPubDatagramRx, h, Bool.true_eq_false, if_false, if_pos hc]

/-- R535: a peer-log entry changes the log and its head, and of the network's own state the number of entries. -/
theorem rd_peerLog {s : State} (h : s.tidy) (kind addr seg gen serial : Nat) {a : Nat} (ha : a < Reg.netPeerHead) :
    rd (peerLog kind addr seg gen serial s) a = rd s a := by
  have hn : ({ s with net := { s.net with logSeq := s.net.logSeq + 1 } } : State).tidy := h
  rw [peerLog, rd_wr_ne ((each_flows (fun _ _ g => wr_flows rfl g) (Flows.refl 0 _)).tidy hn) _ (Nat.ne_of_lt ha)]
  refine (rd_each (fun i t ht => ⟨(wr_flows rfl (Flows.refl 0 t)).tidy ht, rd_wr_ne ht _ ?_⟩) _ hn).trans rfl
  simp only [Reg.netPeerHead, Reg.netPeerLog] at ha ⊢
  omega

theorem peerLog_net (kind addr seg gen serial : Nat) (s : State) :
    (peerLog kind addr seg gen serial s).net = { s.net with logSeq := s.net.logSeq + 1 } := by
  rw [peerLog, wr_net]
  rw [each_same (g := State.net) (fun i t => wr_net ..)]

theorem peerLog_subs (kind addr seg gen serial : Nat) (s : State) : (peerLog kind addr seg gen serial s).net.subs = s.net.subs := by
  rw [peerLog_net]

theorem peerLog_tidy {s : State} (h : s.tidy) (kind addr seg gen serial : Nat) : (peerLog kind addr seg gen serial s).tidy :=
  (peerLog_flows rfl (Flows.refl 0 s)).tidy h

@[simp] theorem raise_net (p b : Nat) (s : State) : (raise_ p b s).net = s.net := by rw [raise_eq_evented]; rfl
@[simp] theorem raise_seq (p b : Nat) (s : State) : (raise_ p b s).seq = s.seq := by rw [raise_eq_evented]; rfl

/-! ### What a subscription receives (R531, R532) -/

theorem subSt_putSub {s : State} (h : tabWf (fun _ => ({} : SubSt)) s.net.subs = true) (k : Nat) (x : SubSt) :
    subSt (putSub k x s) k = x :=
  tabGet_set_self _ k x h

/-- The subscription table of a tidy state is canonical. -/
theorem subs_wf_of_tidy {s : State} (h : s.tidy) : tabWf (fun _ => ({} : SubSt)) s.net.subs = true := by
  obtain ⟨-, -, -, -, -, -, -, -, -, -, -, -, -, -, -, -, -, hs, -, -⟩ := h
  exact hs

theorem subSt_congr {s t : State} (h : t.net.subs = s.net.subs) (k : Nat) : subSt t k = subSt s k := by
  rw [subSt, h, subSt]

/-- R531: the one datagram of a whole publication is fragment 0 and holds a line. -/
theorem gramLines_of_single {b : List Nat} (h : gramOk b = true) (h1 : gramNat b 6 1 = 1) :
    gramNat b 5 1 = 0 ∧ gramLines b ≠ [] := by
  simp only [gramOk, h1, Bool.and_eq_true, beq_iff_eq, bne_iff_ne, decide_eq_true_eq] at h
  obtain ⟨⟨⟨⟨-, hfc⟩, hi⟩, hn⟩, hc⟩ := h
  rw [← hfc] at hi hn
  have h0 : gramNat b 5 1 = 0 := by omega
  rw [h0, if_neg (by decide)] at hn
  refine ⟨h0, ?_⟩
  rw [gramLines, ne_eq, List.map_eq_nil_iff, List.range_eq_nil]
  omega

/-- R531: the publication that one datagram carries whole. -/
def gramInst (b : List Nat) : SubInst := ⟨gramNat b 0x18 8, gramNat b 0x10 8, gramNat b 0x0C 2, gramLines b⟩

/-- The publication becomes the subscription's, complete and not accepted yet. -/
def instStored (b : List Nat) (x : SubSt) : SubSt := { x with asm := none, frags := [], stored := some (gramInst b), ready := true }

/-- R531, R532: what follows the store of a publication leaves the subscriptions alone: counters and the peer log. -/
theorem subFragment_single {s : State} {b : List Nat} {k : Nat} (h : gramOk b = true) (h1 : gramNat b 6 1 = 1)
    (ha : (subSt s k).asm = none) : (subFragment b k s).net.subs = (putSub k (instStored b (subSt s k)) s).net.subs := by
  obtain ⟨h0, hl⟩ := gramLines_of_single h h1
  have hf : tabSet (fun _ => ([] : List (List Nat))) [] 0 (gramLines b) = [(0, gramLines b)] := by
    rw [tabSet, if_neg hl]
  have hs : (none == some (gramNat b 0x18 8, gramNat b 0x10 8)) = false := rfl
  have hn : newerInst (gramNat b 0x18 8) (gramNat b 0x10 8) none = true := rfl
  simp only [subFragment, ha, hs, hn, h0, h1, hf, Bool.false_eq_true, Bool.not_true, Bool.and_false, if_false, or_true, if_true,
    List.length_singleton, Nat.lt_irrefl, List.flatMap_cons, List.flatMap_nil, List.append_nil]
  split <;> split <;> simp only [bump_net, peerLog_subs, pmcInc_net] <;> rfl

theorem exec_pubDatagramRx_single {s : State} {b : List Nat} {k : Nat} (h : gramOk b = true)
    (hc : ¬ (gramNat b 8 2 % 2048 = fld s Reg.sysStation 10 0 ∨ gramNat b 8 2 % 2048 = pubAddr s))
    (hk : (List.range (cfgCount s 0x0A02)).filter (fun k => cfgNat s 0x0A02 k 0 2 % 2048 == gramNat b 8 2 % 2048 &&
      cfgNat s 0x0A02 k 2 2 == gramNat b 0x0A 2) = [k]) (ports : Fin 4) :
    exec (.pubDatagramRx ports b) s = .next (subFragment b k (pmcInc 130 (rxPorts ports s))) := by
  simp only [exec, execPubDatagramRx, h, Bool.true_eq_false, if_false, hc, false_and, hk, each, List.foldl_cons, List.foldl_nil]

/-- R531, R532: the subscription that a whole datagram names holds its publication. -/
theorem subSt_received {s : State} (ht : s.tidy) {b : List Nat} {k : Nat} (h : gramOk b = true) (h1 : gramNat b 6 1 = 1)
    (ha : (subSt s k).asm = none) (ports : Nat) :
    subSt (subFragment b k (pmcInc 130 (rxPorts ports s))) k = instStored b (subSt s k) := by
  have hx : subSt (pmcInc 130 (rxPorts ports s)) k = subSt s k := subSt_congr (by rw [pmcInc_net, rxPorts_net]) k
  have hw := subs_wf_of_tidy (pmcInc_tidy (rxPorts_tidy ht ports) 130)
  rw [subSt_congr (subFragment_single h h1 (by rw [hx, ha])), subSt_putSub hw, hx]

/-! ### NET_ACCEPT (R533, R534) -/

/-- R528, R534: word `j` of a publication, as it was sent. -/
def instCell (i : SubInst) (j : Nat) : ICell :=
  ⟨BitVec.ofNat 32 (leNat (((i.data.getD (j / 16) []).drop (4 * (j % 16))).take 4)),
    tagOf (bitsOf (leNat ((i.data.getD (j / 16) []).drop 64)) (4 * (j % 16) + 3) (4 * (j % 16)))⟩

/-- R534: the words of an accepted publication from word `w0` on, one line per four control clocks. -/
def instWrites (i : SubInst) (n w0 now : Nat) : List (Nat × Nat × ICell) :=
  (List.range (16 * n)).map (fun j => (now + 4 * (j / 16 + 1), w0 + j, instCell i j))

/-- R534: the words that keep their values under a tag, one line per four control clocks. -/
def keptWords (n w0 now : Nat) (t : Tag) : List (Nat × Nat × Tag) :=
  (List.range (16 * n)).map (fun i => (now + 4 * (i / 16 + 1), w0 + i, t))

/-- R534: the subscription after a publication was accepted. -/
def subAccepted (i : SubInst) (x : SubSt) : SubSt :=
  { x with ready := false, accepted := some (i.epoch, i.gen), age := 0, lenBad := false, staleBad := false }

/-- R534: the subscription one time longer without a new publication, `stale` where its words become BAD. -/
def subAged (stale : Bool) (x : SubSt) : SubSt := { x with ready := false, age := x.age + 1, lenBad := false, staleBad := stale }

/-- R534: the subscription of the entry ages, and its words keep their values under a tag. -/
def keptUnder (e : Entry) (t : Tag) (stale : Bool) (u : State) : State :=
  addKeeps e true (keptWords (cfgNat u 0x0A02 (bitsOf e.arg0 8 0) 6 2) (16 * cfgNat u 0x0A02 (bitsOf e.arg0 8 0) 4 2) u.now t)
    (putSub (bitsOf e.arg0 8 0) (subAged stale (subSt u (bitsOf e.arg0 8 0))) u)

/-- R534: the words become BAD, which is counted and raised. -/
def staleRaised (e : Entry) (u : State) : State := raise_ 0x13 8 (bump Reg.netCntSubStale 1 (keptUnder e .bad true u))

/-- R533, R534: a new publication of the right length is accepted. -/
theorem runNetAccept_of_fresh {e : Entry} {u : State} {i : SubInst} (hr : (subSt u (bitsOf e.arg0 8 0)).ready = true)
    (hs : (subSt u (bitsOf e.arg0 8 0)).stored = some i)
    (hn : newerInst i.epoch i.gen (subSt u (bitsOf e.arg0 8 0)).accepted = true)
    (hl : i.lines = cfgNat u 0x0A02 (bitsOf e.arg0 8 0) 6 2) :
    runNetAccept e u = addWrites e (instWrites i i.lines (16 * cfgNat u 0x0A02 (bitsOf e.arg0 8 0) 4 2) u.now)
      (pmcInc 133 (putSub (bitsOf e.arg0 8 0) (subAccepted i (subSt u (bitsOf e.arg0 8 0))) u)) := by
  simp only [runNetAccept, hr, hs, hn, if_true, hl, subAccepted, instWrites, instCell]

/-- R534: without a new publication the words are held, the first two times. -/
theorem runNetAccept_of_held {e : Entry} {u : State} (hr : (subSt u (bitsOf e.arg0 8 0)).ready = false)
    (ha : (subSt u (bitsOf e.arg0 8 0)).age < 2) (hc : (subSt u (bitsOf e.arg0 8 0)).accepted ≠ none) :
    runNetAccept e u = keptUnder e .held false u := by
  have h2 : (subSt u (bitsOf e.arg0 8 0)).age + 1 ≤ 2 ∧ (subSt u (bitsOf e.arg0 8 0)).accepted.isSome :=
    ⟨ha, Option.isSome_iff_ne_none.2 hc⟩
  simp only [runNetAccept, hr, if_pos h2]
  rfl

/-- R534: without a new publication for longer, the words become BAD, and the start of that condition is counted and raised. -/
theorem runNetAccept_of_stale {e : Entry} {u : State} (hr : (subSt u (bitsOf e.arg0 8 0)).ready = false)
    (ha : 2 ≤ (subSt u (bitsOf e.arg0 8 0)).age ∨ (subSt u (bitsOf e.arg0 8 0)).accepted = none)
    (hb : (subSt u (bitsOf e.arg0 8 0)).staleBad = false) :
    runNetAccept e u = staleRaised e u := by
  have h2 : ¬ ((subSt u (bitsOf e.arg0 8 0)).age + 1 ≤ 2 ∧ (subSt u (bitsOf e.arg0 8 0)).accepted.isSome) := by
    rintro ⟨h, hs⟩
    rcases ha with ha | ha
    · omega
    · rw [ha] at hs
      exact absurd hs (by decide)
  simp only [runNetAccept, hr, if_neg h2, hb, Bool.false_eq_true, if_false]
  rfl

/-- Only the sequencer and the plant network take note of it. -/
theorem keptUnder_eq (e : Entry) (t : Tag) (stale : Bool) (u : State) : keptUnder e t stale u =
    { putSub (bitsOf e.arg0 8 0) (subAged stale (subSt u (bitsOf e.arg0 8 0))) u with seq := (keptUnder e t stale u).seq } :=
  addActs_eq_seq ..

theorem keptUnder_tidy {u : State} (h : u.tidy) (e : Entry) (t : Tag) (stale : Bool) : (keptUnder e t stale u).tidy :=
  (addKeeps_flows rfl (putSub_flows rfl (Flows.refl 0 u))).tidy h

theorem subSt_keptUnder {u : State} (h : u.tidy) (e : Entry) (t : Tag) (stale : Bool) :
    subSt (keptUnder e t stale u) (bitsOf e.arg0 8 0) = subAged stale (subSt u (bitsOf e.arg0 8 0)) := by
  rw [keptUnder_eq]
  exact subSt_putSub (subs_wf_of_tidy h) _ _

theorem rd_keptUnder (e : Entry) (t : Tag) (stale : Bool) (u : State) (a : Nat) : rd (keptUnder e t stale u) a = rd u a := by
  rw [keptUnder_eq]
  rfl

/-- The clocks and the changes that the words which keep their values are left to. -/
theorem keptUnder_todo (e : Entry) (t : Tag) (stale : Bool) {u : State} (hn : 0 < cfgNat u 0x0A02 (bitsOf e.arg0 8 0) 6 2) :
    (keptUnder e t stale u).seq.outst.getLast?.map (fun o => o.todo) =
      some ((List.range (16 * cfgNat u 0x0A02 (bitsOf e.arg0 8 0) 6 2)).map (fun i =>
        (u.now + 4 * (i / 16 + 1), Act.keep (16 * cfgNat u 0x0A02 (bitsOf e.arg0 8 0) 4 2 + i) t true))) := by
  have hne (w0 : Nat) : (keptWords (cfgNat u 0x0A02 (bitsOf e.arg0 8 0) 6 2) w0 u.now t).map
      (fun x => (x.1, x.2.1, Act.keep x.2.1 x.2.2 true)) ≠ [] := by
    simp only [keptWords, ne_eq, List.map_eq_nil_iff, List.range_eq_nil]
    omega
  obtain ⟨o, ho, -, -, htodo, -⟩ := addActs_outst e
    (putSub (bitsOf e.arg0 8 0) (subAged stale (subSt u (bitsOf e.arg0 8 0))) u) (hne (16 * cfgNat u 0x0A02 (bitsOf e.arg0 8 0) 4 2))
  rw [keptUnder, addKeeps, ho, List.getLast?_concat, Option.map_some, htodo, keptWords, List.map_map, List.map_map]
  rfl

/-- What the start of the stale condition leaves: the subscription, its count, its event, and the words that become BAD. -/
theorem staleRaised_outcome {u : State} (h : u.tidy) (e : Entry) :
    subSt (staleRaised e u) (bitsOf e.arg0 8 0) = subAged true (subSt u (bitsOf e.arg0 8 0)) ∧
      Counted Reg.netCntSubStale u (staleRaised e u) ∧ flag (staleRaised e u) (Reg.evtRaw 0x13) 8 = true ∧
      (staleRaised e u).seq = (keptUnder e .bad true u).seq := by
  have hk := keptUnder_tidy h e .bad true
  have hb := bump_tidy hk Reg.netCntSubStale 1
  have hn : (staleRaised e u).net = (keptUnder e .bad true u).net := by rw [staleRaised, raise_net, bump_net]
  refine ⟨?_, ?_, flag_raise_self hb 0x13 8 (by decide), by rw [staleRaised, raise_seq, bump_seq]⟩
  · exact (subSt_congr (congrArg NetSt.subs hn) _).trans (subSt_keptUnder h e .bad true)
  · rw [Counted, staleRaised, rd_raise hb 0x13 8 (by decide) (by decide), rd_bump_self hk, rd_keptUnder]

/-- The outstanding entry that writes an accepted publication: its words, its last clock, and what it writes when. -/
theorem addWrites_inst (e : Entry) (i : SubInst) {n : Nat} (hn : 0 < n) (w0 now : Nat) (s : State) :
    ∃ o : OutEntry, (addWrites e (instWrites i n w0 now) s).seq.outst = s.seq.outst ++ [o] ∧ o.e = e ∧
      o.words = (List.range (16 * n)).map (fun j => w0 + j) ∧ o.last = now + 4 * n ∧
      o.todo = (List.range (16 * n)).map (fun j => (now + 4 * (j / 16 + 1), Act.put (w0 + j) (instCell i j))) := by
  have hne : (instWrites i n w0 now).map (fun x => (x.1, x.2.1, Act.put x.2.1 x.2.2)) ≠ [] := by
    simp only [instWrites, ne_eq, List.map_eq_nil_iff, List.range_eq_nil]
    omega
  obtain ⟨o, ho, he, hw, ht, hl⟩ := addActs_outst e s hne
  simp only [instWrites, List.map_map, Function.comp_def] at hw ht hl
  exact ⟨o, ho, he, hw, hl.trans (lastClk_of_lines hn now _), ht⟩

end Sys2Proof.Machine
end

/-! ## The statement of the plant network -/
section
namespace Sys2Proof.Machine

/-- Settles O31: each command by what it leaves of its registers, of the plant network and of the outstanding entries; the entries at
their turn, after which only the position of the sequencer goes on. -/
theorem plantNetwork : Obligations.PlantNetwork := by
  unfold Obligations.PlantNetwork
  intro s ht
  refine ⟨?refused, ?accepted, ?linkChange, ?pathFault, ?pathShown, ?supervision, ?publish, ?noPublish, ?malformed, ?strange, ?whole,
    ?stale, ?held, ?fresh⟩
  case refused =>
    intro p kind mw h
    obtain ⟨hr, ho⟩ := within_sfpRefused p s ht
    obtain ⟨hup, hbad, hkind⟩ := link_sfpRefused ht p
    have he := exec_sfpInsert_refused (p := p) h s
    refine ⟨_, he, ?_, ?_, ?_, flag_raise_self hr 0x13 3 (by decide), fun hu => ?_, ?_, eq_evented (execSfpInsert_flows he)⟩
    · rw [linkBit_raise hr, hup]
    · rw [linkBit_raise hr, hbad]
    · rw [fld, rd_raise hr 0x13 3 (by decide) (by decide), ← fld, hkind]
    · exact flag_raise_mono hr 0x13 3 0x13 p.val (by decide) (flag_sfpRefused_of_up ht p hu)
    · exact ho.trans (within_raise (by decide) (by decide) 3 _ hr).2
  case accepted =>
    intro p kind mw hk hm
    have hf := setFlag_tidy ht Reg.netLink (8 * p.val + 3) false
    refine ⟨_, exec_sfpInsert_accepted hk hm s, ?_, ?_, ?_, ?_, rfl⟩
    · rw [linkBit_setFld_ne hf p _ (.inr (Nat.le_refl 3)), linkBit_setFlag_self ht p (by decide) false]
    · rw [fld_setFld_self hf _ _ (by omega) (by omega)]
      rw [show 8 * p.val + 2 + 1 - (8 * p.val + 1) = 2 by omega]
      exact Nat.mod_eq_of_lt kind.isLt
    · rw [linkBit_setFld_ne hf p _ (.inl rfl), linkBit_setFlag_ne ht p (by decide) false (by decide)]
    · exact ((within_setFlag (by decide) _ _ s).trans (within_setFld (by decide) _ _ _ _) ht).2
  case linkChange =>
    intro p up
    obtain ⟨t, he, ho, hptp, hrd⟩ := exec_linkChange_regs ht p up
    refine ⟨t, he, ?_, fun hc => ?_, hptp, ho, eq_evented_net (execLinkChange_flows he)⟩
    · rw [linkBit, flag, hrd _ (by decide)]
      exact linkBit_setUp_self ht p (linkUp p up s)
    · rw [flag, hrd _ (by decide)]
      exact flag_setUp_of_change ht p hc
  case pathFault =>
    intro p h
    have hf := setFlag_tidy ht Reg.netLink (8 * p.val + 4) true
    have he := exec_pathFault_of_new h
    refine ⟨_, he, flag_raise_self hf 0x13 2 (by decide), ?_, ?_, ?_, eq_evented (execPathFault_flows he)⟩
    · rw [linkBit_raise hf, linkBit_setFlag_self ht p (by decide) true]
    · rw [linkBit_raise hf, linkBit_setFlag_ne ht p (by decide) true (by decide)]
    · exact ((within_setFlag (by decide) _ _ s).trans (within_raise (by decide) (by decide) 2 _) ht).2
  case pathShown =>
    intro p h
    exact ⟨s, exec_pathFault_of_shown h, rfl⟩
  case supervision => exact ⟨_, rfl, rfl⟩
  case publish =>
    intro pos k g u hu hd hh hp hup hdiff hg hdrv
    obtain ⟨q, he, -⟩ := dispatch_of_due (fun e _ t => runNetPublish e t) {} hu hd hh hp
    rw [runNetPublish_of_segment hup hdiff hg hdrv] at he
    refine ⟨_, congrArg Host.Outcome.next he, ?_, ?_, rfl⟩
    · exact List.map_append
    · exact congrArg (Option.map PubJob.grams) List.getLast?_concat
  case noPublish =>
    intro pos k u hu hd hh hp hn
    obtain ⟨q, he, ho⟩ := dispatch_of_due (fun e _ t => runNetPublish e t) {} hu hd hh hp
    rw [runNetPublish_of_none hn] at he ho
    exact ⟨_, congrArg Host.Outcome.next he, ho, rfl⟩
  case malformed =>
    intro ports b h
    have he := exec_pubDatagramRx_malformed h ports s
    obtain ⟨hdrop, hrd⟩ := malformed_regs ht ports.val
    obtain ⟨hnone, hfirst, hsecond, hlink, -⟩ := rxPorts_outcome ht ports.val
    obtain ⟨hheal1, hheal2⟩ := linkBit_pathsHealed ht ports.val
    refine ⟨_, he, hdrop, ?_, ?_, ?_, ?_, ?_, ?_, eq_evented_net (execPubDatagramRx_flows he)⟩
    · exact rxPorts_net ports.val s
    · rw [hrd _ (by decide), hrd _ (by decide)]
      exact hnone
    · rw [Counted, hrd _ (by decide)]
      exact hfirst
    · rw [Counted, hrd _ (by decide)]
      exact hsecond
    · rw [linkBit, flag, hrd _ (by decide), ← flag, ← linkBit, hlink]
      exact hheal1
    · rw [linkBit, flag, hrd _ (by decide), ← flag, ← linkBit, hlink]
      exact hheal2
  case strange =>
    intro ports b h ha hser hpart
    have he := exec_pubDatagramRx_strange h ⟨ha, hser, hpart⟩ ports
    have hr := pmcInc_tidy (rxPorts_tidy ht ports.val) 130
    have hb := bump_tidy hr Reg.netCntClash 1
    have hl := peerLog_tidy hb 2 (gramNat b 8 2 % 2048) (gramNat b 0x0A 2) (gramNat b 0x10 8) (gramNat b 0x20 8)
    obtain ⟨-, -, -, -, ho⟩ := rxPorts_outcome ht ports.val
    refine ⟨_, he, ?_, flag_raise_self hl 0x13 6 (by decide), ?_, eq_evented_net (execPubDatagramRx_flows he)⟩
    · rw [Counted, rd_raise hl 0x13 6 (by decide) (by decide), rd_peerLog hb _ _ _ _ _ (by decide), rd_bump_self hr]
      exact congrArg (fun n => satAdd 0xFFFFFFFF n 1) (ho _ (by decide))
    · rw [raise_net, peerLog_net, bump_net, pmcInc_net, rxPorts_net]
  case whole =>
    intro ports b k h ha h1 hk hasm
    have he := exec_pubDatagramRx_single h ha hk ports
    have hev := eq_evented_net (execPubDatagramRx_flows he)
    refine ⟨_, he, ?_, ?_, ?_, by rw [hev]; rfl, hev⟩ <;> rw [subSt_received ht h h1 hasm ports.val] <;> rfl
  case stale =>
    intro pos k u hu hd hh hp hr ha hb
    have hut : u.tidy := hu ▸ atTurn_tidy ht pos
    obtain ⟨q, he, ho⟩ := dispatch_of_due (fun e _ t => runNetAccept e t) {} hu hd hh hp
    have hev := eq_evented_seq_net (runNetAccept_flows rfl (Flows.refl 239981238234 u)
      (x1 := ⟨0x24, 0x13, k, 0, 0, 0, seqSlot s, pos⟩))
    rw [runNetAccept_of_stale hr ha hb] at he ho hev
    obtain ⟨hx, hcount, hflag, hseq⟩ := staleRaised_outcome hut ⟨0x24, 0x13, k, 0, 0, 0, seqSlot s, pos⟩
    refine ⟨_, congrArg Host.Outcome.next he, congrArg SubSt.age hx, congrArg SubSt.staleBad hx, hcount, hflag, fun hn => ?_,
      congrArg (fun r => { r with seq := q }) hev⟩
    rw [ho, hseq]
    exact keptUnder_todo ⟨0x24, 0x13, k, 0, 0, 0, seqSlot s, pos⟩ .bad true hn
  case held =>
    intro pos k u hu hd hh hp hr ha hc
    have hut : u.tidy := hu ▸ atTurn_tidy ht pos
    obtain ⟨q, he, ho⟩ := dispatch_of_due (fun e _ t => runNetAccept e t) {} hu hd hh hp
    rw [runNetAccept_of_held hr ha hc] at he ho
    rw [keptUnder_eq] at he
    have hx := subSt_putSub (subs_wf_of_tidy hut) (bitsOf k 8 0) (subAged false (subSt u (bitsOf k 8 0)))
    refine ⟨_, congrArg Host.Outcome.next he, congrArg SubSt.age hx, congrArg SubSt.staleBad hx, fun hn => ?_, rfl⟩
    rw [ho]
    exact keptUnder_todo ⟨0x24, 0x13, k, 0, 0, 0, seqSlot s, pos⟩ .held false hn
  case fresh =>
    intro pos k i u hu hd hh hp hr hs hn hl
    have hut : u.tidy := hu ▸ atTurn_tidy ht pos
    obtain ⟨q, he, ho⟩ := dispatch_of_due (fun e _ t => runNetAccept e t) {} hu hd hh hp
    rw [runNetAccept_of_fresh hr hs hn hl] at he ho
    rw [addWrites, addActs_eq_seq, ← addWrites] at he
    have hx := subSt_putSub (subs_wf_of_tidy hut) (bitsOf k 8 0) (subAccepted i (subSt u (bitsOf k 8 0)))
    have hout (h0 : 0 < i.lines) := addWrites_inst ⟨0x24, 0x13, k, 0, 0, 0, seqSlot s, pos⟩ i h0
      (16 * cfgNat u 0x0A02 (bitsOf k 8 0) 4 2) u.now
      (pmcInc 133 (putSub (bitsOf k 8 0) (subAccepted i (subSt u (bitsOf k 8 0))) u))
    refine ⟨_, congrArg Host.Outcome.next he, congrArg SubSt.ready hx, congrArg SubSt.accepted hx, congrArg SubSt.age hx,
      fun h0 => ?_, fun h0 => ?_, rfl⟩
    · obtain ⟨o, hq, hoe, hwords, hlast, -⟩ := hout h0
      rw [Leaves, ho, hq, List.map_append, List.map_singleton, hoe, hwords, hlast]
      rfl
    · obtain ⟨o, hq, -, -, -, htodo⟩ := hout h0
      rw [ho, hq, List.getLast?_concat, Option.map_some, htodo]
      rfl

end Sys2Proof.Machine
end

/-! ## Every step keeps the canonical form (R47, R117, R179) -/
section
namespace Sys2Proof.Machine

/-- Every command obeys a law of flows, under the mask of the fields that its own meaning leaves alone. -/
theorem exec_flows {i : Instr} {s t : State} (h : exec i s = .next t) : ∃ K, Flows K s t := by
  cases i with
  | supplyValid => exact ⟨_, execSupplyValid_flows h⟩
  | coldHoldRelease => exact ⟨_, execColdHoldRelease_flows h⟩
  | resetRelease => exact ⟨_, execResetRelease_flows h⟩
  | laneSelfTestDone => exact ⟨_, execLaneSelfTestDone_flows h⟩
  | sheafBankCheck => exact ⟨_, execSheafBankCheck_flows h⟩
  | bringupStart => exact ⟨_, execBringupStart_flows h⟩
  | slotBHeartbeatWaitEnd => exact ⟨_, execSlotBHeartbeatWaitEnd_flows h⟩
  | sessionGateOpen => exact ⟨_, execSessionGateOpen_flows h⟩
  | admissionWindow => exact ⟨_, execAdmissionWindow_flows h⟩
  | fullService => exact ⟨_, execFullService_flows h⟩
  | startLate => exact ⟨_, execStartLate_flows h⟩
  | powerFail => exact ⟨_, execPowerFail_flows h⟩
  | shutdownStart => exact ⟨_, execShutdownStart_flows h⟩
  | shutdownBoundary => exact ⟨_, execShutdownBoundary_flows h⟩
  | shutdownShed => exact ⟨_, execShutdownShed_flows h⟩
  | stageLetGoTimeout => exact ⟨_, execStageLetGoTimeout_flows h⟩
  | domainOff => exact ⟨_, execDomainOff_flows h⟩
  | supplyLow => exact ⟨_, execSupplyLow_flows h⟩
  | surge => exact ⟨_, execSurge_flows h⟩
  | inputPowerHigh => exact ⟨_, execInputPowerHigh_flows h⟩
  | brownOut => exact ⟨_, execBrownOut_flows h⟩
  | moduleReset => exact ⟨_, execModuleReset_flows h⟩
  | tamper => exact ⟨_, execTamper_flows h⟩
  | tamperClr => exact ⟨_, execTamperClr_flows h⟩
  | buttonRelease => exact ⟨_, execButtonRelease_flows h⟩
  | buttonStuck => exact ⟨_, execButtonStuck_flows h⟩
  | buttonStuckClear => exact ⟨_, execButtonStuckClear_flows h⟩
  | unprotArmExpire => exact ⟨_, execUnprotArmExpire_flows h⟩
  | sysReset => exact ⟨_, execSysReset_flows h⟩
  | identify => exact ⟨_, execIdentify_flows h⟩
  | identifyEnd => exact ⟨_, execIdentifyEnd_flows h⟩
  | slotBoundary => exact ⟨_, execSlotBoundary_flows h⟩
  | minorCycleBoundary => exact ⟨_, execMinorCycleBoundary_flows h⟩
  | majorCycleBoundary => exact ⟨_, execMajorCycleBoundary_flows h⟩
  | configTakeEffect => exact ⟨_, execConfigTakeEffect_flows h⟩
  | pageCommitArm => exact ⟨_, execPageCommitArm_flows h⟩
  | pageCommitApply => exact ⟨_, execPageCommitApply_flows h⟩
  | toothEdge => exact ⟨_, execToothEdge_flows h⟩
  | indexEdge => exact ⟨_, execIndexEdge_flows h⟩
  | piLineFault => exact ⟨_, execPiLineFault_flows h⟩
  | piStall => exact ⟨_, execPiStall_flows h⟩
  | shaftQueueDispatch => exact ⟨_, execShaftQueueDispatch_flows h⟩
  | standstillListRun => exact ⟨_, execStandstillListRun_flows h⟩
  | ptpSync => exact ⟨_, execPtpSync_flows h⟩
  | shipHoldover => exact ⟨_, execShipHoldover_flows h⟩
  | bankSwap => exact ⟨_, execBankSwap_flows h⟩
  | laneStop => exact ⟨_, execLaneStop_flows h⟩
  | dispatchAfterWait => exact ⟨_, execDispatchAfterWait_flows h⟩
  | nop => exact ⟨_, execNop_flows h⟩
  | achStart => exact ⟨_, execAchStart_flows h⟩
  | achLatch => exact ⟨_, execAchLatch_flows h⟩
  | windowOverrun => exact ⟨_, execWindowOverrun_flows h⟩
  | bringupConversion => exact ⟨_, execBringupConversion_flows h⟩
  | miswire => exact ⟨_, execMiswire_flows h⟩
  | miswireClear => exact ⟨_, execMiswireClear_flows h⟩
  | recal => exact ⟨_, execRecal_flows h⟩
  | calibrationEnd => exact ⟨_, execCalibrationEnd_flows h⟩
  | fieldAlarm => exact ⟨_, execFieldAlarm_flows h⟩
  | outRestore => exact ⟨_, execOutRestore_flows h⟩
  | mismatchClearApply => exact ⟨_, execMismatchClearApply_flows h⟩
  | loopOverload => exact ⟨_, execLoopOverload_flows h⟩
  | overloadRetry => exact ⟨_, execOverloadRetry_flows h⟩
  | railFail => exact ⟨_, execRailFail_flows h⟩
  | railRecover => exact ⟨_, execRailRecover_flows h⟩
  | lspPowerHigh => exact ⟨_, execLspPowerHigh_flows h⟩
  | hartSend => exact ⟨_, execHartSend_flows h⟩
  | hartAbort => exact ⟨_, execHartAbort_flows h⟩
  | hartBusFree => exact ⟨_, execHartBusFree_flows h⟩
  | hartTxDone => exact ⟨_, execHartTxDone_flows h⟩
  | hartFrameReceived => exact ⟨_, execHartFrameReceived_flows h⟩
  | hartNoResponse => exact ⟨_, execHartNoResponse_flows h⟩
  | hartRxLenRead => exact ⟨_, execHartRxLenRead_flows h⟩
  | dioSample => exact ⟨_, execDioSample_flows h⟩
  | dioDrive => exact ⟨_, execDioDrive_flows h⟩
  | diQualify => exact ⟨_, execDiQualify_flows h⟩
  | fsLow => exact ⟨_, execFsLow_flows h⟩
  | fsLowClear => exact ⟨_, execFsLowClear_flows h⟩
  | testPulse => exact ⟨_, execTestPulse_flows h⟩
  | lineStateChange => exact ⟨_, execLineStateChange_flows h⟩
  | outputShort => exact ⟨_, execOutputShort_flows h⟩
  | outputRetry => exact ⟨_, execOutputRetry_flows h⟩
  | pulseEnd => exact ⟨_, execPulseEnd_flows h⟩
  | piuLatch => exact ⟨_, execPiuLatch_flows h⟩
  | gmuSnap => exact ⟨_, execGmuSnap_flows h⟩
  | synArm => exact ⟨_, execSynArm_flows h⟩
  | synSettled => exact ⟨_, execSynSettled_flows h⟩
  | closeIssued => exact ⟨_, execCloseIssued_flows h⟩
  | closeDone => exact ⟨_, execCloseDone_flows h⟩
  | synTimeout => exact ⟨_, execSynTimeout_flows h⟩
  | armStale => exact ⟨_, execArmStale_flows h⟩
  | disarm => exact ⟨_, execDisarm_flows h⟩
  | synFeedback => exact ⟨_, execSynFeedback_flows h⟩
  | imgCopy => exact ⟨_, execImgCopy_flows h⟩
  | cleRun => exact ⟨_, execCleRun_flows h⟩
  | cleRunDeferredStart => exact ⟨_, execCleRunDeferredStart_flows h⟩
  | oscAck => exact ⟨_, execOscAck_flows h⟩
  | slvStart => exact ⟨_, execSlvStart_flows h⟩
  | solverJobStart => exact ⟨_, execSolverJobStart_flows h⟩
  | solverJobEnd => exact ⟨_, execSolverJobEnd_flows h⟩
  | slvDeadline => exact ⟨_, execSlvDeadline_flows h⟩
  | laneCheckDone => exact ⟨_, execLaneCheckDone_flows h⟩
  | slvCollect => exact ⟨_, execSlvCollect_flows h⟩
  | wedged => exact ⟨_, execWedged_flows h⟩
  | safExport => exact ⟨_, execSafExport_flows h⟩
  | safetyInputChange => exact ⟨_, execSafetyInputChange_flows h⟩
  | discrepancy => exact ⟨_, execDiscrepancy_flows h⟩
  | safetyTestSourcePulse => exact ⟨_, execSafetyTestSourcePulse_flows h⟩
  | resetPressRelease => exact ⟨_, execResetPressRelease_flows h⟩
  | resetStuck => exact ⟨_, execResetStuck_flows h⟩
  | resetStuckClear => exact ⟨_, execResetStuckClear_flows h⟩
  | channelCompare => exact ⟨_, execChannelCompare_flows h⟩
  | faultWaitExpire => exact ⟨_, execFaultWaitExpire_flows h⟩
  | soPulseTest => exact ⟨_, execSoPulseTest_flows h⟩
  | brakeReleaseTimeout => exact ⟨_, execBrakeReleaseTimeout_flows h⟩
  | brakeApplyTimeout => exact ⟨_, execBrakeApplyTimeout_flows h⟩
  | btDue => exact ⟨_, execBtDue_flows h⟩
  | btStart => exact ⟨_, execBtStart_flows h⟩
  | btConfirmTimeout => exact ⟨_, execBtConfirmTimeout_flows h⟩
  | btTimeEnd => exact ⟨_, execBtTimeEnd_flows h⟩
  | safetyPiEdge => exact ⟨_, execSafetyPiEdge_flows h⟩
  | safetyRecordPeriodic => exact ⟨_, execSafetyRecordPeriodic_flows h⟩
  | safetyRecordReceived => exact ⟨_, execSafetyRecordReceived_flows h⟩
  | storeStale => exact ⟨_, execStoreStale_flows h⟩
  | safetyTakeover => exact ⟨_, execSafetyTakeover_flows h⟩
  | safetyHandover => exact ⟨_, execSafetyHandover_flows h⟩
  | safetySelfTestDone => exact ⟨_, execSafetySelfTestDone_flows h⟩
  | safKeyInstall => exact ⟨_, execSafKeyInstall_flows h⟩
  | safKeyErase => exact ⟨_, execSafKeyErase_flows h⟩
  | mbcSend => exact ⟨_, execMbcSend_flows h⟩
  | mbcMap => exact ⟨_, execMbcMap_flows h⟩
  | txAttempt => exact ⟨_, execTxAttempt_flows h⟩
  | txAttemptEnd => exact ⟨_, execTxAttemptEnd_flows h⟩
  | canFrameReceived => exact ⟨_, execCanFrameReceived_flows h⟩
  | busError => exact ⟨_, execBusError_flows h⟩
  | recovered => exact ⟨_, execRecovered_flows h⟩
  | recover => exact ⟨_, execRecover_flows h⟩
  | mslMap => exact ⟨_, execMslMap_flows h⟩
  | mslSentence => exact ⟨_, execMslSentence_flows h⟩
  | mslSilent => exact ⟨_, execMslSilent_flows h⟩
  | netPublish => exact ⟨_, execNetPublish_flows h⟩
  | netAccept => exact ⟨_, execNetAccept_flows h⟩
  | pubDatagramRx => exact ⟨_, execPubDatagramRx_flows h⟩
  | sfpInsert => exact ⟨_, execSfpInsert_flows h⟩
  | linkChange => exact ⟨_, execLinkChange_flows h⟩
  | pathFault => exact ⟨_, execPathFault_flows h⟩
  | supervisionFrame => exact ⟨_, execSupervisionFrame_flows h⟩
  | qapOpen => exact ⟨_, execQapOpen_flows h⟩
  | qapProve => exact ⟨_, execQapProve_flows h⟩
  | lockoutExpire => exact ⟨_, execLockoutExpire_flows h⟩
  | provingTimeout => exact ⟨_, execProvingTimeout_flows h⟩
  | qapRead => exact ⟨_, execQapRead_flows h⟩
  | qapWrite => exact ⟨_, execQapWrite_flows h⟩
  | qapModify => exact ⟨_, execQapModify_flows h⟩
  | qapSubscribe => exact ⟨_, execQapSubscribe_flows h⟩
  | qapFreeze => exact ⟨_, execQapFreeze_flows h⟩
  | qapUnfreeze => exact ⟨_, execQapUnfreeze_flows h⟩
  | qapCommit => exact ⟨_, execQapCommit_flows h⟩
  | qapClose => exact ⟨_, execQapClose_flows h⟩
  | idleTimeout => exact ⟨_, execIdleTimeout_flows h⟩
  | evtRawClear => exact ⟨_, execEvtRawClear_flows h⟩
  | evtEnWrite => exact ⟨_, execEvtEnWrite_flows h⟩
  | lockWrite => exact ⟨_, execLockWrite_flows h⟩
  | tagWindowWrite => exact ⟨_, execTagWindowWrite_flows h⟩
  | operatorWordWrite => exact ⟨_, execOperatorWordWrite_flows h⟩
  | registerWrite => exact ⟨_, execRegisterWrite_flows h⟩
  | sesKeyInstall => exact ⟨_, execSesKeyInstall_flows h⟩
  | sesKeyErase => exact ⟨_, execSesKeyErase_flows h⟩
  | heartbeatRx => exact ⟨_, execHeartbeatRx_flows h⟩
  | heartbeatCheck => exact ⟨_, execHeartbeatCheck_flows h⟩
  | tokenLineChange => exact ⟨_, execTokenLineChange_flows h⟩
  | clockStop => exact ⟨_, execClockStop_flows h⟩
  | takeover => exact ⟨_, execTakeover_flows h⟩
  | sluCopy => exact ⟨_, execSluCopy_flows h⟩
  | sluiceFrameRx => exact ⟨_, execSluiceFrameRx_flows h⟩
  | copyLost => exact ⟨_, execCopyLost_flows h⟩
  | sluiceLane => exact ⟨_, execSluiceLane_flows h⟩
  | syncDone => exact ⟨_, execSyncDone_flows h⟩
  | swap => exact ⟨_, execSwap_flows h⟩
  | plannedSwapBoundary => exact ⟨_, execPlannedSwapBoundary_flows h⟩
  | plannedSwapRelease => exact ⟨_, execPlannedSwapRelease_flows h⟩
  | hold => exact ⟨_, execHold_flows h⟩
  | resume => exact ⟨_, execResume_flows h⟩
  | clrLatent => exact ⟨_, execClrLatent_flows h⟩
  | idleHour => exact ⟨_, execIdleHour_flows h⟩
  | grnTick => exact ⟨_, execGrnTick_flows h⟩
  | recordCommit => exact ⟨_, execRecordCommit_flows h⟩
  | freezeExpired => exact ⟨_, execFreezeExpired_flows h⟩
  | grnClear => exact ⟨_, execGrnClear_flows h⟩
  | grnEraseDone => exact ⟨_, execGrnEraseDone_flows h⟩
  | pmcSnap => exact ⟨_, execPmcSnap_flows h⟩
  | pmcMark => exact ⟨_, execPmcMark_flows h⟩
  | counterWrap => exact ⟨_, execCounterWrap_flows h⟩
  | progWatchdog => exact ⟨_, execProgWatchdog_flows h⟩
  | progMemoryFault => exact ⟨_, execProgMemoryFault_flows h⟩
  | progRestart => exact ⟨_, execProgRestart_flows h⟩
  | progStart => exact ⟨_, execProgStart_flows h⟩
  | progStop => exact ⟨_, execProgStop_flows h⟩
  | progDatagram => exact ⟨_, execProgDatagram_flows h⟩
  | sensorLimit => exact ⟨_, execSensorLimit_flows h⟩
  | updBegin => exact ⟨_, execUpdBegin_flows h⟩
  | stagingWrite => exact ⟨_, execStagingWrite_flows h⟩
  | updCheck => exact ⟨_, execUpdCheck_flows h⟩
  | updCheckDone => exact ⟨_, execUpdCheckDone_flows h⟩
  | updProgram => exact ⟨_, execUpdProgram_flows h⟩
  | updProgramDone => exact ⟨_, execUpdProgramDone_flows h⟩
  | activateAt => exact ⟨_, execActivateAt_flows h⟩
  | preloadDone => exact ⟨_, execPreloadDone_flows h⟩
  | sheafActivate => exact ⟨_, execSheafActivate_flows h⟩
  | activateReset => exact ⟨_, execActivateReset_flows h⟩
  | updAbort => exact ⟨_, execUpdAbort_flows h⟩
  | progActivationFail => exact ⟨_, execProgActivationFail_flows h⟩
  | fpdRefresh => exact ⟨_, execFpdRefresh_flows h⟩
  | lcdAutoCompose => exact ⟨_, execLcdAutoCompose_flows h⟩
  | lcdFrame => exact ⟨_, execLcdFrame_flows h⟩
  | fpdUpdate => exact ⟨_, execFpdUpdate_flows h⟩
  | fpdClear => exact ⟨_, execFpdClear_flows h⟩
  | panelFrame => exact ⟨_, execPanelFrame_flows h⟩
  | panelRailFault => exact ⟨_, execPanelRailFault_flows h⟩
  | hartStartCharacter => exact ⟨_, execHartStartCharacter_flows h⟩
  | ptpDelayResponse => exact ⟨_, execPtpDelayResponse_flows h⟩
  | sluiceLaneUp => exact ⟨_, execSluiceLaneUp_flows h⟩
  | safetySupplyBrownOut => exact ⟨_, execSafetySupplyBrownOut_flows h⟩
  | soOvercurrent => exact ⟨_, execSoOvercurrent_flows h⟩
  | soTerminalStuck => exact ⟨_, execSoTerminalStuck_flows h⟩
  | coilCurrentLost => exact ⟨_, execCoilCurrentLost_flows h⟩
  | laneCEngineTest => exact ⟨_, execLaneCEngineTest_flows h⟩
  | sensorFault => exact ⟨_, execSensorFault_flows h⟩
  | panelRailUp => exact ⟨_, execPanelRailUp_flows h⟩
  | discreteStageLetGo => exact ⟨_, execDiscreteStageLetGo_flows h⟩
  | buttonPress => exact ⟨_, execButtonPress_flows h⟩

/-- A clock that passes and a command that is taken keep the canonical form. -/
theorem step_tidy {s t : State} (hs : s.tidy) (h : step s = .next t) : t.tidy := by
  cases hp : s.pending with
  | nil =>
    rw [step, hp, Host.Outcome.next.injEq] at h
    exact h ▸ advanceTo_tidy hs _
  | cons c r =>
    rw [step, hp] at h
    obtain ⟨K, hf⟩ := exec_flows h
    exact hf.tidy hs

/-- Settles O58: a clock passes by `advanceTo`, and every command obeys its law of flows, which carries the canonical form. -/
theorem canonicalFormIsKept : Obligations.CanonicalFormIsKept := by
  unfold Obligations.CanonicalFormIsKept
  exact fun s t => step_tidy

end Sys2Proof.Machine
end

/-! ## Writes of one word that pass the checks, and orders written to CTRL (R51, R53, R55, R60) -/
section
namespace Sys2Proof.Machine

/-- A write of all 32 bits of a word gives it the value written (R53). -/
theorem newWord_of_full_mask (s : State) (a : Nat) {v : Nat} (hv : v < 2 ^ 32) : newWord s ⟨a, v, 0xFFFFFFFF⟩ = v := by
  have hm : v &&& 0xFFFFFFFF = v := by
    rw [show 0xFFFFFFFF = 2 ^ 32 - 1 from rfl, Nat.and_two_pow_sub_one_eq_mod, Nat.mod_eq_of_lt hv]
  simp only [newWord, hm, Nat.xor_self, Nat.and_zero, Nat.zero_or]
  split <;> rfl

/-- A write of one word that passes the checks of R60 is applied. -/
theorem writeReg_of_accepts {s : State} {sess a v : Nat} (h : Accepts s sess a v) :
    writeReg sess a v s = applyWords sess [⟨a, v % 2 ^ 32, 0xFFFFFFFF⟩] (asked s) := by
  obtain ⟨hopen, htaken, hpass⟩ := h
  have hw : writeReg sess a v s = writeWords sess [⟨a, v % 2 ^ 32, 0xFFFFFFFF⟩] (asked s) := if_pos hopen
  rw [hw, writeWords, htaken, if_neg Bool.false_ne_true]
  exact if_pos hpass

/-- One word that is an order, on a page whose writes touch neither discrete lines nor message buses, does what the order says. -/
theorem applyWords_order {w : ReqWord} (hr : mapRow w.a = some 0) (ho : isOrder w.a = true)
    (hd : blockOf (pageOf w.a) ≠ some .dio) (hm : blockOf (pageOf w.a) ≠ some .mbc) (sess : Nat) (s : State) :
    applyWords sess [w] s = orderWrite sess w.a (newWord s w) s := by
  have h0 : (mapRow w.a == some 0) = true := by rw [hr]; rfl
  have h1 : (mapRow w.a == some 1) = false := by rw [hr]; rfl
  simp only [applyWords, List.filter_cons, List.filter_nil, List.map_cons, List.map_nil, List.any_cons, List.any_nil, each, when_,
    List.foldl_cons, List.foldl_nil, h0, h1, ho, beq_false_of_ne hd, beq_false_of_ne hm, Bool.false_and, Bool.and_false,
    Bool.or_self, Bool.not_true, Bool.not_false, if_true, if_false, Bool.false_eq_true]
  -- not by rewriting with `hr`: the kernel would compare the match with `orderWrite` unfolded
  split
  · rfl
  · next h => exact absurd (hr.symm.trans h) (by decide)
  · next h => exact absurd (hr.symm.trans h) (by decide)
  · next h _ _ => exact absurd hr h

theorem ctrl_eq_regAddr (p : Nat) : Reg.ctrl p = regAddr p 0x008 := by
  rw [Reg.ctrl, regAddr]
  omega

/-- A write of CTRL that passes the checks of R60, on a page whose writes touch neither discrete lines nor message buses. -/
theorem writeReg_ctrl {s : State} {sess p v : Nat} (hp : p < 64) (hv : v < 2 ^ 32) (hd : blockOf p ≠ some .dio)
    (hm : blockOf p ≠ some .mbc) (h : Accepts s sess (Reg.ctrl p) v) :
    writeReg sess (Reg.ctrl p) v s = ctrlWrite sess p v (asked s) := by
  have hoff : offOf (Reg.ctrl p) = 0x008 := by rw [ctrl_eq_regAddr, offOf_regAddr p (by decide)]
  have hpage : pageOf (Reg.ctrl p) = p := by rw [ctrl_eq_regAddr, pageOf_regAddr p (by decide)]
  have hrow : mapRow (Reg.ctrl p) = some 0 := by rw [ctrl_eq_regAddr, mapRow_regAddr hp (by decide)]
  have hord : isOrder (Reg.ctrl p) = true := by simp [isOrder, hoff]
  have hact := applyWords_order (w := ⟨Reg.ctrl p, v, 0xFFFFFFFF⟩) hrow hord (by rwa [hpage]) (by rwa [hpage]) sess (asked s)
  rw [writeReg_of_accepts h, Nat.mod_eq_of_lt hv, hact, newWord_of_full_mask _ _ hv, orderWrite, if_pos hoff, hpage]

end Sys2Proof.Machine
end

/-! ## Orders to the module: BT_START in FAULT_WAIT (R444, R466) -/
section
namespace Sys2Proof.Machine

/-- A write of SAF.CTRL that starts the test of brake n alone. -/
theorem ctrlWrite_btStart (sess : Nat) (n : Fin 2) (s : State) : ctrlWrite sess 0x0D (2 ^ n.val) s = btStart n s := by
  have hc (v : Nat) : ctrlWrite sess 0x0D v s = when_ (bitOf v 1) (btStart 1) (when_ (bitOf v 0) (btStart 0) s) := rfl
  rw [hc]
  match n with
  | 0 => rfl
  | 1 => rfl

/-- R466: an accepted BT_START is the order to its brake, and nothing besides. -/
theorem exec_btStart_of_accepts {s : State} {sess : Fin 17} {n : Fin 2} (h : Accepts s sess.val (Reg.ctrl 0x0D) (2 ^ n.val)) :
    exec (.btStart sess n) s = .next (btStart n.val (asked s)) := by
  have hv : 2 ^ n.val < 2 ^ 32 := Nat.pow_lt_pow_right (by decide) (by omega)
  rw [exec, execBtStart, writeReg_ctrl (by decide) hv (by decide) (by decide) h, ctrlWrite_btStart]

/-- Only a LIVE unit starts a test by order; in FAULT_WAIT, where it still drives outputs and brakes, it starts none. -/
theorem btStart_of_not_live {s : State} (h : s.saf.unit ≠ 2) (n : Nat) : btStart n s = s :=
  if_neg (fun ⟨_, hlive, _⟩ => h hlive)

/-- An ACTIVE module with a STANDBY partner whose safety unit is in FAULT_WAIT after a channel fault (R444). Brake 0 is applied;
its one group takes input 0, which is on, so that it permits, and its RELEASE_IN, input 2, is off. -/
def faultWaiting : State :=
  { [(Reg.safInCfg 0, 1), (Reg.safGroupCfg 0, 0x10001), (Reg.safOutCfg 6, 0x101), (Reg.safBkIo 0, 2),
      (Reg.redPartner, 0x100 + roleStandby), (Reg.sysRole, roleActive), (Reg.sesIntRole, 3)].foldl
        (fun t e => wr e.1 e.2 t) State.reset with
    saf := { unit := 3, chFault := true, q := 1 } }

theorem accepts_btStart_faultWaiting : Accepts faultWaiting 16 (Reg.ctrl 0x0D) 1 := by decide +kernel

/-- Refutes O36: its last clause asks of a unit that drives its brakes only that it starts the test, yet in FAULT_WAIT, where the
unit still drives them, an accepted BT_START of an applied, permitted brake leaves the brake as it is. -/
theorem not_systemOrders : ¬ Obligations.SystemOrders := by
  unfold Obligations.SystemOrders
  intro h
  obtain ⟨-, -, -, -, -, -, -, -, -, -, hstart⟩ := h faultWaiting (by decide +kernel)
  have hpermit : grpsPermit faultWaiting (bkGroups faultWaiting 0) = true := by decide +kernel
  obtain ⟨t, ht, htest, -⟩ := hstart 16 0 accepts_btStart_faultWaiting (by decide +kernel) (by decide) (by decide) hpermit
    (by decide +kernel)
  rw [exec_btStart_of_accepts (n := 0) accepts_btStart_faultWaiting, btStart_of_not_live (by decide),
    Host.Outcome.next.injEq] at ht
  subst ht
  obtain ⟨hby, -⟩ := htest hpermit
  exact absurd hby (by decide)

end Sys2Proof.Machine
end

/-! ## ACH_LATCH in the bring-up schedule, on a module that listens (R207, R236, R240) -/
section
namespace Sys2Proof.Machine

/-- The readings that a latch takes of its channel leave every register but the two temperatures alone (R223, R243). -/
theorem within_latchTemps (n : Nat) (m : AchMeas) (s : State) :
    Within [Reg.achFeTemp n, Reg.achCjTemp n] s (latchTemps n m s) :=
  (within_wr (by simp) _ s).trans (within_when (fun _ => within_wr (by simp) _ _) _ _)

@[simp] theorem latchTemps_ach (n : Nat) (m : AchMeas) (s : State) : (latchTemps n m s).ach = s.ach :=
  (latchTemps_flows rfl (Flows.refl 240518111194 s)).ach.resolve_left (by decide)

@[simp] theorem latchTemps_seq (n : Nat) (m : AchMeas) (s : State) : (latchTemps n m s).seq = s.seq :=
  (latchTemps_flows rfl (Flows.refl 240518111194 s)).seq.resolve_left (by decide)

@[simp] theorem latchTemps_effOld (n : Nat) (m : AchMeas) (s : State) : (latchTemps n m s).effOld = s.effOld :=
  (latchTemps_flows rfl (Flows.refl 240518111194 s)).effOld.resolve_left (by decide)

/-- A latch reads its temperatures without touching the mode in force. -/
theorem achMode_latchTemps {s : State} (h : s.tidy) (n : Nat) (m : AchMeas) : achMode (latchTemps n m s) n = achMode s n := by
  have hcfg : rd (latchTemps n m s) (Reg.achCfg n) = rd s (Reg.achCfg n) :=
    (within_latchTemps n m s h).2 _ (by simp [Reg.achFeTemp, Reg.achCjTemp, Reg.achCfg])
  simp only [achMode, effFld, effRd, latchTemps_effOld, hcfg]

theorem achIsOut_congr {s t : State} {n : Nat} (h : achMode t n = achMode s n) : achIsOut t n = achIsOut s n := by
  simp only [achIsOut, h]

/-- R236: in the bring-up schedule an ACH_LATCH of an input without a completed conversion reads the temperatures, and nothing
besides: the windows of the channel stay. -/
theorem achLatch_of_bringup_without_conversion {s : State} (h : s.tidy) {n : Nat} (hm : achMode s n ≠ 0)
    (hi : achIsOut s n = false) (hs : s.seq.sched = 1) (hc : (ach s n).conv = none) {e : Entry} (he : e.target = 0x20 + n)
    (image : Bool) (io : EntryIo) : achLatch image e io s = latchTemps n io.meas s := by
  have hn : e.target - 0x20 = n := by omega
  have hmode := achMode_latchTemps h n io.meas
  have hb : (latchTemps n io.meas s).seq.sched = 1 ∧ achIsOut (latchTemps n io.meas s) n = false :=
    ⟨by rw [latchTemps_seq, hs], by rw [achIsOut_congr hmode, hi]⟩
  have hconv : (ach (latchTemps n io.meas s) n).conv = none := by rw [ach, latchTemps_ach]; exact hc
  simp only [achLatch, hn, hmode, if_neg hm, if_pos hb, latchBringup, hconv]

theorem keepsConverting_mode {s : State} {n : Nat} (h : keepsConverting s n = true) : achMode s n = 1 ∨ achMode s n = 9 := by
  simp only [keepsConverting, Bool.and_eq_true, Bool.or_eq_true, beq_iff_eq] at h
  exact h.2

/-- An input that keeps converting on a module that listens in the bring-up schedule, dispatching nothing: its ACH_LATCH keeps the
windows where no conversion has completed. -/
theorem exec_achLatch_of_bringup_without_conversion {s : State} (h : s.tidy) {ch : Fin 32} (hk : keepsConverting s ch.val = true)
    (hd : dispatching s = false) (hs : s.seq.sched = 1) (hc : (ach s ch.val).conv = none) (pos dst status : Nat) (meas : AchMeas) :
    exec (.achLatch pos ch dst status meas) s = .next (latchTemps ch.val meas s) := by
  have hm := keepsConverting_mode hk
  have hi : achIsOut s ch.val = false := by
    rcases hm with hm | hm <;> simp [achIsOut, hm]
  rw [exec, execAchLatch, if_pos ⟨hk, hd⟩, achLatch_of_bringup_without_conversion h (by omega) hi hs hc rfl]

/-- A SYNCING module in bring-up service whose supervisor has ended the dispatching (R583): channel 0, a voltage input, holds a window
of 8 slots that waits for its latch, and no conversion of it has completed. -/
def listeningInBringup : State :=
  { wr (Reg.achCfg 0) 1 (wr Reg.sysRole roleSyncing State.reset) with
    seq := { sched := 1, halted := true }
    ach := [(0, { prev := some { slots := 8, decl := 512 } })] }

/-- Refutes O13: its last clause does not leave out the bring-up schedule, in which an ACH_LATCH of an input latches the last
completed conversion instead of a window (R236). On `listeningInBringup` there is none, and the window stays. -/
theorem not_channelStartAndLatch : ¬ Obligations.ChannelStartAndLatch := by
  unfold Obligations.ChannelStartAndLatch
  intro h
  have ht : listeningInBringup.tidy := by decide +kernel
  have hk : keepsConverting listeningInBringup (0 : Fin 32).val = true := by decide +kernel
  obtain ⟨-, -, -, -, -, -, -, -, hlatch⟩ := h listeningInBringup ht
  obtain ⟨t, he, -, hprev, -⟩ := hlatch 0 0 0 0 {} { slots := 8, decl := 512 } (by decide) hk (by decide) rfl (by decide)
  rw [exec_achLatch_of_bringup_without_conversion ht hk (by decide) rfl (by decide), Host.Outcome.next.injEq] at he
  rw [← he, ach, latchTemps_ach] at hprev
  exact absurd hprev (by decide)

end Sys2Proof.Machine
end

/-! ## Orders to the message buses (R505, R506) -/
section
namespace Sys2Proof.Machine

/-- R505, R506: what the four controllers do of themselves when a word of an MBC page is written. -/
def mbcJudged (s : State) : State := each (List.range 4) mbcJudge s

/-- One word that is an order, on a page of a message bus: the controllers are judged before the order acts. -/
theorem applyWords_mbcOrder {w : ReqWord} (hr : mapRow w.a = some 0) (ho : isOrder w.a = true)
    (hm : blockOf (pageOf w.a) = some .mbc) (sess : Nat) (s : State) :
    applyWords sess [w] s = orderWrite sess w.a (newWord s w) (mbcJudged s) := by
  have h0 : (mapRow w.a == some 0) = true := by rw [hr]; rfl
  have h1 : (mapRow w.a == some 1) = false := by rw [hr]; rfl
  have hd : (some Block.mbc == some Block.dio) = false := rfl
  simp only [applyWords, List.filter_cons, List.filter_nil, List.map_cons, List.map_nil, List.any_cons, List.any_nil, each, when_,
    List.foldl_cons, List.foldl_nil, h0, h1, ho, hm, hd, beq_self_eq_true, Bool.and_false, Bool.and_true, Bool.false_and,
    Bool.or_false, Bool.not_true, Bool.not_false, if_true, if_false, Bool.false_eq_true, mbcJudged]
  -- not by rewriting with `hr`: the kernel would compare the match with `orderWrite` unfolded
  split
  · rfl
  · next h => exact absurd (hr.symm.trans h) (by decide)
  · next h => exact absurd (hr.symm.trans h) (by decide)
  · next h _ _ => exact absurd hr h

theorem blockOf_mbcPage (n : Fin 4) : blockOf (0x0E + n.val) = some .mbc := by
  revert n
  decide

/-- R506: an accepted RECOVER judges every controller, and then recovers its own. -/
theorem exec_recover_of_accepts {s : State} {sess : Fin 17} {n : Fin 4} (h : Accepts s sess.val (Reg.ctrl (0x0E + n.val)) 1) :
    exec (.recover sess n) s = .next (mbcRecover n.val (mbcJudged (asked s))) := by
  have hblock := blockOf_mbcPage n
  have ha := ctrl_eq_regAddr (0x0E + n.val)
  have hoff : offOf (Reg.ctrl (0x0E + n.val)) = 0x008 := by rw [ha, offOf_regAddr _ (by decide)]
  have hpage : pageOf (Reg.ctrl (0x0E + n.val)) = 0x0E + n.val := by rw [ha, pageOf_regAddr _ (by decide)]
  have hrow : mapRow (Reg.ctrl (0x0E + n.val)) = some 0 := by rw [ha, mapRow_regAddr (by omega) (by decide)]
  have hord : isOrder (Reg.ctrl (0x0E + n.val)) = true := by simp [isOrder, hoff]
  have hact := applyWords_mbcOrder (w := ⟨Reg.ctrl (0x0E + n.val), 1, 0xFFFFFFFF⟩) hrow hord (by rw [hpage, hblock]) sess (asked s)
  have hctrl (t : State) : ctrlWrite sess (0x0E + n.val) 1 t = mbcRecover n.val t := by
    have hn : 0x0E + n.val - 0x0E = n.val := by omega
    rw [ctrlWrite, hblock]
    simp only [hn]
    rfl
  rw [exec, execRecover, writeReg_of_accepts h, show 1 % 2 ^ 32 = 1 from rfl, hact, newWord_of_full_mask _ _ (by decide), orderWrite,
    if_pos hoff, hpage, hctrl]

/-- RECOVER leaves a controller that is not bus-off alone. -/
theorem mbcRecover_of_not_busOff {s : State} {n : Nat} (h : (mbc s n).err ≠ 2) : mbcRecover n s = s := if_neg h

/-- A module whose internal session writes as custodian. Controller 1 is bus-off, and its CFG.AUTO_RECOVER is set. -/
def busOffBeside : State :=
  { wr (Reg.mbcCfg 1) (2 ^ 16) (wr Reg.sesIntRole 3 State.reset) with mbc := [(1, { err := 2 })] }

/-- Refutes O35: it leaves the module as it was after a RECOVER of a controller that is not bus-off. On `busOffBeside` the write of
MBC0.CTRL, as any write of an MBC page, also starts the recovery of controller 1. -/
theorem not_channelOrders : ¬ Obligations.ChannelOrders := by
  unfold Obligations.ChannelOrders
  intro h
  have hacc : Accepts busOffBeside (16 : Fin 17).val (Reg.ctrl (0x0E + (0 : Fin 4).val)) 1 := by decide +kernel
  obtain ⟨-, -, -, -, -, -, -, -, -, -, -, -, hrecover, -⟩ := h busOffBeside (by decide +kernel)
  obtain ⟨t, he, hs⟩ := hrecover 16 0 hacc (by decide)
  rw [exec_recover_of_accepts hacc, mbcRecover_of_not_busOff (by decide +kernel), hs, Host.Outcome.next.injEq] at he
  have hjudged : (mbc (mbcJudged (asked busOffBeside)) 1).recovering = true := by decide +kernel
  rw [he] at hjudged
  exact absurd hjudged (by decide)

end Sys2Proof.Machine
end

/-! ## The registers and the stores of the universal channels: what a flag, an event and a stored channel leave alone -/
section
namespace Sys2Proof.Machine

/-- Raising an event leaves every register that is not an EVT_RAW. -/
theorem rd_raise_of_offset {s : State} (h : s.tidy) (p b : Nat) {a : Nat} (ha : a % 0x1000 ≠ 0x010) :
    rd (raise_ p b s) a = rd s a :=
  rd_raise h p b (by rw [Reg.evtRaw]; omega) (by rw [Reg.evtRaw]; omega)

theorem flag_raise_of_offset {s : State} (h : s.tidy) (p b : Nat) {a : Nat} (i : Nat) (ha : a % 0x1000 ≠ 0x010) :
    flag (raise_ p b s) a i = flag s a i := by
  rw [flag, rd_raise_of_offset h p b ha, flag]

theorem counted_raise {s t : State} (h : t.tidy) (p b : Nat) {a : Nat} (ha : a % 0x1000 ≠ 0x010) (hc : Counted a s t) :
    Counted a s (raise_ p b t) :=
  (rd_raise_of_offset h p b ha).trans hc

/-- A field after a flag of another place of its register, or of another register, was written. -/
theorem fld_setFlag_ne {s : State} (h : s.tidy) {a b i x y : Nat} (v : Bool) (hi : i < 32) (hd : b ≠ a ∨ x < i ∨ i < y) :
    fld (setFlag a i v s) b x y = fld s b x y :=
  fld_setFld_ne h _ (by omega) hi hd

@[simp] theorem raise_ach (p b : Nat) (s : State) : (raise_ p b s).ach = s.ach := by rw [raise_eq_evented]; rfl

@[simp] theorem rd_putAch (n : Nat) (x : AchCh) (s : State) (a : Nat) : rd (putAch n x s) a = rd s a := rfl

theorem putAch_tidy {s : State} (h : s.tidy) (n : Nat) (x : AchCh) : (putAch n x s).tidy :=
  (putAch_flows rfl (Flows.refl 0 s)).tidy h

theorem within_putAch (l : List Nat) (n : Nat) (x : AchCh) (s : State) : Within l s (putAch n x s) :=
  within_of_flows (putAch_flows rfl (Flows.refl 4 s))

/-- The channel table of a tidy state is canonical. -/
theorem ach_wf_of_tidy {s : State} (h : s.tidy) : tabWf (fun _ => ({} : AchCh)) s.ach = true := by
  obtain ⟨-, -, -, -, -, -, -, -, -, -, -, ha, -⟩ := h
  exact ha

theorem ach_putAch_self {s : State} (h : s.tidy) (n : Nat) (x : AchCh) : ach (putAch n x s) n = x :=
  tabGet_set_self _ n x (ach_wf_of_tidy h)

theorem ach_congr {s t : State} (h : t.ach = s.ach) (n : Nat) : ach t n = ach s n := by rw [ach, h, ach]

/-- A change of what the raising of events may change, and of the channels. -/
theorem eq_evented_ach {s t : State} (h : Flows 240513916890 s t) : t = { evented s t with ach := t.ach } := by
  obtain ⟨-, hpend, -, -, -, hnow, -, hwide, heff, -, hovl, hovd, hshf, hact, himg, hseq, htbu, -, -, -, hpwr, hred, hdio, hpiu,
    hgmu, hsyn, -, hcle, hslv, hsaf, hmbc, hmaps, hbad, hnet, hmsl, hmslm, hmgt, hslu, hupd, -, hout, hdr⟩ := h
  cases t
  simp only [Kept] at *
  simp_all [evented]

end Sys2Proof.Machine
end

/-! ## Readback alarms and the loop supply (R254, R258, R259, R263, R276) -/
section
namespace Sys2Proof.Machine

/-! ### FIELD_ALARM (R263) -/

theorem exec_fieldAlarm_of_due {s : State} {ch : Fin 32} (hc : flag s (Reg.achRbStat ch.val) 4 = true)
    (hf : flag s (Reg.achRbStat ch.val) 5 = false)
    (ht : fld s (Reg.achCfg ch.val) 23 16 * 200000000 ≤ s.now - (ach s ch.val).complClk) :
    exec (.fieldAlarm ch) s = .next (raise_ (0x20 + ch.val) 12 (setFlag (Reg.achRbStat ch.val) 5 true s)) :=
  congrArg Host.Outcome.next (if_pos ⟨hc, hf, ht⟩)

theorem exec_fieldAlarm_of_no_compliance {s : State} {ch : Fin 32} (hc : flag s (Reg.achRbStat ch.val) 4 = false) :
    exec (.fieldAlarm ch) s = .next s :=
  congrArg Host.Outcome.next (if_neg (fun ⟨h, _⟩ => Bool.false_ne_true (hc.symm.trans h)))

/-! ### OUT_MISMATCH clears (R254) -/

/-- R254: OUT_MISMATCH of channel `n` cleared, in RB_STAT and in the status word, with the run and the action. -/
def mismatchCleared (n : Nat) (s : State) : State :=
  putAch n { ach s n with restore := false } s |> setFlag (Reg.achRbStat n) 2 false |> clearRunOf n
    |> setFld (Reg.achRbStat n) 1 0 0 |> setFlag (Reg.achStatus n) 10 false

theorem exec_mismatchClearApply_of_asked {s : State} {ch : Fin 32} (hr : (ach s ch.val).restore = true)
    (hm : flag s (Reg.achRbStat ch.val) 2 = true) :
    exec (.mismatchClearApply ch) s = .next (mismatchCleared ch.val s) :=
  congrArg Host.Outcome.next ((if_pos hr).trans (if_pos hm))

theorem exec_mismatchClearApply_of_not_asked {s : State} {ch : Fin 32} (hr : (ach s ch.val).restore = false) :
    exec (.mismatchClearApply ch) s = .next s :=
  congrArg Host.Outcome.next (if_neg (by simp [hr]))

theorem within_mismatchCleared (n : Nat) (s : State) :
    Within [Reg.achRbStat n, Reg.achStatus n] s (mismatchCleared n s) :=
  (within_putAch _ n _ s).trans <| (within_setFlag (by simp) 2 false _).trans <| (within_setFld (by simp) 8 7 0 _).trans <|
    (within_setFld (by simp) 1 0 0 _).trans (within_setFlag (by simp) 10 false _)

theorem shown_mismatchCleared {s : State} (h : s.tidy) (n : Nat) :
    flag (mismatchCleared n s) (Reg.achRbStat n) 2 = false ∧ fld (mismatchCleared n s) (Reg.achRbStat n) 8 7 = 0 ∧
      fld (mismatchCleared n s) (Reg.achRbStat n) 1 0 = 0 ∧ flag (mismatchCleared n s) (Reg.achStatus n) 10 = false := by
  have hne : Reg.achRbStat n ≠ Reg.achStatus n := by simp [Reg.achRbStat, Reg.achStatus]
  have h0 := putAch_tidy h n { ach s n with restore := false }
  have h1 := setFlag_tidy h0 (Reg.achRbStat n) 2 false
  have h2 := setFld_tidy h1 (Reg.achRbStat n) 8 7 0
  have h3 := setFld_tidy h2 (Reg.achRbStat n) 1 0 0
  refine ⟨?_, ?_, ?_, flag_setFlag_self h3 _ false (by decide)⟩ <;> rw [mismatchCleared, clearRunOf]
  · rw [flag_setFlag_ne h3 false (by decide) (.inl hne), flag_setFld_ne h2 0 (by decide) (by decide) (by decide),
      flag_setFld_ne h1 0 (by decide) (by decide) (by decide), flag_setFlag_self h0 _ false (by decide)]
  · rw [fld_setFlag_ne h3 false (by decide) (.inl hne), fld_setFld_ne h2 0 (by decide) (by decide) (.inr (by decide)),
      fld_setFld_self h1 _ 0 (by decide) (by decide), Nat.zero_mod]
  · rw [fld_setFlag_ne h3 false (by decide) (.inl hne), fld_setFld_self h2 _ 0 (by decide) (by decide), Nat.zero_mod]

/-! ### Overload and retry (R258) -/

/-- R258: the secondary of channel `n` switched off for its overload, which is counted but not raised. -/
def switchedOff (n : Nat) (s : State) : State :=
  s |> setFlag Reg.lspOverload n true |> bump Reg.lspCntOverload 1
    |> putAch n { ach s n with overloadSeen := true, restClk := none, offClk := s.now }

theorem exec_loopOverload_of_first {s : State} {ch : Fin 32} (hon : lspOn s ch.val = true)
    (hf : (ach s ch.val).overloadSeen = false) :
    exec (.loopOverload ch) s = .next (raise_ 0x06 0 (switchedOff ch.val s)) :=
  congrArg Host.Outcome.next ((if_pos hon).trans (if_neg (by simp [hf])))

theorem exec_loopOverload_of_repeated {s : State} {ch : Fin 32} (hon : lspOn s ch.val = true)
    (hr : (ach s ch.val).overloadSeen = true) :
    exec (.loopOverload ch) s = .next (switchedOff ch.val s) :=
  congrArg Host.Outcome.next ((if_pos hon).trans (if_pos hr))

theorem exec_loopOverload_of_off {s : State} {ch : Fin 32} (hoff : lspOn s ch.val = false) :
    exec (.loopOverload ch) s = .next s :=
  congrArg Host.Outcome.next (if_neg (by simp [hoff]))

/-- The registers that an overload may change. -/
def overloadRegs : List Nat := [Reg.lspOverload, Reg.lspCntOverload, Reg.evtRaw 0x06, Reg.evtRaw 0x16]

theorem within_switchedOff (n : Nat) (s : State) : Within overloadRegs s (switchedOff n s) :=
  (within_setFlag (by decide) n true s).trans ((within_bump (by decide) 1 _).trans (within_putAch _ n _ _))

theorem shown_switchedOff {s : State} (h : s.tidy) {n : Nat} (hn : n < 32) :
    flag (switchedOff n s) Reg.lspOverload n = true ∧ Counted Reg.lspCntOverload s (switchedOff n s) := by
  have h1 := setFlag_tidy h Reg.lspOverload n true
  refine ⟨?_, ?_⟩
  · rw [switchedOff, flag, rd_putAch, rd_bump_ne h1 1 (by decide), ← flag, flag_setFlag_self h _ true hn]
  · rw [Counted, switchedOff, rd_putAch, rd_bump_self h1, rd_setFlag_ne h n true (by decide)]

theorem exec_overloadRetry_of_due {s : State} {ch : Fin 32} (ho : flag s Reg.lspOverload ch.val = true)
    (ht : (ach s ch.val).offClk + fld s Reg.lspOvlCfg 7 0 * 200000000 ≤ s.now) :
    exec (.overloadRetry ch) s = .next (setFlag Reg.lspOverload ch.val false s) :=
  congrArg Host.Outcome.next (if_pos ⟨ho, ht⟩)

theorem exec_overloadRetry_of_not_due {s : State} {ch : Fin 32} (h : flag s Reg.lspOverload ch.val = false ∨
      s.now < (ach s ch.val).offClk + fld s Reg.lspOvlCfg 7 0 * 200000000) :
    exec (.overloadRetry ch) s = .next s := by
  refine congrArg Host.Outcome.next (if_neg ?_)
  rintro ⟨ho, ht⟩
  rcases h with h | h
  · exact Bool.false_ne_true (h.symm.trans ho)
  · omega

/-! ### A rail fails (R259) -/

/-- R259: the secondary of channel `n` failed and counted, before that is raised. -/
def railFailed (n : Nat) (s : State) : State :=
  bump Reg.lspCntRailFail 1 (putAch n { ach s n with railFail := true } s)

theorem exec_railFail_of_new {s : State} {ch : Fin 32} (hon : lspOn s ch.val = true) (hf : (ach s ch.val).railFail = false) :
    exec (.railFail ch) s = .next (raise_ 0x06 1 (railFailed ch.val s)) :=
  congrArg Host.Outcome.next (if_pos ⟨hon, hf⟩)

theorem exec_railFail_of_off_or_failed {s : State} {ch : Fin 32}
    (h : lspOn s ch.val = false ∨ (ach s ch.val).railFail = true) : exec (.railFail ch) s = .next s := by
  refine congrArg Host.Outcome.next (if_neg ?_)
  rintro ⟨hon, hf⟩
  rcases h with h | h
  · exact Bool.false_ne_true (h.symm.trans hon)
  · exact Bool.false_ne_true (hf.symm.trans h)

theorem within_railFailed {l : List Nat} (hl : Reg.lspCntRailFail ∈ l) (n : Nat) (s : State) : Within l s (railFailed n s) :=
  (within_putAch l n _ s).trans (within_bump hl 1 _)

theorem counted_railFailed {s : State} (h : s.tidy) (n : Nat) : Counted Reg.lspCntRailFail s (railFailed n s) := by
  rw [Counted, railFailed, rd_bump_self (putAch_tidy h n _), rd_putAch]

/-! ### The loop power (R276) -/

theorem exec_lspPowerHigh_of_high {mw : Nat} (h : 20500 < mw) (s : State) :
    exec (.lspPowerHigh mw) s = .next (raise_ 0x06 2 (wr Reg.lspLoadPower (min mw 65535) s)) :=
  congrArg Host.Outcome.next (if_pos h)

theorem exec_lspPowerHigh_of_low {mw : Nat} (h : mw ≤ 20500) (s : State) :
    exec (.lspPowerHigh mw) s = .next (wr Reg.lspLoadPower (min mw 65535) s) :=
  congrArg Host.Outcome.next (if_neg (by omega))

theorem rd_loadPower {s : State} (h : s.tidy) (mw : Nat) :
    rd (wr Reg.lspLoadPower (min mw 65535) s) Reg.lspLoadPower = min mw 65535 :=
  (rd_wr_self h _ _).trans (Nat.mod_eq_of_lt (by omega))

/-! ### The statement -/

/-- Settles O15: each command in the state that it ends or meets, and in the states in which it changes nothing. -/
theorem readbackAndLoopSupply : Obligations.ReadbackAndLoopSupply := by
  unfold Obligations.ReadbackAndLoopSupply
  intro s ht
  refine ⟨?fieldAlarm, ?noCompliance, ?mismatch, ?notAsked, ?overload, ?overloadOff, ?retry, ?noRetry, ?railFail, ?noRailFail,
    ?railRecover, ?powerHigh, ?powerLow⟩
  case fieldAlarm =>
    intro ch hc hf hd
    have h1 := setFlag_tidy ht (Reg.achRbStat ch.val) 5 true
    have he := exec_fieldAlarm_of_due hc hf hd
    refine ⟨_, he, ?_, flag_raise_self h1 _ 12 (by decide), ?_, eq_evented (execFieldAlarm_flows he)⟩
    · rw [flag_raise_of_offset h1 _ _ _ (by simp [Reg.achRbStat]), flag_setFlag_self ht _ true (by decide)]
    · exact ((within_setFlag (by simp) 5 true s).trans (within_raise (by simp) (by simp) 12 _) ht).2
  case noCompliance => exact fun ch hc => ⟨s, exec_fieldAlarm_of_no_compliance hc, rfl⟩
  case mismatch =>
    intro ch hr hm
    obtain ⟨hlatch, hrun, haction, hstatus⟩ := shown_mismatchCleared ht ch.val
    exact ⟨_, exec_mismatchClearApply_of_asked hr hm, hlatch, hrun, haction, hstatus, (within_mismatchCleared ch.val s ht).2,
      rfl, rfl⟩
  case notAsked => exact fun ch hr => ⟨s, exec_mismatchClearApply_of_not_asked hr, rfl⟩
  case overload =>
    intro ch hon
    obtain ⟨h1, honly⟩ := within_switchedOff ch.val s ht
    obtain ⟨hoff, hcount⟩ := shown_switchedOff ht ch.isLt
    cases hseen : (ach s ch.val).overloadSeen with
    | false =>
      have he := exec_loopOverload_of_first hon hseen
      refine ⟨_, he, ?_, counted_raise h1 _ _ (by decide) hcount, ?_, fun _ => flag_raise_self h1 0x06 0 (by decide), ?_,
        eq_evented_ach (execLoopOverload_flows he)⟩
      · rw [flag_raise_of_offset h1 _ _ _ (by decide), hoff]
      · rw [raise_ach]
        rfl
      · exact honly.trans (within_raise (by decide) (by decide) 0 _ h1).2
    | true =>
      exact ⟨_, exec_loopOverload_of_repeated hon hseen, hoff, hcount, rfl, nofun, honly, rfl⟩
  case overloadOff => exact fun ch hoff => ⟨s, exec_loopOverload_of_off hoff, rfl⟩
  case retry =>
    intro ch ho hd
    exact ⟨_, exec_overloadRetry_of_due ho hd, flag_setFlag_self ht _ false ch.isLt,
      (within_setFlag (by simp) ch.val false s ht).2, rfl⟩
  case noRetry => exact fun ch h => ⟨s, exec_overloadRetry_of_not_due h, rfl⟩
  case railFail =>
    intro ch hon hf
    have hw := within_railFailed (l := [Reg.lspCntRailFail, Reg.evtRaw 0x06, Reg.evtRaw 0x16]) (by decide) ch.val s
    have h1 := (hw ht).1
    have he := exec_railFail_of_new hon hf
    refine ⟨_, he, flag_raise_self h1 0x06 1 (by decide), ?_, counted_raise h1 _ _ (by decide) (counted_railFailed ht ch.val), ?_,
      eq_evented_ach (execRailFail_flows he)⟩
    · rw [ach_congr (raise_ach 0x06 1 _), railFailed, ach_congr (bump_ach _ _ _), ach_putAch_self ht]
    · exact (hw.trans (within_raise (by decide) (by decide) 1 _) ht).2
  case noRailFail => exact fun ch h => ⟨s, exec_railFail_of_off_or_failed h, rfl⟩
  case railRecover => exact fun ch => ⟨_, rfl, rfl⟩
  case powerHigh =>
    intro mw hmw
    have hw := within_wr (l := [Reg.lspLoadPower, Reg.evtRaw 0x06, Reg.evtRaw 0x16]) (a := Reg.lspLoadPower) (by decide)
      (min mw 65535) s
    have h1 := (hw ht).1
    have he := exec_lspPowerHigh_of_high hmw s
    refine ⟨_, he, flag_raise_self h1 0x06 2 (by decide), ?_, ?_, eq_evented (execLspPowerHigh_flows he)⟩
    · rw [rd_raise_of_offset h1 _ _ (by decide), rd_loadPower ht]
    · exact (hw.trans (within_raise (by decide) (by decide) 2 _) ht).2
  case powerLow =>
    intro mw hmw
    refine ⟨_, exec_lspPowerHigh_of_low hmw s, ?_, (within_wr (by simp) _ s ht).2, rfl⟩
    rw [rd_loadPower ht]
    omega

end Sys2Proof.Machine
end

/-! ## The HART modems: what HART_STAT shows, how a transaction ends, and the frames that are stored (R264-R269) -/
section
namespace Sys2Proof.Machine

/-! ### HART_STAT, and what does not depend on its flags -/

/-- A flag of HART_STAT leaves the state of the transaction alone. -/
theorem hartState_setFlag {s : State} (h : s.tidy) (n : Nat) {i : Nat} (b : Bool) (hl : 3 ≤ i) (hu : i < 32) :
    hartState (setFlag (Reg.achHartStat n) i b s) n = hartState s n :=
  fld_setFlag_ne h b hu (.inr (.inl hl))

theorem hartState_setFld {s : State} (h : s.tidy) (n v : Nat) : hartState (setFld (Reg.achHartStat n) 2 0 v s) n = v % 8 :=
  fld_setFld_self h _ v (by decide) (by decide)

/-- Whether the modem is in use does not depend on the flags of HART_STAT. -/
theorem hartOn_setFlag {s : State} (h : s.tidy) (n i : Nat) (b : Bool) :
    hartOn (setFlag (Reg.achHartStat n) i b s) n = hartOn s n := by
  have hrd {a : Nat} (ha : a ≠ Reg.achHartStat n) : rd (setFlag (Reg.achHartStat n) i b s) a = rd s a := rd_setFlag_ne h i b ha
  have hcfg := hrd (a := Reg.achHartCfg n) (by simp [Reg.achHartCfg, Reg.achHartStat])
  have hmode := hrd (a := Reg.achCfg n) (by simp [Reg.achCfg, Reg.achHartStat])
  have hstat := hrd (a := Reg.stat (0x20 + n)) (by simp only [Reg.stat, Reg.achHartStat]; omega)
  have hrole := hrd (a := Reg.sysRole) (by simp only [Reg.sysRole, Reg.achHartStat]; omega)
  simp only [hartOn, achMode, effFld, effRd, miswired, listening, role, fld, flag, setFlag_effOld, hcfg, hmode, hstat, hrole]

/-- The request bytes do not depend on the flags of HART_STAT. -/
theorem hartTx_setFlag {s : State} (h : s.tidy) (n i : Nat) (b : Bool) :
    hartTx (setFlag (Reg.achHartStat n) i b s) n = hartTx s n := by
  have hbyte : hartTxByte (setFlag (Reg.achHartStat n) i b s) n = hartTxByte s n :=
    funext fun k => by
      rw [hartTxByte, fld, rd_setFlag_ne h i b (by simp only [Reg.achHartTx, Reg.achHartStat]; omega), ← fld, hartTxByte]
  rw [hartTx, fld, rd_setFlag_ne h i b (by simp [Reg.achHartTxLen, Reg.achHartStat]), ← fld, hbyte, hartTx]

/-! ### The end of a transaction (R266 step 5, R267) -/

/-- The registers that the end of a transaction may change. -/
def hartEndRegs (n : Nat) : List Nat := [Reg.achHartStat n, Reg.evtRaw (0x20 + n), Reg.evtRaw 0x16]

/-- HART_STAT at the end of a transaction, before that is counted and raised. -/
def hartIdle (n result : Nat) (s : State) : State :=
  pmcInc (72 + n) (setFld (Reg.achHartStat n) 11 8 result (setFld (Reg.achHartStat n) 2 0 0 s))

theorem hartEnd_eq (n result : Nat) (s : State) : hartEnd n result s = raise_ (0x20 + n) 13 (hartIdle n result s) := rfl

theorem hartIdle_tidy {s : State} (h : s.tidy) (n result : Nat) : (hartIdle n result s).tidy :=
  pmcInc_tidy (setFld_tidy (setFld_tidy h _ _ _ _) _ _ _ _) _

theorem rd_hartIdle (n result : Nat) (s : State) (a : Nat) : rd (hartIdle n result s) a =
    rd (setFld (Reg.achHartStat n) 11 8 result (setFld (Reg.achHartStat n) 2 0 0 s)) a := rfl

theorem within_hartIdle (n result : Nat) (s : State) : Within (hartEndRegs n) s (hartIdle n result s) :=
  (within_setFld (by simp [hartEndRegs]) 2 0 0 s).trans <| (within_setFld (by simp [hartEndRegs]) 11 8 result _).trans <|
    within_of_flows (pmcInc_flows rfl (Flows.refl 4 _))

theorem within_hartEnd (n result : Nat) (s : State) : Within (hartEndRegs n) s (hartEnd n result s) := by
  rw [hartEnd_eq]
  exact (within_hartIdle n result s).trans (within_raise (by simp [hartEndRegs]) (by simp [hartEndRegs]) 13 _)

theorem achHartStat_offset (n : Nat) : Reg.achHartStat n % 0x1000 ≠ 0x010 := by simp [Reg.achHartStat]

/-- The end of a transaction leaves the other registers of its page, but for the event, alone. -/
theorem rd_hartEnd {s : State} (h : s.tidy) (n result : Nat) {a : Nat} (ha : a % 0x1000 ≠ 0x010) (hs : a ≠ Reg.achHartStat n) :
    rd (hartEnd n result s) a = rd s a := by
  rw [hartEnd_eq, rd_raise_of_offset (hartIdle_tidy h n result) _ _ ha, rd_hartIdle, rd_setFld_ne (setFld_tidy h _ _ _ _) _ _ _ hs,
    rd_setFld_ne h _ _ _ hs]

/-- A transaction that ends is IDLE, shows its result, and raises HART. -/
theorem shown_hartEnd {s : State} (h : s.tidy) (n : Nat) {result : Nat} (hr : result < 16) :
    hartState (hartEnd n result s) n = 0 ∧ fld (hartEnd n result s) (Reg.achHartStat n) 11 8 = result ∧
      flag (hartEnd n result s) (Reg.evtRaw (0x20 + n)) 13 = true := by
  have h1 := setFld_tidy h (Reg.achHartStat n) 2 0 0
  have hi := hartIdle_tidy h n result
  refine ⟨?_, ?_, flag_raise_self hi _ 13 (by decide)⟩
  · rw [hartState, fld, hartEnd_eq, rd_raise_of_offset hi _ _ (achHartStat_offset n), rd_hartIdle, ← fld,
      fld_setFld_ne h1 result (by decide) (by decide) (.inr (by decide)), fld_setFld_self h _ 0 (by decide) (by decide),
      Nat.zero_mod]
  · rw [fld, hartEnd_eq, rd_raise_of_offset hi _ _ (achHartStat_offset n), rd_hartIdle, ← fld,
      fld_setFld_self h1 _ result (by decide) (by decide)]
    exact Nat.mod_eq_of_lt hr

/-- The end of a transaction leaves RX_NEW, RX_BURST and RESTARTED alone. -/
theorem flag_hartEnd {s : State} (h : s.tidy) (n result : Nat) {i : Nat} (hi : 12 ≤ i) :
    flag (hartEnd n result s) (Reg.achHartStat n) i = flag s (Reg.achHartStat n) i := by
  rw [flag, hartEnd_eq, rd_raise_of_offset (hartIdle_tidy h n result) _ _ (achHartStat_offset n), rd_hartIdle, ← flag,
    flag_setFld_ne (setFld_tidy h _ _ _ _) result (by decide) (by decide) (by omega),
    flag_setFld_ne h 0 (by decide) (by decide) (by omega)]

/-! ### The receive buffer (R269) -/

theorem each_wr_tidy {s : State} (h : s.tidy) (f v : Nat → Nat) (L : List Nat) : (each L (fun j => wr (f j) (v j)) s).tidy :=
  (each_flows (fun _ _ g => wr_flows rfl g) (Flows.refl 0 s)).tidy h

/-- A register that is written once among those of a list of writes, each to an address of its own. -/
theorem rd_each_wr {f : Nat → Nat} (hf : f.Injective) (v : Nat → Nat) {s : State} (h : s.tidy) {k m : Nat} (hk : k < m) :
    rd (each (List.range m) (fun j => wr (f j) (v j)) s) (f k) = v k % 2 ^ 32 := by
  induction m with
  | zero => exact absurd hk (Nat.not_lt_zero k)
  | succ m ih =>
    have hm := each_wr_tidy h f v (List.range m)
    have e : each (List.range (m + 1)) (fun j => wr (f j) (v j)) s =
        wr (f m) (v m) (each (List.range m) (fun j => wr (f j) (v j)) s) := by
      rw [List.range_succ, each, List.foldl_append]
      rfl
    rw [e]
    by_cases he : k = m
    · rw [he, rd_wr_self hm]
    · rw [rd_wr_ne hm _ (fun hfk => he (hf hfk)), ih (by omega)]

/-- R269: a frame that was not read is counted as overrun, and the receive buffer takes the new one with its length. -/
def hartFilled (n : Nat) (frame : List Nat) (s : State) : State :=
  wr (Reg.achHartRxLen n) (min 266 frame.length) (each (List.range 128) (fun k => wr (Reg.achHartRx n k) (bufWord frame k))
    (if flag s (Reg.achHartStat n) 16 then bump (Reg.achCntHartOverrun n) 1 s else s))

theorem hartStore_eq (n : Nat) (burst : Bool) (frame : List Nat) (s : State) : hartStore n burst frame s =
    setFlag (Reg.achHartStat n) 17 burst (setFlag (Reg.achHartStat n) 16 true (hartFilled n frame s)) := rfl

theorem overrun_tidy {s : State} (h : s.tidy) (n : Nat) :
    (if flag s (Reg.achHartStat n) 16 then bump (Reg.achCntHartOverrun n) 1 s else s).tidy := by
  split
  · exact bump_tidy h _ 1
  · exact h

theorem hartFilled_tidy {s : State} (h : s.tidy) (n : Nat) (frame : List Nat) : (hartFilled n frame s).tidy :=
  (wr_flows rfl (Flows.refl 0 _)).tidy (each_wr_tidy (overrun_tidy h n) _ _ _)

theorem hartStore_tidy {s : State} (h : s.tidy) (n : Nat) (burst : Bool) (frame : List Nat) : (hartStore n burst frame s).tidy :=
  (hartStore_flows rfl (Flows.refl 0 s)).tidy h

theorem rd_hartFilled_rx {s : State} (h : s.tidy) (n : Nat) (frame : List Nat) {k : Nat} (hk : k < 128) :
    rd (hartFilled n frame s) (Reg.achHartRx n k) = bufWord frame k % 2 ^ 32 := by
  have hinj : (Reg.achHartRx n).Injective := fun i j e => by simp only [Reg.achHartRx] at e; omega
  rw [hartFilled, rd_wr_ne (each_wr_tidy (overrun_tidy h n) _ _ _) _ (by simp only [Reg.achHartRx, Reg.achHartRxLen]; omega),
    rd_each_wr hinj _ (overrun_tidy h n) hk]

theorem rd_hartFilled_len {s : State} (h : s.tidy) (n : Nat) (frame : List Nat) :
    rd (hartFilled n frame s) (Reg.achHartRxLen n) = min 266 frame.length :=
  (rd_wr_self (each_wr_tidy (overrun_tidy h n) _ _ _) _ _).trans (Nat.mod_eq_of_lt (by omega))

/-- Filling the buffer leaves HART_STAT alone. -/
theorem rd_hartFilled_stat {s : State} (h : s.tidy) (n : Nat) (frame : List Nat) :
    rd (hartFilled n frame s) (Reg.achHartStat n) = rd s (Reg.achHartStat n) := by
  have hne (k : Nat) : Reg.achHartStat n ≠ Reg.achHartRx n k := by simp only [Reg.achHartStat, Reg.achHartRx]; omega
  have ho := overrun_tidy h n
  rw [hartFilled, rd_wr_ne (each_wr_tidy ho _ _ _) _ (by simp [Reg.achHartStat, Reg.achHartRxLen]),
    rd_each (fun k t g => ⟨(wr_flows rfl (Flows.refl 0 t)).tidy g, rd_wr_ne g _ (hne k)⟩) _ ho]
  split
  · exact rd_bump_ne h 1 (by simp [Reg.achHartStat, Reg.achCntHartOverrun])
  · rfl

/-- The store of a frame leaves every register but HART_STAT as the filled buffer has it. -/
theorem rd_hartStore {s : State} (h : s.tidy) (n : Nat) (burst : Bool) (frame : List Nat) {a : Nat} (ha : a ≠ Reg.achHartStat n) :
    rd (hartStore n burst frame s) a = rd (hartFilled n frame s) a := by
  have hf := hartFilled_tidy h n frame
  rw [hartStore_eq, rd_setFlag_ne (setFlag_tidy hf _ 16 true) _ _ ha, rd_setFlag_ne hf _ _ ha]

/-- What the store of a frame shows: its length, RX_NEW, and RX_BURST. -/
theorem shown_hartStore {s : State} (h : s.tidy) (n : Nat) (burst : Bool) (frame : List Nat) :
    rd (hartStore n burst frame s) (Reg.achHartRxLen n) = min 266 frame.length ∧
      flag (hartStore n burst frame s) (Reg.achHartStat n) 16 = true ∧
      flag (hartStore n burst frame s) (Reg.achHartStat n) 17 = burst := by
  have hf := hartFilled_tidy h n frame
  have h16 := setFlag_tidy hf (Reg.achHartStat n) 16 true
  refine ⟨?_, ?_, flag_setFlag_self h16 _ burst (by decide)⟩
  · rw [rd_hartStore h _ _ _ (by simp [Reg.achHartRxLen, Reg.achHartStat]), rd_hartFilled_len h]
  · rw [hartStore_eq, flag_setFlag_ne h16 burst (by decide) (.inr (by decide)), flag_setFlag_self hf _ true (by decide)]

theorem rd_hartStore_rx {s : State} (h : s.tidy) (n : Nat) (burst : Bool) (frame : List Nat) {k : Nat} (hk : k < 128) :
    rd (hartStore n burst frame s) (Reg.achHartRx n k) = bufWord frame k % 2 ^ 32 := by
  rw [rd_hartStore h _ _ _ (by simp only [Reg.achHartRx, Reg.achHartStat]; omega), rd_hartFilled_rx h n frame hk]

/-- The store of a frame leaves the state of the transaction alone. -/
theorem hartState_hartStore {s : State} (h : s.tidy) (n : Nat) (burst : Bool) (frame : List Nat) :
    hartState (hartStore n burst frame s) n = hartState s n := by
  have hf := hartFilled_tidy h n frame
  rw [hartStore_eq, hartState_setFlag (setFlag_tidy hf _ 16 true) n burst (by decide) (by decide),
    hartState_setFlag hf n true (by decide) (by decide), hartState, fld, rd_hartFilled_stat h, ← fld, hartState]

/-! ### Sending (R266 steps 2 and 3) -/

/-- R266: what the modem of channel `n` sends: the preamble, the request bytes, and their check byte. -/
def hartFrame (n : Nat) (s : State) : List Nat :=
  List.replicate (fld s (Reg.achHartCfg n) 12 8) 255 ++ hartTx s n ++ [hartCheck (hartTx s n)]

/-- R266: the modem of channel `n` sends, under its carrier. -/
def hartSending (n : Nat) (s : State) : State :=
  putAch n { ach s n with hartOut := hartFrame n s, hartClk := s.now }
    (setFlag (Reg.achHartStat n) 3 true (setFld (Reg.achHartStat n) 2 0 2 s))

theorem exec_hartBusFree_of_waiting {s : State} {ch : Fin 32} (h : hartState s ch.val = 1) :
    exec (.hartBusFree ch) s = .next (hartSending ch.val s) :=
  congrArg Host.Outcome.next (if_pos h)

theorem exec_hartBusFree_of_not_waiting {s : State} {ch : Fin 32} (h : hartState s ch.val ≠ 1) :
    exec (.hartBusFree ch) s = .next (setFlag (Reg.achHartStat ch.val) 3 false s) :=
  congrArg Host.Outcome.next (if_neg h)

theorem shown_hartSending {s : State} (h : s.tidy) (n : Nat) :
    hartState (hartSending n s) n = 2 ∧ flag (hartSending n s) (Reg.achHartStat n) 3 = true := by
  have h1 := setFld_tidy h (Reg.achHartStat n) 2 0 2
  refine ⟨?_, flag_setFlag_self h1 _ true (by decide)⟩
  exact (hartState_setFlag h1 n true (by decide) (by decide)).trans (hartState_setFld h n 2)

/-- R266: the frame of channel `n` has left, and its modem waits for the answer. -/
def hartSent (n : Nat) (s : State) : State :=
  putAch n { ach s n with hartOut := [] } (emit (.hart n (ach s n).hartOut)
    (setFlag (Reg.achHartStat n) 3 false (setFld (Reg.achHartStat n) 2 0 3 s)))

theorem exec_hartTxDone_of_sending {s : State} {ch : Fin 32} (h : hartState s ch.val = 2) :
    exec (.hartTxDone ch) s = .next (hartSent ch.val s) :=
  congrArg Host.Outcome.next (if_pos h)

theorem exec_hartTxDone_of_not_sending {s : State} {ch : Fin 32} (h : hartState s ch.val ≠ 2) :
    exec (.hartTxDone ch) s = .next s :=
  congrArg Host.Outcome.next (if_neg h)

theorem shown_hartSent {s : State} (h : s.tidy) (n : Nat) :
    hartState (hartSent n s) n = 3 ∧ flag (hartSent n s) (Reg.achHartStat n) 3 = false := by
  have h1 := setFld_tidy h (Reg.achHartStat n) 2 0 3
  refine ⟨?_, flag_setFlag_self h1 _ false (by decide)⟩
  exact (hartState_setFlag h1 n false (by decide) (by decide)).trans (hartState_setFld h n 3)

/-- A change of HART_STAT alone, first of the state and then of a flag. -/
theorem within_hartStat (n v i : Nat) (b : Bool) (s : State) :
    Within [Reg.achHartStat n] s (setFlag (Reg.achHartStat n) i b (setFld (Reg.achHartStat n) 2 0 v s)) :=
  (within_setFld (by simp) 2 0 v s).trans (within_setFlag (by simp) i b _)

/-! ### The answer begins, or does not come (R266 steps 4 and 5) -/

theorem exec_hartStartCharacter_of_awaited {s : State} {ch : Fin 32} (hon : hartOn s ch.val = true)
    (h : hartState s ch.val = 3) : exec (.hartStartCharacter ch) s =
      .next (setFld (Reg.achHartStat ch.val) 2 0 4 (setFlag (Reg.achHartStat ch.val) 3 true s)) :=
  congrArg Host.Outcome.next ((if_pos hon).trans (if_pos h))

theorem exec_hartStartCharacter_of_off {s : State} {ch : Fin 32} (h : hartOn s ch.val = false) :
    exec (.hartStartCharacter ch) s = .next s :=
  congrArg Host.Outcome.next (if_neg (by simp [h]))

theorem exec_hartNoResponse_of_awaited {s : State} {ch : Fin 32} (h : hartState s ch.val = 3) :
    exec (.hartNoResponse ch) s = .next (hartEnd ch.val 2 (bump (Reg.achCntHartNoresp ch.val) 1 s)) :=
  congrArg Host.Outcome.next (if_pos h)

theorem exec_hartNoResponse_of_not_awaited {s : State} {ch : Fin 32} (h : hartState s ch.val ≠ 3) :
    exec (.hartNoResponse ch) s = .next s :=
  congrArg Host.Outcome.next (if_neg h)

/-! ### A frame has been received (R267, R269) -/

/-- R267: a received frame, from its delimiter through its check byte, is correct: in parity and framing, of the least length that
the HART specification gives a frame (log entry 25), and with the right check byte. -/
def hartGood (bytes : List Nat) (framing : Bool) : Bool :=
  framing && bytes.length ≥ 4 && hartCheck bytes.dropLast == bytes.getLastD 0 % 256

theorem hartGood_of_correct {bytes : List Nat} {framing : Bool} (hf : framing = true) (hl : 4 ≤ bytes.length)
    (hc : hartCheck bytes.dropLast = bytes.getLastD 0 % 256) : hartGood bytes framing = true := by
  simp [hartGood, hf, hl, hc]

theorem hartGood_of_error {bytes : List Nat} {framing : Bool}
    (h : framing = false ∨ bytes.length < 4 ∨ hartCheck bytes.dropLast ≠ bytes.getLastD 0 % 256) :
    hartGood bytes framing = false := by
  rcases h with hf | hl | hc
  · simp [hartGood, hf]
  · simp [hartGood, Nat.not_le.2 hl]
  · rw [hartGood, beq_false_of_ne hc, Bool.and_false]

/-- R267: a frame with an error ends the transaction with CHECK_ERROR, which is counted. -/
theorem exec_hartFrameReceived_of_error {s : State} (ht : s.tidy) {ch : Fin 32} {bytes : List Nat} {framing : Bool}
    (h : hartState s ch.val = 4) (hb : hartGood bytes framing = false) : exec (.hartFrameReceived ch bytes framing) s =
      .next (hartEnd ch.val 3 (bump (Reg.achCntHartErr ch.val) 1 (setFlag (Reg.achHartStat ch.val) 3 false s))) :=
  congrArg Host.Outcome.next
    ((if_pos ((hartState_setFlag ht ch.val false (by decide) (by decide)).trans h)).trans (if_pos hb))

/-- R267: the result of a correct answer to the request: OK from the device addressed, FOREIGN from another. -/
def hartResult (n : Nat) (frame : List Nat) (s : State) : Nat := if hartAddr frame = hartAddr (hartTx s n) then 1 else 4

/-- R267, R269: a correct frame is stored and ends the transaction. -/
theorem exec_hartFrameReceived_of_answer {s : State} (ht : s.tidy) {ch : Fin 32} {bytes : List Nat} {framing : Bool}
    (h : hartState s ch.val = 4) (hg : hartGood bytes framing = true) : exec (.hartFrameReceived ch bytes framing) s =
      .next (hartEnd ch.val (hartResult ch.val bytes.dropLast s) (hartStore ch.val (hartBurst bytes.dropLast) bytes.dropLast
        (setFlag (Reg.achHartStat ch.val) 3 false s))) := by
  have hs := (hartState_setFlag ht ch.val false (i := 3) (by decide) (by decide)).trans h
  have hgood : ¬ hartGood bytes framing = false := by simp [hg]
  refine congrArg Host.Outcome.next ((if_pos hs).trans ((if_neg hgood).trans ?_))
  simp only [hartTx_setFlag ht, hartResult, beq_iff_eq]

/-- R269: a burst frame between transactions is stored where the modem listens for it. -/
theorem exec_hartFrameReceived_of_burst {s : State} (ht : s.tidy) {ch : Fin 32} {bytes : List Nat} {framing : Bool}
    (h : hartState s ch.val = 0) (hon : hartOn s ch.val = true) (hrx : flag s (Reg.achHartCfg ch.val) 16 = true)
    (hg : hartGood bytes framing = true) (hb : hartBurst bytes.dropLast = true) : exec (.hartFrameReceived ch bytes framing) s =
      .next (raise_ (0x20 + ch.val) 13 (hartStore ch.val true bytes.dropLast (setFlag (Reg.achHartStat ch.val) 3 false s))) := by
  have hs := (hartState_setFlag ht ch.val false (i := 3) (by decide) (by decide)).trans h
  have hcfg : flag (setFlag (Reg.achHartStat ch.val) 3 false s) (Reg.achHartCfg ch.val) 16 = true :=
    (flag_setFlag_ne ht false (by decide) (.inl (by simp [Reg.achHartCfg, Reg.achHartStat]))).trans hrx
  exact congrArg Host.Outcome.next ((if_neg (by omega)).trans (if_pos ⟨hs, (hartOn_setFlag ht _ _ _).trans hon, hcfg, hg, hb⟩))

/-- R269: a read of HART_RX_LEN clears RX_NEW and RX_BURST, and leaves the state of the transaction alone. -/
theorem shown_hartRxRead {s : State} (h : s.tidy) (n : Nat) :
    flag (hartRxRead n s) (Reg.achHartStat n) 16 = false ∧ flag (hartRxRead n s) (Reg.achHartStat n) 17 = false ∧
      hartState (hartRxRead n s) n = hartState s n := by
  have h1 := setFlag_tidy h (Reg.achHartStat n) 16 false
  refine ⟨?_, flag_setFlag_self h1 _ false (by decide), ?_⟩
  · exact (flag_setFlag_ne h1 false (by decide) (.inr (by decide))).trans (flag_setFlag_self h _ false (by decide))
  · exact (hartState_setFlag h1 n false (by decide) (by decide)).trans (hartState_setFlag h n false (by decide) (by decide))

theorem within_hartRxRead (n : Nat) (s : State) : Within [Reg.achHartStat n] s (hartRxRead n s) :=
  (within_setFlag (by simp) 16 false s).trans (within_setFlag (by simp) 17 false _)

end Sys2Proof.Machine
end

/-! ## The statement of the HART transaction -/
section
namespace Sys2Proof.Machine

/-- Settles O16: each command in the state of the transaction that it meets, with what it then shows, counts, stores and raises. -/
theorem hartTransaction : Obligations.HartTransaction := by
  unfold Obligations.HartTransaction
  intro s ht
  refine ⟨?sends, ?noCarrier, ?sent, ?notSending, ?answer, ?off, ?noResponse, ?notAwaited, ?error, ?correct, ?burst, ?read⟩
  case sends =>
    intro ch h
    obtain ⟨hst, hcarrier⟩ := shown_hartSending ht ch.val
    exact ⟨_, exec_hartBusFree_of_waiting h, hst, hcarrier, rfl, (within_hartStat ch.val 2 3 true s ht).2, rfl⟩
  case noCarrier =>
    intro ch h
    exact ⟨_, exec_hartBusFree_of_not_waiting h, flag_setFlag_self ht _ false (by decide),
      (within_setFlag (by simp) 3 false s ht).2, rfl⟩
  case sent =>
    intro ch h
    obtain ⟨hst, hcarrier⟩ := shown_hartSent ht ch.val
    exact ⟨_, exec_hartTxDone_of_sending h, hst, hcarrier, rfl, (within_hartStat ch.val 3 3 false s ht).2, rfl⟩
  case notSending => exact fun ch h => ⟨s, exec_hartTxDone_of_not_sending h, rfl⟩
  case answer =>
    intro ch hon h
    have h1 := setFlag_tidy ht (Reg.achHartStat ch.val) 3 true
    refine ⟨_, exec_hartStartCharacter_of_awaited hon h, hartState_setFld h1 ch.val 4, ?_, ?_, rfl⟩
    · rw [flag_setFld_ne h1 4 (by decide) (by decide) (by decide), flag_setFlag_self ht _ true (by decide)]
    · exact ((within_setFlag (by simp) 3 true s).trans (within_setFld (by simp) 2 0 4 _) ht).2
  case off => exact fun ch h => ⟨s, exec_hartStartCharacter_of_off h, rfl⟩
  case noResponse =>
    intro ch h
    have he := exec_hartNoResponse_of_awaited h
    have hb := bump_tidy ht (Reg.achCntHartNoresp ch.val) 1
    obtain ⟨hst, hres, hev⟩ := shown_hartEnd hb ch.val (result := 2) (by decide)
    refine ⟨_, he, hst, hres, ?_, hev, ?_, eq_evented (execHartNoResponse_flows he)⟩
    · rw [Counted, rd_hartEnd hb _ _ (by simp [Reg.achCntHartNoresp]) (by simp [Reg.achCntHartNoresp, Reg.achHartStat]),
        rd_bump_self ht]
    · exact ((within_bump (by simp) 1 s).trans ((within_hartEnd ch.val 2 _).mono (by simp [hartEndRegs])) ht).2
  case notAwaited => exact fun ch h => ⟨s, exec_hartNoResponse_of_not_awaited h, rfl⟩
  case error =>
    intro ch bytes framing h hbad
    have he := exec_hartFrameReceived_of_error ht h (hartGood_of_error hbad)
    have h1 := setFlag_tidy ht (Reg.achHartStat ch.val) 3 false
    have hb := bump_tidy h1 (Reg.achCntHartErr ch.val) 1
    have hne : Reg.achCntHartErr ch.val ≠ Reg.achHartStat ch.val := by simp [Reg.achCntHartErr, Reg.achHartStat]
    obtain ⟨hst, hres, hev⟩ := shown_hartEnd hb ch.val (result := 3) (by decide)
    refine ⟨_, he, hst, hres, ?_, hev, ?_, eq_evented (execHartFrameReceived_flows he)⟩
    · rw [Counted, rd_hartEnd hb _ _ (by simp [Reg.achCntHartErr]) hne, rd_bump_self h1, rd_setFlag_ne ht _ _ hne]
    · exact ((within_setFlag (by simp) 3 false s).trans <| (within_bump (by simp) 1 _).trans <|
        (within_hartEnd ch.val 3 _).mono (by simp [hartEndRegs])) ht |>.2
  case correct =>
    intro ch bytes framing h hf hl hc
    have he := exec_hartFrameReceived_of_answer ht h (hartGood_of_correct hf hl hc)
    have h1 := setFlag_tidy ht (Reg.achHartStat ch.val) 3 false
    have hs := hartStore_tidy h1 ch.val (hartBurst bytes.dropLast) bytes.dropLast
    have hresult : hartResult ch.val bytes.dropLast s < 16 := by
      rw [hartResult]
      split <;> decide
    obtain ⟨hlen, hnew, -⟩ := shown_hartStore h1 ch.val (hartBurst bytes.dropLast) bytes.dropLast
    obtain ⟨hst, hres, hev⟩ := shown_hartEnd hs ch.val hresult
    refine ⟨_, he, hst, hres, ?_, ?_, hev, fun k hk => ?_, eq_evented (execHartFrameReceived_flows he)⟩
    · rw [rd_hartEnd hs _ _ (by simp [Reg.achHartRxLen]) (by simp [Reg.achHartRxLen, Reg.achHartStat]), hlen, List.length_dropLast]
    · rw [flag_hartEnd hs _ _ (by decide), hnew]
    · rw [rd_hartEnd hs _ _ (by simp only [Reg.achHartRx]; omega) (by simp only [Reg.achHartRx, Reg.achHartStat]; omega),
        rd_hartStore_rx h1 _ _ _ (by omega)]
  case burst =>
    intro ch bytes framing h hon hrx hf hl hc hb
    have he := exec_hartFrameReceived_of_burst ht h hon hrx (hartGood_of_correct hf hl hc) hb
    have h1 := setFlag_tidy ht (Reg.achHartStat ch.val) 3 false
    have hs := hartStore_tidy h1 ch.val true bytes.dropLast
    obtain ⟨hlen, hnew, hburst⟩ := shown_hartStore h1 ch.val true bytes.dropLast
    refine ⟨_, he, ?_, ?_, ?_, ?_, flag_raise_self hs _ 13 (by decide), eq_evented (execHartFrameReceived_flows he)⟩
    · rw [hartState, fld, rd_raise_of_offset hs _ _ (achHartStat_offset _), ← fld, ← hartState, hartState_hartStore h1,
        hartState_setFlag ht _ _ (by decide) (by decide), h]
    · rw [rd_raise_of_offset hs _ _ (by simp [Reg.achHartRxLen]), hlen, List.length_dropLast]
    · rw [flag_raise_of_offset hs _ _ _ (achHartStat_offset _), hnew]
    · rw [flag_raise_of_offset hs _ _ _ (achHartStat_offset _), hburst]
  case read =>
    intro ch
    obtain ⟨hnew, hburst, hst⟩ := shown_hartRxRead ht ch.val
    exact ⟨_, rfl, hnew, hburst, hst, (within_hartRxRead ch.val s ht).2, rfl⟩

end Sys2Proof.Machine
end

/-! ## What a change of the events, the sequencer, the timebase, the pair, the discrete channels and the pulse inputs leaves alone -/
section
namespace Sys2Proof.Machine

/-- A change of what the raising of events may change, and of the sequencer, the timebase, the pair, the discrete channels and the
pulse inputs. -/
theorem eq_evented_field {s t : State} (h : Flows 240517187546 s t) :
    t = { evented s t with seq := t.seq, tbu := t.tbu, red := t.red, dio := t.dio, piu := t.piu } := by
  obtain ⟨-, hpend, -, -, -, hnow, -, hwide, heff, -, hovl, hovd, hshf, hact, himg, -, -, -, -, -, hpwr, -, -, -,
    hgmu, hsyn, hach, hcle, hslv, hsaf, hmbc, hmaps, hbad, hnet, hmsl, hmslm, hmgt, hslu, hupd, -, hout, hdr⟩ := h
  cases t
  simp only [Kept] at *
  simp_all [evented]

theorem eq_evented_tbu_piu {s t : State} (h : Flows 240517582810 s t) : t = { evented s t with tbu := t.tbu, piu := t.piu } := by
  have hseq : t.seq = s.seq := h.seq.resolve_left (by decide)
  have hred : t.red = s.red := h.red.resolve_left (by decide)
  have hdio : t.dio = s.dio := h.dio.resolve_left (by decide)
  have he := eq_evented_field ((Flows.refl 240517187546 s).comp (T := 34360324132) (by decide) h)
  rwa [hseq, hred, hdio] at he

theorem eq_evented_piu {s t : State} (h : Flows 240517586906 s t) : t = { evented s t with piu := t.piu } := by
  have htbu : t.tbu = s.tbu := h.tbu.resolve_left (by decide)
  have he := eq_evented_tbu_piu ((Flows.refl 240517582810 s).comp (T := 34360320036) (by decide) h)
  rwa [htbu] at he

theorem eq_evented_red_dio {s t : State} (h : Flows 240517717978 s t) : t = { evented s t with red := t.red, dio := t.dio } := by
  have hseq : t.seq = s.seq := h.seq.resolve_left (by decide)
  have htbu : t.tbu = s.tbu := h.tbu.resolve_left (by decide)
  have hpiu : t.piu = s.piu := h.piu.resolve_left (by decide)
  have he := eq_evented_field ((Flows.refl 240517187546 s).comp (T := 34360188964) (by decide) h)
  rwa [hseq, htbu, hpiu] at he

end Sys2Proof.Machine
end

/-! ## The edges of a pulse input (R294-R296, R299) -/
section
namespace Sys2Proof.Machine

/-! ### The store of a pulse input -/

/-- The table of pulse inputs of a tidy state is canonical. -/
theorem piu_wf_of_tidy {s : State} (h : s.tidy) : tabWf (fun _ => ({} : PiuIn)) s.piu = true := by
  obtain ⟨-, -, -, -, -, -, -, -, -, -, hp, -⟩ := h
  exact hp

theorem piu_congr {s t : State} (h : t.piu = s.piu) (m : Nat) : piu t m = piu s m := by rw [piu, h, piu]

theorem piu_putPiu_self {s : State} (h : s.tidy) (n : Nat) (x : PiuIn) : piu (putPiu n x s) n = x :=
  tabGet_set_self _ n x (piu_wf_of_tidy h)

theorem piu_putPiu_ne {s : State} (h : s.tidy) {n m : Nat} (x : PiuIn) (hm : m ≠ n) : piu (putPiu n x s) m = piu s m :=
  tabGet_set_ne _ x hm (piu_wf_of_tidy h)

theorem putPiu_tidy {s : State} (h : s.tidy) (n : Nat) (x : PiuIn) : (putPiu n x s).tidy :=
  (putPiu_flows rfl (Flows.refl 0 s)).tidy h

@[simp] theorem raise_piu (p b : Nat) (s : State) : (raise_ p b s).piu = s.piu := by rw [raise_eq_evented]; rfl

theorem shaftEdge_piu (rev : Bool) (s : State) : (shaftEdge rev s).piu = s.piu :=
  (shaftEdge_flows rfl (Flows.refl 524288 s)).piu.resolve_left (by decide)

theorem shaftIndex_piu (rev : Bool) (s : State) : (shaftIndex rev s).piu = s.piu :=
  (shaftIndex_flows rfl (Flows.refl 524288 s)).piu.resolve_left (by decide)

/-! ### A tooth edge (R294, R296) -/

/-- What a tooth edge of input `n` that counts leaves of every input: its own counts and holds the clock, the others stay. -/
theorem piu_piuEdge {s : State} (h : s.tidy) (n : Nat) (rev : Bool) :
    ((piu (piuEdge n rev s) n).count =
        if rev = true then ((piu s n).count + 2 ^ 32 - 1) % 2 ^ 32 else ((piu s n).count + 1) % 2 ^ 32) ∧
      (piu (piuEdge n rev s) n).lastClk = some s.now ∧ (piu (piuEdge n rev s) n).stalled = false ∧
      ∀ m, m ≠ n → piu (piuEdge n rev s) m = piu s m := by
  obtain ⟨y, hcount, hlast, hstall, he⟩ : ∃ y : PiuIn, (y.count =
      if rev = true then ((piu s n).count + 2 ^ 32 - 1) % 2 ^ 32 else ((piu s n).count + 1) % 2 ^ 32) ∧
      y.lastClk = some s.now ∧ y.stalled = false ∧ (piuEdge n rev s).piu = (putPiu n y s).piu :=
    ⟨_, rfl, rfl, rfl, (when_same (g := State.piu) (pmcInc_piu 199) _ _).trans (pmcInc_piu _ _)⟩
  have hself := (piu_congr he n).trans (piu_putPiu_self h n y)
  rw [hself]
  exact ⟨hcount, hlast, hstall, fun m hm => (piu_congr he m).trans (piu_putPiu_ne h y hm)⟩

/-- A tooth edge of input `n` that counts; the input that the shaft follows moves the shaft (R101). -/
def toothTaken (n : Nat) (aLeads : Bool) (u : State) : State :=
  let v := piuEdge n (piuReverse u n aLeads) u
  if shaftOn v ∧ shaftSrc v = n then shaftEdge (shaftReverse u n aLeads) v else v

theorem toothTaken_piu (n : Nat) (aLeads : Bool) (u : State) :
    (toothTaken n aLeads u).piu = (piuEdge n (piuReverse u n aLeads) u).piu := by
  rw [toothTaken]
  split
  · exact shaftEdge_piu _ _
  · rfl

theorem toothTaken_flows (n : Nat) (aLeads : Bool) (u : State) : Flows 240517582810 u (toothTaken n aLeads u) :=
  flows_ite (shaftEdge_flows rfl (piuEdge_flows rfl (Flows.refl _ u))) (piuEdge_flows rfl (Flows.refl _ u))

theorem exec_toothEdge_of_off {n : Fin 4} {clk : Nat} {s : State} (h : piuMode (advanceTo clk s) n.val = 0) (aLeads both : Bool) :
    exec (.toothEdge n clk aLeads both) s = .next (advanceTo clk s) :=
  congrArg Host.Outcome.next (if_pos h)

/-- R294: an encoder whose two lines change in one clock has moved by no tooth. -/
theorem exec_toothEdge_of_both {n : Fin 4} {clk : Nat} {s : State} (h : piuMode (advanceTo clk s) n.val = 1) (aLeads : Bool) :
    exec (.toothEdge n clk aLeads true) s =
      .next (raise_ 0x08 (4 + n.val) (pmcInc 197 (bump (Reg.piuCntErr n.val) 1 (advanceTo clk s)))) :=
  congrArg Host.Outcome.next ((if_neg (by omega)).trans (if_pos ⟨h, rfl⟩))

/-- An edge that comes too soon after the last one of its input is counted as an error (R294, R299). -/
theorem exec_toothEdge_of_tooSoon {n : Fin 4} {clk : Nat} {both : Bool} {s : State} (h0 : piuMode (advanceTo clk s) n.val ≠ 0)
    (h1 : both = false ∨ piuMode (advanceTo clk s) n.val ≠ 1) (hs : piuTooSoon (advanceTo clk s) n.val = true) (aLeads : Bool) :
    exec (.toothEdge n clk aLeads both) s = .next (pmcInc 196 (bump (Reg.piuCntErr n.val) 1 (advanceTo clk s))) :=
  congrArg Host.Outcome.next ((if_neg h0).trans ((if_neg (by rintro ⟨h, rfl⟩; simp [h] at h1)).trans (if_pos hs)))

theorem exec_toothEdge_of_taken {n : Fin 4} {clk : Nat} {both : Bool} {s : State} (h0 : piuMode (advanceTo clk s) n.val ≠ 0)
    (h1 : both = false ∨ piuMode (advanceTo clk s) n.val ≠ 1) (hs : piuTooSoon (advanceTo clk s) n.val = false) (aLeads : Bool) :
    exec (.toothEdge n clk aLeads both) s = .next (toothTaken n.val aLeads (advanceTo clk s)) :=
  congrArg Host.Outcome.next
    ((if_neg h0).trans ((if_neg (by rintro ⟨h, rfl⟩; simp [h] at h1)).trans (if_neg (by simp [hs]))))

/-! ### An index (R110, R295) -/

/-- Input `n` after an index: at tooth 0, one revolution on where it turned forward. -/
def indexedPiu (rev : Bool) (x : PiuIn) : PiuIn :=
  { x with tooth := 0, indexed := true, rev := if rev = true then x.rev else x.rev + 1 }

/-- An index of input `n`; that of the input that the shaft follows sets the shaft's angle (R110). -/
def indexTaken (n : Nat) (aLeads : Bool) (u : State) : State :=
  let v := pmcInc (192 + n) (putPiu n (indexedPiu (piuReverse u n aLeads) (piu u n)) u)
  if shaftOn u ∧ shaftSrc u = n then shaftIndex (shaftReverse u n aLeads) v else v

theorem indexTaken_piu (n : Nat) (aLeads : Bool) (u : State) :
    (indexTaken n aLeads u).piu = (putPiu n (indexedPiu (piuReverse u n aLeads) (piu u n)) u).piu := by
  rw [indexTaken]
  split
  · exact shaftIndex_piu _ _
  · rfl

theorem indexTaken_flows (n : Nat) (aLeads : Bool) (u : State) : Flows 240517582810 u (indexTaken n aLeads u) :=
  flows_ite (shaftIndex_flows rfl (pmcInc_flows rfl (putPiu_flows rfl (Flows.refl _ u))))
    (pmcInc_flows rfl (putPiu_flows rfl (Flows.refl _ u)))

theorem exec_indexEdge_of_unused {n : Fin 4} {clk : Nat} {s : State} (h : piuMode (advanceTo clk s) n.val = 0 ∨
      bitOf (effRd (advanceTo clk s) (Reg.piuCfg n.val)) 5 = false) (aLeads : Bool) :
    exec (.indexEdge n clk aLeads) s = .next (advanceTo clk s) :=
  congrArg Host.Outcome.next (if_pos h)

theorem exec_indexEdge_of_used {n : Fin 4} {clk : Nat} {s : State} (h0 : piuMode (advanceTo clk s) n.val ≠ 0)
    (h1 : bitOf (effRd (advanceTo clk s) (Reg.piuCfg n.val)) 5 = true) (aLeads : Bool) :
    exec (.indexEdge n clk aLeads) s = .next (indexTaken n.val aLeads (advanceTo clk s)) :=
  congrArg Host.Outcome.next (if_neg (by simp [h0, h1]))

/-! ### A line fault and a stall (R296, R299) -/

theorem exec_piLineFault_of_off {n : Fin 4} {s : State} (h : piuMode s n.val = 0) (stands : Bool) :
    exec (.piLineFault n stands) s = .next s :=
  congrArg Host.Outcome.next (if_pos h)

/-- Input with its line fault found, which the next PIU_LATCH still shows (R298). -/
def lineFaulted (x : PiuIn) : PiuIn := { x with lineFault := true, faultLatch := true }

theorem exec_piLineFault_of_found {n : Fin 4} {s : State} (h : piuMode s n.val ≠ 0) (hf : (piu s n.val).lineFault = false) :
    exec (.piLineFault n true) s = .next (raise_ 0x08 n.val (putPiu n.val (lineFaulted (piu s n.val)) s)) :=
  congrArg Host.Outcome.next ((if_neg h).trans ((if_pos rfl).trans (if_neg (by simp [hf]))))

theorem exec_piLineFault_of_gone {n : Fin 4} {s : State} (h : piuMode s n.val ≠ 0) :
    exec (.piLineFault n false) s = .next (putPiu n.val { piu s n.val with lineFault := false } s) :=
  congrArg Host.Outcome.next ((if_neg h).trans (if_neg Bool.false_ne_true))

theorem exec_piStall_of_due {n : Fin 4} {s : State} (h : (piu s n.val).lastClk.getD s.pwr.originClk + 2000000000 ≤ s.now) :
    exec (.piStall n) s = .next (putPiu n.val { piu s n.val with stalled := true } s) :=
  congrArg Host.Outcome.next (if_pos h)

theorem exec_piStall_of_early {n : Fin 4} {s : State} (h : s.now < (piu s n.val).lastClk.getD s.pwr.originClk + 2000000000) :
    exec (.piStall n) s = .next s :=
  congrArg Host.Outcome.next (if_neg (Nat.not_le.2 h))

/-! ### The statement -/

/-- Settles O10: each edge by what its input and the shaft take of it, once the clock has run to it. -/
theorem pulseInputEdges : Obligations.PulseInputEdges := by
  unfold Obligations.PulseInputEdges
  intro s ht
  refine ⟨?off, ?both, ?tooSoon, ?taken, ?noIndex, ?index, ?found, ?gone, ?faultOff, ?stall, ?noStall⟩
  case off =>
    rintro n clk aLeads both _ rfl h
    exact ⟨_, exec_toothEdge_of_off h aLeads both, rfl⟩
  case both =>
    rintro n clk aLeads _ u rfl h rfl
    have hu := advanceTo_tidy ht clk
    have hb := pmcInc_tidy (bump_tidy hu (Reg.piuCntErr n.val) 1) 197
    refine ⟨_, exec_toothEdge_of_both h aLeads, ?_, flag_raise_self hb 0x08 _ (by omega), ?_,
      eq_evented (raise__flows rfl (pmcInc_flows rfl (bump_flows rfl (Flows.refl _ _))))⟩
    · exact (rd_raise_of_offset hb _ _ (by simp only [Reg.piuCntErr]; omega)).trans (rd_bump_self hu _ 1)
    · exact ((within_bump (by simp) 1 _).trans ((within_of_flows (pmcInc_flows rfl (Flows.refl 4 _))).trans
        (within_raise (by simp) (by simp) _ _)) hu).2
  case tooSoon =>
    rintro n clk aLeads both u rfl h0 h1 hs
    have hu := advanceTo_tidy ht clk
    exact ⟨_, exec_toothEdge_of_tooSoon h0 h1 hs aLeads, rd_bump_self hu _ 1, (within_bump (by simp) 1 _ hu).2, rfl⟩
  case taken =>
    rintro n clk aLeads both u rfl h0 h1 hs
    have hflow := toothTaken_flows n.val aLeads (advanceTo clk s)
    have hp := piu_congr (toothTaken_piu n.val aLeads (advanceTo clk s))
    obtain ⟨hcount, hlast, hstall, hothers⟩ :=
      piu_piuEdge (advanceTo_tidy ht clk) n.val (piuReverse (advanceTo clk s) n.val aLeads)
    refine ⟨_, exec_toothEdge_of_taken h0 h1 hs aLeads, ?_, ?_, ?_, fun m _ hm => (hp m).trans (hothers m hm), ?_,
      eq_evented_tbu_piu hflow⟩
    · rw [hp, hcount]
    · rw [hp, hlast]
    · rw [hp, hstall]
    · exact (hflow.now.resolve_left (by decide)).trans (advanceTo_now clk s)
  case noIndex =>
    rintro n clk aLeads u rfl h
    exact ⟨_, exec_indexEdge_of_unused h aLeads, rfl⟩
  case index =>
    rintro n clk aLeads u rfl h0 h1
    have hu := advanceTo_tidy ht clk
    have hp := piu_congr (indexTaken_piu n.val aLeads (advanceTo clk s))
    have hself := (hp n.val).trans (piu_putPiu_self hu _ _)
    exact ⟨_, exec_indexEdge_of_used h0 h1 aLeads, congrArg PiuIn.tooth hself, congrArg PiuIn.indexed hself,
      congrArg PiuIn.rev hself, (congrArg PiuIn.count hself :), fun m _ hm => (hp m).trans (piu_putPiu_ne hu _ hm),
      eq_evented_tbu_piu (indexTaken_flows n.val aLeads _)⟩
  case found =>
    rintro n _ h rfl hf
    have he := exec_piLineFault_of_found h hf
    have h1 := putPiu_tidy ht n.val (lineFaulted (piu s n.val))
    have hself := (piu_congr (raise_piu 0x08 n.val _) n.val).trans (piu_putPiu_self ht n.val (lineFaulted (piu s n.val)))
    refine ⟨_, he, congrArg PiuIn.lineFault hself, congrArg PiuIn.faultLatch hself, (congrArg PiuIn.count hself :),
      flag_raise_self h1 0x08 _ (by omega), ?_, eq_evented_piu (execPiLineFault_flows he)⟩
    exact ((within_of_flows (putPiu_flows rfl (Flows.refl 4 s))).trans (within_raise (by simp) (by simp) _ _) ht).2
  case gone =>
    rintro n _ h rfl
    exact ⟨_, exec_piLineFault_of_gone h, rfl⟩
  case faultOff => exact fun n stands h => ⟨s, exec_piLineFault_of_off h stands, rfl⟩
  case stall =>
    intro n h
    exact ⟨_, exec_piStall_of_due h, piu_putPiu_self ht _ _, fun m _ hm => piu_putPiu_ne ht _ hm, rfl⟩
  case noStall => exact fun n h => ⟨s, exec_piStall_of_early h, rfl⟩

end Sys2Proof.Machine
end

/-! ## The words that an entry leaves to the clocks after its turn (R166) -/
section
namespace Sys2Proof.Machine

/-- What a list of words is to be written to: the clock, and the write. -/
def putsOf (ws : List (Nat × Nat × ICell)) : List (Nat × Act) := ws.map (fun x => (x.1, Act.put x.2.1 x.2.2))

/-- The outstanding entries after one that leaves words: those of before, and the entry with its words. -/
theorem addWrites_outst (e : Entry) {ws : List (Nat × Nat × ICell)} (s : State) (h : ws ≠ []) :
    ∃ o : OutEntry, (addWrites e ws s).seq.outst = s.seq.outst ++ [o] ∧ o.e = e ∧ o.words = ws.map (fun x => x.2.1) ∧
      o.todo = putsOf ws ∧ o.last = lastClk (putsOf ws) := by
  have hne : ws.map (fun x => (x.1, x.2.1, Act.put x.2.1 x.2.2)) ≠ [] := by simpa using h
  obtain ⟨o, ho, he, hw, htodo, hlast⟩ := addActs_outst e s hne
  simp only [List.map_map, Function.comp_def] at hw htodo hlast
  exact ⟨o, ho, he, hw, htodo, hlast⟩

theorem leaves_of_addWrites {e : Entry} {ws : List (Nat × Nat × ICell)} {s u t : State} {last : Nat} (h : ws ≠ [])
    (hs : s.seq.outst = u.seq.outst) (ht : t.seq.outst = (addWrites e ws s).seq.outst) (hl : lastClk (putsOf ws) = last) :
    Leaves u t e.target (ws.map (fun x => x.2.1)) last := by
  obtain ⟨o, ho, he, hw, -, hlast⟩ := addWrites_outst e s h
  rw [Leaves, ht, ho, hs, List.map_append, List.map_singleton, he, hw, hlast, hl]

theorem todo_of_addWrites {e : Entry} {ws : List (Nat × Nat × ICell)} {s t : State} (h : ws ≠ [])
    (ht : t.seq.outst = (addWrites e ws s).seq.outst) : t.seq.outst.getLast?.map (fun o => o.todo) = some (putsOf ws) := by
  obtain ⟨o, ho, -, -, htodo, -⟩ := addWrites_outst e s h
  rw [ht, ho, List.getLast?_concat, Option.map_some, htodo]

theorem writes_of_addWrites {e : Entry} {ws : List (Nat × Nat × ICell)} {s t : State} (h : ws ≠ [])
    (ht : t.seq.outst = (addWrites e ws s).seq.outst) : writes t = ws.map (fun x => (x.1, x.2.1, x.2.2.val)) := by
  rw [writes, todo_of_addWrites h ht, Option.getD_some, putsOf, List.filterMap_map]
  exact congrFun (List.filterMap_eq_map (f := fun x : Nat × Nat × ICell => (x.1, x.2.1, x.2.2.val))) ws

/-- Words that are all written at one clock. -/
theorem lastClk_of_same {ws : List (Nat × Nat × ICell)} {c : Nat} (h : ws ≠ []) (hc : ∀ x ∈ ws, x.1 = c) :
    lastClk (putsOf ws) = c := by
  have hall : ∀ a ∈ putsOf ws, a.1 = c := by
    intro a ha
    obtain ⟨x, hx, rfl⟩ := List.mem_map.1 ha
    exact hc x hx
  obtain ⟨a, ha⟩ := List.exists_mem_of_ne_nil (putsOf ws) (by simpa [putsOf] using h)
  exact lastClk_eq (fun b hb => Nat.le_of_eq (hall b hb)) ⟨a, ha, hall a ha⟩

end Sys2Proof.Machine
end

/-! ## PIU_LATCH and GMU_SNAP (R297, R319, R320) -/
section
namespace Sys2Proof.Machine

/-! ### PIU_LATCH -/

/-- Input `n` after a latch: a new interval begins, and `f` is the frequency of the one before. -/
def latchedPiu (f : FVal) (x : PiuIn) : PiuIn :=
  { x with edges := 0, firstClk := 0, overLatch := false, faultLatch := x.lineFault, fPrev := fToBits f32 f }

/-- The input that PIU_LATCH latches, counted. -/
def piuLatched (n : Nat) (u : State) : State := pmcInc 198 (putPiu n (latchedPiu (latchFreq u (piu u n)) (piu u n)) u)

/-- The four words of a latch: the first is the count and the last the angle at the slot boundary. -/
theorem runPiuLatch_eq (e : Entry) (u : State) : ∃ (tagCount tagAngle : Tag) (freq speed : ICell),
    runPiuLatch e u = addWrites e
      [(u.tbu.edge + 20, e.arg1, ⟨BitVec.ofNat 32 (piu u (bitsOf e.arg0 1 0)).countAtSlot, tagCount⟩),
        (u.tbu.edge + 20, e.arg1 + 1, freq), (u.tbu.edge + 20, e.arg1 + 2, speed),
        (u.tbu.edge + 20, e.arg1 + 3, ⟨BitVec.ofNat 32 (piu u (bitsOf e.arg0 1 0)).angleAtSlot, tagAngle⟩)]
      (piuLatched (bitsOf e.arg0 1 0) u) :=
  ⟨_, _, _, _, rfl⟩

/-! ### GMU_SNAP -/

/-- A list counted from 0 on. -/
theorem zip_range_eq_map {α : Type} {l : List α} {m : Nat} (h : l.length ≤ m) (d : α) :
    l.zip (List.range m) = (List.range l.length).map (fun i => (l.getD i d, i)) := by
  refine List.ext_getElem (by simp [h]) (fun i h1 h2 => ?_)
  have hi : i < l.length := by simpa using h2
  simp [hi]

/-- The words of a snapshot of groups that hold at most 496 words: one per control clock. -/
theorem runGmuSnap_eq (e : Entry) {u : State} (h : (snapCells u e.arg0).length ≤ 496) :
    runGmuSnap e u = addWrites e ((List.range (snapCells u e.arg0).length).map (fun i =>
      (u.now + 1 + i, e.arg1 + i, (snapCells u e.arg0).getD i cellInit))) u := by
  rw [runGmuSnap, zip_range_eq_map h cellInit, List.map_map]
  rfl

/-- Words that are written at one clock after the other end with the last. -/
theorem lastClk_of_row {k : Nat} (hk : 0 < k) (c : Nat) (w : Nat → Nat) (f : Nat → ICell) :
    lastClk (putsOf ((List.range k).map (fun i => (c + 1 + i, w i, f i)))) = c + k := by
  refine lastClk_eq ?le ?mem
  case le =>
    intro a ha
    obtain ⟨x, hx, rfl⟩ := List.mem_map.1 ha
    obtain ⟨i, hi, rfl⟩ := List.mem_map.1 hx
    have hi := List.mem_range.1 hi
    show c + 1 + i ≤ c + k
    omega
  case mem =>
    refine ⟨_, List.mem_map_of_mem (List.mem_map_of_mem (List.mem_range.2 (show k - 1 < k by omega))), ?_⟩
    show c + 1 + (k - 1) = c + k
    omega

/-! ### The statement -/

/-- Settles O19: each entry in its turn, by the words that it leaves; after it only the position of the sequencer goes on. -/
theorem latchesOfPulseAndGrid : Obligations.LatchesOfPulseAndGrid := by
  unfold Obligations.LatchesOfPulseAndGrid
  intro s ht
  refine ⟨?latch, ?snap, ?noSnap⟩
  case latch =>
    intro pos input dst u hu hd hh hp
    have hut : u.tidy := hu ▸ atTurn_tidy ht pos
    obtain ⟨q, he, ho⟩ := dispatch_of_due (fun e _ t => runPiuLatch e t) {} hu hd hh hp
    obtain ⟨tagCount, tagAngle, freq, speed, hrun⟩ := runPiuLatch_eq ⟨0x05, 0x08, input, dst, 0, 0, seqSlot s, pos⟩ u
    rw [hrun] at he ho
    have hw := writes_of_addWrites (t := { piuLatched (bitsOf input 1 0) u with seq := q }) (List.cons_ne_nil _ _) ho
    have hself := piu_putPiu_self hut (bitsOf input 1 0)
      (latchedPiu (latchFreq u (piu u (bitsOf input 1 0))) (piu u (bitsOf input 1 0)))
    rw [addWrites, addActs_eq_seq, ← addWrites] at he
    refine ⟨_, congrArg Host.Outcome.next he, ?_, ?_, ?_, congrArg PiuIn.edges hself, congrArg PiuIn.overLatch hself,
      congrArg PiuIn.faultLatch hself, fun m _ hm => piu_putPiu_ne hut _ hm, rfl⟩
    · refine leaves_of_addWrites (t := { piuLatched (bitsOf input 1 0) u with seq := q }) (List.cons_ne_nil _ _) rfl ho
        (lastClk_of_same (List.cons_ne_nil _ _) ?_)
      simp
    · exact congrArg List.head? hw
    · exact congrArg List.getLast? hw
  case snap =>
    intro pos mask dst k u hu hd hh hp hlen hpos hle
    obtain ⟨q, he, ho⟩ := dispatch_of_due (fun e _ t => runGmuSnap e t) {} hu hd hh hp
    rw [runGmuSnap_eq ⟨0x06, 0x09, mask, dst, 0, 0, seqSlot s, pos⟩ (Nat.le_trans (Nat.le_of_eq hlen) hle), hlen] at he ho
    have hne : (List.range k).map (fun i => (u.now + 1 + i, dst + i, (snapCells u mask).getD i cellInit)) ≠ [] := by
      simp only [ne_eq, List.map_eq_nil_iff, List.range_eq_nil]
      omega
    have hleaves := leaves_of_addWrites (u := u) (t := { u with seq := q }) hne rfl ho (lastClk_of_row hpos u.now _ _)
    have htodo := todo_of_addWrites (t := { u with seq := q }) hne ho
    rw [addWrites, addActs_eq_seq, ← addWrites] at he
    rw [List.map_map] at hleaves
    rw [putsOf, List.map_map] at htodo
    exact ⟨_, congrArg Host.Outcome.next he, hleaves, htodo, rfl⟩
  case noSnap =>
    intro pos mask dst u hu hd hh hp hnil
    obtain ⟨q, he, ho⟩ := dispatch_of_due (fun e _ t => runGmuSnap e t) {} hu hd hh hp
    rw [runGmuSnap_eq ⟨0x06, 0x09, mask, dst, 0, 0, seqSlot s, pos⟩ (by simp [hnil]), hnil] at he ho
    exact ⟨_, congrArg Host.Outcome.next he, ho, rfl⟩

end Sys2Proof.Machine
end

/-! ## The discrete outputs (R284): the clock of a switched-off output, where the table of clocks is not canonical -/
section
namespace Sys2Proof.Machine

theorem raise_dio (p b : Nat) (s : State) : (raise_ p b s).dio = s.dio := by rw [raise_eq_evented]; rfl

/-- R284: output `ch` in SHORT, switched off and counted. -/
def shortSwitchedOff (ch : Nat) (s : State) : State :=
  bump Reg.dioCntShort 1 { s with dio := { s.dio with
    prot := putBit s.dio.prot ch true, offState := tabSet (fun _ => (0 : Nat)) s.dio.offState ch 1
    offClk := tabSet (fun _ => (0 : Nat)) s.dio.offClk ch s.now } }

theorem exec_outputShort_of_short {ch : Fin 48} {s : State} (ho : dioIsOut s ch.val = true) (hl : listening s = false) :
    exec (.outputShort ch false) s = .next (if tabGet (fun _ => 0) s.dio.offState ch.val = 1 ∧
      s.now < tabGet (fun _ => 0) s.dio.retryClk ch.val + 200000000 then shortSwitchedOff ch.val s
      else raise_ 0x07 1 (shortSwitchedOff ch.val s)) :=
  congrArg Host.Outcome.next (if_pos ⟨ho, hl⟩)

/-- R284: the clock at which a shorted output is switched off is stored for it, whether or not its event is raised. -/
theorem exec_outputShort_offClk {ch : Fin 48} {s t : State} (ho : dioIsOut s ch.val = true) (hl : listening s = false)
    (he : exec (.outputShort ch false) s = .next t) : t.dio.offClk = tabSet (fun _ => (0 : Nat)) s.dio.offClk ch.val s.now := by
  rw [exec_outputShort_of_short ho hl, Host.Outcome.next.injEq] at he
  rw [← he]
  split
  · rfl
  · rw [raise_dio]
    rfl

/-- A module at its reset state, at clock 0, with channel 0 an output and two entries for it in the table of clocks of R284: the
canonical form that every store of the state keeps does not reach the tables of the discrete channels. -/
def offClockTwice : State := { wr (Reg.dioChCfg 0) 3 State.reset with dio := { offClk := [(0, 1), (0, 2)] } }

/-- Refutes O18: an output that is switched off at clock 0 keeps no clock of its own, so that a second entry of its table, which the
canonical form allows, shows. -/
theorem not_discreteOutputs : ¬ Obligations.DiscreteOutputs := by
  unfold Obligations.DiscreteOutputs
  intro h
  have ho : dioIsOut offClockTwice (0 : Fin 48).val = true := by decide +kernel
  have hl : listening offClockTwice = false := by decide +kernel
  obtain ⟨-, -, hshort, -⟩ := h offClockTwice (by decide +kernel)
  obtain ⟨t, he, -, hclk, -⟩ := hshort 0 false ho hl
  rw [exec_outputShort_offClk ho hl he] at hclk
  exact absurd hclk (by decide)

end Sys2Proof.Machine
end

/-! ## DIO_SAMPLE: the words of the input states (R281) -/
section
namespace Sys2Proof.Machine

/-- The word with a bit, counted from `lo`, for every channel of a list. -/
def bitSum (lo : Nat) (l : List Nat) : Nat := l.foldl (fun m n => m + 2 ^ (n - lo)) 0

theorem bitSum_append_singleton (lo n : Nat) (l : List Nat) : bitSum lo (l ++ [n]) = bitSum lo l + 2 ^ (n - lo) := by
  simp [bitSum]

/-- Channels from `lo` up to `N` that are picked each set their own bit, and no other is set. -/
theorem bitSum_filter_range {lo : Nat} {p : Nat → Bool} (hp : ∀ n, p n = true → lo ≤ n) (N : Nat) :
    bitSum lo ((List.range N).filter p) < 2 ^ (N - lo) ∧
      ∀ k, bitOf (bitSum lo ((List.range N).filter p)) k = (decide (lo + k < N) && p (lo + k)) := by
  induction N with
  | zero => simp [bitSum, bitOf]
  | succ N ih =>
    obtain ⟨hlt, hbit⟩ := ih
    rw [List.range_succ, List.filter_append]
    by_cases hN : p N = true
    · have hlo := hp N hN
      have hexp : N + 1 - lo = N - lo + 1 := by omega
      rw [List.filter_cons_of_pos hN, List.filter_nil, bitSum_append_singleton]
      refine ⟨by rw [hexp, Nat.pow_succ]; omega, fun k => ?_⟩
      rw [bitOf, Nat.add_comm]
      rcases Nat.lt_trichotomy k (N - lo) with hk | rfl | hk
      · rw [Nat.testBit_two_pow_add_gt hk, ← bitOf, hbit, decide_eq_true (by omega : lo + k < N),
          decide_eq_true (by omega : lo + k < N + 1)]
      · rw [Nat.testBit_two_pow_add_eq, Nat.testBit_lt_two_pow hlt, Nat.add_sub_cancel' hlo, hN]
        simp
      · rw [Nat.testBit_lt_two_pow, decide_eq_false (by omega), Bool.false_and]
        have : 2 ^ (N - lo + 1) ≤ 2 ^ k := Nat.pow_le_pow_right (by decide) hk
        rw [Nat.pow_succ] at this
        omega
    · rw [List.filter_cons_of_neg hN, List.filter_nil, List.append_nil]
      refine ⟨Nat.lt_of_lt_of_le hlt (Nat.pow_le_pow_right (by decide) (by omega)), fun k => ?_⟩
      rw [hbit]
      by_cases hk : lo + k = N
      · simp [hk, hN]
      · congr 1
        simp only [decide_eq_decide]
        omega

/-- The channels from `lo` to below `hi` that a DIO_SAMPLE shows: masked, inputs, and qualified on at the slot boundary. -/
def shownChannels (m0 m1 lo hi : Nat) (u : State) : List Nat :=
  ((maskChannels m0 m1).filter (dioIsIn u)).filter (fun n => lo ≤ n ∧ n < hi ∧ bitOf u.dio.qualAtSlot n)

theorem bitOf_bitSum_shownChannels (m0 m1 lo hi : Nat) (u : State) {k : Nat} (hk : lo + k < hi) (hhi : hi ≤ 48) :
    bitOf (bitSum lo (shownChannels m0 m1 lo hi u)) k =
      ((if lo + k < 32 then bitOf m0 (lo + k) else bitOf m1 (lo + k - 32)) && dioIsIn u (lo + k) &&
        bitOf u.dio.qualAtSlot (lo + k)) := by
  rw [shownChannels, maskChannels, List.filter_filter, List.filter_filter, (bitSum_filter_range (fun n hn => ?_) 48).2]
  · rw [decide_eq_true (by omega : lo + k < 48)]
    simp [hk, Bool.and_comm, Bool.and_left_comm]
  · simp only [Bool.and_eq_true, decide_eq_true_eq] at hn
    obtain ⟨⟨⟨hlo, -⟩, -⟩, -⟩ := hn
    exact hlo

/-- The two words of a sample, both for clock 20 of the slot. -/
theorem runDioSample_eq (e : Entry) (u : State) : ∃ t0 t1 : Tag,
    runDioSample e u = addWrites e
      [(u.tbu.edge + 20, e.arg3, ⟨BitVec.ofNat 32 (bitSum 0 (shownChannels e.arg1 e.arg2 0 32 u)), t0⟩),
        (u.tbu.edge + 20, e.arg3 + 1, ⟨BitVec.ofNat 32 (bitSum 32 (shownChannels e.arg1 e.arg2 32 48 u)), t1⟩)] u :=
  ⟨_, _, rfl⟩

theorem bitOf_ofNat {m k : Nat} (hk : k < 32) : bitOf (BitVec.ofNat 32 m).toNat k = bitOf m k := by
  rw [BitVec.toNat_ofNat, bitOf, Nat.testBit_mod_two_pow, decide_eq_true hk, Bool.true_and, bitOf]

end Sys2Proof.Machine
end

/-! ## Qualified inputs, and what a change of line states leaves alone (R279, R280, R282) -/
section
namespace Sys2Proof.Machine

/-! ### Samples of an input (R279, R280) -/

/-- The raw state that samples at `mv` leave input `ch`. -/
def sampledRaw (ch : Nat) (mv : Int) (s : State) : Bool := rawLevel (dioFunc s ch) (bitOf s.dio.raw ch) mv

/-- The µs for which the raw state of input `ch` has stood after `us` samples at `mv`, up to the longest FILTER. -/
def sampledUs (ch : Nat) (mv : Int) (us : Nat) (s : State) : Nat :=
  min 25500 ((if sampledRaw ch mv s = bitOf s.dio.raw ch then tabGet (fun _ => (0 : Nat)) s.dio.rawUs ch else 0) + us)

/-- The discrete channels after the samples, before the qualified state follows. -/
def sampledDio (ch : Nat) (mv : Int) (us : Nat) (s : State) : DioSt :=
  { s.dio with raw := putBit s.dio.raw ch (sampledRaw ch mv s)
               rawUs := tabSet (fun _ => (0 : Nat)) s.dio.rawUs ch (sampledUs ch mv us s) }

theorem exec_diQualify_of_stood {ch : Fin 48} {mv : Int} {us : Nat} {s : State} (hin : dioIsIn s ch.val = true)
    (h : fld s (Reg.dioChCfg ch.val) 15 8 * 100 ≤ sampledUs ch.val mv us s) :
    exec (.diQualify ch mv us) s = .next { s with dio :=
      { sampledDio ch.val mv us s with qual := putBit s.dio.qual ch.val (sampledRaw ch.val mv s) } } := by
  refine congrArg Host.Outcome.next ((if_pos hin).trans ?_)
  exact congrArg (fun d => { s with dio := d }) (if_pos h)

theorem exec_diQualify_of_short {ch : Fin 48} {mv : Int} {us : Nat} {s : State} (hin : dioIsIn s ch.val = true)
    (h : sampledUs ch.val mv us s < fld s (Reg.dioChCfg ch.val) 15 8 * 100) :
    exec (.diQualify ch mv us) s = .next { s with dio := sampledDio ch.val mv us s } := by
  refine congrArg Host.Outcome.next ((if_pos hin).trans ?_)
  exact congrArg (fun d => { s with dio := d }) (if_neg (Nat.not_le.2 h))

theorem exec_diQualify_of_not_input {ch : Fin 48} {s : State} (hin : dioIsIn s ch.val = false) (mv : Int) (us : Nat) :
    exec (.diQualify ch mv us) s = .next s :=
  congrArg Host.Outcome.next (if_neg (by simp [hin]))

/-- A filter time is at most what the stand of a raw state is counted up to. -/
theorem filter_le (s : State) (ch : Nat) : fld s (Reg.dioChCfg ch) 15 8 * 100 ≤ 25500 := by
  have : fld s (Reg.dioChCfg ch) 15 8 < 256 := Nat.mod_lt _ (by decide)
  omega

/-- Samples for the whole filter time make any raw state stand for it. -/
theorem le_sampledUs {ch : Nat} {us : Nat} {s : State} (h : fld s (Reg.dioChCfg ch) 15 8 * 100 ≤ us) (mv : Int) :
    fld s (Reg.dioChCfg ch) 15 8 * 100 ≤ sampledUs ch mv us s :=
  Nat.le_min.2 ⟨filter_le s ch, Nat.le_trans h (Nat.le_add_left _ _)⟩

/-- A raw state that has just changed has stood for no longer than these samples. -/
theorem sampledUs_le_of_changed {ch us : Nat} {mv : Int} {s : State} (h : sampledRaw ch mv s ≠ bitOf s.dio.raw ch) :
    sampledUs ch mv us s ≤ us := by
  rw [sampledUs, if_neg h, Nat.zero_add]
  exact Nat.min_le_right _ _

/-! ### Line states (R282) -/

theorem lineEnter_of_same {n a : Nat} (s : State) : lineEnter n a a s = s := if_neg (by simp)

/-- Entering a line state changes no discrete channel. -/
theorem lineEnter_dio (n old new : Nat) (s : State) : (lineEnter n old new s).dio = s.dio :=
  (lineEnter_flows rfl (Flows.refl 262144 s)).dio.resolve_left (by decide)

theorem lineEnter_effOld (n old new : Nat) (s : State) : (lineEnter n old new s).effOld = s.effOld :=
  (lineEnter_flows rfl (Flows.refl 16 s)).effOld.resolve_left (by decide)

/-- The registers that entering line states may change. -/
def lineRegs : List Nat :=
  [Reg.dioCntLineFault, Reg.evtRaw 0x07, Reg.evtRaw 0x16, Reg.redLatent, Reg.redState, Reg.redCntHandback, Reg.evtRaw 0x15]

theorem within_handback (source ch : Nat) (s : State) : Within lineRegs s (handback source ch s) := by
  rw [handback]
  split
  · split
    · exact (within_wr (by decide) _ s).trans <| (within_setFlag (by decide) 12 true _).trans <|
        (within_bump (by decide) 1 _).trans <| (within_of_flows (requestSwap_flows rfl (Flows.refl 4 _))).trans (within_raise (by decide) (by decide) 9 _)
    · exact Within.refl _ s
  · exact Within.refl _ s

theorem within_lineEnter (n old new : Nat) (s : State) : Within lineRegs s (lineEnter n old new s) := by
  have hcount : Within lineRegs s (raise_ 0x07 0 (pmcInc 187 (bump Reg.dioCntLineFault 1 s))) :=
    (within_bump (by decide) 1 s).trans <| (within_of_flows (pmcInc_flows rfl (Flows.refl 4 _))).trans
      (within_raise (by decide) (by decide) 0 _)
  rw [lineEnter]
  split
  · dsimp only
    split
    · exact hcount.trans (within_handback 2 n _)
    · exact hcount
  · exact Within.refl _ s

/-- An output that no fault switched hands nothing back: on every other channel, entering a line state leaves the pair alone. -/
theorem lineEnter_red_of_not_output {n : Nat} {s : State} (h : dioIsOut s n = false) (old new : Nat) :
    (lineEnter n old new s).red = s.red := by
  rw [lineEnter]
  split
  · dsimp only
    rw [if_neg (by simp [h])]
    exact (raise__flows rfl (Flows.refl 131072 _)).red.resolve_left (by decide)
  · rfl

/-! ### A change that makes no channel NOT_USED -/

/-- A change after which no channel is NOT_USED that was not so before. -/
def KeepsUse (f : State → State) (s : State) : Prop := ∀ n, lineState (f s) n = 6 → lineState s n = 6

/-- It lets no channel drop its conditions: the channels only enter their line states. -/
theorem withLines_of_keepsUse {f : State → State} {s : State} (h : KeepsUse f s) :
    withLines f s = each (List.range 48) (fun n => lineEnter n (lineState s n) (lineState (f s) n)) (f s) := by
  have hstep : (fun n u => if lineState (f s) n = 6 ∧ lineState s n ≠ 6
      then dropConds n (lineEnter n (lineState s n) (lineState (f s) n) u) else lineEnter n (lineState s n) (lineState (f s) n) u) =
      fun n => lineEnter n (lineState s n) (lineState (f s) n) := by
    funext n u
    exact if_neg (fun hn => hn.2 (h n hn.1))
  exact congrArg (fun g => each (List.range 48) g (f s)) hstep

theorem withLines_dio {f : State → State} {s : State} (h : KeepsUse f s) : (withLines f s).dio = (f s).dio := by
  rw [withLines_of_keepsUse h]
  exact each_same (g := State.dio) (fun n t => lineEnter_dio n _ _ t) _ _

theorem within_withLines {f : State → State} {s : State} (h : KeepsUse f s) : Within lineRegs (f s) (withLines f s) := by
  rw [withLines_of_keepsUse h]
  exact within_each (fun n t => within_lineEnter n _ _ t) _ _

/-- A channel is NOT_USED by its configuration and the role alone. -/
theorem lineState_eq_six_iff (s : State) (n : Nat) :
    lineState s n = 6 ↔ dioFunc s n = 0 ∨ flag s (Reg.dioChCfg n) 4 = false ∨ listening s = true := by
  rw [lineState]
  split
  · simpa
  · next h =>
    simp only [h, iff_false]
    (repeat' split) <;> decide

end Sys2Proof.Machine
end

/-! ## FS+, the line conditions and the end of a test pulse (R278, R282, R283) -/
section
namespace Sys2Proof.Machine

/-! ### What uses a channel is kept -/

theorem dioFunc_congr {s t : State} {n : Nat} (hr : rd t (Reg.dioChCfg n) = rd s (Reg.dioChCfg n)) (he : t.effOld = s.effOld) :
    dioFunc t n = dioFunc s n := by rw [dioFunc, effFld, effRd, hr, he, ← effRd, ← effFld, ← dioFunc]

theorem keepsUse_of_same {f : State → State} {s : State} (hrole : rd (f s) Reg.sysRole = rd s Reg.sysRole)
    (hcfg : ∀ n, rd (f s) (Reg.dioChCfg n) = rd s (Reg.dioChCfg n)) (he : (f s).effOld = s.effOld) : KeepsUse f s := by
  intro n h
  rw [lineState_eq_six_iff] at h ⊢
  rwa [dioFunc_congr (hcfg n) he, flag, hcfg, ← flag, listening, role, fld, hrole, ← fld, ← role, ← listening] at h

/-! ### FS_LOW (R278) -/

/-- FS_VOLT as the sensing at `mv` leaves it. -/
def fsSensed (mv : Nat) (s : State) : State := wr Reg.dioFsVolt (min mv 65535) s

/-- FS_LOW entered or left, with what that does to the line states. -/
def fsTurned (low : Bool) (mv : Nat) (s : State) : State := withLines (setFlag (Reg.stat 0x07) 1 low) (fsSensed mv s)

theorem fsSensed_tidy {s : State} (h : s.tidy) (mv : Nat) : (fsSensed mv s).tidy := (wr_flows rfl (Flows.refl 0 s)).tidy h

theorem keepsUse_fsLow {s : State} (h : s.tidy) (low : Bool) : KeepsUse (setFlag (Reg.stat 0x07) 1 low) s :=
  keepsUse_of_same (rd_setFlag_ne h 1 low (by decide))
    (fun n => rd_setFlag_ne h 1 low (by simp only [Reg.stat, Reg.dioChCfg]; omega)) rfl

/-- After FS_LOW has turned, STAT shows it with the voltage. -/
theorem shown_fsTurned {s : State} (h : s.tidy) (low : Bool) (mv : Nat) : (fsTurned low mv s).tidy ∧
    fsLow (fsTurned low mv s) = low ∧ rd (fsTurned low mv s) Reg.dioFsVolt = min mv 65535 := by
  have h1 := fsSensed_tidy h mv
  obtain ⟨ht, hregs⟩ := within_withLines (keepsUse_fsLow h1 low) (setFlag_tidy h1 _ 1 low)
  refine ⟨ht, ?_, ?_⟩
  · rw [fsLow, flag, fsTurned, hregs _ (by decide), ← flag, flag_setFlag_self h1 _ low (by decide)]
  · rw [fsTurned, hregs _ (by decide), rd_setFlag_ne h1 1 low (by decide), fsSensed, rd_wr_self h]
    omega

theorem exec_fsLow_of_low {mv : Nat} {s : State} (h : mv < 18000) (hf : fsLow s = false) :
    exec (.fsLow mv) s = .next (raise_ 0x07 3 (fsTurned true mv s)) :=
  congrArg Host.Outcome.next (if_pos ⟨h, hf⟩)

theorem exec_fsLow_of_not {mv : Nat} {s : State} (h : 18000 ≤ mv ∨ fsLow s = true) : exec (.fsLow mv) s = .next s :=
  congrArg Host.Outcome.next (if_neg (by rintro ⟨h1, h2⟩; simp [h2] at h; omega))

theorem exec_fsLowClear_of_high {mv : Nat} {s : State} (h : 19000 ≤ mv) (hf : fsLow s = true) :
    exec (.fsLowClear mv) s = .next (fsTurned false mv s) :=
  congrArg Host.Outcome.next (if_pos ⟨h, hf⟩)

theorem exec_fsLowClear_of_not {mv : Nat} {s : State} (h : mv < 19000 ∨ fsLow s = false) : exec (.fsLowClear mv) s = .next s :=
  congrArg Host.Outcome.next (if_neg (by rintro ⟨h1, h2⟩; simp [h2] at h; omega))

/-! ### A line condition (R282) -/

theorem keepsUse_setCond (n c : Nat) (b : Bool) (s : State) : KeepsUse (setCond n c b) s :=
  keepsUse_of_same rfl (fun _ => rfl) rfl

/-- A condition of one channel is no matter of the line state of another. -/
theorem lineState_setCond_ne {n m c : Nat} (hc : c < 4) (hm : m ≠ n) (b : Bool) (s : State) :
    lineState (setCond n c b s) m = lineState s m := by
  have hconds : bitsOf (setCond n c b s).dio.conds (4 * m + 3) (4 * m) = bitsOf s.dio.conds (4 * m + 3) (4 * m) :=
    bitsOf_putBits_ne _ _ _ _ _ _ (by omega) (by omega)
  rw [lineState, hconds]
  rfl

theorem exec_lineStateChange_of_taken {ch : Fin 48} {cond : Fin 4} {holds : Bool} {s : State}
    (h : holds = false ∨ condCan s ch.val cond.val = true) :
    exec (.lineStateChange ch cond holds) s = .next (withLines (setCond ch.val cond.val holds) s) :=
  congrArg Host.Outcome.next (if_pos h)

theorem exec_lineStateChange_of_not {ch : Fin 48} {cond : Fin 4} {holds : Bool} {s : State} (h : holds = true)
    (hc : condCan s ch.val cond.val = false) : exec (.lineStateChange ch cond holds) s = .next s :=
  congrArg Host.Outcome.next (if_neg (by simp [h, hc]))

/-! ### What a condition of an input leaves alone -/

/-- What holds before a walk over a list and is kept by each of its steps holds after it. -/
theorem each_keeps {α : Type} {P : State → Prop} {f : α → State → State} {L : List α} (hf : ∀ x ∈ L, ∀ t, P t → P (f x t)) :
    ∀ {s : State}, P s → P (each L f s) := by
  induction L with
  | nil => exact fun h => h
  | cons x L ih => exact fun h => ih (fun y hy => hf y (List.mem_cons_of_mem x hy)) (hf x List.mem_cons_self _ h)

/-- The registers from DIO.CH0_CFG to DIO.CH47_CFG are none that entering line states may change. -/
theorem dioChCfg_not_mem_lineRegs {n : Nat} (h : n < 48) : Reg.dioChCfg n ∉ lineRegs := by
  simp only [lineRegs, List.mem_cons, List.not_mem_nil, Reg.dioCntLineFault, Reg.evtRaw, Reg.redLatent, Reg.redState,
    Reg.redCntHandback, Reg.dioChCfg, or_false]
  omega

/-- What a walk over the line states has left of `s` when it has handed nothing back. -/
def WalkedLines (s v : State) : Prop := v.tidy ∧ OnlyRegs lineRegs s v ∧ v.effOld = s.effOld ∧ v.red = s.red

/-- The walk over the line states after a condition of a channel that is not an output: nothing is handed back (R604). -/
theorem withLines_setCond_red {s : State} (ht : s.tidy) {n c : Nat} (hc : c < 4) (hn : n < 48) (hout : dioIsOut s n = false)
    (b : Bool) : (withLines (setCond n c b) s).red = s.red := by
  rw [withLines_of_keepsUse (keepsUse_setCond n c b s)]
  have hwalk : WalkedLines s (each (List.range 48) (fun m => lineEnter m (lineState s m) (lineState (setCond n c b s) m))
      (setCond n c b s)) := by
    refine each_keeps (fun m _ v hv => ?_) ⟨ht, fun _ _ => rfl, rfl, rfl⟩
    obtain ⟨hvt, hregs, heff, hred⟩ := hv
    obtain ⟨hvt', hregs'⟩ := within_lineEnter m (lineState s m) (lineState (setCond n c b s) m) v hvt
    refine ⟨hvt', hregs.trans hregs', (lineEnter_effOld _ _ _ v).trans heff, Eq.trans ?_ hred⟩
    by_cases hm : m = n
    · subst hm
      have hfunc := dioFunc_congr (hregs _ (dioChCfg_not_mem_lineRegs hn)) heff
      exact lineEnter_red_of_not_output (by rw [dioIsOut, hfunc, ← dioIsOut, hout]) _ _
    · rw [lineState_setCond_ne hc hm, lineEnter_of_same]
  obtain ⟨-, -, -, hred⟩ := hwalk
  exact hred

theorem dioIsOut_of_isIn {s : State} {n : Nat} (h : dioIsIn s n = true) : dioIsOut s n = false := by
  simp only [dioIsIn, dioIsOut, Bool.or_eq_true, beq_iff_eq, Bool.or_eq_false_iff, beq_eq_false_iff_ne] at h ⊢
  omega

/-! ### The end of a test pulse (R283) -/

/-- A value that is not the unlisted one reads back from any table. -/
theorem tabGet_tabSet_of_ne {α : Type} [DecidableEq α] (d : Nat → α) {k : Nat} {v : α} (h : v ≠ d k) (t : Tab α) :
    tabGet d (tabSet d t k v) k = v := by
  induction t with
  | nil => simp [tabSet, tabGet, h]
  | cons e t ih =>
    obtain ⟨j, w⟩ := e
    simp only [tabSet, if_neg h]
    split
    · simp [tabGet]
    · next hj =>
      split
      · simp [tabGet]
      · next hk => simpa only [tabGet, if_neg hj, if_neg hk] using ih

/-- The channel at the end of its test pulse: the pulse is no more under way. -/
def pulseOver (ch : Nat) (u : State) : State :=
  { u with dio := { u.dio with testClk := tabSet (fun _ => none) u.dio.testClk ch none } }

theorem exec_testPulse_of_none {ch : Fin 48} {s : State} (h : tabGet (fun _ => (none : Option Nat)) s.dio.testClk ch.val = none)
    (mv : Int) : exec (.testPulse ch mv) s = .next s := by
  show Host.Outcome.next _ = _
  rw [h]

theorem exec_testPulse_of_due {ch : Fin 48} {c : Nat} {s : State} (hin : dioIsIn s ch.val = true)
    (hcfg : flag s (Reg.dioChCfg ch.val) 4 = true) (hl : listening s = false)
    (hc : tabGet (fun _ => (none : Option Nat)) s.dio.testClk ch.val = some c) (hn : s.now ≤ c + 30000) (mv : Int) :
    exec (.testPulse ch mv) s = .next (testPulseEnd ch.val mv (pulseOver ch.val (advanceTo (c + 30000) s))) := by
  show Host.Outcome.next _ = _
  rw [hc]
  exact congrArg Host.Outcome.next (if_pos ⟨hin, hcfg, hl, hn⟩)

/-- The failures, or passes, in a row after one more. -/
def oneMore (t : Tab Nat) (ch : Nat) : Nat := min 2 (tabGet (fun _ => 0) t ch + 1)

/-- Channel `ch` with its failures and passes in a row, one test pulse counted. -/
def testCounted (ch f p : Nat) (u : State) : State :=
  pmcInc 184 { u with dio := { u.dio with testFail := tabSet (fun _ => (0 : Nat)) u.dio.testFail ch f
                                          testPass := tabSet (fun _ => (0 : Nat)) u.dio.testPass ch p } }

theorem testPulseEnd_of_on {ch : Nat} {mv : Int} {u : State} (h : rawLevel (dioFunc u ch) (bitOf u.dio.raw ch) mv = true) :
    testPulseEnd ch mv u = if oneMore u.dio.testFail ch = 2 then withLines (setCond ch 1 true)
      (testCounted ch (oneMore u.dio.testFail ch) 0 u) else testCounted ch (oneMore u.dio.testFail ch) 0 u := by
  rw [testPulseEnd, h]
  rfl

theorem testPulseEnd_of_off {ch : Nat} {mv : Int} {u : State} (h : rawLevel (dioFunc u ch) (bitOf u.dio.raw ch) mv = false) :
    testPulseEnd ch mv u = if oneMore u.dio.testPass ch = 2 then withLines (setCond ch 1 false)
      (testCounted ch 0 (oneMore u.dio.testPass ch) u) else testCounted ch 0 (oneMore u.dio.testPass ch) u := by
  rw [testPulseEnd, h]
  rfl

/-- The end of a test pulse on which the raw input reads on: one more failure is kept, and the second in a row sets SHORT. -/
theorem dio_testPulseEnd_of_on {ch : Nat} {mv : Int} {u : State}
    (h : rawLevel (dioFunc u ch) (bitOf u.dio.raw ch) mv = true) :
    tabGet (fun _ => 0) (testPulseEnd ch mv u).dio.testFail ch = oneMore u.dio.testFail ch ∧
      (1 ≤ tabGet (fun _ => 0) u.dio.testFail ch → bitOf (testPulseEnd ch mv u).dio.conds (4 * ch + 1) = true) := by
  have hkept := tabGet_tabSet_of_ne (fun _ => 0) (k := ch) (v := oneMore u.dio.testFail ch) (by simp only [oneMore]; omega)
    u.dio.testFail
  rw [testPulseEnd_of_on h]
  split
  · rw [withLines_dio (keepsUse_setCond ch 1 true _)]
    exact ⟨hkept, fun _ => bitOf_putBit_self _ _ _⟩
  · next hone => exact ⟨hkept, fun h1 => absurd (by simp only [oneMore]; omega) hone⟩

/-- The end of a test pulse on which it reads off: one more pass is kept, and the second in a row clears SHORT. -/
theorem dio_testPulseEnd_of_off {ch : Nat} {mv : Int} {u : State}
    (h : rawLevel (dioFunc u ch) (bitOf u.dio.raw ch) mv = false) :
    tabGet (fun _ => 0) (testPulseEnd ch mv u).dio.testPass ch = oneMore u.dio.testPass ch ∧
      (1 ≤ tabGet (fun _ => 0) u.dio.testPass ch → bitOf (testPulseEnd ch mv u).dio.conds (4 * ch + 1) = false) := by
  have hkept := tabGet_tabSet_of_ne (fun _ => 0) (k := ch) (v := oneMore u.dio.testPass ch) (by simp only [oneMore]; omega)
    u.dio.testPass
  rw [testPulseEnd_of_off h]
  split
  · rw [withLines_dio (keepsUse_setCond ch 1 false _)]
    exact ⟨hkept, fun _ => bitOf_putBit_self _ _ _⟩
  · next hone => exact ⟨hkept, fun h1 => absurd (by simp only [oneMore]; omega) hone⟩

/-- The end of a test pulse of an input leaves the pair alone. -/
theorem testPulseEnd_red {u : State} (ht : u.tidy) {ch : Nat} (hn : ch < 48) (hin : dioIsIn u ch = true) (mv : Int) :
    (testPulseEnd ch mv u).red = u.red := by
  have hset (f p : Nat) (b : Bool) : (withLines (setCond ch 1 b) (testCounted ch f p u)).red = u.red :=
    withLines_setCond_red (s := testCounted ch f p u) ht (by decide) hn (dioIsOut_of_isIn hin) b
  cases h : rawLevel (dioFunc u ch) (bitOf u.dio.raw ch) mv
  · rw [testPulseEnd_of_off h]
    split
    · exact hset _ _ false
    · rfl
  · rw [testPulseEnd_of_on h]
    split
    · exact hset _ _ true
    · rfl

theorem pulseOver_flows (ch : Nat) (u : State) : Flows 240517717978 u (pulseOver ch u) := by
  have h := Flows.refl 240517717978 u
  simp [pulseOver, h]

/-- The end of a test pulse of an input changes what an event may change, and the discrete channels. -/
theorem testPulseEnd_pulseOver_eq {u : State} (ht : u.tidy) {ch : Nat} (hn : ch < 48) (hin : dioIsIn u ch = true) (mv : Int) :
    testPulseEnd ch mv (pulseOver ch u) =
      { evented u (testPulseEnd ch mv (pulseOver ch u)) with dio := (testPulseEnd ch mv (pulseOver ch u)).dio } := by
  have hred : (testPulseEnd ch mv (pulseOver ch u)).red = u.red := testPulseEnd_red (u := pulseOver ch u) ht hn hin mv
  have hkept := eq_evented_red_dio (testPulseEnd_flows rfl (pulseOver_flows ch u) (x1 := ch) (x2 := mv))
  rwa [hred] at hkept

end Sys2Proof.Machine
end

/-! ## The registers that the passage of control clocks can change -/
section
namespace Sys2Proof.Machine

/-- The registers that the passage of control clocks can change: those of the pages from CLE on, and of the pages before it EVT_RAW,
the role, MISSING of RST.STATE, and what SEQ shows of late entries (R170). -/
def ClockReg (a : Nat) : Prop :=
  0x10B000 ≤ a ∨ a % 0x1000 = 0x010 ∨ a = Reg.sysRole ∨ a = Reg.rstState ∨ a = Reg.seqCntLate ∨ a = Reg.seqLastLate ∨
    a = Reg.seqLastLateWord

theorem clockReg_high {a b : Nat} (h : 0x10B000 ≤ a) : ClockReg (a + b) := .inl (Nat.le_add_right_of_le h)

theorem clockReg_evtRaw (p : Nat) : ClockReg (Reg.evtRaw p) := .inr (.inl (by simp only [Reg.evtRaw]; omega))

/-- A change that keeps the canonical form and every register that the passage of clocks cannot change. -/
def Clocked (s t : State) : Prop := s.tidy → t.tidy ∧ ∀ a, ¬ ClockReg a → rd t a = rd s a

theorem Clocked.refl (s : State) : Clocked s s := fun h => ⟨h, fun _ _ => rfl⟩

/-! ### The rules: what a change after `s` adds to what led from `s0` to `s` -/

variable {s0 s : State}

theorem Clocked.andThen {t : State} (h : Clocked s0 s) (g : Clocked s t) : Clocked s0 t := fun ht =>
  ⟨(g (h ht).1).1, fun a ha => ((g (h ht).1).2 a ha).trans ((h ht).2 a ha)⟩

/-- A change that leaves the registers alone. -/
theorem Clocked.of_flows {t : State} (h : Clocked s0 s) (g : Flows 4 s t) : Clocked s0 t :=
  h.andThen fun hs => ⟨g.tidy hs, fun a _ => rd_eq_of_regs (g.regs.resolve_left (by decide)) a⟩

theorem Clocked.thenWr {a : Nat} (ha : ClockReg a) (v : Nat) (h : Clocked s0 s) : Clocked s0 (wr a v s) :=
  h.andThen fun hs => ⟨(wr_flows rfl (Flows.refl 0 s)).tidy hs, fun _ hb => rd_wr_ne hs v (fun e => hb (e ▸ ha))⟩

theorem Clocked.thenSetFld {a : Nat} (ha : ClockReg a) (hi lo v : Nat) (h : Clocked s0 s) : Clocked s0 (setFld a hi lo v s) :=
  h.thenWr ha _

theorem Clocked.thenSetFlag {a : Nat} (ha : ClockReg a) (i : Nat) (b : Bool) (h : Clocked s0 s) : Clocked s0 (setFlag a i b s) :=
  h.thenWr ha _

theorem Clocked.thenBump {a : Nat} (ha : ClockReg a) (n : Nat) (h : Clocked s0 s) : Clocked s0 (bump a n s) := h.thenWr ha _

theorem Clocked.thenRaise (p b : Nat) (h : Clocked s0 s) : Clocked s0 (raise_ p b s) :=
  h.andThen fun hs => ⟨raise_tidy hs p b, fun _ hb =>
    rd_raise hs p b (fun e => hb (e ▸ clockReg_evtRaw p)) (fun e => hb (e ▸ clockReg_evtRaw 0x16))⟩

theorem Clocked.thenPmcAdd (i n : Nat) (h : Clocked s0 s) : Clocked s0 (pmcAdd i n s) := fun ht => h ht

theorem Clocked.thenPmcInc (i : Nat) (h : Clocked s0 s) : Clocked s0 (pmcInc i s) := fun ht => h ht

theorem Clocked.thenEmit (o : Out) (h : Clocked s0 s) : Clocked s0 (emit o s) := fun ht => h ht

theorem Clocked.ite {c : Prop} [Decidable c] {a b : State} (ha : Clocked s0 a) (hb : Clocked s0 b) :
    Clocked s0 (if c then a else b) := by
  split
  · exact ha
  · exact hb

theorem Clocked.thenWhen {f : State → State} (b : Bool) (h : Clocked s0 s) (hf : ∀ {t}, Clocked s0 t → Clocked s0 (f t)) :
    Clocked s0 (when_ b f s) :=
  .ite (hf h) h

theorem Clocked.thenEach {α : Type} {f : α → State → State} (hf : ∀ x {t}, Clocked s0 t → Clocked s0 (f x t)) :
    ∀ (L : List α) {s : State}, Clocked s0 s → Clocked s0 (each L f s)
  | [], _, h => h
  | x :: L, _, h => Clocked.thenEach hf L (hf x h)

/-! ### Roles, programs and lanes (R79, R255, R270, R608-R610, R675) -/

theorem Clocked.thenSetRole (r : Nat) (h : Clocked s0 s) : Clocked s0 (setRole r s) :=
  .ite h ((h.thenSetFld (by simp [ClockReg]) 2 0 r).thenRaise 0x00 1)

theorem Clocked.thenAchListen (n : Nat) (h : Clocked s0 s) : Clocked s0 (achListen n s) := by
  have hstat : ClockReg (Reg.achHartStat n) := clockReg_high (by decide)
  have hend {t : State} (r : Nat) (g : Clocked s0 t) : Clocked s0 (hartEnd n r t) :=
    (((g.thenSetFld hstat 2 0 0).thenSetFld hstat 11 8 r).thenPmcInc (72 + n)).thenRaise (0x20 + n) 13
  have habort : Clocked s0 (hartAbort n s) :=
    .ite h (hend 5 ((Clocked.ite ((h.thenEmit _).of_flows (putAch_flows rfl (Flows.refl 4 _))) h).thenSetFlag hstat 3 false))
  exact habort.thenSetFld (clockReg_high (by decide)) 8 7 0

theorem Clocked.thenProgEnd (p st : Nat) (h : Clocked s0 s) : Clocked s0 (progEnd p st s) :=
  ((h.thenSetFld (clockReg_high (by decide)) 3 0 st).of_flows (putProg_flows rfl (Flows.refl 4 _))).thenWr (.inl (by decide)) _

theorem Clocked.thenProgStart (p : Nat) (h : Clocked s0 s) : Clocked s0 (progStart p s) :=
  .ite h <| .ite (h.thenProgEnd p 3) <| .ite ((h.thenProgEnd p 1).thenSetFld (clockReg_high (by decide)) 7 4 3) <|
    ((h.of_flows (putProg_flows rfl (Flows.refl 4 s))).thenProgEnd p 2).thenWr (clockReg_high (by decide)) _

theorem Clocked.thenProgRole (h : Clocked s0 s) : Clocked s0 (progRole s) :=
  .thenEach (fun p _ g => .ite (g.thenProgEnd p 3) (.ite (g.thenProgStart p) g)) _ h

theorem Clocked.thenMissingClear (h : Clocked s0 s) : Clocked s0 (missingClear s) :=
  .ite h (h.thenSetFld (by simp [ClockReg]) 18 16 _)

theorem Clocked.thenTakeRole (r : Nat) (h : Clocked s0 s) : Clocked s0 (takeRole r s) := by
  have h0 := (h.thenSetRole r).thenProgRole.thenMissingClear
  have h1 : Clocked s0 (if listening (missingClear (progRole (setRole r s))) && !listening s then
      noLines (each (List.range 32) achListen (missingClear (progRole (setRole r s)))) else missingClear (progRole (setRole r s))) :=
    .ite (.of_flows (.thenEach (fun n _ g => g.thenAchListen n) _ h0) (noLines_flows rfl (Flows.refl 4 _))) h0
  exact .ite (h1.thenWr (.inl (by decide)) 0) h1

theorem Clocked.thenSetLaneMode (h : Clocked s0 s) : Clocked s0 (setLaneMode s) :=
  have h1 := h.thenSetFld (a := Reg.redState) (.inl (by decide)) 1 0 (if driving s then laneMode s else 0)
  .ite h1 (h1.thenSetFld (.inl (by decide)) 11 8 _)

theorem Clocked.thenLaneOffline (l : Nat) (h : Clocked s0 s) : Clocked s0 (laneOffline l s) :=
  h.thenSetFld (.inl (by decide)) _ _ 0

theorem Clocked.thenClampToken (cause : Nat) (h : Clocked s0 s) : Clocked s0 (clampToken cause s) := by
  have hgave : Clocked s0 { s with red := { s.red with
      own := if s.red.own = .present then .released else s.red.own, clamped := true } } := fun ht => h ht
  exact .ite ((((hgave.thenWr (.inl (by decide)) _).thenBump (.inl (by decide)) 1).thenPmcInc 175).thenRaise 0x15 1) hgave

theorem Clocked.thenReleaseToken (cause : Nat) (h : Clocked s0 s) : Clocked s0 (releaseToken cause s) :=
  (h.thenClampToken cause).of_flows (sendHeartbeat_flows rfl (Flows.refl 4 _))

theorem Clocked.thenEnterSyncing (h : Clocked s0 s) : Clocked s0 (enterSyncing s) :=
  (((h.of_flows (leaveRole_flows rfl (Flows.refl 4 s))).thenWr (.inl (by decide)) 0).thenTakeRole roleSyncing).thenSetLaneMode

theorem Clocked.thenStationLost (h : Clocked s0 s) : Clocked s0 (stationLost s) :=
  have h1 := h.thenSetFlag (a := Reg.redState) (.inl (by decide)) 3 true
  have h2 : Clocked s0 (raise_ 0x15 11
      { setFlag Reg.redState 3 true s with seq := { (setFlag Reg.redState 3 true s).seq with halted := true } }) :=
    .thenRaise 0x15 11 (fun ht => h1 ht)
  .ite (fun ht => h2 ht) h2

theorem Clocked.thenLaneVotedOut (l : Nat) (h : Clocked s0 s) : Clocked s0 (laneVotedOut l s) :=
  have h1 := h.thenBump (a := Reg.redCntLaneFault) (.inl (by decide)) 1
  .ite h1 (.ite h1.thenStationLost (((h1.thenLaneOffline l).thenPmcInc 173).thenRaise 0x15 10))

theorem Clocked.thenLaneFault (l : Nat) (h : Clocked s0 s) : Clocked s0 (laneFault l s) :=
  have hoff (k : Nat) := (h.thenLaneOffline k).thenRaise 0x15 10
  .ite h <| .ite (.ite (hoff 2) ((h.thenBump (.inl (by decide)) 1).thenReleaseToken 0x3).thenEnterSyncing) <|
    .ite (h.thenLaneVotedOut l) (.ite (hoff l).thenEnterSyncing (hoff l))

/-! ### Reads and writes of the lanes (R166, R170, R181, R188, R608) -/

theorem Clocked.thenEccCheck (bank w l : Nat) (h : Clocked s0 s) : Clocked s0 (eccCheck bank w l s) := by
  have hcell (double : Bool) (c : ICell) : Clocked s0 (putLaneCell l bank w c (eccNote l bank w double s)) :=
    h.of_flows (putLaneCell_flows rfl (eccNote_flows rfl (Flows.refl 4 s)))
  rw [eccCheck]
  split
  · exact h
  · exact ((hcell false _).thenPmcInc 13).thenRaise 0x05 1
  · exact ((hcell true _).thenPmcInc 14).thenRaise 0x05 0

theorem Clocked.thenEngineTouch (w : Nat) (h : Clocked s0 s) : Clocked s0 (engineTouch w s) :=
  .ite h (.thenEach (fun l _ g => g.thenEccCheck _ w l) _ h)

theorem Clocked.thenHostTouch (w : Nat) (h : Clocked s0 s) : Clocked s0 (hostTouch w s) := .ite h (h.thenEccCheck _ w _)

theorem Clocked.thenHandOver {α : Type} [DecidableEq α] (f : Nat → α) {k : α → State → State}
    (hk : ∀ c {t}, Clocked s0 t → Clocked s0 (k c t)) (h : Clocked s0 s) : Clocked s0 (handOver f k s) :=
  have h1 : Clocked s0 (each (voteOf ((lanesIn s).map (fun l => (l, f l)))).2 laneFault s) :=
    .thenEach (fun l _ g => g.thenLaneFault l) _ h
  .ite (hk _ h1) h1

theorem Clocked.thenCopyWord (src w : Nat) (h : Clocked s0 s) : Clocked s0 (copyWord src w s) :=
  have h1 : Clocked s0 (if s.img.upsets = [] then s else each (lanesLive s) (eccCheck src w) s) :=
    .ite h (.thenEach (fun l _ g => g.thenEccCheck src w l) _ h)
  .thenEach (fun _ _ g => g.of_flows (putLaneCell_flows rfl (Flows.refl 4 _))) _
    (h1.of_flows (putCell_flows rfl (Flows.refl 4 _)))

theorem Clocked.thenOpenLine (line : Nat) (h : Clocked s0 s) : Clocked s0 (openLine line s) :=
  have h1 : Clocked s0 (each (List.range 16) (fun i => copyWord (lineDone s line) (16 * line + i)) s) :=
    .thenEach (fun i _ g => g.thenCopyWord _ (16 * line + i)) _ h
  .ite h ((h1.of_flows (flows_dirty rfl (Flows.refl 4 _))).thenPmcInc 12)

theorem Clocked.thenLaneWrite (w : Nat) (f : Nat → ICell) (h : Clocked s0 s) : Clocked s0 (laneWrite w f s) := by
  rw [laneWrite]
  split
  · refine .thenHandOver _ (fun c _ g => .thenEach (fun l _ g => g.of_flows (putLaneCell_flows rfl (Flows.refl 4 _))) _
      (g.of_flows (putCell_flows rfl (Flows.refl 4 _)))) ?_
    split
    · exact (h.thenOpenLine _).thenEngineTouch _
    · exact h.thenOpenLine _
  · exact h

theorem Clocked.thenEntryUpd (uid : Nat) (f : OutEntry → OutEntry) (h : Clocked s0 s) : Clocked s0 (entryUpd uid f s) :=
  fun ht => h ht

theorem Clocked.thenNoteLate (e : Entry) (w : Nat) (o : OutEntry) (h : Clocked s0 s) : Clocked s0 (noteLate e w o s) := by
  have hlate : Clocked s0 { s with seq := { s.seq with lateClk := some s.now } } := fun ht => h ht
  have hcnt : Clocked s0 (countLate s) := hlate.thenBump (by simp [ClockReg]) 1
  exact (((hcnt.thenWr (by simp [ClockReg]) _).thenWr (by simp [ClockReg]) w).thenPmcInc 4).thenRaise 0x04 0

theorem Clocked.thenNoteReads (uid : Nat) (e : Entry) (ws : List Nat) (h : Clocked s0 s) : Clocked s0 (noteReads uid e ws s) := by
  have h1 : Clocked s0 (pmcAdd 8 ws.length (each ws engineTouch s)) :=
    .thenPmcAdd 8 _ (.thenEach (fun w _ g => g.thenEngineTouch w) ws h)
  rw [noteReads]
  split
  · exact .ite h1 ((h1.thenEntryUpd uid _).thenNoteLate e _ _)
  · exact h1

theorem Clocked.thenReadVoted (uid : Nat) (e : Entry) (ws : List Nat) (h : Clocked s0 s) : Clocked s0 (readVoted uid e ws s).2 :=
  .thenEach (fun l _ g => g.thenLaneFault l) _ (h.thenNoteReads uid e ws)

theorem Clocked.thenEntryWrite (uid w : Nat) (f : Nat → ICell) (h : Clocked s0 s) : Clocked s0 (entryWrite uid w f s) := by
  rw [entryWrite]
  split
  · exact .ite (((h.thenEntryUpd uid _).thenLaneWrite w f).thenPmcInc 9) h
  · exact h

theorem Clocked.thenEntryCopy (uid : Nat) (e : Entry) (src dst : Nat) (h : Clocked s0 s) : Clocked s0 (entryCopy uid e src dst s) :=
  (h.thenNoteReads uid e [src]).thenEntryWrite uid dst _

theorem Clocked.thenEntryFetch (uid : Nat) (e : Entry) (w : Nat) (h : Clocked s0 s) : Clocked s0 (entryFetch uid e w s) :=
  .thenHandOver _ (fun _ _ g => g.thenEntryUpd uid _) (h.thenNoteReads uid e [w])

/-! ### Loops, maps and jobs (R344, R355, R397-R412, R498-R500, R512, R542) -/

theorem Clocked.thenStepEvents (old : LoopSt) (r : StepRes) (h : Clocked s0 s) : Clocked s0 (stepEvents old r s) := by
  have hcount {a : Nat} (ha : ClockReg a) (i b : Nat) {t : State} (g : Clocked s0 t) :
      Clocked s0 (raise_ 0x0B b (pmcInc i (bump a 1 t))) := ((g.thenBump ha 1).thenPmcInc i).thenRaise 0x0B b
  have hnote {a : Nat} (ha : ClockReg a) (b : Nat) {t : State} (g : Clocked s0 t) : Clocked s0 (raise_ 0x0B b (bump a 1 t)) :=
    (g.thenBump ha 1).thenRaise 0x0B b
  have h1 := ((h.thenBump (a := Reg.cleCntSteps) (.inl (by decide)) 1).thenPmcInc 16).thenWhen r.hSubst
    (hcount (a := Reg.cleCntHSubst) (.inl (by decide)) 23 7)
  have h2 := h1.thenWhen (bitOf r.x.status 5 && !bitOf old.status 5) (hnote (a := Reg.cleCntPvBad) (.inl (by decide)) 1)
  exact (((((h2.thenWhen _ (.thenRaise 0x0B 6)).thenWhen _ (hcount (a := Reg.cleCntRegionChg) (.inl (by decide)) 18 3)).thenWhen _
    (hnote (a := Reg.cleCntNumeric) (.inl (by decide)) 2)).thenWhen _ (.thenPmcInc 19)).thenWhen _ (.thenPmcInc 20)).thenWhen _
    (hcount (a := Reg.cleCntOsc) (.inl (by decide)) 21 0)

theorem Clocked.thenEntryLoop (uid k : Nat) (h : Clocked s0 s) : Clocked s0 (entryLoop uid k s) := by
  rw [entryLoop]
  split
  · exact h
  · refine .thenHandOver _ (fun v t g => .thenEntryUpd uid _ ?_) (h.thenNoteReads uid _ _)
    have hstep {u : State} (g : Clocked s0 u) (b c : Bool) (old : LoopSt) (r : StepRes) :
        Clocked s0 (stepEvents old r (setOscMap k c (setHoldMap k b u))) :=
      ((g.thenSetFlag (clockReg_high (by decide)) _ b).thenSetFlag (clockReg_high (by decide)) _ c).thenStepEvents old r
    have hlanes {u : State} (g : Clocked s0 u) (L : List Nat) (x : LoopSt) (y : Nat → LoopSt) :
        Clocked s0 (each L (fun l v => putLaneLoop l k (y l) v) (putLoop k x u)) :=
      .thenEach (fun l _ g => g.of_flows (putLaneLoop_flows rfl (Flows.refl 4 _))) L
        (g.of_flows (putLoop_flows rfl (Flows.refl 4 _)))
    dsimp only
    split
    · exact (hstep (hlanes g _ _ _) _ _ _ _).thenWr (clockReg_high (by decide)) _
    · exact hstep (hlanes g _ _ _) _ _ _ _

theorem Clocked.thenEntrySend (uid : Nat) (h : Clocked s0 s) : Clocked s0 (entrySend uid s) := by
  rw [entrySend]
  split
  · exact h
  · refine .ite ?sent (.ite h ?bad)
    case sent =>
      have hgood (d : Nat) : Clocked s0 { s with mbcBad := s.mbcBad.filter (· ≠ d) } := fun ht => h ht
      have hq (d n : Nat) (f : MbcSt → MbcSt) : Clocked s0 (mbcUpd n f { s with mbcBad := s.mbcBad.filter (· ≠ d) }) :=
        (hgood d).of_flows (mbcUpd_flows rfl (Flows.refl 4 _))
      exact .ite ((hq _ _ _).thenBump (clockReg_high (by decide)) 1) (hq _ _ _)
    case bad =>
      have hbad (d : Nat) : Clocked s0 { s with mbcBad := d :: s.mbcBad } := fun ht => h ht
      exact ((hbad _).thenBump (clockReg_high (by decide)) 1).thenRaise _ 6

theorem Clocked.thenMapDecide (k : Nat) (h : Clocked s0 s) : Clocked s0 (mapDecide k s).2 := by
  have hput (x : MapSt) : Clocked s0 (putMap k x s) := h.of_flows (putMap_flows rfl (Flows.refl 4 s))
  rw [mapDecide]
  split
  · split
    · exact ((hput _).thenBump (clockReg_high (by decide)) 1).thenRaise _ 8
    · exact hput _
  · split
    · exact hput _
    · exact .ite (hput _) (((hput _).thenBump (clockReg_high (by decide)) 1).thenRaise _ 7)

theorem Clocked.thenFieldDecide (k : Nat) (h : Clocked s0 s) : Clocked s0 (fieldDecide k s).2 := by
  have hput (x : MapSt) : Clocked s0 (putMslMap k x s) := h.of_flows (putMslMap_flows rfl (Flows.refl 4 s))
  rw [fieldDecide]
  split
  · exact ((hput _).thenBump (clockReg_high (by decide)) 1).thenRaise 0x12 4
  · exact hput _
  · split
    · exact hput _
    · split
      · exact hput _
      · exact .ite (hput _) (((hput _).thenBump (clockReg_high (by decide)) 1).thenRaise 0x12 5)

/-- A slot's state word. -/
theorem clockReg_slvSlotState (j : Nat) : ClockReg (Reg.slvSlotState j) := clockReg_high (by decide)

theorem Clocked.thenJobEnds (j cause : Nat) (h : Clocked s0 s) : Clocked s0 (jobEnds j cause s) :=
  have hq : Clocked s0 { s with slv := { s.slv with queue := s.slv.queue.filter (· ≠ j) } } := fun ht => h ht
  hq.thenWr (clockReg_slvSlotState j) _

theorem Clocked.thenPutJob (j : Nat) (x : JobSlot) (h : Clocked s0 s) : Clocked s0 (putJob j x s) :=
  h.of_flows (putJob_flows rfl (Flows.refl 4 s))

theorem Clocked.thenEntryGathered (uid : Nat) (h : Clocked s0 s) : Clocked s0 (entryGathered uid s) := by
  rw [entryGathered]
  split
  · exact h
  · exact .ite (h.thenJobEnds _ 5) (.ite ((h.thenPutJob _ _).thenSetFlag (clockReg_slvSlotState _) 18 _)
      (((h.thenJobEnds _ 6).thenBump (.inl (by decide)) 1).thenRaise 0x0C 7))

theorem Clocked.thenLaneCheck (j : Nat) (h : Clocked s0 s) : Clocked s0 (laneCheck j s) := by
  rw [laneCheck]
  split
  · have h1 (x : JobSlot) (v : Nat) :=
      ((h.thenPutJob j x).thenWr (a := Reg.slvSlotRho j) (clockReg_high (by decide)) v).thenPmcInc 37
    exact .ite ((((h1 _ _).thenSetFlag (clockReg_slvSlotState j) 17 true).thenBump (.inl (by decide)) 1).thenRaise 0x0C 6) (h1 _ _)
  · exact h

theorem Clocked.thenFallbackCells (j : Nat) (cells : List ICell) (h : Clocked s0 s) : Clocked s0 (fallbackCells j cells s).2 := by
  have hreg := clockReg_slvSlotState j
  rw [fallbackCells]
  split
  · exact h.thenSetFld hreg 23 20 4
  · exact ((h.of_flows (badCells_flows rfl (Flows.refl 4 s))).thenSetFld hreg 23 20 5).thenSetFlag hreg 15 true

theorem Clocked.thenSlvFallback (uid : Nat) (e : Entry) (j : Nat) (h : Clocked s0 s) : Clocked s0 (slvFallback uid e j s).2 :=
  (((((h.thenReadVoted uid e _).thenFallbackCells j _).thenWhen _ (fun g => g.thenPutJob j _)).thenBump (.inl (by decide)) 1).thenRaise
    0x0C 4).thenPmcInc 39

theorem Clocked.thenSlvAges (j : Nat) (h : Clocked s0 s) : Clocked s0 (slvAges j s) :=
  (h.thenSetFld (clockReg_slvSlotState j) 7 0 _).thenPmcInc 38

theorem Clocked.thenSlvFails (uid : Nat) (e : Entry) (j : Nat) (h : Clocked s0 s) : Clocked s0 (slvFails uid e j s).2 := by
  rw [slvFails]
  split
  · exact (((h.thenSlvAges j).thenSetFld (clockReg_slvSlotState j) 23 20 3).thenBump (.inl (by decide)) 1).thenRaise 0x0C 3
  · exact (h.thenSlvAges j).thenSlvFallback uid e j

theorem Clocked.thenSlvPublish (uid : Nat) (e : Entry) (j : Nat) (it : JobIter) (good : Bool) (h : Clocked s0 s) :
    Clocked s0 (slvPublish uid e j it good s).2 := by
  have hreg := clockReg_slvSlotState j
  rw [slvPublish]
  split
  · have h1 := fun x => ((h.thenPutJob j x).thenSetFld hreg 7 0 0).thenSetFld hreg 23 20 (if good then 1 else 2)
    exact .ite (h1 _) (((h1 _).thenBump (.inl (by decide)) 1).thenRaise 0x0C 2)
  · exact ((((h.thenSetFld hreg 27 24 4).thenBump (.inl (by decide)) 1).thenRaise 0x0C 0).thenSlvAges j).thenSlvFallback uid e j

theorem Clocked.thenSlvOutcome (uid : Nat) (e : Entry) (j : Nat) (h : Clocked s0 s) : Clocked s0 (slvOutcome uid e j s).2 := by
  have hreg := clockReg_slvSlotState j
  have h1 := fun b => (h.thenSetFlag hreg 16 b).thenSetFlag hreg 15 false
  rw [slvOutcome]
  dsimp only
  split
  · exact ((h1 _).thenSlvAges j).thenSlvFallback uid e j
  · split
    · exact (h1 _).thenSetFld hreg 23 20 6
    · split
      · split
        · exact (h1 _).thenSlvPublish uid e j _ _
        · split
          · exact (h1 _).thenSlvPublish uid e j _ _
          · exact (h1 _).thenSlvFails uid e j
      · exact (h1 _).thenSlvFails uid e j

theorem Clocked.thenEntryCollect (uid : Nat) (h : Clocked s0 s) : Clocked s0 (entryCollect uid s) := by
  rw [entryCollect]
  split
  · exact h
  · exact ((h.thenLaneCheck _).thenSlvOutcome uid _ _).thenEntryUpd uid _

/-! ### Entries in progress, notifications, snapshots and the clock itself (R166, R526, R571, R655) -/

theorem Clocked.thenDoAct1 (uid : Nat) (e : Entry) (a : Act) (h : Clocked s0 s) : Clocked s0 (doAct1 uid e s a) := by
  cases a with
  | put w c => exact h.thenEntryWrite uid w _
  | keep w t bad => exact h.thenEntryWrite uid w _
  | copy src dst => exact h.thenEntryCopy uid e src dst
  | fetch w => exact h.thenEntryFetch uid e w
  | gathered => exact h.thenEntryGathered uid
  | collect => exact h.thenEntryCollect uid
  | send => exact h.thenEntrySend uid
  | loop k => exact h.thenEntryLoop uid k
  | mapRec k => exact (h.thenMapDecide k).thenEntryUpd uid _
  | fieldMap k => exact (h.thenFieldDecide k).thenEntryUpd uid _
  | next => exact h

theorem Clocked.thenDoAct (uid : Nat) (a : Act) (h : Clocked s0 s) : Clocked s0 (doAct uid a s) := by
  rw [doAct]
  split
  · exact h
  · split
    · exact (h.thenEntryUpd uid _).thenDoAct1 uid _ _
    · exact h.thenDoAct1 uid _ _

theorem Clocked.thenSettle (c : Nat) (h : Clocked s0 s) : Clocked s0 (settle c s) := by
  have h1 : Clocked s0 { s with seq := { s.seq with
      outst := s.seq.outst.map (fun o => { o with todo := o.todo.filter (fun a => c < a.1) }) } } := fun ht => h ht
  have h2 := fun due => Clocked.thenEach (fun (d : Nat × Act) _ g => g.thenDoAct d.1 d.2) due h1
  exact fun ht => h2 _ ht

theorem Clocked.thenSendNote (p new k : Nat) (h : Clocked s0 s) : Clocked s0 (sendNote p new k s) := by
  have hput (x : Session) : Clocked s0 (putSession k x s) := h.of_flows (putSession_flows rfl (Flows.refl 4 s))
  have hdrop := fun x => ((hput x).thenBump (a := Reg.sesCntNotifyDrop) (.inl (by decide)) 1).thenPmcInc 159
  have hraised {t : State} (g : Clocked s0 t) : Clocked s0 { t with ses := { t.ses with dropRaised := true } } := fun ht => g ht
  rw [sendNote]
  dsimp only
  split
  · split
    · exact ((hput _).thenEmit _).thenPmcInc 138
    · exact .ite (hdrop _) ((hraised (hdrop _)).thenRaise 0x14 7)
  · exact h

theorem Clocked.thenSendNotes (e : Nat × Nat) (h : Clocked s0 s) : Clocked s0 (sendNotes e s) :=
  have h1 := Clocked.thenEach (fun k _ g => g.thenSendNote e.1 e.2 k) (List.range 16) h
  .ite ((h1.thenEmit _).thenPmcInc 218) h1

theorem Clocked.thenFlushNotes (h : Clocked s0 s) : Clocked s0 (flushNotes s) :=
  have h1 : Clocked s0 { s with ses := { s.ses with noteBuf := [] } } := fun ht => h ht
  .thenEach (fun e _ g => g.thenSendNotes e) _ h1

theorem Clocked.thenCaptureOne (h : Clocked s0 s) : Clocked s0 (captureOne s) := by
  have htouch (x : SnapRef) {t : State} (g : Clocked s0 t) : Clocked s0 (snapTouch x t) := by
    cases x with
    | reg a => exact g
    | img w => exact g.thenHostTouch w
  rw [captureOne]
  split
  · next r0 _ =>
    have h1 := Clocked.thenEach htouch (r0.todo.take 1) h
    exact fun ht => h1 ht
  · exact h

theorem Clocked.thenCaptureN : ∀ (n : Nat) {s : State}, Clocked s0 s → Clocked s0 (captureN n s)
  | 0, _, h => h
  | n + 1, _, h => Clocked.thenCaptureN n h.thenCaptureOne

theorem Clocked.thenWrapCheck (h : Clocked s0 s) : Clocked s0 (wrapCheck s) :=
  have h1 : Clocked s0 { s with pmc := { s.pmc with wrapped := false } } := fun ht => h ht
  .ite (h1.thenRaise 0x17 0) h

theorem Clocked.thenNetSends (c : Nat) (h : Clocked s0 s) : Clocked s0 (netSends c s) := by
  have hgo : Clocked s0 { s with net := { s.net with pubs := s.net.pubs.filter (fun p => c < p.done) } } := fun ht => h ht
  have hgram (p : PubJob) (x : List Nat) {t : State} (g : Clocked s0 t) : Clocked s0
      (pmcAdd 129 x.length (pmcInc 128 (bump Reg.netCntPub 1 (emit (.pub p.group p.vlan x) t)))) :=
    (((g.thenEmit _).thenBump (.inl (by decide)) 1).thenPmcInc 128).thenPmcAdd 129 x.length
  rw [netSends]
  dsimp only
  split
  · exact h
  · exact .thenEach (fun p _ g => .thenEach (hgram p) _ g) _ hgo

theorem Clocked.thenRunTo (c : Nat) (h : Clocked s0 s) : Clocked s0 (runTo c s) := by
  have h2 := (Clocked.thenEach (fun k _ g => g.of_flows (thrCount_flows rfl (Flows.refl 4 _) (x1 := c - s.now) (x2 := k)))
    (List.range 16) h.thenFlushNotes).thenPmcAdd 0 (c - s.now)
  have h3 := fun n => Clocked.thenCaptureN n h2
  have hnow : Clocked s0 { captureN (min (c - s.now) (captureLeft (pmcAdd 0 (c - s.now) (each (List.range 16) (thrCount (c - s.now))
      (flushNotes s))))) (pmcAdd 0 (c - s.now) (each (List.range 16) (thrCount (c - s.now)) (flushNotes s))) with now := c } :=
    fun ht => h3 _ ht
  exact .ite h (((hnow.thenSettle c).thenNetSends c).thenWrapCheck)

theorem clocked_advanceTo (c : Nat) (s : State) : Clocked s (advanceTo c s) :=
  .thenRunTo c (.thenEach (fun k _ g => g.thenRunTo k) _ (Clocked.refl s))

/-! ### The configuration of a discrete channel stays -/

theorem not_clockReg_dioChCfg {n : Nat} (h : n < 48) : ¬ ClockReg (Reg.dioChCfg n) := by
  simp only [ClockReg, Reg.dioChCfg, Reg.sysRole, Reg.rstState, Reg.seqCntLate, Reg.seqLastLate, Reg.seqLastLateWord]
  omega

/-- The function of a channel stays as clocks pass (R277). -/
theorem dioFunc_advanceTo {s : State} (h : s.tidy) (c : Nat) {n : Nat} (hn : n < 48) :
    dioFunc (advanceTo c s) n = dioFunc s n := by
  obtain ⟨-, hregs⟩ := clocked_advanceTo c s h
  exact dioFunc_congr (hregs _ (not_clockReg_dioChCfg hn)) (by rw [advanceTo_lapsed]; rfl)

end Sys2Proof.Machine
end

/-! ## The statement about the discrete inputs (R278-R283) -/
section
namespace Sys2Proof.Machine

/-- Settles O17: each command by what it leaves of its channel, once the clock has run to the end of a test pulse. -/
theorem discreteInputs : Obligations.DiscreteInputs := by
  unfold Obligations.DiscreteInputs
  intro s ht
  refine ⟨?sample, ?qualify, ?short, ?notIn, ?fsLow, ?noFsLow, ?fsLowClear, ?noClear, ?testPulse,
    ?noTestPulse, ?lineState, ?noLineState⟩
  case sample =>
    intro pos mask0 mask1 dst u hu hd hh hp
    obtain ⟨q, he, ho⟩ := dispatch_of_due (fun e _ t => runDioSample e t) {} hu hd hh hp
    obtain ⟨t0, t1, hrun⟩ := runDioSample_eq ⟨0x03, 0x07, 0, mask0, mask1, dst, seqSlot s, pos⟩ u
    rw [hrun] at he ho
    have htodo := todo_of_addWrites (t := { u with seq := q }) (List.cons_ne_nil _ _) ho
    have hleaves := leaves_of_addWrites (u := u) (t := { u with seq := q }) (List.cons_ne_nil _ _) rfl ho
      (lastClk_of_same (c := u.tbu.edge + 20) (List.cons_ne_nil _ _) (by simp))
    rw [addWrites, addActs_eq_seq, ← addWrites] at he
    refine ⟨_, congrArg Host.Outcome.next he, hleaves, ⟨_, _, htodo, fun n hn => ?_, fun n hn => ?_⟩, rfl⟩
    · rw [bitOf_ofNat hn, bitOf_bitSum_shownChannels _ _ _ _ u (by omega) (by decide), Nat.zero_add, if_pos hn]
    · rw [bitOf_ofNat (by omega), bitOf_bitSum_shownChannels _ _ _ _ u (by omega) (by decide), if_neg (by omega),
        Nat.add_sub_cancel_left]
  case qualify =>
    intro ch mv us hin hus
    exact ⟨_, exec_diQualify_of_stood hin (le_sampledUs hus mv), bitOf_putBit_self _ _ _, bitOf_putBit_self _ _ _,
      fun i _ hi => bitOf_putBit_ne _ _ hi, rfl⟩
  case short =>
    intro ch mv us hin hus hchanged
    exact ⟨_, exec_diQualify_of_short hin (Nat.lt_of_le_of_lt (sampledUs_le_of_changed hchanged) hus), bitOf_putBit_self _ _ _, rfl, rfl⟩
  case notIn => exact fun ch mv us hin => ⟨s, exec_diQualify_of_not_input hin mv us, rfl⟩
  case fsLow =>
    intro mv hmv hf
    have he := exec_fsLow_of_low hmv hf
    obtain ⟨hturned, hlow, hvolt⟩ := shown_fsTurned ht true mv
    refine ⟨_, he, flag_raise_self hturned 0x07 3 (by decide), ?_, ?_, eq_evented_red_dio (execFsLow_flows he)⟩
    · rw [fsLow, flag_raise_of_offset hturned _ _ _ (by decide), ← fsLow, hlow]
    · rw [rd_raise_of_offset hturned _ _ (by decide), hvolt]
      omega
  case noFsLow => exact fun mv h => ⟨s, exec_fsLow_of_not h, rfl⟩
  case fsLowClear =>
    intro mv hmv hf
    have he := exec_fsLowClear_of_high hmv hf
    obtain ⟨-, hlow, hvolt⟩ := shown_fsTurned ht false mv
    exact ⟨_, he, hlow, hvolt, eq_evented_red_dio (execFsLowClear_flows he)⟩
  case noClear => exact fun mv h => ⟨s, exec_fsLowClear_of_not h, rfl⟩
  case testPulse =>
    rintro ch mv c _ rfl hin hcfg hl hc hn
    have he := exec_testPulse_of_due hin hcfg hl hc hn mv
    have hin' : dioIsIn (advanceTo (c + 30000) s) ch.val = true := by rw [dioIsIn, dioFunc_advanceTo ht _ ch.isLt, ← dioIsIn, hin]
    have hut := advanceTo_tidy ht (c + 30000)
    generalize advanceTo (c + 30000) s = u at he hin' hut
    have hon := dio_testPulseEnd_of_on (ch := ch.val) (mv := mv) (u := pulseOver ch.val u)
    have hoff := dio_testPulseEnd_of_off (ch := ch.val) (mv := mv) (u := pulseOver ch.val u)
    refine ⟨_, he, fun h => ?_, fun h => ?_, fun h => ?_, fun h => ?_, testPulseEnd_pulseOver_eq hut ch.isLt hin' mv⟩
    · obtain ⟨hfail, -⟩ := hon h
      exact hfail
    · obtain ⟨hpass, -⟩ := hoff h
      exact hpass
    · obtain ⟨-, hset⟩ := hon h
      exact hset
    · obtain ⟨-, hclear⟩ := hoff h
      exact hclear
  case noTestPulse => exact fun ch mv h => ⟨s, exec_testPulse_of_none h mv, rfl⟩
  case lineState =>
    intro ch cond holds h
    have he := exec_lineStateChange_of_taken h
    have hdio := withLines_dio (keepsUse_setCond ch.val cond.val holds s)
    refine ⟨_, he, ?_, fun i _ hi => ?_, ?_, eq_evented_red_dio (execLineStateChange_flows he)⟩
    · rw [hdio]
      exact bitOf_putBit_self _ _ _
    · rw [hdio]
      exact bitOf_putBit_ne _ _ hi
    · rw [hdio]
      rfl
  case noLineState => exact fun ch cond holds h hc => ⟨s, exec_lineStateChange_of_not h hc, rfl⟩

end Sys2Proof.Machine
end

/-! ## What the synchroniser's commands leave alone -/
section
namespace Sys2Proof.Machine

/-- A change of what the raising of events may change, and of the pairs, the image, the sequencer, the discrete channels and the
synchroniser. -/
theorem eq_evented_syn_field {s t : State} (h : Flows 240515748818 s t) :
    t = { evented s t with wide := t.wide, img := t.img, seq := t.seq, dio := t.dio, syn := t.syn } := by
  obtain ⟨-, hpend, -, -, -, hnow, -, -, heff, -, hovl, hovd, hshf, hact, -, -, htbu, -, -, -, hpwr, hred, -, hpiu,
    hgmu, -, hach, hcle, hslv, hsaf, hmbc, hmaps, hbad, hnet, hmsl, hmslm, hmgt, hslu, hupd, -, hout, hdr⟩ := h
  cases t
  simp only [Kept] at *
  simp_all [evented]

theorem eq_evented_img_seq_syn {s t : State} (h : Flows 240516010970 s t) :
    t = { evented s t with img := t.img, seq := t.seq, syn := t.syn } := by
  have hwide : t.wide = s.wide := h.wide.resolve_left (by decide)
  have hdio : t.dio = s.dio := h.dio.resolve_left (by decide)
  have he := eq_evented_syn_field ((Flows.refl 240515748818 s).comp (T := 34361895972) (by decide) h)
  rwa [hwide, hdio] at he

theorem eq_evented_wide_dio_syn {s t : State} (h : Flows 240515751890 s t) :
    t = { evented s t with wide := t.wide, dio := t.dio, syn := t.syn } := by
  have himg : t.img = s.img := h.img.resolve_left (by decide)
  have hseq : t.seq = s.seq := h.seq.resolve_left (by decide)
  have he := eq_evented_syn_field ((Flows.refl 240515748818 s).comp (T := 34362155052) (by decide) h)
  rwa [himg, hseq] at he

theorem eq_evented_dio {s t : State} (h : Flows 240517849050 s t) : t = { evented s t with dio := t.dio } := by
  have hwide : t.wide = s.wide := h.wide.resolve_left (by decide)
  have hsyn : t.syn = s.syn := h.syn.resolve_left (by decide)
  have he := eq_evented_wide_dio_syn ((Flows.refl 240515751890 s).comp (T := 34360057892) (by decide) h)
  rwa [hwide, hsyn] at he

theorem eq_evented_syn {s t : State} (h : Flows 240516014042 s t) : t = { evented s t with syn := t.syn } := by
  have hwide : t.wide = s.wide := h.wide.resolve_left (by decide)
  have hdio : t.dio = s.dio := h.dio.resolve_left (by decide)
  have he := eq_evented_wide_dio_syn ((Flows.refl 240515751890 s).comp (T := 34361892900) (by decide) h)
  rwa [hwide, hdio] at he

/-- A change of registers, performance counters and the synchroniser alone. -/
theorem eq_regs_pmc_syn {s t : State} (h : Flows 274875793402 s t) : t = { s with regs := t.regs, pmc := t.pmc, syn := t.syn } := by
  have hclk : t.evtClk = s.evtClk := h.evtClk.resolve_left (by decide)
  have hgrn : t.grn = s.grn := h.grn.resolve_left (by decide)
  have hses : t.ses = s.ses := h.ses.resolve_left (by decide)
  have hfpd : t.fpd = s.fpd := h.fpd.resolve_left (by decide)
  have he := eq_evented_syn ((Flows.refl 240516014042 s).comp (T := 2113540) (by decide) h)
  rwa [evented, hclk, hgrn, hses, hfpd] at he

theorem eq_regs_syn {s t : State} (h : Flows 274875809786 s t) : t = { s with regs := t.regs, syn := t.syn } := by
  have hpmc : t.pmc = s.pmc := h.pmc.resolve_left (by decide)
  have he := eq_regs_pmc_syn ((Flows.refl 274875793402 s).comp (T := 2097156) (by decide) h)
  rwa [hpmc] at he

end Sys2Proof.Machine
end

/-! ## Words that an entry reads and writes at once, where no word is upset and all lanes store the same (R166, R169-R171, R181) -/
section
namespace Sys2Proof.Machine

/-- No stored word is upset, and no word differs in one lane. -/
structure CleanImg (s : State) : Prop where
  upsets : s.img.upsets = []
  laneDiff : s.img.laneDiff = []

theorem CleanImg.congr {s t : State} (h : CleanImg s) (hi : t.img = s.img) : CleanImg t :=
  ⟨by rw [hi, h.upsets], by rw [hi, h.laneDiff]⟩

/-! ### Reads -/

theorem laneView_of_clean {s : State} (h : CleanImg s) (l w : Nat) : laneView s l w = bankCell s (lineEngine s (w / 16)) w := by
  simp only [laneView, laneCell, h.laneDiff, tabGet]

theorem engineTouch_of_clean {s : State} (h : CleanImg s) (w : Nat) : engineTouch w s = s := if_pos h.upsets

theorem each_engineTouch_of_clean {s : State} (h : CleanImg s) : ∀ ws : List Nat, each ws engineTouch s = s
  | [] => rfl
  | w :: ws => by
    show each ws engineTouch (engineTouch w s) = s
    rw [engineTouch_of_clean h, each_engineTouch_of_clean h ws]

/-- The mark that an entry of number `uid` has met a late word. -/
def markLate (uid : Nat) (o : OutEntry) : OutEntry := if o.uid = uid then { o with late := true } else o

theorem noteLate_outst (e : Entry) (w : Nat) (o : OutEntry) (s : State) : (noteLate e w o s).seq.outst = s.seq.outst := by
  rw [noteLate, raise_seq]
  rfl

/-- The reads of an entry are counted, and a word found late is noted and marked in the entry. -/
theorem noteReads_of_clean {s : State} (h : CleanImg s) (uid : Nat) (e : Entry) (ws : List Nat) :
    noteReads uid e ws s = pmcAdd 8 ws.length s ∨
      ∃ w o, noteReads uid e ws s = noteLate e w o (entryUpd uid (fun x => { x with late := true }) (pmcAdd 8 ws.length s)) := by
  unfold noteReads
  rw [each_engineTouch_of_clean h]
  extract_lets s1 counted
  split
  · split
    · exact .inl rfl
    · exact .inr ⟨_, _, rfl⟩
  · exact .inl rfl

theorem noteReads_img {s : State} (h : CleanImg s) (uid : Nat) (e : Entry) (ws : List Nat) :
    (noteReads uid e ws s).img = s.img := by
  obtain he | ⟨w, o, he⟩ := noteReads_of_clean h uid e ws
  · rw [he]
    rfl
  · rw [he]
    exact (noteLate_flows rfl (Flows.refl 1024 _)).img.resolve_left (by decide)

/-- The reads of an entry change of the outstanding entries at most the mark of the entry itself. -/
theorem noteReads_outst {s : State} (h : CleanImg s) (uid : Nat) (e : Entry) (ws : List Nat) :
    (noteReads uid e ws s).seq.outst = s.seq.outst ∨ (noteReads uid e ws s).seq.outst = s.seq.outst.map (markLate uid) := by
  obtain he | ⟨w, o, he⟩ := noteReads_of_clean h uid e ws
  · exact .inl (by rw [he]; rfl)
  · exact .inr (by rw [he, noteLate_outst]; rfl)

theorem map_uid_markLate (uid : Nat) (l : List OutEntry) :
    (l.map (markLate uid)).map (fun o => o.uid) = l.map (fun o => o.uid) := by
  rw [List.map_map]
  refine List.map_congr_left fun o _ => ?_
  simp only [Function.comp, markLate]
  split <;> rfl

/-- The reads of an entry leave the numbers of the outstanding entries. -/
theorem noteReads_uids {s : State} (h : CleanImg s) (uid : Nat) (e : Entry) (ws : List Nat) :
    (noteReads uid e ws s).seq.outst.map (fun o => o.uid) = s.seq.outst.map (fun o => o.uid) := by
  obtain ho | ho := noteReads_outst h uid e ws
  · rw [ho]
  · rw [ho, map_uid_markLate]

theorem noteReads_now (uid : Nat) (e : Entry) (ws : List Nat) (s : State) : (noteReads uid e ws s).now = s.now :=
  (noteReads_flows rfl (Flows.refl 2 s)).now.resolve_left (by decide)

theorem lateOf_isSome_of_markLate {s t : State} {uid : Nat} (hn : t.now = s.now)
    (ho : t.seq.outst = s.seq.outst.map (markLate uid)) (w : Nat) : (lateOf t uid w).isSome = (lateOf s uid w).isSome := by
  rw [lateOf, ho, hn, List.find?_map, Option.isSome_map, lateOf]
  congr 2
  funext o
  simp only [Function.comp, markLate]
  split <;> rfl

/-- What an entry reads is as it stood before the read was noted. -/
theorem laneFetch_noteReads {s : State} (h : CleanImg s) (uid : Nat) (e : Entry) (ws : List Nat) (l w : Nat) :
    laneFetch (noteReads uid e ws s) uid l w = laneFetch s uid 0 w := by
  have hi := noteReads_img h uid e ws
  have hc : CleanImg (noteReads uid e ws s) := h.congr hi
  have hv : laneView (noteReads uid e ws s) l w = laneView s 0 w := by
    rw [laneView_of_clean hc, laneView_of_clean h, bankCell, lineEngine, lineDirty, lineDone, hi]
    rfl
  have hl : (lateOf (noteReads uid e ws s) uid w).isSome = (lateOf s uid w).isSome := by
    obtain ho | ho := noteReads_outst h uid e ws
    · rw [lateOf, ho, noteReads_now, lateOf]
    · exact lateOf_isSome_of_markLate (noteReads_now uid e ws s) ho w
  simp only [laneFetch, hv, hl]

/-- An entry without destination words of its own goes on with what it reads, once the reads are noted. -/
theorem consume_of_clean {s : State} (h : CleanImg s) (e : Entry) (ws : List Nat) (k : List ICell → State → State) :
    consume e ws k s = k (ws.map (asRead s)) (noteReads s.seq.nextUid e ws s) := by
  have hf : ∀ l, ws.map (laneFetch (noteReads s.seq.nextUid e ws s) s.seq.nextUid l) = ws.map (asRead s) := fun l =>
    List.map_congr_left fun w _ => laneFetch_noteReads h _ e ws l w
  rw [consume, handOver_of_same (fun l => (hf l).trans (hf 0).symm), hf 0]

/-! ### Writes -/

/-- From s to t only the image and the performance counters change, and the image stays clean. -/
structure ImgChanged (s t : State) : Prop where
  clean : CleanImg t
  same : t = { s with img := t.img, pmc := t.pmc }

theorem ImgChanged.refl {s : State} (h : CleanImg s) : ImgChanged s s := ⟨h, rfl⟩

theorem ImgChanged.thenPmcInc {s t : State} (h : ImgChanged s t) (i : Nat) : ImgChanged s (pmcInc i t) :=
  ⟨h.clean.congr rfl, congrArg (pmcInc i) h.same⟩

theorem putCell_clean {s : State} (h : CleanImg s) (b w : Nat) (c : ICell) : CleanImg (putCell b w c s) :=
  ⟨by simp only [putCell, h.upsets, List.filter_nil], by simp only [putCell, h.laneDiff, List.filter_nil]⟩

theorem ImgChanged.thenPutCell {s t : State} (h : ImgChanged s t) (b w : Nat) (c : ICell) : ImgChanged s (putCell b w c t) :=
  ⟨putCell_clean h.clean b w c, congrArg (putCell b w c) h.same⟩

theorem ImgChanged.thenDirty {s t : State} (h : ImgChanged s t) (line : Nat) :
    ImgChanged s { t with img := { t.img with dirty := tabSet (fun _ => false) t.img.dirty line true } } :=
  ⟨⟨h.clean.upsets, h.clean.laneDiff⟩,
    congrArg (fun x : State => { x with img := { x.img with dirty := tabSet (fun _ => false) x.img.dirty line true } }) h.same⟩

theorem copyWord_of_clean {s : State} (h : CleanImg s) (src w : Nat) :
    copyWord src w s = putCell (1 - src) w (bankCell s src w) s := by
  simp only [copyWord, if_pos h.upsets, h.laneDiff]
  rfl

theorem openLine_of_clean {s : State} (h : CleanImg s) (line : Nat) : ImgChanged s (openLine line s) := by
  have hcopy := each_keeps (P := ImgChanged s) (f := fun i => copyWord (lineDone s line) (16 * line + i)) (L := List.range 16)
    (fun i _ t g => by rw [copyWord_of_clean g.clean]; exact g.thenPutCell _ _ _) (ImgChanged.refl h)
  simp only [openLine]
  generalize each (List.range 16) (fun i => copyWord (lineDone s line) (16 * line + i)) s = t at hcopy
  split
  · exact ImgChanged.refl h
  · exact (hcopy.thenDirty line).thenPmcInc 12

/-- A lane that stores what the others store is not listed. -/
theorem putLaneCell_of_same {s : State} (h : CleanImg s) {b w : Nat} {c : ICell} (hc : bankCell s b w = c) (l : Nat) :
    putLaneCell l b w c s = s := by
  obtain ⟨hu, hd⟩ := h
  simp only [putLaneCell, hc, if_true, hu, hd, tabSet]
  rw [← hu, ← hd]

/-- Lanes that hand over one cell store it once. -/
theorem handOver_putCell_of_same {s : State} (ht : s.tidy) (h : CleanImg s) {w : Nat} (hw : w < imgWords) {cell : Nat → ICell}
    (hs : ∀ l, cell l = cell 0) :
    handOver cell (fun c t => each (lanesLive t) (fun l u => putLaneCell l (lineEngine t (w / 16)) w (cell l) u)
      (putCell (lineEngine t (w / 16)) w c t)) s = putCell (lineEngine s (w / 16)) w (cell 0) s := by
  have hput : bankCell (putCell (lineEngine s (w / 16)) w (cell 0) s) (lineEngine s (w / 16)) w = cell 0 := by
    rw [bankCell_putCell ht _ hw hw, if_pos ⟨rfl, rfl⟩]
  rw [handOver_of_same hs]
  refine each_keeps (P := fun v => v = putCell (lineEngine s (w / 16)) w (cell 0) s) (fun l _ v g => ?_) rfl
  rw [g, hs l, putLaneCell_of_same (putCell_clean h _ w _) hput]

/-- A write of one word in every lane stores it, with the tag that its link leaves, in the line opened for it. -/
theorem laneWrite_eq_of_clean {s : State} (ht : s.tidy) (h : CleanImg s) {w : Nat} (hw : w < imgWords) (c : ICell) :
    ∃ g : Tag, laneWrite w (fun _ => c) s =
      putCell (lineEngine (openLine (w / 16) s) (w / 16)) w ⟨c.val, g⟩ (openLine (w / 16) s) := by
  have ho := (openLine_of_clean h (w / 16)).clean
  have hto := (openLine_flows rfl (Flows.refl 0 s) (x1 := w / 16)).tidy ht
  simp only [laneWrite, if_pos hw]
  generalize openLine (w / 16) s = t at ho hto ⊢
  have hsame : ∀ l, (⟨c.val, linkTag t (tagLink t w) l c.tag⟩ : ICell) = ⟨c.val, linkTag t (tagLink t w) 0 c.tag⟩ := fun l => by
    simp only [linkTag, laneView_of_clean ho]
  split
  · simp only [engineTouch_of_clean ho]
    exact ⟨_, handOver_putCell_of_same hto ho hw hsame⟩
  · exact ⟨_, handOver_putCell_of_same hto ho hw hsame⟩

/-- An entry that writes its only word at once changes the image and the performance counters, and the word then reads as
written. -/
theorem writeNow_of_clean {s : State} (ht : s.tidy) (h : CleanImg s) (w : Nat) (c : ICell) :
    ImgChanged s (writeNow w c s) ∧ (w < imgWords → (laneView (writeNow w c s) 0 w).val = c.val) := by
  by_cases hw : w < imgWords
  · obtain ⟨g, he⟩ := laneWrite_eq_of_clean ht h hw c
    have ho := openLine_of_clean h (w / 16)
    have hto := (openLine_flows rfl (Flows.refl 0 s) (x1 := w / 16)).tidy ht
    have hp := ho.thenPutCell (lineEngine (openLine (w / 16) s) (w / 16)) w ⟨c.val, g⟩
    have hview : laneView (putCell (lineEngine (openLine (w / 16) s) (w / 16)) w ⟨c.val, g⟩ (openLine (w / 16) s)) 0 w =
        ⟨c.val, g⟩ := by
      rw [laneView_of_clean hp.clean]
      show bankCell _ (lineEngine (openLine (w / 16) s) (w / 16)) w = _
      rw [bankCell_putCell hto _ hw hw, if_pos ⟨rfl, rfl⟩]
    rw [writeNow, he]
    refine ⟨hp.thenPmcInc 9, fun _ => ?_⟩
    show (laneView (putCell _ w ⟨c.val, g⟩ _) 0 w).val = c.val
    rw [hview]
  · rw [writeNow, laneWrite, if_neg hw]
    exact ⟨(ImgChanged.refl h).thenPmcInc 9, fun g => absurd g hw⟩

end Sys2Proof.Machine
end

/-! ## The breaker sets: the state of a set, the armed set and the block words (R328) -/
section
namespace Sys2Proof.Machine

/-! ### What shows them -/

theorem synArmed_lt {s : State} {n : Nat} (h : synArmed s = some n) : n < 8 := by
  rw [synArmed] at h
  split at h
  · rw [← Option.some.inj h]
    exact Nat.mod_lt _ (by decide)
  · exact absurd h (Option.some_ne_none n).symm

theorem synArmed_congr {s t : State} (h : rd t Reg.synArmed = rd s Reg.synArmed) : synArmed t = synArmed s := by
  unfold synArmed flag fld
  rw [h]

theorem synState_congr {s t : State} (h : rd t Reg.synSetState = rd s Reg.synSetState) (n : Nat) : synState t n = synState s n := by
  simp only [synState, fld, h]

theorem synArmed_raise {s : State} (h : s.tidy) (p b : Nat) : synArmed (raise_ p b s) = synArmed s :=
  synArmed_congr (rd_raise_of_offset h p b (by decide))

theorem synState_raise {s : State} (h : s.tidy) (p b n : Nat) : synState (raise_ p b s) n = synState s n :=
  synState_congr (rd_raise_of_offset h p b (by decide)) n

@[simp] theorem raise_syn (p b : Nat) (s : State) : (raise_ p b s).syn = s.syn := by rw [raise_eq_evented]; rfl

theorem synBlock_congr {s t : State} (h : t.syn = s.syn) (n : Nat) : synBlock t n = synBlock s n := by rw [synBlock, h, synBlock]

/-! ### Their changes -/

theorem within_synUpd (l : List Nat) (x : SynSt) (s : State) : Within l s { s with syn := x } := fun h => ⟨h, fun _ _ => rfl⟩

theorem within_setSynState {l : List Nat} (h : Reg.synSetState ∈ l) (n st : Nat) (s : State) : Within l s (setSynState n st s) :=
  within_setFld h _ _ _ s

theorem synState_setSynState {s : State} (h : s.tidy) {n st : Nat} (hn : n < 8) (hst : st < 16) :
    synState (setSynState n st s) n = st := by
  rw [synState, setSynState, fld_setFld_self h _ _ (by omega) (by omega), Nat.mod_eq_of_lt]
  rwa [show 4 * n + 3 + 1 - 4 * n = 4 by omega]

theorem within_putBlock {l : List Nat} (h : Reg.synBlock ∈ l) (n v : Nat) (s : State) : Within l s (putBlock n v s) := by
  rw [putBlock]
  split
  · exact (within_synUpd l _ s).trans (within_wr h v _)
  · exact within_synUpd l _ s

theorem putBlock_syn (n v : Nat) (s : State) :
    (putBlock n v s).syn = { s.syn with block := tabSet (fun _ => (0 : Nat)) s.syn.block n v } := by
  rw [putBlock]
  split <;> rfl

/-- A block bit that is set in the stored word of a set shows there: the word is not 0. -/
theorem bitOf_synBlock_putBlock (n w i : Nat) (s : State) : bitOf (synBlock (putBlock n (putBit w i true) s) n) i = true := by
  have hne : putBit w i true ≠ 0 := fun h => by
    have hb := bitOf_putBit_self w i true
    rw [h, bitOf, Nat.zero_testBit] at hb
    exact Bool.false_ne_true hb
  rw [synBlock, putBlock_syn, tabGet_tabSet_of_ne _ hne, bitOf_putBit_self]

theorem within_synRelease {l : List Nat} (h : [Reg.synArmed, Reg.synPlanSlot, Reg.synBlock] ⊆ l) (s : State) :
    Within l s (synRelease s) :=
  ((within_wr (h (by decide)) 0 s).trans (within_wr (h (by decide)) 0 _)).trans (within_wr (h (by decide)) 0 _)

theorem synArmed_synRelease {s : State} (h : s.tidy) : synArmed (synRelease s) = none := by
  have harmed : rd (synRelease s) Reg.synArmed = 0 := by
    have h1 := (within_wr (List.mem_singleton_self Reg.synArmed) 0 s h).1
    have h2 := (within_wr (List.mem_singleton_self Reg.synPlanSlot) 0 _ h1).1
    show rd (wr _ 0 (wr _ 0 (wr _ 0 s))) _ = 0
    rw [rd_wr_ne h2 _ (by decide), rd_wr_ne h1 _ (by decide), rd_wr_self h, Nat.zero_mod]
  rw [synArmed, flag, harmed]
  rfl

theorem synState_synRelease {s : State} (h : s.tidy) (n : Nat) : synState (synRelease s) n = synState s n :=
  synState_congr ((within_synRelease (List.Subset.refl _) s h).2 _ (by decide)) n

/-! ### A set fails (R328) -/

/-- The registers that a set that leaves its arming may change. -/
def releaseRegs : List Nat := [Reg.synSetState, Reg.synArmed, Reg.synPlanSlot, Reg.synBlock]

theorem within_synFail {l : List Nat} (h : releaseRegs ⊆ l) (bit n : Nat) (s : State) : Within l s (synFail bit n s) :=
  ((within_putBlock (h (by decide)) n _ s).trans (within_setSynState (h (by decide)) n 6 _)).trans
    (within_synRelease (fun _ ha => h (List.mem_cons_of_mem _ ha)) _)

theorem shown_synFail {s : State} (h : s.tidy) (bit : Nat) {n : Nat} (hn : n < 8) :
    synState (synFail bit n s) n = 6 ∧ synArmed (synFail bit n s) = none ∧ bitOf (synBlock (synFail bit n s) n) bit = true := by
  have hp := (within_putBlock (List.mem_singleton_self _) n (putBit (synBlock s n) bit true) s h).1
  have hs := (within_setSynState (List.mem_singleton_self _) n 6 _ hp).1
  exact ⟨(synState_synRelease hs n).trans (synState_setSynState hp hn (by decide)), synArmed_synRelease hs,
    bitOf_synBlock_putBlock n (synBlock s n) bit s⟩

theorem synAbort_of_armed {s : State} {n : Nat} (ha : synArmed s = some n) (hs : synState s n ≠ 4) (bit : Nat)
    (after : State → State) : synAbort bit after s = after (synFail bit n s) := by
  simp only [synAbort, ha, if_pos hs]

/-- A set whose arming timer has expired, before it is raised. -/
def timedOut (n : Nat) (s : State) : State := bump Reg.synCntTimeout 1 (synFail 11 n s)

theorem exec_synTimeout_of_due {s : State} {n : Nat} (ha : synArmed s = some n) (hs : synState s n ≠ 4)
    (hc : bitsOf (synCfg s 1) 23 16 * 200000000 ≤ s.now - s.syn.armClk) :
    exec .synTimeout s = .next (raise_ 0x0A 3 (timedOut n s)) :=
  congrArg Host.Outcome.next ((if_pos hc).trans (synAbort_of_armed ha hs 11 _))

/-- The registers that the expiry of an arming timer may change. -/
def timeoutRegs : List Nat :=
  [Reg.synSetState, Reg.synArmed, Reg.synPlanSlot, Reg.synBlock, Reg.synCntTimeout, Reg.evtRaw 0x0A, Reg.evtRaw 0x16]

theorem within_timedOut (n : Nat) (s : State) : Within timeoutRegs s (timedOut n s) :=
  (within_synFail (by decide) 11 n s).trans (within_bump (by decide) 1 _)

theorem shown_timedOut {s : State} (h : s.tidy) {n : Nat} (hn : n < 8) : synState (timedOut n s) n = 6 ∧
    synArmed (timedOut n s) = none ∧ bitOf (synBlock (timedOut n s) n) 11 = true ∧ Counted Reg.synCntTimeout s (timedOut n s) := by
  obtain ⟨hf, hkeep⟩ := within_synFail (List.Subset.refl _) 11 n s h
  obtain ⟨hstate, harmed, hblock⟩ := shown_synFail h 11 hn
  refine ⟨(synState_congr (rd_bump_ne hf 1 (by decide)) n).trans hstate,
    (synArmed_congr (rd_bump_ne hf 1 (by decide))).trans harmed, hblock, ?_⟩
  rw [Counted, timedOut, rd_bump_self hf, hkeep _ (by decide)]

theorem exec_armStale_of_due {s : State} {n : Nat} (ha : synArmed s = some n) (hs : synState s n ≠ 4)
    (hc : 4096 ≤ s.syn.idleSlots) : exec .armStale s = .next (synFail 12 n s) :=
  congrArg Host.Outcome.next ((if_pos hc).trans (synAbort_of_armed ha hs 12 id))

theorem exec_armStale_of_early {s : State} (h : s.syn.idleSlots < 4096) : exec .armStale s = .next s :=
  congrArg Host.Outcome.next (if_neg (by omega))

/-! ### The first decision (R328-R333) -/

/-- What a decision keeps of itself: the block word and the mode. -/
def decided (n : Nat) (s : State) : State :=
  pmcInc 204 (putMode n (synModeNow s n) (putBlock n (blockBits s (synModeNow s n)) s))

/-- A decision keeps its block word and mode; then it may set APPROACHING, or plan. -/
theorem synDecide_cases (n : Nat) (s : State) : synDecide n s = decided n s ∨ (∃ b, synDecide n s = putBlock n b (decided n s)) ∨
    ∃ k x, synDecide n s = synPlan n k x (decided n s) := by
  unfold synDecide
  extract_lets mode b s1 p pred r win
  split
  · exact .inl rfl
  · split
    · split
      · exact .inr (.inr ⟨_, _, rfl⟩)
      · split
        · exact .inr (.inl ⟨_, rfl⟩)
        · split
          · exact .inr (.inr ⟨_, _, rfl⟩)
          · exact .inl rfl
    · exact .inr (.inr ⟨_, _, rfl⟩)

/-- The registers that a decision may change. -/
def decisionRegs : List Nat := [Reg.synSetState, Reg.synBlock, Reg.synPlanSlot, Reg.synLastPred]

theorem within_decided {l : List Nat} (h : Reg.synBlock ∈ l) (n : Nat) (s : State) : Within l s (decided n s) :=
  (within_putBlock h n _ s).trans (within_of_flows (pmcInc_flows rfl (putMode_flows rfl (Flows.refl 4 _))))

theorem within_synPlan (n k : Nat) (x : Option FVal) (s : State) : Within decisionRegs s (synPlan n k x s) := by
  have hplan := (within_wr (l := decisionRegs) (by decide) (2 ^ 31 + (s.tbu.slot + k) % 4096) s).trans
    (within_setSynState (by decide) n 3 (wr Reg.synPlanSlot (2 ^ 31 + (s.tbu.slot + k) % 4096) s))
  simp only [synPlan]
  split
  · exact hplan.trans (within_wr (by decide) _ _)
  · exact hplan

theorem synState_synPlan {s : State} (h : s.tidy) {n : Nat} (hn : n < 8) (k : Nat) (x : Option FVal) :
    synState (synPlan n k x s) n = 3 := by
  have hw := (within_wr (List.mem_singleton_self Reg.synPlanSlot) (2 ^ 31 + (s.tbu.slot + k) % 4096) s h).1
  have hplan := synState_setSynState hw hn (st := 3) (by decide)
  simp only [synPlan]
  split
  · exact (synState_congr (rd_wr_ne (setFld_tidy hw _ _ _ 3) _ (by decide)) n).trans hplan
  · exact hplan

theorem within_synDecide (n : Nat) (s : State) : Within decisionRegs s (synDecide n s) := by
  rcases synDecide_cases n s with he | ⟨b, he⟩ | ⟨k, x, he⟩ <;> rw [he]
  · exact within_decided (by decide) n s
  · exact (within_decided (by decide) n s).trans (within_putBlock (by decide) n b _)
  · exact (within_decided (by decide) n s).trans (within_synPlan n k x _)

/-- After a decision the set is checked on, or it has planned. -/
theorem synState_synDecide {s : State} (h : s.tidy) {n : Nat} (hn : n < 8) (hs : synState s n = 2) :
    synState (synDecide n s) n = 2 ∨ synState (synDecide n s) n = 3 := by
  obtain ⟨ht, hkeep⟩ := within_decided (List.mem_singleton_self Reg.synBlock) n s h
  have hd : synState (decided n s) n = 2 := (synState_congr (hkeep _ (by decide)) n).trans hs
  rcases synDecide_cases n s with he | ⟨b, he⟩ | ⟨k, x, he⟩ <;> rw [he]
  · exact .inl hd
  · exact .inl ((synState_congr ((within_putBlock (List.mem_singleton_self _) n b _ ht).2 _ (by decide)) n).trans hd)
  · exact .inr (synState_synPlan ht hn k x)

theorem exec_synSettled_of_settled {s : State} {n : Nat} (ha : synArmed s = some n) (hs : synState s n = 1)
    (hc : 10 ≤ s.syn.settle) : exec .synSettled s = .next (synDecide n (setSynState n 2 s)) := by
  show execSynSettled s = _
  simp only [execSynSettled, ha, if_pos (And.intro hs hc)]

end Sys2Proof.Machine
end

/-! ## The close pulse and the feedback of a breaker set (R328, R334, R336) -/
section
namespace Sys2Proof.Machine

/-! ### Outputs and pulses (R287) -/

theorem bitOf_dioSet_self (n : Nat) (on : Bool) (s : State) : bitOf (dioSet n on s).dio.cmd n = on := by
  rw [dioSet]
  split <;> exact bitOf_putBit_self _ n on

theorem dioPulse_putPulse_some (n k : Nat) (s : State) : dioPulse (putPulse n (some k) s) n = some k :=
  tabGet_tabSet_of_ne _ (Option.some_ne_none k) _

theorem within_startPulse {l : List Nat} (h : Reg.dioCntPulseRetrig ∈ l) (n k : Nat) (s : State) : Within l s (startPulse n k s) := by
  simp only [startPulse]
  exact (within_when (fun t => within_bump h 1 t) _ s).trans
    (within_of_flows (putPulse_flows rfl (dioSet_flows rfl (pmcInc_flows rfl (Flows.refl 4 _)))))

/-- A pulse that starts turns its output on, with all its slots left. -/
theorem shown_startPulse (n k : Nat) (s : State) :
    bitOf (startPulse n k s).dio.cmd n = true ∧ dioPulse (startPulse n k s) n = some k :=
  ⟨bitOf_dioSet_self n true _, dioPulse_putPulse_some n k _⟩

/-! ### The pulse starts (R334, R336) -/

/-- The planned slot of set n: it closes, and the pulse of its output starts. -/
def pulseStarted (n : Nat) (s : State) : State :=
  startPulse (bitsOf (synCfg s 0) 21 16) (bitsOf (synCfg s 0) 15 0) (setSynState n 4 s)

/-- An issue is timed from its clock on where its set names a feedback input. -/
def issueTimed (n : Nat) (s u : State) : State :=
  { u with syn := { u.syn with
      timing := if bitOf (synCfg s 0) 23 then some (n, bitsOf (synCfg s 0) 29 24, bitsOf (synCfg s 1) 11 0, u.now) else u.syn.timing } }

/-- An issue is counted and kept with generation and slot. -/
def issueKept (n : Nat) (u : State) : State :=
  pmcInc 205 (wr Reg.synLastIssueSlot (n <<< 16 + u.tbu.slot)
    (wideSet Reg.synLastIssueLo u.tbu.gen (bump Reg.synCntClose 1 (wr Reg.synPlanSlot 0 u))))

/-- An issue, before it is raised. -/
def issued (n : Nat) (s : State) : State := issueKept n (issueTimed n s (pulseStarted n s))

theorem exec_closeIssued_of_planned {s : State} {n : Nat} (ha : synArmed s = some n) (hs : synState s n = 3)
    (hc : fld s Reg.synPlanSlot 11 0 = s.tbu.slot) : exec .closeIssued s = .next (raise_ 0x0A 1 (issued n s)) := by
  show execCloseIssued s = _
  simp only [execCloseIssued, ha, if_pos (And.intro hs hc)]
  rfl

theorem exec_closeIssued_of_none {s : State} (h : synArmed s = none) : exec .closeIssued s = .next s := by
  show execCloseIssued s = _
  simp only [execCloseIssued, h]

/-- The registers that an issue may change. -/
def issueRegs : List Nat :=
  [Reg.synSetState, Reg.synPlanSlot, Reg.synCntClose, Reg.synLastIssueSlot, Reg.dioCntPulseRetrig, Reg.evtRaw 0x0A, Reg.evtRaw 0x16]

theorem within_pulseStarted (n : Nat) (s : State) : Within [Reg.synSetState, Reg.dioCntPulseRetrig] s (pulseStarted n s) :=
  (within_setSynState (by decide) n 4 s).trans (within_startPulse (by decide) _ _ _)

theorem within_issueTimed (l : List Nat) (n : Nat) (s u : State) : Within l u (issueTimed n s u) := within_synUpd l _ u

theorem within_issueKept (n : Nat) (u : State) :
    Within [Reg.synPlanSlot, Reg.synCntClose, Reg.synLastIssueSlot] u (issueKept n u) :=
  (((within_wr (by decide) 0 u).trans (within_bump (by decide) 1 _)).trans
    (within_of_flows (wideSet_flows rfl (Flows.refl 4 _)))).trans
    ((within_wr (by decide) _ _).trans (within_of_flows (pmcInc_flows rfl (Flows.refl 4 _))))

/-- What an issue leaves of registers and of its pair. -/
theorem shown_issueKept {u : State} (h : u.tidy) (n : Nat) : rd (issueKept n u) Reg.synPlanSlot = 0 ∧
    Counted Reg.synCntClose u (issueKept n u) ∧ wideGet (issueKept n u) Reg.synLastIssueLo = u.tbu.gen % 2 ^ 64 ∧
    rd (issueKept n u) Reg.synLastIssueSlot = (n <<< 16 + u.tbu.slot) % 2 ^ 32 := by
  have hplan := (within_wr (List.mem_singleton_self Reg.synPlanSlot) 0 u h).1
  have hcnt := bump_tidy hplan Reg.synCntClose 1
  have hwide : (wideSet Reg.synLastIssueLo u.tbu.gen (bump Reg.synCntClose 1 (wr Reg.synPlanSlot 0 u))).tidy :=
    (wideSet_flows rfl (Flows.refl 0 _)).tidy hcnt
  refine ⟨?_, ?_, ?_, rd_wr_self hwide _ _⟩
  · refine (rd_wr_ne hwide _ (by decide)).trans ((rd_bump_ne hplan 1 (by decide)).trans ?_)
    rw [rd_wr_self h, Nat.zero_mod]
  · refine (rd_wr_ne hwide _ (by decide)).trans ((rd_bump_self hplan _ 1).trans ?_)
    rw [rd_wr_ne h _ (by decide)]
  · exact (wideGet_wideSet hcnt _ _ _).trans (if_pos rfl)

theorem pulseStarted_tbu (n : Nat) (s : State) : (pulseStarted n s).tbu = s.tbu :=
  (startPulse_flows rfl (setSynState_flows rfl (Flows.refl 4096 s))).tbu.resolve_left (by decide)

theorem within_issued (n : Nat) (s : State) : Within issueRegs s (issued n s) :=
  ((within_pulseStarted n s).mono (by decide)).trans
    ((within_issueTimed issueRegs n s _).trans ((within_issueKept n _).mono (by decide)))

theorem shown_issued {s : State} (h : s.tidy) {n : Nat} (hn : n < 8) : synState (issued n s) n = 4 ∧
    rd (issued n s) Reg.synPlanSlot = 0 ∧ Counted Reg.synCntClose s (issued n s) ∧
    wideGet (issued n s) Reg.synLastIssueLo = s.tbu.gen % 2 ^ 64 ∧
    rd (issued n s) Reg.synLastIssueSlot = (n <<< 16 + s.tbu.slot) % 2 ^ 32 := by
  obtain ⟨hstart, hother⟩ := within_pulseStarted n s h
  have htimed : (issueTimed n s (pulseStarted n s)).tidy := hstart
  have hset : (setSynState n 4 s).tidy := setFld_tidy h _ _ _ 4
  obtain ⟨hplan, hcnt, hgen, hslot⟩ := shown_issueKept htimed n
  have hpulse : rd (pulseStarted n s) Reg.synSetState = rd (setSynState n 4 s) Reg.synSetState :=
    (within_startPulse (List.mem_singleton_self _) _ _ _ hset).2 _ (by decide)
  have htbu : (issueTimed n s (pulseStarted n s)).tbu = s.tbu := pulseStarted_tbu n s
  have hclose : rd (issueTimed n s (pulseStarted n s)) Reg.synCntClose = rd s Reg.synCntClose := hother _ (by decide)
  rw [htbu] at hgen hslot
  rw [Counted, hclose] at hcnt
  refine ⟨(synState_congr ?_ n).trans (synState_setSynState h hn (by decide)), hplan, hcnt, hgen, hslot⟩
  exact ((within_issueKept n _ htimed).2 _ (by decide)).trans hpulse

theorem issueKept_issueTimed_dio (n : Nat) (s u : State) : (issueKept n (issueTimed n s u)).dio = u.dio := rfl

theorem dio_issued (n : Nat) (s : State) : bitOf (issued n s).dio.cmd (bitsOf (synCfg s 0) 21 16) = true ∧
    dioPulse (issued n s) (bitsOf (synCfg s 0) 21 16) = some (bitsOf (synCfg s 0) 15 0) := by
  rw [dioPulse, issued, issueKept_issueTimed_dio]
  exact shown_startPulse _ _ (setSynState n 4 s)

/-! ### The pulse ends (R328) -/

/-- The end of the pulse of set n, before it is raised. -/
def setClosed (n : Nat) (s : State) : State :=
  synRelease (setSynState n 5 (dioSet (bitsOf (synCfg s 0) 21 16) false (putPulse (bitsOf (synCfg s 0) 21 16) none s)))

theorem exec_closeDone_of_over {s : State} {n : Nat} (ha : synArmed s = some n) (hs : synState s n = 4)
    (hp : (dioPulse s (bitsOf (synCfg s 0) 21 16)).getD 0 = 0) : exec .closeDone s = .next (raise_ 0x0A 2 (setClosed n s)) := by
  show execCloseDone s = _
  simp only [execCloseDone, ha, if_pos (And.intro hs hp)]
  rfl

theorem within_outputOff (l : List Nat) (ch : Nat) (s : State) : Within l s (dioSet ch false (putPulse ch none s)) :=
  within_of_flows (dioSet_flows rfl (putPulse_flows rfl (Flows.refl 4 s)))

theorem within_setClosed {l : List Nat} (h : releaseRegs ⊆ l) (n : Nat) (s : State) : Within l s (setClosed n s) :=
  ((within_outputOff l _ s).trans (within_setSynState (h (by decide)) n 5 _)).trans
    (within_synRelease (fun _ ha => h (List.mem_cons_of_mem _ ha)) _)

theorem shown_setClosed {s : State} (h : s.tidy) {n : Nat} (hn : n < 8) :
    synState (setClosed n s) n = 5 ∧ synArmed (setClosed n s) = none := by
  have hoff := (within_outputOff [] (bitsOf (synCfg s 0) 21 16) s h).1
  have hset := (within_setSynState (List.mem_singleton_self _) n 5 _ hoff).1
  exact ⟨(synState_synRelease hset n).trans (synState_setSynState hoff hn (by decide)), synArmed_synRelease hset⟩

theorem dio_setClosed (n : Nat) (s : State) : bitOf (setClosed n s).dio.cmd (bitsOf (synCfg s 0) 21 16) = false :=
  bitOf_dioSet_self _ false _

/-! ### The feedback (R336) -/

/-- No issue is timed any more. -/
def timingOver (s : State) : State := { s with syn := { s.syn with timing := none } }

/-- The feedback of set n, timed from clock k on, shows the time it took, before it is raised. -/
def fedBack (n k : Nat) (s : State) : State :=
  pmcInc 207 (wr Reg.synLastTcb (2 ^ 31 + n <<< 16 + min ((s.now - k + 10000) / 20000) 65535) (timingOver s))

/-- The feedback is raised; `off` says that its time is too far from the closing time of its set, which is raised too. -/
def feedbackRaised (off : Bool) (u : State) : State := when_ off (raise_ 0x0A 6) (raise_ 0x0A 5 u)

theorem exec_synFeedback_of_timed {s : State} {n ch tcb k : Nat} (ht : s.syn.timing = some (n, ch, tcb, k))
    (hk : s.now - k ≤ 200000000) (hq : bitOf s.dio.qual ch = true) :
    ∃ off : Bool, exec .synFeedback s = .next (feedbackRaised off (fedBack n k s)) := by
  have hin : ¬ (200000000 < s.now - k ∨ bitOf s.dio.qual ch = false) := by
    rw [hq]
    simp only [Bool.true_eq_false, or_false]
    omega
  refine ⟨decide (tcb * 20000 < 20 * ((s.now - k : Nat) - (tcb * 20000 : Nat) : Int).natAbs), ?_⟩
  show execSynFeedback s = _
  simp only [execSynFeedback, ht, if_neg hin, feedbackRaised, when_, decide_eq_true_eq]
  rfl

theorem exec_synFeedback_of_none {s : State} (h : s.syn.timing = none) : exec .synFeedback s = .next s := by
  show execSynFeedback s = _
  simp only [execSynFeedback, h]

theorem timingOver_tidy {s : State} (h : s.tidy) : (timingOver s).tidy := h

theorem within_fedBack {l : List Nat} (h : Reg.synLastTcb ∈ l) (n k : Nat) (s : State) : Within l s (fedBack n k s) :=
  ((within_synUpd l _ s).trans (within_wr h _ (timingOver s))).trans (within_of_flows (pmcInc_flows rfl (Flows.refl 4 _)))

theorem rd_fedBack_lastTcb {s : State} (h : s.tidy) (n k : Nat) : rd (fedBack n k s) Reg.synLastTcb =
    (2 ^ 31 + n <<< 16 + min ((s.now - k + 10000) / 20000) 65535) % 2 ^ 32 :=
  rd_wr_self (timingOver_tidy h) _ _

theorem within_feedbackRaised {l : List Nat} (h : Reg.evtRaw 0x0A ∈ l) (g : Reg.evtRaw 0x16 ∈ l) (off : Bool) (u : State) :
    Within l u (feedbackRaised off u) :=
  (within_raise h g 5 u).trans (within_when (within_raise h g 6) off _)

theorem shown_feedbackRaised {u : State} (h : u.tidy) (off : Bool) : flag (feedbackRaised off u) (Reg.evtRaw 0x0A) 5 = true ∧
    rd (feedbackRaised off u) Reg.synLastTcb = rd u Reg.synLastTcb := by
  have hr := raise_tidy h 0x0A 5
  have hflag := flag_raise_self h 0x0A 5 (by decide)
  have htcb := rd_raise_of_offset h 0x0A 5 (a := Reg.synLastTcb) (by decide)
  cases off with
  | false => exact ⟨hflag, htcb⟩
  | true => exact ⟨flag_raise_mono hr 0x0A 6 0x0A 5 (by decide) hflag, (rd_raise_of_offset hr 0x0A 6 (by decide)).trans htcb⟩

/-- A feedback changes, besides what raising its events may change, the timing of the issue alone. -/
theorem feedbackRaised_eq_evented (off : Bool) (n k : Nat) (s : State) : feedbackRaised off (fedBack n k s) =
    { evented s (feedbackRaised off (fedBack n k s)) with syn := { s.syn with timing := none } } :=
  eq_evented (s := timingOver s) (when_flows (raise__flows rfl (pmcInc_flows rfl (wr_flows rfl (Flows.refl _ _))))
    fun _ g => raise__flows rfl g)

end Sys2Proof.Machine
end

/-! ## SYN_ARM (R326-R328) -/
section
namespace Sys2Proof.Machine

/-! ### What the reads of an entry leave of the synchroniser -/

/-- From u to v neither the clock nor what the synchroniser holds changes. -/
structure SynKept (u v : State) : Prop where
  tidy : v.tidy
  now : v.now = u.now
  syn : v.syn = u.syn
  regs : ∀ a, 0x10A040 ≤ a → a < 0x10B000 → rd v a = rd u a

theorem synKept_noteReads {u : State} (h : u.tidy) (uid : Nat) (e : Entry) (ws : List Nat) : SynKept u (noteReads uid e ws u) := by
  obtain ⟨ht, hregs⟩ := Clocked.thenNoteReads uid e ws (Clocked.refl u) h
  refine ⟨ht, noteReads_now uid e ws u, (noteReads_flows rfl (Flows.refl 2097152 u)).syn.resolve_left (by decide), ?_⟩
  refine fun a hl hu => hregs a fun hc => ?_
  simp only [ClockReg, Reg.sysRole, Reg.rstState, Reg.seqCntLate, Reg.seqLastLate, Reg.seqLastLateWord] at hc
  omega

theorem synRegs_of_kept {u v : State} (h : SynKept u v) {n : Nat} (hn : n < 8) : synRegs v n = synRegs u n := by
  have hregs := h.regs
  simp only [synRegs, Reg.synSetIo, Reg.synSetTime, Reg.synSetAngle, Reg.synSetVolt, Reg.synSetSlip, Reg.synSetMode]
  rw [hregs _ (by omega) (by omega), hregs _ (by omega) (by omega), hregs _ (by omega) (by omega), hregs _ (by omega) (by omega),
    hregs _ (by omega) (by omega), hregs _ (by omega) (by omega)]

theorem synArmed_of_kept {u v : State} (h : SynKept u v) : synArmed v = synArmed u :=
  synArmed_congr (h.regs _ (by decide) (by decide))

theorem synState_of_kept {u v : State} (h : SynKept u v) (n : Nat) : synState v n = synState u n :=
  synState_congr (h.regs _ (by decide) (by decide)) n

/-! ### The command -/

/-- What SYN_ARM does for set n with the request word it has read. -/
def synAsked (n : Nat) (r : ICell) (v : State) : State :=
  if r.val ≠ 0 ∧ r.tag = .good then synPresent n v else synWithdrawn n v

theorem synAsked_flows {u v : State} (h : Flows 240516014042 u v) (n : Nat) (r : ICell) : Flows 240516014042 u (synAsked n r v) :=
  flows_ite (synPresent_flows rfl h) (synWithdrawn_flows rfl h)

theorem synAsked_of_present {r : ICell} (hv : r.val ≠ 0) (hg : r.tag = .good) (n : Nat) (v : State) :
    synAsked n r v = synPresent n v := if_pos ⟨hv, hg⟩

theorem synAsked_of_zero {r : ICell} (hv : r.val = 0) (n : Nat) (v : State) : synAsked n r v = synWithdrawn n v :=
  if_neg fun h => h.1 hv

/-- What a SYN_ARM leaves besides the state that its request leads to: image, counters and sequencer. -/
def withImage (i : ImgSt) (p : PmcSt) (q : SeqSt) (x : State) : State := { x with img := i, pmc := p, seq := q }

theorem eq_withImage {u x : State} (h : Flows 240516010970 u x) (i : ImgSt) (p : PmcSt) (q : SeqSt) :
    withImage i p q x = { evented u (withImage i p q x) with
      img := (withImage i p q x).img, seq := (withImage i p q x).seq, syn := (withImage i p q x).syn } :=
  congrArg (withImage i p q) (eq_evented_img_seq_syn h)

/-- SYN_ARM reads its request one clock after its dispatch, where all lanes store the same, and writes the status word of its set. -/
theorem runSynArm_of_clean {e : Entry} {s u : State} (hu : u = advanceTo (s.now + 1) s) (ht : u.tidy) (hc : CleanImg u) :
    ∃ v i p q, SynKept u v ∧ Flows 240516010970 u v ∧
      runSynArm e s = withImage i p q (synAsked (bitsOf e.arg0 2 0) (asRead u e.arg1) v) ∧
      q.outst.map (fun o => o.uid) = u.seq.outst.map (fun o => o.uid) ∧
      (e.arg2 < imgWords → (laneView (runSynArm e s) 0 e.arg2).val =
        BitVec.ofNat 32 (synStatus (synAsked (bitsOf e.arg0 2 0) (asRead u e.arg1) v) (bitsOf e.arg0 2 0))) := by
  subst hu
  have hrun : runSynArm e s = consume e [e.arg1] (fun l t => writeNow e.arg2
      ⟨BitVec.ofNat 32 (synStatus (synAsked (bitsOf e.arg0 2 0) (l.getD 0 cellInit) t) (bitsOf e.arg0 2 0)), .good⟩
      (synAsked (bitsOf e.arg0 2 0) (l.getD 0 cellInit) t)) (advanceTo (s.now + 1) s) := rfl
  rw [hrun, consume_of_clean hc]
  generalize advanceTo (s.now + 1) s = u at ht hc ⊢
  have hkept := synKept_noteReads ht u.seq.nextUid e [e.arg1]
  have huids := noteReads_uids hc u.seq.nextUid e [e.arg1]
  have himg := noteReads_img hc u.seq.nextUid e [e.arg1]
  have hflows : Flows 240516010970 u (noteReads u.seq.nextUid e [e.arg1] u) := noteReads_flows rfl (Flows.refl _ u)
  generalize noteReads u.seq.nextUid e [e.arg1] u = v at hkept huids himg hflows ⊢
  have hx := synAsked_flows (Flows.refl _ v) (bitsOf e.arg0 2 0) (asRead u e.arg1)
  have hximg : (synAsked (bitsOf e.arg0 2 0) (asRead u e.arg1) v).img = v.img := hx.img.resolve_left (by decide)
  have hxseq : (synAsked (bitsOf e.arg0 2 0) (asRead u e.arg1) v).seq = v.seq := hx.seq.resolve_left (by decide)
  have hxt := hx.tidy hkept.tidy
  simp only [List.map_cons, List.map_nil, List.getD_cons_zero]
  refine ⟨v, ?_⟩
  generalize synAsked (bitsOf e.arg0 2 0) (asRead u e.arg1) v = x at hximg hxseq hxt ⊢
  have hxc : CleanImg x := hc.congr (hximg.trans himg)
  obtain ⟨hw, hview⟩ := writeNow_of_clean hxt hxc e.arg2 ⟨BitVec.ofNat 32 (synStatus x (bitsOf e.arg0 2 0)), .good⟩
  exact ⟨_, _, x.seq, hkept, hflows, hw.same, by rw [hxseq, huids], hview⟩

theorem exec_synArm_of_due {s u : State} {pos set req status : Nat} (hs : s.tidy) (hu : u = atRead pos s)
    (hd : Due s ⟨0x07, 0x0A, set, req, status, 0, 0, pos⟩) (hh : (atTurn pos s).seq.held = [])
    (hp : (producers (atTurn pos s)).length < 32) (hc : CleanImg u) :
    ∃ v i p q, SynKept u v ∧ Flows 240516010970 u v ∧
      exec (.synArm pos set req status) s = .next (withImage i p q (synAsked (bitsOf set 2 0) (asRead u req) v)) ∧
      q.outst.map (fun o => o.uid) = u.seq.outst.map (fun o => o.uid) ∧
      (status < imgWords → (laneView (withImage i p q (synAsked (bitsOf set 2 0) (asRead u req) v)) 0 status).val =
        BitVec.ofNat 32 (synStatus (withImage i p q (synAsked (bitsOf set 2 0) (asRead u req) v)) (bitsOf set 2 0))) := by
  have hut : u.tidy := hu ▸ advanceTo_tidy (atTurn_tidy hs pos) _
  obtain ⟨q, he, ho⟩ := dispatch_of_due (fun e _ t => runSynArm e t) {} rfl hd hh hp
  obtain ⟨v, i, p, q0, hkept, hflows, hrun, huids, hview⟩ :=
    runSynArm_of_clean (e := ⟨0x07, 0x0A, set, req, status, 0, seqSlot s, pos⟩) hu hut hc
  simp only [hrun] at he ho hview
  refine ⟨v, i, p, q, hkept, hflows, congrArg Host.Outcome.next he, ?_, ?_⟩
  · rw [ho]
    exact huids
  · generalize synAsked (bitsOf set 2 0) (asRead u req) v = x at hview ⊢
    exact hview

/-! ### A request that is present or withdrawn (R326-R328) -/

theorem synArmed_of_rd {s : State} {n : Nat} (hn : n < 8) (h : rd s Reg.synArmed = 8 + n) : synArmed s = some n := by
  have hcode : ∀ k : Fin 8, bitOf (8 + k.val) 3 = true ∧ bitsOf (8 + k.val) 2 0 = k.val := by decide
  obtain ⟨hset, hnum⟩ := hcode ⟨n, hn⟩
  rw [synArmed, flag, fld, h, if_pos hset, hnum]

/-- Set n is arming, before it is raised. -/
def arming (n : Nat) (v : State) : State :=
  putMode n 0 (putBlock n 0 (setSynState n 1 (wr Reg.synArmed (8 + n) { v with syn := { v.syn with
    cfg := synRegs v n, settle := 0, armClk := v.now, idleSlots := 0, refused := putBit v.syn.refused n false } })))

theorem synPresent_of_idle {v : State} {n : Nat} (ha : synArmed v = none) (hs : synState v n = 0) :
    synPresent n v = raise_ 0x0A 0 (arming n v) := by
  simp only [synPresent, ha, hs, reduceCtorEq, if_false, ne_eq, not_true_eq_false, Option.isNone_none, if_true]
  rfl

theorem shown_arming {v : State} (h : v.tidy) {n : Nat} (hn : n < 8) : (arming n v).tidy ∧ synArmed (arming n v) = some n ∧
    synState (arming n v) n = 1 := by
  rw [arming]
  generalize { v.syn with
    cfg := synRegs v n, settle := 0, armClk := v.now, idleSlots := 0, refused := putBit v.syn.refused n false } = y
  have hy : State.tidy { v with syn := y } := h
  generalize { v with syn := y } = x at hy
  have hw := (within_wr (List.mem_singleton_self Reg.synArmed) (8 + n) x hy).1
  have hrd : rd (wr Reg.synArmed (8 + n) x) Reg.synArmed = 8 + n := by
    rw [rd_wr_self hy, Nat.mod_eq_of_lt (by omega)]
  obtain ⟨hset, hkeep⟩ := within_setSynState (List.mem_singleton_self _) n 1 _ hw
  have hstate := synState_setSynState hw hn (st := 1) (by decide)
  generalize wr Reg.synArmed (8 + n) x = t at hw hrd hset hkeep hstate ⊢
  obtain ⟨hblock, hkept⟩ := (within_putBlock (List.mem_singleton_self Reg.synBlock) n 0 (setSynState n 1 t)).trans
    (within_of_flows (putMode_flows rfl (Flows.refl 4 _) (x1 := n) (x2 := 0))) hset
  exact ⟨hblock, synArmed_of_rd hn ((hkept _ (by decide)).trans ((hkeep _ (by decide)).trans hrd)),
    (synState_congr (hkept _ (by decide)) n).trans hstate⟩

theorem arming_syn (n : Nat) (v : State) : (arming n v).syn.cfg = synRegs v n ∧ (arming n v).syn.armClk = v.now ∧
    (arming n v).syn.settle = 0 := by
  have hput := fun t => putBlock_syn n 0 (setSynState n 1 t)
  rw [arming]
  simp only [putMode, hput]
  exact ⟨rfl, rfl, rfl⟩

/-- R326-R328: a present request of an idle set, with no set armed, arms it. -/
theorem shown_armed {v : State} (h : v.tidy) {n : Nat} (hn : n < 8) (ha : synArmed v = none) (hs : synState v n = 0) :
    synArmed (synPresent n v) = some n ∧ synState (synPresent n v) n = 1 ∧ (synPresent n v).syn.cfg = synRegs v n ∧
      (synPresent n v).syn.armClk = v.now ∧ (synPresent n v).syn.settle = 0 ∧ flag (synPresent n v) (Reg.evtRaw 0x0A) 0 = true := by
  obtain ⟨ht, harmed, hstate⟩ := shown_arming h hn
  obtain ⟨hcfg, hclk, hsettle⟩ := arming_syn n v
  rw [synPresent_of_idle ha hs, synArmed_raise ht, synState_raise ht, raise_syn]
  exact ⟨harmed, hstate, hcfg, hclk, hsettle, flag_raise_self ht 0x0A 0 (by decide)⟩

/-- R328: a withdrawn request of a set that settles, checks or plans releases it. -/
theorem synWithdrawn_of_arming {v : State} {n : Nat} (hs : synState v n = 1 ∨ synState v n = 2 ∨ synState v n = 3) :
    ∃ b y, synWithdrawn n v = synRelease (setSynState n 0 (putBlock n b { v with syn := y })) := by
  unfold synWithdrawn
  rcases hs with hs | hs | hs <;> (rw [hs]; exact ⟨_, _, rfl⟩)

theorem shown_synWithdrawn {v : State} (h : v.tidy) {n : Nat} (hn : n < 8)
    (hs : synState v n = 1 ∨ synState v n = 2 ∨ synState v n = 3) :
    synArmed (synWithdrawn n v) = none ∧ synState (synWithdrawn n v) n = 0 := by
  obtain ⟨b, y, he⟩ := synWithdrawn_of_arming hs
  have hp := (within_putBlock (List.mem_singleton_self _) n b { v with syn := y } h).1
  have hset := (within_setSynState (List.mem_singleton_self _) n 0 _ hp).1
  rw [he]
  exact ⟨synArmed_synRelease hset, (synState_synRelease hset n).trans (synState_setSynState hp hn (by decide))⟩

/-- R326: a request while another set is armed shows REFUSED; it is counted and raised where it was not refused before. -/
theorem synPresent_of_refused {v : State} {a n : Nat} (ha : synArmed v = some a) (hne : a ≠ n) (hs : synState v n = 0) :
    synPresent n v = putBlock n (putBit (synBlock v n) 8 true) v ∨ ∃ r, synPresent n v = raise_ 0x0A 4 (pmcInc 206
      (bump Reg.synCntRefused 1 { putBlock n (putBit (synBlock v n) 8 true) v with
        syn := { (putBlock n (putBit (synBlock v n) 8 true) v).syn with refused := r } })) := by
  have hn : ¬ synArmed v = some n := fun h => hne (Option.some.inj (ha.symm.trans h))
  have hother : ¬ (synArmed v).isNone = true := by rw [ha]; exact Bool.false_ne_true
  rw [synPresent, if_neg hn, if_neg (fun h => h hs), if_neg hother]
  dsimp only
  split
  · exact .inl rfl
  · exact .inr ⟨_, rfl⟩

theorem shown_refused {v : State} (h : v.tidy) {a n : Nat} (ha : synArmed v = some a) (hne : a ≠ n) (hs : synState v n = 0) :
    synArmed (synPresent n v) = some a ∧ (∀ m, synState (synPresent n v) m = synState v m) ∧
      bitOf (synBlock (synPresent n v) n) 8 = true := by
  have hblock := bitOf_synBlock_putBlock n (synBlock v n) 8 v
  obtain ⟨ht, hkeep⟩ := within_putBlock (List.mem_singleton_self Reg.synBlock) n (putBit (synBlock v n) 8 true) v h
  obtain he | ⟨r, he⟩ := synPresent_of_refused ha hne hs <;> rw [he]
  · exact ⟨(synArmed_congr (hkeep _ (by decide))).trans ha, synState_congr (hkeep _ (by decide)), hblock⟩
  · generalize putBlock n (putBit (synBlock v n) 8 true) v = t at ht hkeep hblock
    have hx : State.tidy { t with syn := { t.syn with refused := r } } := ht
    have hc := pmcInc_tidy (bump_tidy hx Reg.synCntRefused 1) 206
    refine ⟨?_, fun m => ?_, ?_⟩
    · rw [synArmed_raise hc]
      exact (synArmed_congr ((rd_bump_ne hx 1 (by decide)).trans (hkeep _ (by decide)))).trans ha
    · rw [synState_raise hc]
      exact synState_congr ((rd_bump_ne hx 1 (by decide)).trans (hkeep _ (by decide))) m
    · rw [synBlock_congr (raise_syn 0x0A 4 _)]
      exact hblock

end Sys2Proof.Machine
end

/-! ## The statement of the breaker sets -/
section
namespace Sys2Proof.Machine

/-- Settles O20: each entry by the state that its request leads to, and each other command by the state of the set that it meets. -/
theorem breakerSets : Obligations.BreakerSets := by
  unfold Obligations.BreakerSets
  intro s ht
  refine ⟨?arms, ?withdrawn, ?refused, ?settled, ?issued, ?noIssue, ?closed, ?timeout, ?stale, ?notStale, ?feedback,
    ?noFeedback⟩
  case arms =>
    intro pos set req status u hu hd hh hp hups hdiff hval hgood harm hidle
    obtain ⟨v, i, p, q, hkept, hflows, he, huids, hview⟩ := exec_synArm_of_due ht hu hd hh hp ⟨hups, hdiff⟩
    have hn : bitsOf set 2 0 < 8 := Nat.mod_lt _ (by decide)
    rw [synAsked_of_present hval hgood] at he hview
    obtain ⟨harmed, hstate, hcfg, hclk, hsettle, hflag⟩ :=
      shown_armed hkept.tidy hn ((synArmed_of_kept hkept).trans harm) ((synState_of_kept hkept _).trans hidle)
    exact ⟨_, he, harmed, hstate, hcfg.trans (synRegs_of_kept hkept hn), hclk.trans hkept.now, hsettle, hflag, hview, huids,
      eq_withImage (synPresent_flows rfl hflows) i p q⟩
  case withdrawn =>
    intro pos set req status u hu hd hh hp hups hdiff hval hstate
    obtain ⟨v, i, p, q, hkept, hflows, he, -, hview⟩ := exec_synArm_of_due ht hu hd hh hp ⟨hups, hdiff⟩
    have hn : bitsOf set 2 0 < 8 := Nat.mod_lt _ (by decide)
    rw [synAsked_of_zero hval] at he hview
    rw [← synState_of_kept hkept] at hstate
    obtain ⟨hnone, hfree⟩ := shown_synWithdrawn hkept.tidy hn hstate
    exact ⟨_, he, hnone, hfree, hview, eq_withImage (synWithdrawn_flows rfl hflows) i p q⟩
  case refused =>
    intro pos set req status a u hu hd hh hp hups hdiff hval hgood harm hne hidle
    obtain ⟨v, i, p, q, hkept, hflows, he, -, hview⟩ := exec_synArm_of_due ht hu hd hh hp ⟨hups, hdiff⟩
    rw [synAsked_of_present hval hgood] at he hview
    rw [← synState_of_kept hkept] at hidle
    obtain ⟨harmed, hstates, hblock⟩ := shown_refused hkept.tidy ((synArmed_of_kept hkept).trans harm) hne hidle
    exact ⟨_, he, harmed, (hstates a).trans (synState_of_kept hkept a), (hstates _).trans hidle, hblock, hview,
      eq_withImage (synPresent_flows rfl hflows) i p q⟩
  case settled =>
    intro n ha hs hc
    have hn := synArmed_lt ha
    obtain ⟨hset, hkeep⟩ := within_setSynState (l := decisionRegs) (by decide) n 2 s ht
    have hdecide := within_synDecide n (setSynState n 2 s) hset
    refine ⟨_, exec_synSettled_of_settled ha hs hc,
      synState_synDecide hset hn (synState_setSynState ht hn (by decide)), ?_, hkeep.trans hdecide.2, ?_⟩
    · exact (synArmed_congr ((hkeep.trans hdecide.2) _ (by decide))).trans ha
    · exact eq_regs_pmc_syn (synDecide_flows rfl (setSynState_flows rfl (Flows.refl _ s)))
  case issued =>
    intro n ha hs hc
    obtain ⟨hit, hkeep⟩ := within_issued n s ht
    obtain ⟨hstate, hplan, hcnt, hgen, hslot⟩ := shown_issued ht (synArmed_lt ha)
    obtain ⟨hcmd, hpulse⟩ := dio_issued n s
    have he := exec_closeIssued_of_planned ha hs hc
    have hraise := (within_raise (l := issueRegs) (p := 0x0A) (by decide) (by decide) 1 _ hit).2
    have hdio := raise_dio 0x0A 1 (issued n s)
    refine ⟨_, he, flag_raise_self hit 0x0A 1 (by decide), (synState_raise hit 0x0A 1 n).trans hstate,
      (rd_raise_of_offset hit 0x0A 1 (by decide)).trans hplan, counted_raise hit 0x0A 1 (by decide) hcnt, ?_, ?_, ?_,
      (rd_raise_of_offset hit 0x0A 1 (by decide)).trans hslot, hkeep.trans hraise,
      eq_evented_wide_dio_syn (execCloseIssued_flows he)⟩
    · rw [hdio, hcmd]
    · rw [dioPulse, hdio, ← dioPulse, hpulse]
    · rw [wideGet, raise_wide, ← wideGet, hgen]
  case noIssue => exact fun h => ⟨s, exec_closeIssued_of_none h, rfl⟩
  case closed =>
    intro n ha hs hp
    obtain ⟨hct, hkeep⟩ := within_setClosed (l := releaseRegs ++ [Reg.evtRaw 0x0A, Reg.evtRaw 0x16]) (by decide) n s ht
    obtain ⟨hstate, hnone⟩ := shown_setClosed ht (synArmed_lt ha)
    have he := exec_closeDone_of_over ha hs hp
    refine ⟨_, he, flag_raise_self hct 0x0A 2 (by decide), (synState_raise hct 0x0A 2 n).trans hstate,
      (synArmed_raise hct 0x0A 2).trans hnone, ?_, hkeep.trans (within_raise (by decide) (by decide) 2 _ hct).2,
      eq_evented_dio (execCloseDone_flows he)⟩
    rw [raise_dio, dio_setClosed]
  case timeout =>
    intro n ha hs hc
    obtain ⟨hct, hkeep⟩ := within_timedOut n s ht
    obtain ⟨hstate, hnone, hblock, hcnt⟩ := shown_timedOut ht (synArmed_lt ha)
    have he := exec_synTimeout_of_due ha hs hc
    refine ⟨_, he, flag_raise_self hct 0x0A 3 (by decide), (synState_raise hct 0x0A 3 n).trans hstate,
      (synArmed_raise hct 0x0A 3).trans hnone, ?_, counted_raise hct 0x0A 3 (by decide) hcnt,
      hkeep.trans (within_raise (by decide) (by decide) 3 _ hct).2, eq_evented_syn (execSynTimeout_flows he)⟩
    rw [synBlock_congr (raise_syn 0x0A 3 _), hblock]
  case stale =>
    intro n ha hs hc
    obtain ⟨hstate, hnone, hblock⟩ := shown_synFail ht 12 (synArmed_lt ha)
    have he := exec_armStale_of_due ha hs hc
    exact ⟨_, he, hstate, hnone, hblock, (within_synFail (List.Subset.refl _) 12 n s ht).2, eq_regs_syn (execArmStale_flows he)⟩
  case notStale => exact fun h => ⟨s, exec_armStale_of_early h, rfl⟩
  case feedback =>
    intro n ch tcb k htiming hk hq
    obtain ⟨off, he⟩ := exec_synFeedback_of_timed htiming hk hq
    obtain ⟨hft, hkeep⟩ := within_fedBack (l := [Reg.synLastTcb, Reg.evtRaw 0x0A, Reg.evtRaw 0x16]) (by decide) n k s ht
    obtain ⟨hflag, htcb⟩ := shown_feedbackRaised hft off
    exact ⟨_, he, hflag, htcb.trans (rd_fedBack_lastTcb ht n k),
      hkeep.trans (within_feedbackRaised (by decide) (by decide) off _ hft).2, feedbackRaised_eq_evented off n k s⟩
  case noFeedback => exact fun h => ⟨s, exec_synFeedback_of_none h, rfl⟩

end Sys2Proof.Machine
end

/-! ## The step of a control loop where all lanes store the same (R344, R363, R608) -/
section
namespace Sys2Proof.Machine

/-! ### The mode of a step -/

theorem oscStep_mode (s : State) (l : LoopRec) (g : Nat) (e : FVal) (x : LoopSt) : (oscStep s l g e x).mode = x.mode := by
  unfold oscStep
  extract_lets sg pk y
  show y.mode = x.mode
  unfold y
  split <;> rfl

/-- R363: a step is in MANUAL where the field of CLE.MODE of its loop is 0, and only there. -/
theorem loopStep_mode_eq_zero_iff (s : State) (rw : Reader) (l : LoopRec) (x : LoopSt) (edge gen slot : Nat) :
    (loopStep s rw l x edge gen slot).x.mode = 0 ↔ fld s (Reg.cleMode (l.k / 8)) (4 * (l.k % 8) + 3) (4 * (l.k % 8)) = 0 := by
  unfold loopStep
  extract_lets b bits manual pv sp ff meas sched man hs j act g lo hi bad cpt hasM start first vp up m lost hold regionChg reinit a mv
    mu mi nums numeric held outLim rateLim u mode kept base y0 y1 z y2 flags status
  have h0 : y0.mode = mode := by
    unfold y0
    split <;> rfl
  have h1 : y1.mode = mode := by
    unfold y1
    split <;> exact h0
  have h2 : y2.mode = mode := by
    unfold y2
    split
    · exact h1
    · split
      · exact h1
      · rw [oscStep_mode, h1]
  have hm : mode = 0 ↔ manual = true := by
    unfold mode
    cases manual
    · cases held <;> simp
    · simp
  exact h2 ▸ hm.trans beq_iff_eq

/-! ### The state of a loop -/

/-- The table of loops of a tidy state is canonical. -/
theorem loops_wf_of_tidy {s : State} (h : s.tidy) : tabWf (fun _ => ({} : LoopSt)) s.cle.loops = true := by
  obtain ⟨-, -, -, -, -, -, -, -, -, -, -, -, hl, -⟩ := h
  exact hl

theorem loopSt_congr {s t : State} (h : t.cle = s.cle) (k : Nat) : loopSt t k = loopSt s k := by rw [loopSt, h, loopSt]

theorem loopSt_putLoop_self {s : State} (h : s.tidy) (k : Nat) (x : LoopSt) : loopSt (putLoop k x s) k = x :=
  tabGet_set_self _ k x (loops_wf_of_tidy h)

theorem laneLoop_of_same {s : State} (h : s.cle.laneLoops = []) (l k : Nat) : laneLoop s l k = loopSt s k := by
  rw [laneLoop, h]
  rfl

/-! ### What an entry leaves of the loop that it steps -/

/-- R377: the record on which entry `o` steps loop k. -/
def entryRec (s : State) (o : OutEntry) (k : Nat) : LoopRec := ⟨o.tab.getD s.cle.eff, k⟩

/-- R170: entry `o` of number `uid` has read the source words of loop k. -/
def loopRead (s : State) (uid : Nat) (o : OutEntry) (k : Nat) : State := noteReads uid o.e (loopReads s (entryRec s o k)) s

/-- R377: a step from x on tables that a commit has replaced leaves the gain sets that the commit changed marked. -/
def keepChanged (o : OutEntry) (x : LoopSt) (r : StepRes) : StepRes :=
  { r with x := if o.tab.isSome then { r.x with changed := x.changed } else r.x }

theorem keepChanged_mode (o : OutEntry) (x : LoopSt) (r : StepRes) : (keepChanged o x r).x.mode = r.x.mode := by
  simp only [keepChanged]
  split <;> rfl

/-- R344, R608: what lane `lane` decides where entry `o` of number `uid` steps loop k. -/
def entryStep (s : State) (uid : Nat) (o : OutEntry) (k lane : Nat) : StepRes :=
  let t := loopRead s uid o k
  keepChanged o (laneLoop t lane k) (loopStep t (laneFetch t uid lane) (entryRec s o k) (laneLoop t lane k) o.edge o.gen o.e.slot)

theorem entryStep_mode_eq_zero_iff (s : State) (uid : Nat) (o : OutEntry) (k lane : Nat) : (entryStep s uid o k lane).x.mode = 0 ↔
    fld (loopRead s uid o k) (Reg.cleMode (k / 8)) (4 * (k % 8) + 3) (4 * (k % 8)) = 0 := by
  rw [entryStep, keepChanged_mode]
  exact loopStep_mode_eq_zero_iff (loopRead s uid o k) _ (entryRec s o k) _ _ _ _

theorem loopSt_each_putLaneLoop (k : Nat) (x : Nat → LoopSt) (L : List Nat) (s : State) :
    loopSt (each L (fun lane u => putLaneLoop lane k (x lane) u) s) k = loopSt s k :=
  each_keeps (P := fun t => loopSt t k = loopSt s k) (f := fun lane u => putLaneLoop lane k (x lane) u) (fun _ _ _ h => h) rfl

/-- R608: the lane whose step is kept where value `v` left the lanes. -/
def leadLane (s : State) (uid : Nat) (o : OutEntry) (k : Nat) (v : ICell × Nat × Option Nat) (t : State) : Nat :=
  ((lanesIn t).find? (fun lane => (entryStep s uid o k lane).leaves = v)).getD 0

/-- R608: an entry that steps a loop hands over what each lane decides, and leaves the loop as one of them has it. -/
theorem entryLoop_eq_handOver {s : State} {uid : Nat} {o : OutEntry} (ho : entryOf s uid = some o) (k : Nat) :
    ∃ store, entryLoop uid k s = handOver (fun lane => (entryStep s uid o k lane).leaves) store (loopRead s uid o k) ∧
      ∀ v t, t.tidy → ∃ lane, loopSt (store v t) k = (entryStep s uid o k lane).x := by
  rw [entryLoop, ho]
  refine ⟨_, rfl, fun v t ht => ⟨leadLane s uid o k v t, ?_⟩⟩
  have hput := (loopSt_each_putLaneLoop k (fun lane => (entryStep s uid o k lane).x) (lanesLive t) _).trans
    (loopSt_putLoop_self ht k (entryStep s uid o k (leadLane s uid o k v t)).x)
  have hevents : ∀ old r u, (stepEvents old r u).cle = u.cle := fun old r u =>
    (stepEvents_flows rfl (Flows.refl 8388608 u)).cle.resolve_left (by decide)
  refine (loopSt_congr ?_ k).trans hput
  dsimp only [entryUpd]
  split <;> exact hevents _ _ _

theorem entryStep_of_same {s : State} (hc : CleanImg s) (hl : s.cle.laneLoops = []) (uid : Nat) (o : OutEntry) (k lane : Nat) :
    entryStep s uid o k lane = entryStep s uid o k 0 := by
  have hlane : (loopRead s uid o k).cle.laneLoops = [] := by
    rw [loopRead, (noteReads_flows rfl (Flows.refl 8388608 s)).cle.resolve_left (by decide), hl]
  have hfetch : laneFetch (loopRead s uid o k) uid lane = laneFetch (loopRead s uid o k) uid 0 := funext fun w =>
    (laneFetch_noteReads hc uid o.e _ lane w).trans (laneFetch_noteReads hc uid o.e _ 0 w).symm
  simp only [entryStep, hfetch, laneLoop_of_same hlane]

/-- R363: where all lanes store the same, a loop that steps is in MANUAL where its field of CLE.MODE is 0 once its source words
are read, and only there. -/
theorem mode_entryLoop_eq_zero_iff {s : State} {uid : Nat} {o : OutEntry} (ht : s.tidy) (hc : CleanImg s)
    (hl : s.cle.laneLoops = []) (ho : entryOf s uid = some o) (k : Nat) : (loopSt (entryLoop uid k s) k).mode = 0 ↔
      fld (loopRead s uid o k) (Reg.cleMode (k / 8)) (4 * (k % 8) + 3) (4 * (k % 8)) = 0 := by
  obtain ⟨store, he, hstore⟩ := entryLoop_eq_handOver ho k
  have ht1 : (loopRead s uid o k).tidy := (noteReads_flows rfl (Flows.refl 0 s)).tidy ht
  rw [he, handOver_of_same (fun lane => congrArg StepRes.leaves (entryStep_of_same hc hl uid o k lane))]
  obtain ⟨lane, hx⟩ := hstore (entryStep s uid o k 0).leaves _ ht1
  rw [hx, entryStep_mode_eq_zero_iff]

end Sys2Proof.Machine
end

/-! ## CLE_RUN and the page commit (R344, R345, R363, R374-R378): a loop number beyond the 256 loops -/
section
namespace Sys2Proof.Machine

/-- A Sheaf bank with one trigger, on event 0 of page 4 (LATE_PRODUCER, R170). -/
def lateTrigSheaf : Tab Word :=
  [(80, 0x100), (81, 0x400), (256, 0x10000), (260, 0xD01), (261, 0x40), (262, 1), (264, 0x401)]

/-- The CLE_RUN in progress that steps the loop. -/
def steppingRun : OutEntry := { uid := 1, e := ⟨0x11, 0x0B, 0, 1, 0, 0, 0, 0⟩, last := neverClk }

/-- A module in which that CLE_RUN finds its source word 0 outstanding, for an entry dispatched before it, and in which the event
that this raises fires a trigger while the capture queue is full. -/
def lateReader : State :=
  { wr (Reg.grnTrigCfg 0) (2 ^ 31) State.reset with
    active := some 0, sheaf := lateTrigSheaf, grn := { queue := List.replicate 64 (newRec State.reset 0 0 0 0 [] []) }
    seq := { outst := [{ uid := 0, e := ⟨0, 0, 0, 0, 0, 0, 0, 0⟩, last := 1, words := [0] }, steppingRun] } }

/-- A number for which the address of the loop's MODE field, were there such a loop, is that of GRN.EVT_RAW. -/
def loopAtGrnEvtRaw : Nat := 88608

theorem cleMode_loopAtGrnEvtRaw : Reg.cleMode (loopAtGrnEvtRaw / 8) = Reg.evtRaw 0x16 := rfl

/-- R658: the reads of that loop raise DROPPED. -/
theorem fld_loopRead_lateReader : fld (loopRead lateReader 1 steppingRun loopAtGrnEvtRaw) (Reg.evtRaw 0x16) 3 0 = 8 := by
  decide +kernel

/-- Refutes O45: its clause on MANUAL does not keep k below the 256 loops, and the field where it looks for the mode of loop 88608
lies in GRN.EVT_RAW: on `lateReader` that field is 0, but the reads of the step raise DROPPED, and the loop does not step in MANUAL. -/
theorem not_controlLoops : ¬ Obligations.ControlLoops := by
  unfold Obligations.ControlLoops
  intro h
  have htidy : lateReader.tidy := by decide +kernel
  have hzero : fld lateReader (Reg.evtRaw 0x16) 3 0 = 0 := by decide +kernel
  obtain ⟨-, -, -, -, -, -, hmanual, -⟩ := h lateReader htidy
  obtain ⟨t, rfl, hmode, -⟩ := hmanual 1 loopAtGrnEvtRaw steppingRun rfl rfl rfl rfl hzero
  have hstep : doAct 1 (.loop loopAtGrnEvtRaw) lateReader = entryLoop 1 loopAtGrnEvtRaw lateReader := rfl
  rw [hstep, mode_entryLoop_eq_zero_iff htidy ⟨rfl, rfl⟩ rfl rfl, cleMode_loopAtGrnEvtRaw] at hmode
  exact absurd (fld_loopRead_lateReader.symm.trans hmode) (by decide)

end Sys2Proof.Machine
end

/-! ## Solver jobs (R399, R400): a job that ends EMPTY while the engine waits to be free -/
section
namespace Sys2Proof.Machine

/-- The jobs left in the queue when the engine takes the first of it: those that waited behind it before the clock ran. -/
theorem exec_solverJobStart_queue {s u : State} {j : Nat} {rest r : List Nat}
    (hu : u = advanceTo (max (gatherEnd s j) s.slv.freeClk) s) (hs : s.slv.queue = j :: rest) (hq : u.slv.queue = j :: r)
    (hrun : u.slv.running = none) (hw : slvWedged u = false) (hready : (jobSlot u j).ready = true) :
    ∃ t, exec .solverJobStart s = .next t ∧ t.slv.queue = rest := by
  have hfree : ¬ (u.slv.running.isSome ∨ slvWedged u ∨ (jobSlot u j).ready = false ∨ u.slv.queue.head? ≠ some j) := by
    simp [hrun, hw, hready, hq]
  have he : exec .solverJobStart s = execSolverJobStart s := rfl
  rw [he, execSolverJobStart, hs]
  simp only [← hu]
  exact ⟨_, congrArg Host.Outcome.next (if_neg hfree), rfl⟩

/-- Job 0 is gathered and waits for an engine that is free from clock 2 on; job 1 waits behind it, and its gathering ends at clock 1,
where it is a job of dimension 0: no Sheaf is active. -/
def emptyBehindReady : State :=
  { State.reset with
    slv := { queue := [0, 1], freeClk := 2, slots := [(0, { ready := true })] }
    seq := { nextUid := 1, outst := [{ uid := 0, e := ⟨0x12, 0x0C, 1, 0, 0, 0, 0, 0⟩, last := 1, todo := [(1, .gathered)] }] } }

theorem gatherEnd_emptyBehindReady : max (gatherEnd emptyBehindReady 0) emptyBehindReady.slv.freeClk = 2 := by decide

/-- R399: at clock 2 job 1 has ended EMPTY and left the queue, and the engine may take job 0. -/
theorem advanceTo_two_emptyBehindReady : (advanceTo 2 emptyBehindReady).slv.queue = [0] ∧
    fld (advanceTo 2 emptyBehindReady) (Reg.slvSlotState 1) 27 24 = 5 ∧ (advanceTo 2 emptyBehindReady).slv.running = none ∧
    slvWedged (advanceTo 2 emptyBehindReady) = false ∧ (jobSlot (advanceTo 2 emptyBehindReady) 0).ready = true := by
  decide +kernel

/-- Refutes O21: its third clause says that the engine leaves the queue as it stands when it takes a job, without that job; the model
leaves the queue as it stood before the clock ran. On `emptyBehindReady` job 1 ends EMPTY while the engine is not yet free, and
SOLVER_JOB_START puts it back into the queue. -/
theorem not_solverJobs : ¬ Obligations.SolverJobs := by
  unfold Obligations.SolverJobs
  intro h
  have htidy : emptyBehindReady.tidy := by decide +kernel
  obtain ⟨hq, -, hrun, hw, hready⟩ := advanceTo_two_emptyBehindReady
  have hu : advanceTo 2 emptyBehindReady =
      advanceTo (max (gatherEnd emptyBehindReady 0) emptyBehindReady.slv.freeClk) emptyBehindReady := by
    rw [gatherEnd_emptyBehindReady]
  obtain ⟨-, -, hstart, -⟩ := h emptyBehindReady htidy
  obtain ⟨t, he, -, hempty, -⟩ := hstart 0 [] _ hu rfl hq hrun hw hready
  obtain ⟨t', he', hback⟩ := exec_solverJobStart_queue hu rfl hq hrun hw hready
  obtain rfl : t = t' := Host.Outcome.next.inj (he.symm.trans he')
  exact absurd (hempty.symm.trans hback) (by decide)

end Sys2Proof.Machine
end
